-- ==== Sys2Proof/Word.lean ====
section
/-!
DEFINITION. The word types of the model. A memory cell holds a `Byte`; everything else the manual gives as a number
(register values, counts, addresses, fields of a message) is a natural number kept below its width by the operation that
stores it, and a signed quantity is an `Int` while it is computed with.
-/
namespace Sys2Proof

/-- One byte of DRAM, as `Host.Cell` holds it. -/
abbrev Byte := BitVec 8

/-- A sequence of octets of a message, a value or an image; each is below 256. -/
abbrev Octets := List Nat

end Sys2Proof
end

