-- ==== Sys2Proof/Syntax.lean ====
section
/-!
DEFINITION. The commands of the device: one constructor of `Instr` per row of the operation table, with what the outside
world supplies to it: the unit it happens on, and what was received, read or measured. A received message is given as its
octets; a reading of an analogue monitor, an arrival stamp or the state of a pin is given as a number.
-/
namespace Sys2Proof

/-- A UDP datagram as it reaches the device's DAP port or a queue's port: Ethernet port 0 or 1, the peer's IP address
(4 or 16 octets) and UDP port, the address and UDP port it is sent to (where none is written, those that the device has after reset), what the checks
below the payload found, and the payload. -/
structure Datagram where
  port : Nat
  peer : Octets
  udp : Nat
  dst : Octets := [192, 168, 10, 50]
  dport : Nat := 24680
  /-- The UDP checksum is good. -/
  sumOk : Bool := true
  /-- The datagram is an IP fragment. -/
  fragment : Bool := false
  payload : Octets
deriving DecidableEq, Repr

/-- An IEEE 1588 message as it reaches the device: its transport as TIM_PTP_TRANSPORT numbers it, and its octets. -/
structure PtpMsg where
  transport : Nat
  octets : Octets
deriving DecidableEq, Repr

/-- A host's read of a slot (R43): its offset in BAR0, and the bytes enabled from there, bit 0 the first; bits 4 to 7 belong to a 64-bit request. -/
structure WideRead where
  offset : Nat
  enables : Nat
deriving DecidableEq, Repr

/-- What the host's configuration of the function says: Memory Space Enable and Relaxed Ordering. -/
structure PcieControl where
  memEnable : Bool
  relaxed : Bool
deriving DecidableEq, Repr

/-- A unit that reads the stack, and what of it the stack delivers poisoned (R318). -/
structure StackRead (α : Type) where
  unit : Nat
  poisoned : α
deriving DecidableEq, Repr

/-- A refresh window (R313): whether a piece of a retraining fails in it, the errors corrected, and each class's greatest latency. -/
structure RefreshReport where
  pieceFails : Bool
  corrected : Nat
  latency : List Nat
deriving DecidableEq, Repr

/-- The commands of the operation table, one constructor per row, those with operands first; the docstring gives the row and its rule. -/
inductive Instr where
  /-- OBJECT_WRITE (R27): A write to an object with no row of its own is checked in order (class, length, range,
  further refusals, journal room) and applied in its tick. -/
  | objectWrite (session : Nat) (staged : Bool) (index sub : Nat) (value : Octets)
  /-- DAP_OPEN (R37): An OPEN request allocates the lowest free session and binds it to the peer address and port, or
  refuses with STATUS 0x08. -/
  | dapOpen (d : Datagram)
  /-- DAP_CLOSE (R37): A CLOSE request ends the session at the end of the request and deletes its subscriptions and
  segment buffer. -/
  | dapClose (d : Datagram)
  /-- DAP_KEEPALIVE (R37): A KEEPALIVE request keeps a session open and is answered with no items. -/
  | dapKeepalive (d : Datagram)
  /-- DAP_READ (R34): A READ request returns the values of the named objects in item order, refusing with 0x09 any
  items that do not fit. -/
  | dapRead (d : Datagram)
  /-- DAP_WRITE (R27): A WRITE request applies each item in item order, and each item succeeds or fails on its own.
  -/
  | dapWrite (d : Datagram)
  /-- DAP_READ_INDEX (R35): A READ_INDEX request returns subindex 0x00 and the subindices that follow it, as far as
  the size limit allows. -/
  | dapReadIndex (d : Datagram)
  /-- DAP_READ_SEG (R35): A READ_SEG request returns bytes of a STR or BLOB from a given offset, each item taking the
  room it is offered. -/
  | dapReadSeg (d : Datagram)
  /-- DAP_WRITE_SEG (R35): A WRITE_SEG request builds a BLOB in the session buffer; the value takes effect and is
  journaled at a gap-free final segment. -/
  | dapWriteSeg (d : Datagram)
  /-- DAP_SUBSCRIBE (R38): A SUBSCRIBE item adds a subscription to an object, or replaces its mode and interval,
  within the session and device limits. -/
  | dapSubscribe (d : Datagram)
  /-- DAP_UNSUBSCRIBE (R38): An UNSUBSCRIBE item removes the subscription to an object. -/
  | dapUnsubscribe (d : Datagram)
  /-- DAP_DATAGRAM_REFUSED (R33): A datagram that is short, has a bad checksum, is a fragment, or has a bad version,
  session or form is discarded or refused whole with STATUS 0x03. -/
  | dapDatagramRefused (d : Datagram)
  /-- SUBSCRIPTION_PUSH (R39): At the end of a tick, subscribed objects that are due are pushed in PUSH datagrams and
  the push SEQ advances. -/
  | subscriptionPush (n : Nat)
  /-- SESSION_TIMEOUT (R37): A session that has had no datagram from its peer for 10 s closes. -/
  | sessionTimeout (n : Nat)
  /-- SES_CLOSE (R37): A write of 1 to SES_CLOSE closes the named session, and changes nothing if the session is not
  open. -/
  | sesClose (session n value : Nat)
  /-- BAR0_WIDE_READ (R44): A BAR0 read of a U48 or U64 slot returns bits [31:0] and latches the upper bits into
  COM_BAR0_HI. -/
  | bar0WideRead (r : WideRead)
  /-- BAR0_BULK_GO (R44): A write of a length to COM_BAR0_BULK_GO applies the mailbox bytes to the selected STR or
  BLOB object in one access. -/
  | bar0BulkGo (fill : Octets) (length : Nat)
  /-- BAR0_REACHABILITY_CHANGE (R41): When the PCIe link or Memory Space Enable changes while COM_DAP_PORTS is 0x00,
  DAP service on both ports starts or stops. -/
  | bar0ReachabilityChange (speed width : Nat) (ctl : PcieControl)
  /-- DEV_COMMIT (R45): A write of generation g to DEV_COMMIT checks the staged device set and freezes it as the
  pending set, or refuses it. -/
  | devCommit (session gen : Nat)
  /-- CH_COMMIT (R45): A write of generation g to CH_COMMIT checks a channel's staged set and makes it pending, or
  refuses it. -/
  | chCommit (session n gen : Nat)
  /-- DEV_STAGE_DISCARD (R46): A write of 1 resets the device staging copy to the newest accepted set. -/
  | devStageDiscard (session value : Nat)
  /-- CH_STAGE_DISCARD (R46): A write of 1 resets a channel staging copy to the newest accepted set. -/
  | chStageDiscard (session n value : Nat)
  /-- CH_HANDOVER_TIMEOUT (R48): A channel commit with no line boundary within 1 ms hands over at the first tick with
  no line in the front end. -/
  | chHandoverTimeout (n : Nat)
  /-- NVS_SAVE (R51): A write of 1 to NVS_SAVE starts a save of all persistent objects, or holds it behind a save
  that is already writing. -/
  | nvsSave (session value : Nat)
  /-- NVS_SAVE_DONE (R52): A save completes: the bank is read back and retried once, and then becomes active or
  raises NVS_WRITE; a held save then starts. -/
  | nvsSaveDone (firstOk retryOk : Bool)
  /-- NVS_ERASE (R53): A write of 0xA5 to NVS_ERASE clears the MAGIC of both banks after any save in progress and
  cancels any held save. -/
  | nvsErase (session value : Nat)
  /-- DISCOVER_SEND (R58): In SEEK, the lane sends a DISCOVER frame every 10 µs. -/
  | discoverSend (l : Nat)
  /-- COMMA_LOCK_ACQUIRE (R62): Three K28.5 at one alignment within 256 characters declare comma lock. -/
  | commaLockAcquire (l : Nat) (inverted : Bool)
  /-- COMMA_LOCK_LOSS (R62): Sixteen invalid characters or disparity errors within 1,024 characters lose comma lock.
  -/
  | commaLockLoss (l errors : Nat)
  /-- DISCOVER_RX (R58): A valid DISCOVER received with comma lock moves a lane in SEEK to IDENT. -/
  | discoverRx (l : Nat) (f : Octets)
  /-- IDENT_RX (R63): A valid IDENT is stored in LNK_FAR_ID, checked for capabilities, and moves the lane on to
  STEP1. -/
  | identRx (l : Nat) (f : Octets)
  /-- RUNG_REQ_SEND (R61): A pending rung change repeats its RUNG_REQ every 10 µs, counting COUNT down. -/
  | rungReqSend (l : Nat)
  /-- RUNG_REQ_RX (R61): A RUNG_REQ received is answered with RUNG_ACK echoing COUNT, or with ABORT for an
  unsupported rung; at COUNT 0 the end switches rung. -/
  | rungReqRx (l : Nat) (f : Octets)
  /-- RUNG_ACK_RX (R61): A RUNG_ACK received advances the countdown, and at COUNT 0 both transmitters switch to the
  new rung. -/
  | rungAckRx (l : Nat) (f : Octets)
  /-- EQ_RX (R69): An EQ frame applies a requested coefficient step or preset within 500 µs and reports STATUS and
  RX_READY. -/
  | eqRx (l : Nat) (f : Octets)
  /-- RX_READY_SET (R71): After the last equaliser step, a receiver that has met the lock and error conditions for
  the required time sets RX_READY. -/
  | rxReadySet (l snr : Nat)
  /-- EQ_STEP_TIMEOUT (R69): An equaliser step not acknowledged within 2 ms is requested again; the third such
  timeout fails the training. -/
  | eqStepTimeout (l : Nat)
  /-- PRESET_ROTATE (R70): With no marker lock 200 ms after the switch, each end moves its transmitter to the next
  preset, at most three times. -/
  | presetRotate (l : Nat)
  /-- IDENT_TIMEOUT (R58): A lane that is still in IDENT after 10 ms returns to SEEK. -/
  | identTimeout (l : Nat)
  /-- RUNG_ACK_TIMEOUT (R61): A RUNG_REQ that has no RUNG_ACK after 1 ms, or a switch with no comma lock within 1 ms,
  is abandoned by the state's failure exit. -/
  | rungAckTimeout (l : Nat)
  /-- TRAIN1_TIMEOUT (R58): TRAIN1 that has not completed in 50 ms fails to SEEK. -/
  | train1Timeout (l : Nat)
  /-- STEP2_START (R59): 1 ms after entering LOW, a lane that meets the conditions starts STEP2 with the chosen
  target rung and start preset. -/
  | step2Start (l : Nat)
  /-- STEP2_RETRY (R59): After a failed step or a failed 2H, the 10 s retry wait expires and the step to a higher
  rung is tried again. -/
  | step2Retry (l : Nat)
  /-- TRAIN2_TIMEOUT (R58): TRAIN2 that has not completed in 1,000 ms at rung 2 or 800 ms at 2H fails to RELOCK. -/
  | train2Timeout (l : Nat)
  /-- RECOVER_TIMEOUT (R58): RECOVER that has not completed in 5 ms goes to RELOCK. -/
  | recoverTimeout (l : Nat)
  /-- RELOCK_TIMEOUT (R58): RELOCK that has not completed in 20 ms returns to SEEK. -/
  | relockTimeout (l : Nat)
  /-- SUPERFRAME_RX (R67): A received superframe is checked for its marker, FEC-corrected, and its marker FRAME and
  payload flits are delivered. -/
  | superframeRx (l : Nat) (follows : Bool) (levels : List Nat)
  /-- SIGNAL_DETECT_LOSS (R58): Signal detect de-asserted for 1 µs takes a SERVICE lane to RECOVER, and for 1 ms
  returns any lane to SEEK. -/
  | signalDetectLoss (l : Nat) (long : Bool)
  /-- ABORT_RX (R63): An ABORT frame received sends both ends to SEEK. -/
  | abortRx (l : Nat) (f : Octets)
  /-- LNK_TEST_START (R74): A non-zero write of LNK_TEST in LOW or SERVICE sends a TEST REQ and starts the test. -/
  | lnkTestStart (session l value : Nat)
  /-- LNK_TEST_STOP (R74): A write of LNK_TEST = 0 during a test ends it at the device and sends the lane to SEEK. -/
  | lnkTestStop (session l : Nat)
  /-- TEST_REQ_RX (R74): A TEST REQ received is answered with ACK and the test runs for its duration, or it is
  answered with NAK. -/
  | testReqRx (l : Nat) (f : Octets)
  /-- TEST_ACK_RX (R74): A TEST ACK starts the test at both ends for the duration. -/
  | testAckRx (l : Nat) (f : Octets)
  /-- TEST_NAK_RX (R74): A TEST NAK cancels far-end tests; near-end loops start all the same. -/
  | testNakRx (l : Nat) (f : Octets)
  /-- TEST_REQ_TIMEOUT (R74): A TEST REQ with no answer for 1 ms is treated as NAK. -/
  | testReqTimeout (l : Nat)
  /-- TEST_EXPIRE (R74): When a test's duration expires, both ends retrain from the saved coefficients in TRAIN1 or
  TRAIN2. -/
  | testExpire (l : Nat)
  /-- SLEEP_REQ_RX (R75): A SLEEP REQ is answered ACK or NAK by the end that owns the transmitter, and after ACK the
  transmitter enters sleep. -/
  | sleepReqRx (l : Nat) (f : Octets)
  /-- SLEEP_ACK_RX (R75): A SLEEP ACK lets the requester treat the named direction as going to sleep. -/
  | sleepAckRx (l : Nat) (f : Octets)
  /-- SLEEP_NAK_RX (R75): A SLEEP NAK refuses sleep, and the request may be sent again after 1 ms. -/
  | sleepNakRx (l : Nat) (f : Octets)
  /-- SLEEP_NOW_RX (R75): A SLEEP NOW makes the far receiver power down all but signal detect. -/
  | sleepNowRx (l : Nat) (f : Octets)
  /-- SLEEP_WAKE_RX (R76): A SLEEP WAKE makes the far end wake the named transmitter within 100 µs. -/
  | sleepWakeRx (l : Nat) (f : Octets)
  /-- SLEEP_REQ_REPEAT (R75): An unanswered sleep request is repeated, and it lapses after eight repeats. -/
  | sleepReqRepeat (l : Nat)
  /-- LANE_AUTO_SLEEP (R77): With LNK_TX_SLEEP_AUTO, a camera-lane transmitter sleeps after 1 ms without outgoing
  packets. -/
  | laneAutoSleep (l : Nat)
  /-- LANE_TX_WAKE (R76): A sleeping transmitter with a packet queued wakes, sends idle fill and then resumes
  packets. -/
  | laneTxWake (l : Nat)
  /-- WAKE_LOCK_TIMEOUT (R76): A receiver with no lock 2 ms after the signal returns enters RECOVER, or RELOCK at
  rung 1. -/
  | wakeLockTimeout (l : Nat)
  /-- PACKET_RX (R79): A packet received is checked for header, VC binding and CRC, and is held for release in SEQ32
  order. -/
  | packetRx (l : Nat) (direct : Option (List Nat × Nat))
  /-- PACKET_LOSS_DECLARE (R86): Count E is declared lost 4 µs after a higher count arrives, or when 64 higher counts
  are held. -/
  | packetLossDeclare (k vc : Nat)
  /-- LINE_SEGMENT_RX (R89): A released line segment is joined to its line; at LAST the line is judged and passed to
  the front end. -/
  | lineSegmentRx (n : Nat)
  /-- DARK_BLOCK_RX (R92): A released dark-pixel block updates the black level from its mean. -/
  | darkBlockRx (n : Nat)
  /-- CAMERA_STATUS_RX (R94): A camera status packet updates CH_CAM_DROPS and the camera flags. -/
  | cameraStatusRx (n : Nat)
  /-- TEMPERATURE_RX (R94): A temperature packet delivers the camera's sensor readings. -/
  | temperatureRx (n : Nat)
  /-- CREDIT_UPDATE_RX (R87): A credit update raises the sender's cumulative credit limits for each VC. -/
  | creditUpdateRx (k : Nat)
  /-- TEST_PACKET_RX (R81): A VC3 test packet is counted and discarded. -/
  | testPacketRx (k : Nat)
  /-- CREDIT_UPDATE_SEND (R87): A credit update is sent within 1 µs of a change of any CL, and at least every 100 µs.
  -/
  | creditUpdateSend (k : Nat)
  /-- FIRST_CREDIT_TIMEOUT (R100): A camera whose first credit update has not arrived within 1 ms of link forming
  counts as a control timeout. -/
  | firstCreditTimeout (n : Nat)
  /-- CONTROL_RETRANSMIT (R95): A control request with no answer in 1 ms is sent again with the same TAG; after three
  retries it is a timeout under R97. -/
  | controlRetransmit (n : Nat)
  /-- CONTROL_BUSY_RETRY (R97): 1 ms after a BUSY answer the request is sent with a new TAG; after ten BUSY answers
  it counts as a timeout. -/
  | controlBusyRetry (n : Nat)
  /-- GET_INFO_DONE (R100): The GET_INFO response fills CH_CAM_INFO and CH_CAM_ID, and bring-up moves on to SETTINGS.
  -/
  | getInfoDone (n : Nat)
  /-- SETTINGS_DONE (R98): The acknowledgement of SETTINGS(g) lets ACTIVATE(g) follow if the hand-over has passed. -/
  | settingsDone (n : Nat)
  /-- ACTIVATE_DONE (R98): The ACTIVATE response completes, or on status 0x04 SETTINGS is sent again. -/
  | activateDone (n : Nat)
  /-- MODE_DONE (R100): A MODE response completes the mode change; an acknowledged MODE FULL makes the channel FULL.
  -/
  | modeDone (n : Nat)
  /-- TIME_ECHO_SEND (R99): The device sends TIME_ECHO every 1 ms, stamped with T1. -/
  | timeEchoSend (n : Nat)
  /-- TIME_ECHO_DONE (R99): A TIME_ECHO response gives a new offset O and residual, and updates CH_TIME_OK. -/
  | timeEchoDone (n : Nat)
  /-- CREG_READ (R104): A write of 1 to CH_CREG_GO sends REG_READ with the given address and length. -/
  | cregRead (session n : Nat)
  /-- CREG_WRITE (R104): A write of 2 to CH_CREG_GO sends REG_WRITE with the given address, length and data. -/
  | cregWrite (session n : Nat)
  /-- REG_READ_DONE (R104): A REG_READ response fills CH_CREG_DATA and sets CH_CREG_STATUS to DONE or REFUSED. -/
  | regReadDone (n : Nat)
  /-- REG_WRITE_DONE (R104): A REG_WRITE response sets CH_CREG_STATUS to DONE or REFUSED. -/
  | regWriteDone (n : Nat)
  /-- FRONT_END_LINE (R113): A line enters the channel front end at a line boundary and is corrected with the
  front-correction set of its GEN. -/
  | frontEndLine (n : Nat)
  /-- CAMSET_BUSY_TIMEOUT (R112): CH_CAMSET_BUSY clears 10 ms after the hand-over if no line with the new GEN has
  arrived. -/
  | camsetBusyTimeout (n : Nat)
  /-- CHANNEL_DRAIN_DONE (R109): When the last sample of a draining channel leaves the compare, its slices are
  released and it goes to OFF, or to a held enable. -/
  | channelDrainDone (n : Nat)
  /-- SLICE_DRAIN_DONE (R123): A released slice becomes FREE once its last sample has left the compare. -/
  | sliceDrainDone (n : Nat)
  /-- POSITION_EDGE (R129): A filtered edge on an encoder or Hall input is stamped, decoded and applied to the
  position counter and the speed. -/
  | positionEdge (src code t : Nat)
  /-- ENC_FAILSAFE_DETECT (R132): An open or shorted A or B pair held for 10 µs makes the quadrature source FAILED.
  -/
  | encFailsafeDetect (src : Nat)
  /-- POS_REARM (R133): A write of a source number to POS_REARM returns a FAILED source to OK. -/
  | posRearm (session value : Nat)
  /-- INDEX_PULSE (R139): A rising Z edge captures the position and time, raises INDEX and, in mode 2, checks the
  distance from the last Z. -/
  | indexPulse (src t : Nat)
  /-- EMU_SCHEDULED_EMIT (R141): A scheduled interpolated emulation count is emitted at its computed time. -/
  | emuScheduledEmit (e : Nat)
  /-- EMU_PIN_EMIT (R142): A count from the backlog reaches the EMU pins at its spacing; a count that finds the
  backlog full is dropped with EMU_DROP. -/
  | emuPinEmit (e : Nat)
  /-- DEC_SYNC_EDGE (R168): An accepted DEC_SYNC edge raises DEC_SYNC and, when enabled, captures a pending grid
  origin. -/
  | decSyncEdge (rising : Bool) (t : Nat)
  /-- POS_GRID_SET (R168): A position written to POS_GRID_SET becomes the pending origin, as an edge would. -/
  | posGridSet (session value : Nat)
  /-- STITCH_LINE (R178): Once every ON member's line j has arrived, or has been judged late, the stitched line is
  made. -/
  | stitchLine (set : Nat)
  /-- OVERLAP_MEASURE (R182): After STI_REFINE_LINES entering lines, the overlap correlation peak gives δ, and the
  sums are cleared. -/
  | overlapMeasure (n : Nat)
  /-- COMPARE_LINE (R235): A stitched line leaves registration into the compare, and each sample is masked, or
  compared and flagged. -/
  | compareLine (set : StackRead (List (Nat × Nat × Nat)))
  /-- HEFT_BLOCK_WRITE (R215): A block of a scheduled tile that no later sample can reach is compressed into a fresh
  extent, or not written for lack of space. -/
  | heftBlockWrite (set plane br bc : Nat)
  /-- HEFT_BLOCK_VERIFIED (R215): A written block is decompressed and compared; the directory switches, or the block
  is retried once and then raises HFT_VERIFY. -/
  | heftBlockVerified (set plane br bc : Nat) (ok : Bool)
  /-- HFT_LOAD_BEGIN (R220): A write of a job number to HFT_LOAD_BEGIN clears the standby and opens a load, or
  refuses it. -/
  | hftLoadBegin (session job : Nat)
  /-- HFT_LOAD_END (R223): A write to HFT_LOAD_END closes the load as VALID or MASKED, or refuses it with the number
  of missing blocks. -/
  | hftLoadEnd (session job : Nat)
  /-- HFT_LOAD_ABORT (R220): A write of 1 to HFT_LOAD_ABORT returns a LOADING standby to EMPTY. -/
  | hftLoadAbort (session value : Nat)
  /-- LABEL_LINE (R240): A compared line is labelled into runs, which allocate, extend, merge and close pens. -/
  | labelLine (set : Nat)
  /-- EDGE_RX (R251): An EDGE from the west neighbour is matched against column 0, sending LINK and then WATERMARK.
  -/
  | edgeRx (k : Nat)
  /-- LINK_RX (R252): The bellwether unites two tags in one component. -/
  | linkRx (k : Nat)
  /-- WATERMARK_RX (R252): The bellwether advances the edge's watermark and completes any component that is ready. -/
  | watermarkRx (k : Nat)
  /-- ALIAS_RX (R252): The bellwether unites the absorbed tag with the survivor tag. -/
  | aliasRx (k : Nat)
  /-- FRAG_RX (R252): The bellwether stores a fragment and completes its component when every tag has a FRAG and the
  watermarks have passed. -/
  | fragRx (k : Nat)
  /-- COMPONENT_TIMEOUT (R253): A component still incomplete PEN_XDEV_TIMEOUT_MS after its first FRAG is passed on,
  marked partial. -/
  | componentTimeout (tag : Nat)
  /-- SNIPPET_WRITE (R266): Once its last ring line has arrived, a snippet is written, truncated or marked partial as
  needed. -/
  | snippetWrite (handle : StackRead (List Nat))
  /-- REJECT_REPREDICT (R276): Every 100 µs a pending pulse's start is predicted again, until it is less than 100 µs
  away. -/
  | rejectRepredict (station : Nat)
  /-- REJECT_PULSE_START (R276): A pending reject pulse starts at t_s on its output, and its width is fixed. -/
  | rejectPulseStart (out : Nat)
  /-- REJECT_PULSE_END (R276): A reject pulse ends at its width. -/
  | rejectPulseEnd (out : Nat)
  /-- CAL_BUILD_DONE (R291): When every entry has been built in idle slots, the cycle holds the new tables in
  APPLY_WAIT. -/
  | calBuildDone (n : Nat)
  /-- CH_CAL_START (R284): A write of 1 to CH_CAL_START raises a calibration trigger, or holds it. -/
  | chCalStart (session n value : Nat)
  /-- CH_CAL_ABORT (R285): A write of 1 to CH_CAL_ABORT discards the current cycle. -/
  | chCalAbort (session n value : Nat)
  /-- CH_CAL_SEED (R294): A write of 0xA5 to CH_CAL_SEED marks a seed cycle, whose result becomes the live tables and
  the anchors. -/
  | chCalSeed (session n value : Nat)
  /-- STACK_TEMP_READ (R298): Every 1 ms the stack temperature is read; a change of 5 °C requests retraining. -/
  | stackTempRead (t : Nat)
  /-- MEM_RETRAIN_REQ (R317): A write of 1 to MEM_RETRAIN_REQ requests read-timing retraining. -/
  | memRetrainReq (session value : Nat)
  /-- REFRESH_WINDOW (R315): An all-bank refresh window opens and stalls DRAM requests for 350 ns. -/
  | refreshWindow (r : RefreshReport)
  /-- DRAM_TRAINING_DONE (R316): Interface training ends with MEM_STATE READY, or FAILED with MEM_TRAIN. -/
  | dramTrainingDone (ready : Bool) (repaired : Nat)
  /-- FLC_JOB_START (R327): A write of 1 to FLC_JOB_GO starts a Fleece job at block 0. -/
  | flcJobStart (session j : Nat)
  /-- FLC_JOB_RESUME (R327): A write of 2 to FLC_JOB_GO resumes an OUT_OF_SPACE job at block CONSUMED in a new
  destination. -/
  | flcJobResume (session j : Nat)
  /-- FLC_JOB_BLOCK_DONE (R327): A job block is written and counted, and the job continues, finishes, runs out of
  space or stops with ERROR. -/
  | flcJobBlockDone (j : StackRead Bool)
  /-- CRC_START (R330): A write of 1 to CRC_CMD loads the initial value and processes the pseudo-header. -/
  | crcStart (session u : Nat)
  /-- CRC_END (R331): A write of 2 to CRC_CMD sets CRC_RESULT, compares, advances the sequence and returns the unit
  to not started. -/
  | crcEnd (session u : Nat)
  /-- CRC_FEED8 (R329): A write to CRC_FEED8 feeds one byte, starting the unit if needed. -/
  | crcFeed8 (session u value : Nat)
  /-- CRC_FEED16 (R329): A write to CRC_FEED16 feeds a half-word, little-endian. -/
  | crcFeed16 (session u value : Nat)
  /-- CRC_FEED24 (R329): A write to CRC_FEED24 feeds a native 24-bit word, little-endian. -/
  | crcFeed24 (session u value : Nat)
  /-- CRC_FEED32 (R329): A write to CRC_FEED32 feeds a word, little-endian. -/
  | crcFeed32 (session u value : Nat)
  /-- CRC_CONTEXT_WRITE (R332): A write to CRC_CONTEXT loads the register and byte count and leaves the unit started.
  -/
  | crcContextWrite (session u value : Nat)
  /-- QUEUE_DRAIN_END (R344): A draining queue whose ring is empty, or after 10 ms, releases its pages and goes to
  OFF or restarts. -/
  | queueDrainEnd (q : Nat)
  /-- ETH_ITEM_TRANSMIT (R347): An egress item is sent as fragments to every subscriber and leaves the ring. -/
  | ethItemTransmit (q : Nat)
  /-- INGRESS_FRAGMENT_RX (R349): An ingress fragment is accepted in order, and a complete item is placed whole. -/
  | ingressFragmentRx (dst : Nat) (d : Datagram)
  /-- QUEUE_CREDIT_SEND (R349): A credit datagram with NEXT and LIMIT is sent within 1 ms of a change, and at least
  every 10 ms. -/
  | queueCreditSend (q : Nat)
  /-- DMA_DOORBELL (R350): A write of the tail index to DMA_DOORBELL sets the descriptors up to the tail for
  execution. -/
  | dmaDoorbell (session c value : Nat)
  /-- DMA_DESCRIPTOR_FETCH (R350): The channel reads its next descriptor and starts it, completes it as BAD_DESC, or
  finds it stale. -/
  | dmaDescriptorFetch (c : Nat) (desc data : Octets)
  /-- DMA_STALE_REREAD (R350): A stale descriptor is read again every 1 µs, and after the ninth read the channel
  faults with STALE. -/
  | dmaStaleReread (c : Nat) (desc data : Octets)
  /-- DMA_ITEM_WAIT_EXPIRE (R352): DMA_WAIT_US after its first item is copied, a queue-source descriptor completes.
  -/
  | dmaItemWaitExpire (c : Nat)
  /-- DMA_DESCRIPTOR_COMPLETE (R355): A descriptor completes, its completion record is written and MSI-X follows. -/
  | dmaDescriptorComplete (c good : Nat)
  /-- DMA_ENABLE (R356): A write of DMA_ENABLE = 1 on an OFF channel resets its head and phase and makes it IDLE. -/
  | dmaEnable (session c : Nat)
  /-- DMA_DISABLE (R356): A write of DMA_ENABLE = 0 stops the channel at once, with no completion record. -/
  | dmaDisable (session c : Nat)
  /-- DMA_FINISH (R356): A write of DMA_CMD = 1 completes the descriptor in progress as FINISHED, and the channel
  goes to IDLE. -/
  | dmaFinish (session c : Nat)
  /-- DMA_CLEAR_FAULT (R356): A write of DMA_CMD = 2 clears FAULT to IDLE past the descriptor that faulted. -/
  | dmaClearFault (session c : Nat)
  /-- BAR2_READ (R359): A BAR2 read returns DRAM data through the window, poisoned data with EP set. -/
  | bar2Read (offset n good : Nat)
  /-- BAR2_WRITE (R359): A BAR2 write reaches scratch DRAM, or is discarded for a protected address. -/
  | bar2Write (offset : Nat) (data : Octets)
  /-- BAR2_WINDOW_WRITE (R359): A write to PCI_BAR2_WIN moves the aperture, holding BAR2 requests until it is
  applied. -/
  | bar2WindowWrite (session value : Nat)
  /-- MSIX_VECTOR_UNMASK (R361): Unmasking a vector whose pending bit is set sends one message. -/
  | msixVectorUnmask (v : Nat)
  /-- TRU_FW_STAGE (R372): A write of an image length to TRU_FW_STAGE starts verification of the image in scratch. -/
  | truFwStage (session value : Nat)
  /-- TRU_SVN_LOCK (R372): A write of the running SVN to TRU_SVN_LOCK burns the fuse minimum, and the lock is
  journaled. -/
  | truSvnLock (session value : Nat)
  /-- TRU_HOLD_SET (R380): A write of 1 to TRU_HOLD_SET begins a certified-run hold with the current scope, ID and
  repeats. -/
  | truHoldSet (session value : Nat)
  /-- TRU_HOLD_RELEASE (R380): A write of the hold ID to TRU_HOLD_RELEASE ends the hold. -/
  | truHoldRelease (session value : Nat)
  /-- BOOT_IMAGE_CHECK (R371): The boot ROM checks both headers, hashes the preferred body, latches the measurement
  and runs the chosen slot. -/
  | bootImageCheck (slot0 slot1 : Octets)
  /-- BOOT_RETRY (R371): With no valid slot, the boot ROM repeats the whole check every 1 s. -/
  | bootRetry (slot0 slot1 : Octets)
  /-- TIM_SET (R386): A write to TIM_SET loads the clock at the end of the tick and raises CLOCK_STEP. -/
  | timSet (session value : Nat)
  /-- TIM_STEP (R386): A write to TIM_STEP_NS steps the clock by a signed amount and raises CLOCK_STEP. -/
  | timStep (session value : Nat)
  /-- SYNC_RX (R389): A Sync from the chosen master gives an offset sample to the servo, or waits for its Follow_Up.
  -/
  | syncRx (port : Nat) (m : PtpMsg) (t te : Nat)
  /-- FOLLOW_UP_RX (R389): A Follow_Up completes a two-step Sync's t1 and correction. -/
  | followUpRx (port : Nat) (m : PtpMsg)
  /-- DELAY_REQ_RX (R391): A Delay_Req received by the master is answered with Delay_Resp. -/
  | delayReqRx (port : Nat) (m : PtpMsg) (t te : Nat)
  /-- DELAY_RESP_RX (R389): A Delay_Resp gives a path-delay measurement that filters d. -/
  | delayRespRx (port : Nat) (m : PtpMsg)
  /-- PDELAY_REQ_RX (R392): A Pdelay_Req is answered by the port in peer-delay mode. -/
  | pdelayReqRx (port : Nat) (m : PtpMsg) (t te : Nat)
  /-- PDELAY_RESP_RX (R392): A Pdelay_Resp gives a link-delay measurement of the port. -/
  | pdelayRespRx (port : Nat) (m : PtpMsg) (t : Nat)
  /-- PDELAY_RESP_FOLLOW_UP_RX (R392): A Pdelay_Resp_Follow_Up completes a two-step peer-delay measurement. -/
  | pdelayRespFollowUpRx (port : Nat) (m : PtpMsg)
  /-- ANNOUNCE_RX (R389): An Announce is qualified and compared to choose the master. -/
  | announceRx (port : Nat) (m : PtpMsg)
  /-- DELAY_REQ_SEND (R389): A Delay_Req is sent at a random interval around 2^TIM_PTP_LOG_MIN_DELAY s. -/
  | delayReqSend (te : Nat)
  /-- PDELAY_REQ_SEND (R392): Each port in peer-delay mode sends Pdelay_Req at its interval. -/
  | pdelayReqSend (port te : Nat)
  /-- SYNC_SEND (R391): As master, the clock sends Sync every 2^TIM_PTP_LOG_SYNC s. -/
  | syncSend (te : Nat)
  /-- TT_PULSE_START (R394): A time-triggered output places its leading edge at the programmed time and raises
  TT_FIRE. -/
  | ttPulseStart (n : Nat)
  /-- TT_PULSE_END (R394): A time-triggered pulse ends after its width. -/
  | ttPulseEnd (n : Nat)
  /-- TIM_TT_ARM (R394): A write of a start time to TIM_TT_ARM arms a ONCE pulse, replacing any armed pulse. -/
  | timTtArm (session n value : Nat)
  /-- TC_IN_EDGE (R398): A selected TC_IN edge is stamped, stored in the FIFO, counted and raises TC_EDGE. -/
  | tcInEdge (n : Nat) (falling : Bool) (t : Nat)
  /-- TC_FIFO_READ (R398): A read of TIM_TC_FIFO returns every entry present and removes them. -/
  | tcFifoRead (n : Nat)
  /-- TASK_INPUT_EDGE (R404): A rising edge on a task's selected line adds a pending task with its stamp, or is
  dropped with the overflow flag. -/
  | taskInputEdge (k : Nat)
  /-- TASK_CONSUME (R403): The block consumes the oldest pending task and starts its action. -/
  | taskConsume (k : Nat)
  /-- EVT_TASK_CLEAR (R404): A write of 1 to EVT_TASK_CLEAR clears the pending count and the overflow flag. -/
  | evtTaskClear (session k : Nat)
  /-- CELL_CLOCK_EDGE (R400): A rising edge of a cell's CLK line updates its flip-flop output by the cell's FF mode.
  -/
  | cellClockEdge (c : Nat)
  /-- JOIN_RX (R417): The bellwether judges a JOIN, refuses it with a reason, or makes the member PENDING. -/
  | joinRx (k : Nat)
  /-- JOIN_ANSWER_RX (R417): A member receives ACK or REFUSE to its JOIN and shows the reason. -/
  | joinAnswerRx (k : Nat)
  /-- TIME_SEND (R415): Every 1 ms a device sends a TIME request to its upstream neighbour. -/
  | timeSend (t1 : Nat)
  /-- TIME_REQ_RX (R422): A TIME request is answered with t2 and t3. -/
  | timeReqRx (k t2 t3 : Nat)
  /-- TIME_ANSWER_RX (R422): A TIME answer gives the member's servo one sample of θ. -/
  | timeAnswerRx (k t4 : Nat)
  /-- POS_REQ_RX (R421): The bellwether answers a POS request with its reading P(t). -/
  | posReqRx (k : Nat)
  /-- POS_ANSWER_RX (R421): A POS answer sets FLD_POS_OFFSET to Δ, rounded to the source step. -/
  | posAnswerRx (k : Nat)
  /-- BEACON_RX (R423): A member compares the BEACON position with its own; a slip counts and raises FLD_POS. -/
  | beaconRx (k : Nat)
  /-- STATUS_RX (R418): The bellwether records a member's state, servo and θ. -/
  | statusRx (k : Nat)
  /-- REPEAT_RX (R424): A REPEAT sets the member's Y_k, stretch and repeat index. -/
  | repeatRx (k : Nat)
  /-- GRID_RX (R424): A GRID sets the member's pending grid origin. -/
  | gridRx (k : Nat)
  /-- QITEM_RX (R426): The bellwether places a member's queue item as a KIND 0x4C item in its queue of the same
  number. -/
  | qitemRx (k : Nat)
  /-- RELAY_RX (R425): A RELAY raises a pulse on whistle line 63 at fold time t + 5 µs. -/
  | relayRx (k : Nat)
  /-- FOLD_PACKET_FORWARD (R414): A fold packet not addressed to the device is passed on with its credits, its HOPS
  and CLASS updated, or discarded. -/
  | foldPacketForward (k : Nat)
  /-- FOLD_REQUEST_RETRY (R416): An unanswered VC2 fold request is resent after 1 ms, up to three times. -/
  | foldRequestRetry (dt : Nat)
  /-- MEMBER_LOST (R419): A member with no STATUS for 10 ms is marked LOST and its components are completed as
  partial. -/
  | memberLost (m : Nat)
  /-- REF_MONITOR_WINDOW (R436): A 1,024-cycle monitor window judges each reference good or bad. -/
  | refMonitorWindow (c0 c1 c2 : Nat)
  /-- CLK_RETURN (R438): A write of 1 to CLK_RETURN returns every usable failed reference. -/
  | clkReturn (session value : Nat)
  /-- PLL_LOCK_LOSS (R436): A PLL losing lock with a good reference raises PLL_LOCK, handled as a reference failure.
  -/
  | pllLockLoss (k : Nat)
  /-- CLOCK_SWITCH_DONE (R439): A glitch-free clock switch completes on the old clock's acknowledge. -/
  | clockSwitchDone (which : Nat)
  /-- CLOCK_SWITCH_FORCED (R439): With no acknowledge in 64 cycles, the switch is forced and CLK_FORCED is set. -/
  | clockSwitchForced (which : Nat)
  /-- DVFS_VOLTAGE_REACHED (R441): The monitor confirms the commanded VDD_CORE, and the change of point proceeds or
  ends. -/
  | dvfsVoltageReached (mv : Nat)
  /-- VDD_CORE_LOW (R441): VDD_CORE below point − 30 mV for 1 µs raises SUPPLY, drops the core to 250 MHz and forces
  STANDBY. -/
  | vddCoreLow (mv : Nat)
  /-- VDD_CORE_HIGH (R441): VDD_CORE above point + 30 mV for 1 µs raises SUPPLY. -/
  | vddCoreHigh (mv : Nat)
  /-- SUPPLY_RAIL_FAULT (R449): A rail out of range raises SUPPLY and fails its domain. -/
  | supplyRailFault (rail : Nat)
  /-- PWR_SLEEP (R444): A write of 1 to PWR_SLEEP in STANDBY enters DEEP_SLEEP within 1 ms. -/
  | pwrSleep (session value : Nat)
  /-- DIE_TEMP_READ (R446): Every 1 ms the die sensors are read, and the temperature faults are raised or cleared. -/
  | dieTempRead (t : Nat)
  /-- PWR_RESET (R447): A write of 0xA5 to PWR_RESET makes a system reset within 1 ms of its response. -/
  | pwrReset (session value : Nat)
  /-- LEASE_EXPIRE (R450): A lease that runs out is revoked: the holder is fenced, the resource is reclaimed and
  recovery starts. -/
  | leaseExpire (kind holder : Nat)
  /-- FLT_CLEAR (R453): A write to FLT_CLEAR clears the named latched faults whose conditions are not active, and
  clears CLK_FORCED. -/
  | fltClear (session value : Nat)
  /-- TWI_T_GO (R470): A write of 1 to TWI_T_GO queues the software transaction. -/
  | twiTGo (session value : Nat)
  /-- TWI_TRANSACTION_START (R459): When the bus is free, the round-robin arbiter picks a pending requester and its
  transaction starts. -/
  | twiTransactionStart (lost : Nat)
  /-- TWI_TRANSACTION_END (R470): A controller transaction ends with STOP, and its status and data are set. -/
  | twiTransactionEnd (outcome done rise slow : Nat) (data : Octets)
  /-- TWI_ARB_RETRY (R464): After the next STOP plus tBUF, a transaction that lost arbitration is retried up to
  TWI_RETRY times. -/
  | twiArbRetry (lost : Nat)
  /-- TWI_STRETCH_TIMEOUT (R465): SCL low for TWI_STRETCH_MS ends the transaction with TIMEOUT and releases the
  lines. -/
  | twiStretchTimeout (freed : Bool)
  /-- TWI_RECOVERY_RETRY (R466): While the bus is STUCK, recovery is retried every 100 ms. -/
  | twiRecoveryRetry (freed : Bool)
  /-- TWI_TARGET_ADDRESSED (R467): A transaction to the target address is answered with the two status bytes or
  acknowledged without storing. -/
  | twiTargetAddressed (kind n : Nat)
  /-- TWI_FLAG_CLEAR (R474): A write to TWI_FLAG_CLEAR clears the named sticky flags. -/
  | twiFlagClear (session value : Nat)
  /-- SIGNAL_DETECT_RETURN (R76): A receiver's signal detect asserts when the far transmitter leaves sleep, marking
  the far direction awake and starting the 2 ms wait for lock. -/
  | signalDetectReturn (l : Nat)
  /-- PRBS_CHECKER_LOCK (R72): During a test the checker seeds from the received pattern, locks after 64 error-free
  bits and re-seeds when 32 of 64 are wrong, counting errors in LNK_TEST_ERR. -/
  | prbsCheckerLock (l : Nat) (bits : List Nat)
  /-- SIGNALING_MANAGEMENT_RX (R392): A PTP Signaling or Management message, or any message of another domain or
  malformed, arrives and is forwarded unchanged by the transparent clock or discarded into TIM_PORT_BAD. -/
  | signalingManagementRx (port : Nat) (m : PtpMsg)
  /-- ARP_ND_REPLY_RX (R348): An ARP or Neighbor Discovery reply resolves a queue subscriber's MAC address, so that
  fragments to that subscriber stop being discarded. -/
  | arpNdReplyRx (port : Nat) (addr mac : Octets)
  /-- FOLD_SYNC_EDGE (R425): The open-drain FOLD_SYNC line rises or falls as other devices release or hold it,
  changing the level of whistle line 60. -/
  | foldSyncEdge (rise : Bool)
  /-- TWI_START_STOP_OBSERVED (R463): A START or STOP from another controller on the two-wire bus makes the bus busy,
  or frees it after tBUF, ends a recovery or returns a STUCK bus to IDLE. -/
  | twiStartStopObserved (stop : Bool)
  /-- SUPPLY_RAIL_RETURN (R441): A supply rail that was out of range returns within it, ending SUPPLY's active
  condition and, for a low VDD_CORE, the forced-STANDBY cause. -/
  | supplyRailReturn (rail : Nat)
  /-- DEV_HANDOVER_TIMEOUT (R48): A device commit with no repeat boundary within 10 ms hands over at the first tick
  with no line in the compare stage. -/
  | devHandoverTimeout
  /-- NVS_AUTO_SAVE (R51): After a change of a persistent value, an automatic save starts, at most one per second and
  never after an erase. -/
  | nvsAutoSave
  /-- COAST_END (R134): POS_COAST_MS after a failure with no usable source, the speed becomes 0, the quality becomes
  LOST and LOST is raised. -/
  | coastEnd
  /-- SPEED_STOP (R138): POS_STOP_MS with no transition makes the speed 0, sets POS_STOPPED and raises STOPPED. -/
  | speedStop
  /-- MARK_MISSED (R186): With no mark by the end of the window, the next Y is predicted and counted in
  STI_MARKS_MISSED. -/
  | markMissed
  /-- HEFT_LOAD_ITEM (R222): A load item from the load queue is checked and stored as a block or mask, or refused. -/
  | heftLoadItem
  /-- PEN_CLASSIFY (R259): The classifier takes a closed pen with a record slot, matches the rules and makes a
  record, or counts the pen without one. -/
  | penClassify
  /-- TALLY_BLOCK_SIGNED (R273): The signing unit completes a block's signature in TSEQ order and places the block on
  the RDL_DEST queues. -/
  | tallyBlockSigned
  /-- SUBSCRIBER_RESOLVE (R348): Every 60 s each subscriber's MAC address is resolved again. -/
  | subscriberResolve
  /-- FUNCTION_LEVEL_RESET (R362): An FLR takes every drover to OFF, resets the BAR2 window, masks MSI-X and clears
  the BAR0 latch and mailbox. -/
  | functionLevelReset
  /-- PCIE_PERST_ASSERT (R484): PCIE_PERST_N low holds the endpoint in Function Level Reset and takes the link down.
  -/
  | pciePerstAssert
  /-- JOURNAL_ENTRY_WRITE (R375): The journal unit writes the next buffered entry to MRAM and the mirror every 250
  ns. -/
  | journalEntryWrite
  /-- JOURNAL_BUDGET_REFILL (R375): The budget for external journal entries refills by one entry each millisecond. -/
  | journalBudgetRefill
  /-- FW_STAGE_DONE (R372): A verified image is written into the idle slot and journaled, or it is REJECTED. -/
  | fwStageDone
  /-- REF_WAIT_LIMIT (R448): A reference not ready 100 ms into step 4 is handled as failed. -/
  | refWaitLimit
  /-- SECOND_ROLLOVER (R384): Nanoseconds reaching 10^9 return to 0, seconds advance, and PPS is raised. -/
  | secondRollover
  /-- ANNOUNCE_RECEIPT_TIMEOUT (R389): Three announce intervals without an Announce lose the master, and the clock
  chooses again. -/
  | announceReceiptTimeout
  /-- ANNOUNCE_SEND (R391): As master, the clock sends Announce every 2^TIM_PTP_LOG_ANNOUNCE s. -/
  | announceSend
  /-- SERVO_HOLDOVER (R390): No sample for 4 × T moves the servo to HOLDOVER, and A is held at I. -/
  | servoHoldover
  /-- RELAY_LINE_EDGE (R425): A rising edge on the bellwether's FLD_RELAY_LINE sends three copies of RELAY. -/
  | relayLineEdge
  /-- JOIN_SEND (R415): A member not yet joined sends JOIN every 100 ms. -/
  | joinSend
  /-- BEACON_SEND (R415): Every 1 ms the bellwether broadcasts BEACON with fold state, members and P(t). -/
  | beaconSend
  /-- STATUS_SEND (R415): Every 1 ms a member sends STATUS to the bellwether. -/
  | statusSend
  /-- BEACON_TIMEOUT (R419): A member with no BEACON for 10 ms becomes ISOLATED and pulls FOLD_SYNC low. -/
  | beaconTimeout
  /-- FOLD_FORM_TIMEOUT (R418): FLD_FORM_MS after the dictionary becomes reachable, the bellwether becomes FORMED
  with the members joined so far. -/
  | foldFormTimeout
  /-- FOLD_TWI_POLL (R413): Every 100 ms the bellwether polls each expected member that has not joined on the
  two-wire bus. -/
  | foldTwiPoll
  /-- DVFS_PLL_LOCKED (R441): The idle core PLL locks at the new frequency and the core switches to it. -/
  | dvfsPllLocked
  /-- DVFS_TIMEOUT (R441): A sequencer wait that lasts PWR_VR_TIMEOUT_US raises DVFS. -/
  | dvfsTimeout
  /-- DEEP_SLEEP_WAKE (R445): A wake source returns the device from DEEP_SLEEP to STANDBY within 2 ms. -/
  | deepSleepWake
  /-- THERMAL_TRIP (R446): The analogue comparator at L + 15 °C holds the device in reset. -/
  | thermalTrip
  /-- POWER_ON_RESET (R447): PORST_N low resets everything, and its release starts bring-up. -/
  | powerOnReset
  /-- SYSTEM_RESET_PIN (R447): SYSRST_N low makes a system reset. -/
  | systemResetPin
  /-- WATCHDOG_CONFIRM (R451): Firmware confirms its health and restarts the watchdog interval. -/
  | watchdogConfirm
  /-- WATCHDOG_EXPIRE (R451): FLT_WDOG_MS without confirmation raises WATCHDOG and interrupts firmware. -/
  | watchdogExpire
  /-- WATCHDOG_RESET (R451): A further FLT_WDOG_MS without confirmation makes a system reset with cause watchdog. -/
  | watchdogReset
  /-- STANDBY_WAKE_LIMIT (R16): 50 ms after lane wake, with some enabled channel not back at rung 2, the device
  leaves STANDBY for LAMBING. -/
  | standbyWakeLimit
  /-- TWI_BUS_IDLE (R463): Both lines high for TWI_IDLE_US after reset free the bus. -/
  | twiBusIdle
  /-- TWI_SLEEP_MATCH (R469): In DEEP_SLEEP, a matching address is not acknowledged but powers the block within 100
  µs. -/
  | twiSleepMatch
  /-- TWI_TARGET_IDLE (R469): 1 s without being addressed returns the block to comparator-only operation. -/
  | twiTargetIdle
  /-- PCIE_PERST_RELEASE (R484): PCIE_PERST_N rises, releasing the endpoint from Function Level Reset so that the
  PCIe link trains again. -/
  | pciePerstRelease
deriving DecidableEq, Repr

end Sys2Proof
end

