-- ==== Sys2Proof/Decode.lean ====
section
/-!
DEFINITION. The command that a word spells. The operation table gives no row any bits (every row's `fields` is empty): the commands are register accesses, received
messages and events, not words, so no word spells one.
-/
namespace Sys2Proof

/-- The command spelled by `nbits` bits `w`: none, since no row of the table has bits. -/
def decodeTableWord (nbits w : Nat) : Option Instr :=
  match nbits, w with
  | _, _ => none

end Sys2Proof
end

