-- ==== Sys2Proof/Machine/Bits.lean ====
section
/-!
DEFINITION. Bit fields, little- and big-endian octet orders, two's complement and the rounding helpers that the manual's
formulas use.
-/
namespace Sys2Proof.Machine

/-- Bits `[hi:lo]` of `n`. -/
def field (n hi lo : Nat) : Nat := (n >>> lo) % 2 ^ (hi + 1 - lo)

/-- Bit `k` of `n`. -/
def bit (n k : Nat) : Bool := (n >>> k) % 2 == 1

/-- `n` with bit `k` set. -/
def setBit (n k : Nat) : Nat := n ||| (1 <<< k)

/-- `n` with bit `k` clear. -/
def clearBit (n k : Nat) : Nat := if bit n k then n - 2 ^ k else n

/-- `n` with bit `k` equal to `b`. -/
def putBit (n k : Nat) (b : Bool) : Nat := if b then setBit n k else clearBit n k

/-- 1 for true, 0 for false: a BOOL object's value (R26). -/
def b2n (b : Bool) : Nat := if b then 1 else 0

/-- The bit map whose bit `k` is `f k`, for `k < n`. -/
def bitMap (n : Nat) (f : Nat → Bool) : Nat :=
  (List.range n).foldl (fun a k => a + if f k then 2 ^ k else 0) 0

/-- The numbers below `n` whose bit is set in `m`. -/
def bitsOf (n m : Nat) : List Nat := (List.range n).filter (bit m ·)

/-- How many of the low `n` bits of `m` are set. -/
def popCount (n m : Nat) : Nat := (bitsOf n m).length

/-- The two's complement value of the low `w` bits of `n`. -/
def toSigned (w n : Nat) : Int :=
  let m := n % 2 ^ w
  if 2 ^ (w - 1) ≤ m then (m : Int) - 2 ^ w else m

/-- The low `w` bits of an integer. -/
def ofSigned (w : Nat) (i : Int) : Nat := (i % (2 ^ w : Int)).toNat

/-- An integer limited to `[lo, hi]`. -/
def clampI (lo hi i : Int) : Int := if i < lo then lo else if hi < i then hi else i

/-- The division of the manual's formulas that rounds to the nearest integer, ties up (towards +∞). -/
def divRound (a : Int) (b : Nat) : Int := (2 * a + b) / (2 * b)

/-- Division rounding to nearest, ties away from zero. -/
def divRoundAway (a : Int) (b : Nat) : Int :=
  if a < 0 then -((2 * (-a) + b) / (2 * b)) else (2 * a + b) / (2 * b)

/-- Division rounding to nearest, ties to even. -/
def divRoundEven (a : Int) (b : Nat) : Int :=
  let q := a / b
  let r := a % b
  if 2 * r < b then q else if (b : Int) < 2 * r then q + 1 else if q % 2 = 0 then q else q + 1

/-- Division truncating towards zero. -/
def divTrunc (a : Int) (b : Nat) : Int := if a < 0 then -((-a) / b) else a / b

/-- `n` as `k` octets, least significant first (the manual's multi-byte order in the dictionary, R26). -/
def le : Nat → Nat → Octets
  | 0, _ => []
  | k + 1, n => n % 256 :: le k (n / 256)

/-- The number `bs` spells, least significant octet first. -/
def ofLE : Octets → Nat
  | [] => 0
  | b :: bs => b % 256 + 256 * ofLE bs

/-- `n` as `k` octets, most significant first. -/
def be (k n : Nat) : Octets := (le k n).reverse

/-- The number `bs` spells, most significant octet first. -/
def ofBE (bs : Octets) : Nat := ofLE bs.reverse

/-- Octets `a` to `a + n - 1` of `bs`; 0 where there is none. -/
def slice (bs : Octets) (a n : Nat) : Octets :=
  let t := (bs.drop a).take n
  t ++ List.replicate (n - t.length) 0

/-- Octet `a` of `bs`, 0 where there is none. -/
def octet (bs : Octets) (a : Nat) : Nat := bs.getD a 0

/-- The little-endian number in octets `a` to `a + n - 1`. -/
def leAt (bs : Octets) (a n : Nat) : Nat := ofLE (slice bs a n)

/-- The big-endian number in octets `a` to `a + n - 1`. -/
def beAt (bs : Octets) (a n : Nat) : Nat := ofBE (slice bs a n)

/-- `bs` with `v` written over it from offset `a`, extended with zeros where it was shorter. -/
def overlay (bs : Octets) (a : Nat) (v : Octets) : Octets :=
  let pre := bs.take a
  pre ++ List.replicate (a - pre.length) 0 ++ v ++ bs.drop (a + v.length)

/-- The 32-bit serial comparison of R36 and R52: how far `a` is ahead of `b`, signed. -/
def serialDiff (w a b : Nat) : Int := toSigned w (ofSigned w ((a : Int) - b))

/-- Mathematical floor of the square root. -/
def isqrtGo (n : Nat) : Nat → Nat → Nat
  | 0, r => r
  | k + 1, r =>
    let c := r + 2 ^ k
    if c * c ≤ n then isqrtGo n k c else isqrtGo n k r

/-- Floor of the square root of a number below 2^128. -/
def isqrt (n : Nat) : Nat := isqrtGo n 64 0

/-- The first element of a list that satisfies `p`, with its position. -/
def findIdxFrom {α : Type} (p : α → Bool) : Nat → List α → Option (Nat × α)
  | _, [] => none
  | i, x :: xs => if p x then some (i, x) else findIdxFrom p (i + 1) xs

/-- `l` with its element `i` replaced by `f` of it. -/
def modAt {α : Type} (l : List α) (i : Nat) (f : α → α) : List α :=
  match l, i with
  | [], _ => []
  | x :: xs, 0 => f x :: xs
  | x :: xs, i + 1 => x :: modAt xs i f

/-- A table of `n` entries of which the ones beyond the end of `l` are `z`: entry `i` replaced by `f` of it; nothing where `i` is no entry. -/
def modTab {α : Type} (n : Nat) (z : α) (l : List α) (i : Nat) (f : α → α) : List α :=
  match n, l, i with
  | 0, l, _ => l
  | _ + 1, [], 0 => [f z]
  | n + 1, [], i + 1 => if i < n then z :: modTab n z [] i f else []
  | _ + 1, x :: xs, 0 => f x :: xs
  | n + 1, x :: xs, i + 1 => x :: modTab n z xs i f

/-- Sum of a list of integers. -/
def sumI (l : List Int) : Int := l.foldl (· + ·) 0

/-- Least element of a non-empty list of numbers, `d` for the empty list. -/
def minNat (d : Nat) : List Nat → Nat
  | [] => d
  | x :: xs => xs.foldl Nat.min x

/-- Greatest element, 0 for the empty list. -/
def maxNat (l : List Nat) : Nat := l.foldl Nat.max 0

/-- Insertion into a list sorted by `key`, after the entries of equal key. -/
def insertBy {α : Type} (key : α → Nat) (x : α) : List α → List α
  | [] => [x]
  | y :: ys => if key x < key y then x :: y :: ys else y :: insertBy key x ys

/-- Stable sort by a numeric key. -/
def sortBy {α : Type} (key : α → Nat) (l : List α) : List α := l.foldl (fun acc x => insertBy key x acc) []

/-- The entry of a keyed list. -/
def getKeyed {α : Type} (key : α → Nat) (k : Nat) (l : List α) : Option α := l.find? (fun x => key x = k)

/-- A keyed list sorted by key, with the entry of `x`'s key replaced by `x` or `x` inserted. -/
def putKeyed {α : Type} (key : α → Nat) (x : α) : List α → List α
  | [] => [x]
  | y :: ys =>
    if key y = key x then x :: ys
    else if key x < key y then x :: y :: ys
    else y :: putKeyed key x ys

/-- A keyed list without the entry of a key. -/
def dropKeyed {α : Type} (key : α → Nat) (k : Nat) (l : List α) : List α := l.filter (fun x => key x ≠ k)

end Sys2Proof.Machine
end

