-- ==== Sys2Proof/Machine/Reg.lean ====
section
/-!
DEFINITION. The names of the dictionary's objects (R25 to R30): one constructor of `Reg` for each object that
a table of the manual's chapters names, in the order of those tables. An object that exists once per unit
(channel, lane, queue, …) is one constructor; the unit is the instance number beside it.
-/
namespace Sys2Proof.Machine

/-- The objects of the dictionary by mnemonic. `RDL_DEST`, `EVT_QUE_SEL` and `EVT_CELL_IN` stand for the eight,
eight and four alike objects of R280 and R410 (RDL_DEST0–7, EVT_QUE_SEL0–7, EVT_CELL_A–D); `FLD_CNT_COUNT` and
`CRC_COUNT` are the unnamed counts of 0x3001.00 (R431) and 0x7200.00 (R337). -/
inductive Reg where
  -- 00_scope.md, R5
  | DEV_ID_COUNT
  | DEV_VENDOR
  | DEV_FAMILY
  | DEV_PART
  | DEV_SILICON
  | DEV_CH_PRESENT
  | DEV_DRAM_GIB
  | DEV_TJ_MAX
  | DEV_SERIAL
  -- 01_flow.md, R14
  | DEV_STATE_COUNT
  | DEV_STATE
  | DEV_RUN_REQ
  | DEV_STATE_ENTRIES
  | DEV_REDUCED
  | DEV_DRAM_DEMAND
  | DEV_DRAM_USABLE
  -- 02_dictionary.md, R37
  | SES_COUNT
  | SES_STATE
  | SES_TRANSPORT
  | SES_PEER
  | SES_PEER_PORT
  | SES_IDLE_MS
  | SES_SUBS
  | SES_LAST_SEQ
  | SES_PUSH_SEQ
  | SES_CLOSE
  -- 02_dictionary.md, R41
  | COM_COUNT
  | COM_MAC0
  | COM_MAC1
  | COM_IP4_ADDR
  | COM_IP4_MASK
  | COM_IP4_GW
  | COM_IP6_MODE
  | COM_IP6_ADDR
  | COM_DAP_PORT
  | COM_DAP_PORTS
  | COM_DAP_DROPS
  | COM_DAP_RX
  -- 02_dictionary.md, R44
  | COM_BAR0_COUNT
  | COM_BAR0_HI
  | COM_BAR0_ABORT
  | COM_BAR0_ABORT_AT
  | COM_BAR0_BULK_SEL
  | COM_BAR0_BULK_GO
  -- 02_dictionary.md, R46
  | DEV_COMMIT_COUNT
  | DEV_COMMIT
  | DEV_GEN_LIVE
  | DEV_GEN_PENDING
  | DEV_GEN_STAGED
  | DEV_COMMIT_STATE
  | DEV_COMMIT_REFUSED
  | DEV_STAGE_DISCARD
  | CH_COMMIT_COUNT
  | CH_COMMIT
  | CH_GEN_LIVE
  | CH_GEN_PENDING
  | CH_GEN_STAGED
  | CH_COMMIT_STATE
  | CH_COMMIT_REFUSED
  | CH_STAGE_DISCARD
  -- 02_dictionary.md, R53
  | NVS_COUNT
  | NVS_SAVE
  | NVS_ERASE
  | NVS_ACTIVE
  | NVS_SEQ
  | NVS_STATE
  | NVS_VALID
  | NVS_AUTO
  | NVS_SKIPPED
  | NVS_SAVES
  -- 03_rinar_lanes.md, R78
  | LNK_COUNT
  | LNK_ENABLE
  | LNK_RUNG_MAX
  | LNK_TX_INVERT
  | LNK_TX_SLEEP_AUTO
  | LNK_STATE
  | LNK_RUNG
  | LNK_RX_INVERTED
  | LNK_FAR_ID
  | LNK_TX_EQ
  | LNK_FAR_TX_EQ
  | LNK_RX_SNR
  | LNK_SLEEP_STATE
  | LNK_CODE_VIOL
  | LNK_FEC_CORR
  | LNK_FEC_UNCORR
  | LNK_RECOVERIES
  | LNK_TRAIN_FAILS
  | LNK_TEST
  | LNK_TEST_MS
  | LNK_TEST_ERR
  -- 04_link_packets.md, R103
  | CH_LINK_COUNT
  | CH_LANE_MASK
  | CH_LINK_STATE
  | CH_LANES_USABLE
  | CH_LANES_EXCLUDED
  | CH_CAM_ID
  | CH_CAM_INFO
  | CH_PREVIEW_STRIDE
  | CH_TIME_OK
  | CH_TIME_OFFSET
  | CH_TIME_RESID
  -- 04_link_packets.md, R104
  | CH_CREG_COUNT
  | CH_CREG_ADDR
  | CH_CREG_LEN
  | CH_CREG_DATA
  | CH_CREG_GO
  | CH_CREG_STATUS
  | CH_CREG_CAMCODE
  -- 04_link_packets.md, R105
  | CH_LINKCNT_COUNT
  | CH_PKT_RX
  | CH_PKT_HDR
  | CH_PKT_CRC
  | CH_PKT_LOST
  | CH_PKT_REFUSED
  | CH_LINES_DAMAGED
  | CH_LINES_DUP
  | CH_LINE_RESTARTS
  | CH_CTRL_RETRY
  | CH_CTRL_TIMEOUT
  | CH_CAM_DROPS
  | CH_CREDIT_VC0
  | CH_CREDIT_FAR_VC2
  -- 04_link_packets.md, R106
  | CH_CAMREP_COUNT
  | CH_DARK_EVERY
  | CH_STATUS_MS
  | CH_TEMP_MS
  -- 05_channel_front.md, R108
  | CH_CTL_COUNT
  | CH_ENABLE
  | CH_STATE
  | CH_MODALITY
  | CH_SLICES
  | CH_SLICE_PARTNER
  | CH_SAMPLE_RATE
  -- 05_channel_front.md, R110
  | CH_CAMSET_COUNT
  | CH_PIXELS
  | CH_DT
  | CH_TRIGGER
  | CH_RATE_MHZ
  | CH_LINE_RATE_MAX
  | CH_EXPOSURE_NS
  | CH_GAIN0
  | CH_GAIN1
  | CH_GAIN2
  -- 05_channel_front.md, R115
  | CH_GENS_COUNT
  | CH_CAM_GEN_SEEN
  | CH_FRONT_GEN
  | CH_CAMSET_BUSY
  | CH_CAM_FAULT
  | CH_GEN_STALE
  | CH_DISC_OFF
  -- 05_channel_front.md, R117
  | CH_FRONT_COUNT
  | CH_BLACK_EN
  | CH_BLACK_SHIFT
  | CH_BLACK_MANUAL
  | CH_DPC_EN
  | CH_SHADE_EN
  | CH_BLACK0
  | CH_BLACK1
  | CH_BLACK2
  -- 05_channel_front.md, R118
  | CH_BOFF_COUNT
  | CH_BOFF_PLANE
  | CH_BOFF_BASE
  | CH_BOFF_DATA
  | CH_DPM_COUNT
  | CH_DPM_DATA
  | CH_DPM_ENTRIES
  | CH_SHADE_COUNT
  | CH_SHADE_PLANE
  | CH_SHADE_BASE
  | CH_SHADE_DATA
  -- 05_channel_front.md, R121
  | CH_TAP_COUNT
  | CH_TAP_ENABLE
  | CH_TAP_POINT
  | CH_TAP_QUEUE
  | CH_TAP_EVERY
  | CH_TAP_FIRST
  | CH_TAP_WIDTH
  | CH_TAP_FORMAT
  | CH_TAP_BLIND
  | CH_TAP_LINES
  | CH_TAP_DROPS
  -- 05_channel_front.md, R126
  | CH_STAT_COUNT
  | CH_STAT_GEN
  | CH_STAT_LINES
  | CH_STAT_BLIND
  | CH_STAT_SAT
  | CH_STAT_CLIP
  | CH_STATP_GEN
  | CH_STATP_LINES
  | CH_STATP_BLIND
  | CH_STATP_SAT
  | CH_STATP_CLIP
  -- 06_web_position.md, R144
  | POS_SRC_COUNT
  | POS_SRC_PRIMARY
  | POS_SRC_BACKUP
  | POS_QUALITY
  | POS_COAST_MS
  | POS_REARM
  | POS_FILTER_NS
  | POS_STOP_MS
  -- 06_web_position.md, R145
  | POS_ENC_COUNT
  | POS_ENC_STEP
  | POS_ENC_INVERT
  | POS_ENC_TERM
  | POS_ENC_Z_MODE
  | POS_ENC_Z_COUNTS
  | POS_ENC_RAW
  | POS_ENC_STATE
  | POS_ERR
  | POS_Z_COUNT
  | POS_Z_ERR
  | POS_Z_POS
  | POS_Z_TIME
  -- 06_web_position.md, R146
  | POS_POS_COUNT
  | POS_POSITION
  | POS_TIME
  | POS_SPEED
  | POS_DIR
  | POS_STOPPED
  | POS_SPEED_WIN_US
  | POS_DIR_CHANGES
  | POS_FAILOVERS
  -- 06_web_position.md, R147
  | POS_EMU_COUNT
  | POS_EMU_ENABLE
  | POS_EMU_SOURCE
  | POS_EMU_N
  | POS_EMU_M
  | POS_EMU_FORM
  | POS_EMU_PULSE_NS
  | POS_EMU_REVERSE
  | POS_EMU_INTERP
  | POS_EMU_Z_EVERY
  | POS_EMU_OUT
  | POS_EMU_BACKLOG
  | POS_EMU_DROPS
  -- 07_resampling.md, R171
  | CH_RS_COUNT
  | CH_RS_PITCH
  | CH_RS_FILTER
  | CH_RS_RATIO
  | CH_RS_BANK
  | CH_RS_QUALITY
  | CH_RS_LINE
  | CH_RS_Y
  -- 07_resampling.md, R172
  | CH_RS_COEF_COUNT
  | CH_RS_USER_KIND
  | CH_RS_USER_COEF
  | CH_RS_BUILTIN_SEL
  | CH_RS_BUILTIN
  -- 07_resampling.md, R173
  | CH_PH_COUNT
  | CH_PH_DELAY
  | CH_PH_PLANE1
  | CH_PH_PLANE2
  -- 07_resampling.md, R174
  | CH_DCB_COUNT
  | CH_DCB_EN
  | CH_DCB_SHIFT
  | CH_DCB_LEVEL
  | CH_DCB_GATE
  | CH_DCB_FREEZE
  | CH_DCB_FROZEN
  | CH_DCB_HOLD_LINE
  -- 07_resampling.md, R175
  | CH_RS_CNT_COUNT
  | CH_RS_OUT
  | CH_RS_OVERSPEED
  | CH_RS_NONADV
  | CH_RS_ALIAS
  | CH_RS_CLIP
  -- 07_resampling.md, R176
  | POS_GRID_COUNT
  | POS_DECSYNC_EN
  | POS_DECSYNC_EDGE
  | POS_GRID_ORIGIN
  | POS_DECSYNC_POS
  | POS_DECSYNC_COUNT
  | POS_GRID_SET
  -- 08_stitch_register.md, R198
  | CH_STI_COUNT
  | CH_STI_SET
  | CH_STI_A0
  | CH_STI_A1
  | CH_STI_A2
  | CH_STI_A3
  | CH_STI_FIRST
  | CH_STI_LAST
  | CH_STI_TRIM
  | CH_STI_OVL_OFFSET
  | CH_STI_FLAGS
  | CH_STI_LATE
  -- 08_stitch_register.md, R199
  | STI_COUNT
  | STI_ANCHOR_MIN
  | STI_NCC_MIN
  | STI_RATE
  | STI_LOSS_ROWS
  | STI_ACQ_MIN
  | STI_REFINE_LINES
  | STI_TRIM_STEP
  | STI_TRIM_MAX
  | STI_MARK_SRC
  | STI_MARK_DIST
  | STI_MARK_WIN_PPM
  | STI_STRETCH_SHIFT
  | STI_STRETCH_MAX_PPM
  | STI_STRETCH_PPM
  | STI_STRETCH_FIXED_PPM
  | STI_REPEAT
  | STI_REPEAT_Y
  | STI_MARKS_MISSED
  | STI_MARKS_EXTRA
  | STI_REPEAT_SET
  -- 08_stitch_register.md, R200
  | STI_SET_COUNT
  | STI_SET_X0
  | STI_SET_WIDTH
  | STI_SET_REF
  | STI_SET_BLEND_W
  | STI_SET_TRIM_EN
  | STI_REG_EN
  | STI_REG_PLANE
  | STI_REG_STATE
  | STI_REG_VALID
  | STI_REG_DX
  | STI_REG_DY
  | STI_UNREG_LINES
  | STI_OUTSIDE
  | STI_HEFT_REREAD
  | STI_MEMBERS
  -- 09_heft_reference.md, R228
  | HFT_COUNT
  | HFT_JOB_ID
  | HFT_LEARN_REPEATS
  | HFT_RUN_PADDOCK
  | HFT_RUN_GEN
  | HFT_TILES_TOTAL
  | HFT_TILES_DONE
  | HFT_NOSPACE
  | HFT_TILE_MISSES
  | HFT_SEAL_FAILS
  | HFT_SWAPS
  -- 09_heft_reference.md, R229
  | HFT_RULE_COUNT
  | HFT_TOL_GAIN
  | HFT_TOL_FLOOR
  | HFT_SHIFT_MAX
  | HFT_OUT_GAIN
  | HFT_OUT_MIN
  | HFT_CONF_MAX
  | HFT_EDGE_MIN
  | HFT_LEARN_TOL_MIN
  | HFT_LEARN_EFFORT
  | HFT_SEAL_EFFORT
  -- 09_heft_reference.md, R230
  | HFT_PD_COUNT
  | HFT_PD_STATE
  | HFT_PD_ROLE
  | HFT_PD_JOB
  | HFT_PD_GEN
  | HFT_PD_ORIGIN
  | HFT_PD_SAMPLES
  | HFT_PD_BYTES
  | HFT_PD_CAPACITY
  | HFT_PD_DIGEST
  | HFT_PD_CONF_PPM
  -- 09_heft_reference.md, R231
  | HFT_LOAD_COUNT
  | HFT_LOAD_QUEUE
  | HFT_LOAD_BEGIN
  | HFT_LOAD_END
  | HFT_LOAD_ABORT
  | HFT_LOAD_BLOCKS
  | HFT_LOAD_MISSING
  | HFT_LOAD_REFUSED
  -- 09_heft_reference.md, R232
  | HFT_SET_COUNT
  | HFT_SET_LINES
  | HFT_LOAD_COLS
  | HFT_LOAD_LINES
  | HFT_LOAD_PLANES
  | HFT_RUN_COLS
  | HFT_RUN_LINES
  | HFT_SB_COLS
  -- 10_compare_segment.md, R255
  | CMP_COUNT
  | CMP_EN
  | CMP_RESOLUTION
  | CMP_COMPARED
  | CMP_FLAGGED
  | CMP_MASKED
  | CMP_SAT
  -- 10_compare_segment.md, R256
  | CMP_CLS_COUNT
  | CMP_CLS_PLAIN
  | CMP_CLS_UNCONF
  | CMP_CLS_EDGE
  | CMP_CLS_VAR
  | CMP_CLS_DIE
  | CMP_CLSX_COUNT
  | CMP_CLS_LEARN
  | CMP_CLS_PREVIEW
  -- 10_compare_segment.md, R257
  | PEN_COUNT
  | PEN_MAX_LINES
  | PEN_BLIND_BRIDGE
  | PEN_RESERVE
  | PEN_XDEV_TIMEOUT_MS
  | PEN_OPEN
  | PEN_OPEN_PEAK
  | PEN_CLOSED
  | PEN_MERGES
  | PEN_SPLITS
  | PEN_OVF_RUNS
  | PEN_FRAGMENTS
  | PEN_PARTIAL
  | PEN_XDEV_OPEN
  -- 10_compare_segment.md, R258
  | PEN_SET_CNT
  | PEN_SET_EDGE
  | PEN_SET_OPEN
  | PEN_SET_OVF
  | PEN_SET_OVF_RUNS
  | PEN_SET_BLIND
  -- 11_raddle_records.md, R261
  | RDL_R_COUNT
  | RDL_R_EN
  | RDL_R_SETS
  | RDL_R_CLASSES
  | RDL_R_POL
  | RDL_R_AREA_MIN
  | RDL_R_AREA_MAX
  | RDL_R_PEAK_MIN
  | RDL_R_MEAN_MIN
  | RDL_R_WIDTH_MIN
  | RDL_R_LEN_MIN
  | RDL_R_FLAGS_REQ
  | RDL_R_FLAGS_NOT
  | RDL_R_CLASS
  | RDL_R_SEV
  | RDL_R_ACTION
  | RDL_R_REJECT
  | RDL_R_HITS
  -- 11_raddle_records.md, R280
  | RDL_COUNT
  | RDL_EN
  | RDL_DEF_CLASS
  | RDL_DEF_SEV
  | RDL_DEF_ACTION
  | RDL_RSEQ
  | RDL_TSEQ
  | RDL_TALLY_BACKLOG
  | RDL_STORM
  | RDL_STORM_PENS
  | RDL_SUPPRESSED
  | RDL_RECORDS
  | RDL_DEST_COUNT
  | RDL_DEST
  | RDL_SNIP_COUNT
  | RDL_SNIP_MARGIN
  | RDL_SNIP_MAX_W
  | RDL_SNIP_MAX_H
  | RDL_SNIP_SEL
  | RDL_SNIP_STATE
  | RDL_SNIP_LEN
  | RDL_SNIP_ADDR
  | RDL_SNIP_DATA
  | RDL_SNIP_MADE
  | RDL_SNIP_TRUNC
  | RDL_SNIP_LOST
  -- 11_raddle_records.md, R281
  | RDL_ST_COUNT
  | RDL_ST_EN
  | RDL_ST_OUT
  | RDL_ST_DIST
  | RDL_ST_LEAD_US
  | RDL_ST_MODE
  | RDL_ST_PULSE_MIN_US
  | RDL_ST_EXTEND_US
  | RDL_ST_PENDING
  | RDL_ST_FIRED
  | RDL_ST_LATE
  | RDL_ST_MERGED
  -- 12_live_calibration.md, R300
  | CH_CAL_COUNT
  | CH_CAL_EN
  | CH_CAL_TEMP_DELTA
  | CH_CAL_REPEATS
  | CH_CAL_TOL_MAX
  | CH_CAL_FLAT
  | CH_CAL_LOW_MAX
  | CH_CAL_HIGH_MIN
  | CH_CAL_N_MIN
  | CH_CAL_SPREAD_MIN
  | CH_CAL_CHAIN_MAX
  | CH_CAL_LINE_STEP
  -- 12_live_calibration.md, R301
  | CH_CAL_BND_COUNT
  | CH_CAL_GAIN_STEP
  | CH_CAL_GAIN_SPAN
  | CH_CAL_OFF_STEP
  | CH_CAL_OFF_SPAN
  -- 12_live_calibration.md, R302
  | CH_CAL_DPX_COUNT
  | CH_CAL_DPX_LIMIT
  | CH_CAL_DPX_FRAC
  | CH_CAL_DPX_CONFIRM
  | CH_CAL_DPX_AUTO
  | CH_CAL_DPX_MAX
  | CH_CAL_DPX_PROP
  | CH_CAL_DPX_ADDED
  -- 12_live_calibration.md, R303
  | CH_CAL_ST_COUNT
  | CH_CAL_STATE
  | CH_CAL_SEQ
  | CH_CAL_T_REF
  | CH_CAL_GEN
  | CH_CAL_DONE_REPEATS
  | CH_CAL_CYCLES
  | CH_CAL_DISCARDS
  | CH_CAL_UPDATED
  | CH_CAL_STEP_LIM
  | CH_CAL_SPAN_LIM
  | CH_CAL_NODATA
  | CH_CAL_PENDING
  -- 12_live_calibration.md, R304
  | CH_CAL_CMD_COUNT
  | CH_CAL_START
  | CH_CAL_ABORT
  | CH_CAL_SEED
  | CH_CAL_ANC_PLANE
  | CH_CAL_ANC_BASE
  | CH_CAL_ANC_OFF
  | CH_CAL_ANC_GAIN
  -- 12_live_calibration.md, R305
  | CAL_COUNT
  | CAL_POOL_ENTRIES
  | CAL_POOL_USED
  | CAL_STACK_TEMP
  | CAL_STACK_REF
  | CAL_STACK_DELTA
  | CAL_RETRAINS
  | CAL_BUILD_SLOTS
  | CAL_APPLIES
  -- 13_memory_codec.md, R333
  | MEM_COUNT
  | MEM_STATE
  | MEM_REFRESH_NS
  | MEM_REFRESHES
  | MEM_RD_BYTES
  | MEM_WR_BYTES
  | MEM_RETRAIN_STATE
  | MEM_RETRAINS_DONE
  | MEM_RETRAIN_FAIL
  | MEM_RETRAIN_REQ
  | MEM_LANES_REPAIRED
  | MEM_ECC_CORR
  | MEM_ECC_UNCORR
  | MEM_LAT_MAX_NS
  | MEM_RING_DROPS
  | MEM_SW_GBS
  | MEM_SW_ADMIT
  -- 13_memory_codec.md, R334
  | MEM_PD_COUNT
  | MEM_PD_BASE
  | MEM_PD_SIZE
  | MEM_PD_ORDER
  | MEM_PD_RD
  | MEM_PD_WR
  -- 13_memory_codec.md, R335
  | MEM_RQ_COUNT
  | MEM_RQ_HINT
  | MEM_RQ_RESERVED
  | MEM_RQ_LAT_MAX_NS
  -- 13_memory_codec.md, R336
  | FLC_COUNT
  | FLC_DEC_SAMPLES
  | FLC_ENC_SAMPLES
  | FLC_ENC_BYTES
  | FLC_STORED
  | FLC_VERIFY_FAILS
  | FLC_READ_ERR
  | FLC_RATIO
  | FLC_JOB_COUNT
  | FLC_JOB_OP
  | FLC_JOB_KIND
  | FLC_JOB_EFFORT
  | FLC_JOB_SRC
  | FLC_JOB_BLOCKS
  | FLC_JOB_DST
  | FLC_JOB_DST_LEN
  | FLC_JOB_GO
  | FLC_JOB_STATE
  | FLC_JOB_CONSUMED
  | FLC_JOB_PRODUCED
  | FLC_JOB_ERROR
  -- 13_memory_codec.md, R337
  | CRC_U_COUNT
  | CRC_ALG
  | CRC_MODE
  | CRC_ADDR
  | CRC_SEQ
  | CRC_CMD
  | CRC_FEED8
  | CRC_FEED16
  | CRC_FEED24
  | CRC_FEED32
  | CRC_RESULT
  | CRC_EXPECT
  | CRC_CHECK
  | CRC_BYTES
  | CRC_CONTEXT
  -- 14_queues_dma.md, R363
  | QUE_COUNT
  | QUE_ENABLE
  | QUE_DIR
  | QUE_PEER
  | QUE_RING_KIB
  | QUE_POLICY
  | QUE_THRESH_HI
  | QUE_THRESH_LO
  | QUE_MSIX
  | QUE_SUBS
  | QUE_RX_PORT
  | QUE_STATE
  | QUE_FILL
  | QUE_ISEQ
  | QUE_DROPS
  | QUE_BLOCK_DROPS
  | QUE_ETH_DROPS
  -- 14_queues_dma.md, R364
  | DMA_COUNT
  | DMA_CHANNELS
  | DMA_LEASE_MS
  | DMA_SCRATCH_BASE
  -- 14_queues_dma.md, R365
  | DMA_CH_COUNT
  | DMA_ENABLE
  | DMA_CMD
  | DMA_STATE
  | DMA_RING_SPACE
  | DMA_RING_BASE
  | DMA_RING_ENTRIES
  | DMA_CPL_BASE
  | DMA_DOORBELL
  | DMA_HEAD
  | DMA_MSIX
  | DMA_WAIT_US
  | DMA_BYTES
  | DMA_DESCS
  | DMA_FAULT
  -- 14_queues_dma.md, R366
  | PCI_COUNT
  | PCI_LINK_SPEED
  | PCI_LINK_WIDTH
  | PCI_BAR2_WIN
  | PCI_RELAXED
  | PCI_BAR2_WRDISC
  | PCI_POISONED
  | PCI_STALE_REREADS
  | PCI_FLRS
  | PCI_CPL_ERR
  -- 15_trust_journal.md, R382
  | DEV_FW_COUNT
  | DEV_FW_MEAS
  | DEV_FW_VERSION
  | DEV_FW_SVN
  | DEV_FW_SLOT
  | DEV_FW_SVN_MIN
  | DEV_BOOT
  -- 15_trust_journal.md, R383
  | TRU_KEY_COUNT
  | TRU_KEY_STATE
  | TRU_PUBKEY
  | TRU_CERT_SEL
  | TRU_CERT
  | TRU_SIGNED
  | TRU_JRN_COUNT
  | TRU_JRN_HEAD
  | TRU_JRN_DURABLE
  | TRU_JRN_HEAD_HASH
  | TRU_JRN_OLDEST
  | TRU_JRN_SEL
  | TRU_JRN_DATA
  | TRU_JRN_FILL
  | TRU_JRN_REFUSED
  | TRU_HOLD_COUNT
  | TRU_HOLD_SCOPE
  | TRU_HOLD_ID
  | TRU_HOLD_REPEATS
  | TRU_HOLD_SET
  | TRU_HOLD_RELEASE
  | TRU_HOLD_STATE
  | TRU_HOLD_LEFT
  | TRU_HOLD_JSEQ
  | TRU_HOLD_REFUSED
  | TRU_FW_COUNT
  | TRU_FW_SRC
  | TRU_FW_STAGE
  | TRU_FW_STATE
  | TRU_FW_STAGED_MEAS
  | TRU_SVN_LOCK
  -- 16_time_events.md, R407
  | TIM_COUNT
  | TIM_SEC
  | TIM_NS
  | TIM_FRAC
  | TIM_SRC
  | TIM_SET
  | TIM_STEP_NS
  | TIM_RATE
  | TIM_SERVO_STATE
  | TIM_OFFSET
  | TIM_MEAN_PATH
  | TIM_KP
  | TIM_KI
  | TIM_STEP_THRESH
  | TIM_LOCK_NS
  | TIM_STEPS
  | TIM_SNAP_TIME
  | TIM_CLOCK_OK
  -- 16_time_events.md, R408
  | TIM_PTP_COUNT
  | TIM_PTP_ROLE
  | TIM_PTP_PORT
  | TIM_PTP_TRANSPORT
  | TIM_PTP_DOMAIN
  | TIM_PTP_TWO_STEP
  | TIM_PTP_DELAY
  | TIM_TC_EN
  | TIM_PTP_LOG_SYNC
  | TIM_PTP_LOG_ANNOUNCE
  | TIM_PTP_LOG_MIN_DELAY
  | TIM_PTP_PRIORITY
  | TIM_PTP_CLOCK_CLASS
  | TIM_PTP_MASTER
  | TIM_UTC_OFFSET
  | TIM_PORT_COUNT
  | TIM_PORT_ASYM
  | TIM_PORT_LINK_DELAY
  | TIM_PORT_RX
  | TIM_PORT_TX
  | TIM_PORT_FWD
  | TIM_PORT_BAD
  | TIM_PORT_FUP_ORPHAN
  -- 16_time_events.md, R409
  | TIM_TT_COUNT
  | TIM_TT_MODE
  | TIM_TT_POL
  | TIM_TT_START
  | TIM_TT_PERIOD
  | TIM_TT_PERIOD_FRAC
  | TIM_TT_WIDTH
  | TIM_TT_DELAY
  | TIM_TT_ARM
  | TIM_TT_OWNER
  | TIM_TT_FIRED
  | TIM_TT_LATE
  | TIM_TC_COUNT
  | TIM_TC_EDGE
  | TIM_TC_FILTER_NS
  | TIM_TC_LAST
  | TIM_TC_FIFO
  | TIM_TC_EDGES
  | TIM_TC_OVERFLOW
  -- 16_time_events.md, R410
  | EVT_COUNT
  | EVT_QUE_SEL
  | EVT_LINE_COUNT
  | EVT_LINE_SRC
  | EVT_LINE_RETRIG_NS
  | EVT_LINE_ATTR
  | EVT_LINE_OWNER
  | EVT_LINE_LEVEL
  | EVT_LINE_EDGES
  | EVT_LINE_SUPPRESSED
  | EVT_CELL_COUNT
  | EVT_CELL_IN
  | EVT_CELL_TRUTH
  | EVT_CELL_FF
  | EVT_CELL_CLK
  | EVT_CELL_FILTER
  | EVT_CELL_OUT
  | EVT_TASK_COUNT
  | EVT_TASK_SEL0
  | EVT_TASK_SEL1
  | EVT_TASK_ARG
  | EVT_TASK_PENDING
  | EVT_TASK_OVERFLOW
  | EVT_TASK_CLEAR
  -- 17_fold.md, R431
  | FLD_COUNT
  | FLD_ID
  | FLD_STATE
  | FLD_EXPECT
  | FLD_FORM_MS
  | FLD_MEMBERS
  | FLD_UPSTREAM
  | FLD_POS_OFFSET
  | FLD_COMMIT_AT
  | FLD_RELAY_LINE
  | FLD_TJ_MAX
  | FLD_LOST
  | FLD_POS_SLIPS
  | FLD_REPEAT_MISS
  | FLD_JOINS
  -- 17_fold.md, R432
  | FLD_M_COUNT
  | FLD_M_STATE
  | FLD_M_REFUSE
  | FLD_M_SERIAL
  | FLD_M_THETA
  | FLD_M_TWI
  -- 18_clocks_power_faults.md, R456
  | CLK_COUNT
  | CLK_CORE_HZ
  | CLK_CORE_PLL
  | CLK_COAST
  | CLK_FORCED
  | CLK_TIME_SRC
  | CLK_AUTO_RETURN
  | CLK_RETURN
  | CLK_REF_CNT
  | CLK_REF_STATE
  | CLK_REF_WINDOW
  | CLK_REF_FAILS
  | CLK_OUT_COUNT
  | CLK_OUT_SRC
  | CLK_OUT_DIV
  -- 18_clocks_power_faults.md, R457
  | PWR_COUNT
  | PWR_STATE
  | PWR_POINT
  | PWR_POINT_FLOOR
  | PWR_VR_MODE
  | PWR_VR_ADDR
  | PWR_VR_TIMEOUT_US
  | PWR_VDD_CORE_MV
  | PWR_TJ
  | PWR_TJ_PEAK
  | PWR_SLEEP
  | PWR_WAKE_LINE
  | PWR_RESET
  | PWR_RESET_CAUSE
  | PWR_DVFS_MOVES
  -- 18_clocks_power_faults.md, R458
  | FLT_COUNT
  | FLT_ACTIVE
  | FLT_LATCHED
  | FLT_MASK
  | FLT_CLEAR
  | FLT_LAST
  | FLT_LAST_TIME
  | FLT_RAISED
  | FLT_WDOG_MS
  | FLT_LEASE_REVOKED
  | FLT_LEASE_LAST
  | FLT_LEASE_DROPS
  -- 19_twi.md, R473
  | TWI_COUNT
  | TWI_SPEED
  | TWI_RISE_NS
  | TWI_SU_DAT_NS
  | TWI_HD_DAT_NS
  | TWI_STRETCH_MS
  | TWI_RETRY
  | TWI_IDLE_US
  | TWI_BUS_STATE
  | TWI_RISE_MEAS_NS
  -- 19_twi.md, R474
  | TWI_CNT_COUNT
  | TWI_FLAGS
  | TWI_FLAG_CLEAR
  | TWI_ARB_LOST
  | TWI_PROTO_ERR
  | TWI_TIMEOUTS
  | TWI_RECOVERIES
  | TWI_RISE_OVER
  | TWI_TGT_READS
  | TWI_SLEEP_NACKS
  -- 19_twi.md, R475
  | TWI_T_COUNT
  | TWI_T_ADDR
  | TWI_T_WR
  | TWI_T_RD_LEN
  | TWI_T_PEC
  | TWI_T_GO
  | TWI_T_STATUS
  | TWI_T_RD
  | TWI_T_DONE_BYTES
  -- 17_fold.md, R431
  | FLD_CNT_COUNT
  | FLD_LOSSES
  | FLD_LINK_REFUSED
  -- 13_memory_codec.md, R337
  | CRC_COUNT
  | CRC_UNITS
deriving DecidableEq, Repr

end Sys2Proof.Machine
end

