-- ==== Sys2Proof/Machine/Objects.lean ====
section
/-!
DEFINITION. The object table of the dictionary: for each object its index and subindex, how often it repeats, its
type, access class and persistence (R25 to R30), its width in bits and its default value. Every entry is copied from the
object table of the chapter that names the object.
-/
namespace Sys2Proof.Machine

/-- Value types of R26. -/
inductive ObjType where
  | bool | u8 | u16 | u24 | u32 | u48 | u64 | s16 | s32 | str | blob
deriving DecidableEq, Repr

/-- Access classes of R27. -/
inductive Access where
  | const | ro | rw | wo | rws | cmd
deriving DecidableEq, Repr

/-- How often an index repeats: once, `n` times at successive indices, once per channel at a stride of 0x40 (R7, R30), or
four taps in each channel block (R121). -/
inductive Repeat where
  | one
  | units (n : Nat)
  | chan
  | tap
deriving DecidableEq, Repr

/-- One row of an object table: the object, the index of its first instance, its first subindex, how many alike
subindices follow one another, how the index repeats, type, access and persistence. -/
structure ObjRow where
  reg : Reg
  base : Nat
  sub : Nat
  subs : Nat
  rep : Repeat
  ty : ObjType
  acc : Access
  pers : Bool
deriving DecidableEq, Repr

/-- Rows 0 to 59 of the object table. -/
def objRows0 : List ObjRow :=
  [⟨.DEV_ID_COUNT, 0x1000, 0x00, 1, .one, .u8, .const, false⟩,
   ⟨.DEV_VENDOR, 0x1000, 0x01, 1, .one, .str, .const, false⟩,
   ⟨.DEV_FAMILY, 0x1000, 0x02, 1, .one, .str, .const, false⟩,
   ⟨.DEV_PART, 0x1000, 0x03, 1, .one, .str, .const, false⟩,
   ⟨.DEV_SILICON, 0x1000, 0x04, 1, .one, .str, .const, false⟩,
   ⟨.DEV_CH_PRESENT, 0x1000, 0x05, 1, .one, .u16, .const, false⟩,
   ⟨.DEV_DRAM_GIB, 0x1000, 0x06, 1, .one, .u8, .const, false⟩,
   ⟨.DEV_TJ_MAX, 0x1000, 0x07, 1, .one, .u8, .const, false⟩,
   ⟨.DEV_SERIAL, 0x1000, 0x08, 1, .one, .str, .const, false⟩,
   ⟨.DEV_STATE_COUNT, 0x1010, 0x00, 1, .one, .u8, .const, false⟩,
   ⟨.DEV_STATE, 0x1010, 0x01, 1, .one, .u8, .ro, false⟩,
   ⟨.DEV_RUN_REQ, 0x1010, 0x02, 1, .one, .u8, .rws, false⟩,
   ⟨.DEV_STATE_ENTRIES, 0x1010, 0x03, 1, .one, .u32, .ro, false⟩,
   ⟨.DEV_REDUCED, 0x1010, 0x04, 1, .one, .u8, .ro, false⟩,
   ⟨.DEV_DRAM_DEMAND, 0x1010, 0x05, 1, .one, .u16, .ro, false⟩,
   ⟨.DEV_DRAM_USABLE, 0x1010, 0x06, 1, .one, .u16, .ro, false⟩,
   ⟨.SES_COUNT, 0x9000, 0x00, 1, (.units 1024), .u8, .const, false⟩,
   ⟨.SES_STATE, 0x9000, 0x01, 1, (.units 1024), .u8, .ro, false⟩,
   ⟨.SES_TRANSPORT, 0x9000, 0x02, 1, (.units 1024), .u8, .ro, false⟩,
   ⟨.SES_PEER, 0x9000, 0x03, 1, (.units 1024), .blob, .ro, false⟩,
   ⟨.SES_PEER_PORT, 0x9000, 0x04, 1, (.units 1024), .u16, .ro, false⟩,
   ⟨.SES_IDLE_MS, 0x9000, 0x05, 1, (.units 1024), .u32, .ro, false⟩,
   ⟨.SES_SUBS, 0x9000, 0x06, 1, (.units 1024), .u8, .ro, false⟩,
   ⟨.SES_LAST_SEQ, 0x9000, 0x07, 1, (.units 1024), .u32, .ro, false⟩,
   ⟨.SES_PUSH_SEQ, 0x9000, 0x08, 1, (.units 1024), .u32, .ro, false⟩,
   ⟨.SES_CLOSE, 0x9000, 0x09, 1, (.units 1024), .u8, .cmd, false⟩,
   ⟨.COM_COUNT, 0x1100, 0x00, 1, .one, .u8, .const, false⟩,
   ⟨.COM_MAC0, 0x1100, 0x01, 1, .one, .u48, .const, false⟩,
   ⟨.COM_MAC1, 0x1100, 0x02, 1, .one, .u48, .const, false⟩,
   ⟨.COM_IP4_ADDR, 0x1100, 0x03, 1, .one, .u32, .rws, true⟩,
   ⟨.COM_IP4_MASK, 0x1100, 0x04, 1, .one, .u32, .rws, true⟩,
   ⟨.COM_IP4_GW, 0x1100, 0x05, 1, .one, .u32, .rws, true⟩,
   ⟨.COM_IP6_MODE, 0x1100, 0x06, 1, .one, .u8, .rws, true⟩,
   ⟨.COM_IP6_ADDR, 0x1100, 0x07, 1, .one, .blob, .rws, true⟩,
   ⟨.COM_DAP_PORT, 0x1100, 0x08, 1, .one, .u16, .rws, true⟩,
   ⟨.COM_DAP_PORTS, 0x1100, 0x09, 1, .one, .u8, .rws, true⟩,
   ⟨.COM_DAP_DROPS, 0x1100, 0x0A, 1, .one, .u32, .ro, false⟩,
   ⟨.COM_DAP_RX, 0x1100, 0x0B, 1, .one, .u32, .ro, false⟩,
   ⟨.COM_BAR0_COUNT, 0x1108, 0x00, 1, .one, .u8, .const, false⟩,
   ⟨.COM_BAR0_HI, 0x1108, 0x01, 1, .one, .u32, .rw, false⟩,
   ⟨.COM_BAR0_ABORT, 0x1108, 0x02, 1, .one, .u8, .ro, false⟩,
   ⟨.COM_BAR0_ABORT_AT, 0x1108, 0x03, 1, .one, .u32, .ro, false⟩,
   ⟨.COM_BAR0_BULK_SEL, 0x1108, 0x04, 1, .one, .u32, .rw, false⟩,
   ⟨.COM_BAR0_BULK_GO, 0x1108, 0x05, 1, .one, .u32, .cmd, false⟩,
   ⟨.DEV_COMMIT_COUNT, 0x1200, 0x00, 1, .one, .u8, .const, false⟩,
   ⟨.DEV_COMMIT, 0x1200, 0x01, 1, .one, .u32, .cmd, false⟩,
   ⟨.DEV_GEN_LIVE, 0x1200, 0x02, 1, .one, .u32, .ro, false⟩,
   ⟨.DEV_GEN_PENDING, 0x1200, 0x03, 1, .one, .u32, .ro, false⟩,
   ⟨.DEV_GEN_STAGED, 0x1200, 0x04, 1, .one, .u32, .ro, false⟩,
   ⟨.DEV_COMMIT_STATE, 0x1200, 0x05, 1, .one, .u8, .ro, false⟩,
   ⟨.DEV_COMMIT_REFUSED, 0x1200, 0x06, 1, .one, .u32, .ro, false⟩,
   ⟨.DEV_STAGE_DISCARD, 0x1200, 0x07, 1, .one, .u8, .cmd, false⟩,
   ⟨.CH_COMMIT_COUNT, 0x4004, 0x00, 1, .chan, .u8, .const, false⟩,
   ⟨.CH_COMMIT, 0x4004, 0x01, 1, .chan, .u32, .cmd, false⟩,
   ⟨.CH_GEN_LIVE, 0x4004, 0x02, 1, .chan, .u32, .ro, false⟩,
   ⟨.CH_GEN_PENDING, 0x4004, 0x03, 1, .chan, .u32, .ro, false⟩,
   ⟨.CH_GEN_STAGED, 0x4004, 0x04, 1, .chan, .u32, .ro, false⟩,
   ⟨.CH_COMMIT_STATE, 0x4004, 0x05, 1, .chan, .u8, .ro, false⟩,
   ⟨.CH_COMMIT_REFUSED, 0x4004, 0x06, 1, .chan, .u32, .ro, false⟩,
   ⟨.CH_STAGE_DISCARD, 0x4004, 0x07, 1, .chan, .u8, .cmd, false⟩]

/-- Rows 60 to 119 of the object table. -/
def objRows1 : List ObjRow :=
  [⟨.NVS_COUNT, 0x1210, 0x00, 1, .one, .u8, .const, false⟩,
   ⟨.NVS_SAVE, 0x1210, 0x01, 1, .one, .u8, .cmd, false⟩,
   ⟨.NVS_ERASE, 0x1210, 0x02, 1, .one, .u8, .cmd, false⟩,
   ⟨.NVS_ACTIVE, 0x1210, 0x03, 1, .one, .u8, .ro, false⟩,
   ⟨.NVS_SEQ, 0x1210, 0x04, 1, .one, .u32, .ro, false⟩,
   ⟨.NVS_STATE, 0x1210, 0x05, 1, .one, .u8, .ro, false⟩,
   ⟨.NVS_VALID, 0x1210, 0x06, 1, .one, .u8, .ro, false⟩,
   ⟨.NVS_AUTO, 0x1210, 0x07, 1, .one, .bool, .rw, true⟩,
   ⟨.NVS_SKIPPED, 0x1210, 0x08, 1, .one, .u16, .ro, false⟩,
   ⟨.NVS_SAVES, 0x1210, 0x09, 1, .one, .u32, .ro, false⟩,
   ⟨.LNK_COUNT, 0x5000, 0x00, 1, (.units 36), .u8, .const, false⟩,
   ⟨.LNK_ENABLE, 0x5000, 0x01, 1, (.units 36), .bool, .rws, true⟩,
   ⟨.LNK_RUNG_MAX, 0x5000, 0x02, 1, (.units 36), .u8, .rws, true⟩,
   ⟨.LNK_TX_INVERT, 0x5000, 0x03, 1, (.units 36), .bool, .rws, true⟩,
   ⟨.LNK_TX_SLEEP_AUTO, 0x5000, 0x04, 1, (.units 36), .bool, .rws, true⟩,
   ⟨.LNK_STATE, 0x5000, 0x05, 1, (.units 36), .u8, .ro, false⟩,
   ⟨.LNK_RUNG, 0x5000, 0x06, 1, (.units 36), .u8, .ro, false⟩,
   ⟨.LNK_RX_INVERTED, 0x5000, 0x07, 1, (.units 36), .bool, .ro, false⟩,
   ⟨.LNK_FAR_ID, 0x5000, 0x08, 1, (.units 36), .blob, .ro, false⟩,
   ⟨.LNK_TX_EQ, 0x5000, 0x09, 1, (.units 36), .u32, .ro, false⟩,
   ⟨.LNK_FAR_TX_EQ, 0x5000, 0x0A, 1, (.units 36), .u32, .ro, false⟩,
   ⟨.LNK_RX_SNR, 0x5000, 0x0B, 1, (.units 36), .u16, .ro, false⟩,
   ⟨.LNK_SLEEP_STATE, 0x5000, 0x0C, 1, (.units 36), .u8, .ro, false⟩,
   ⟨.LNK_CODE_VIOL, 0x5000, 0x0D, 1, (.units 36), .u32, .ro, false⟩,
   ⟨.LNK_FEC_CORR, 0x5000, 0x0E, 1, (.units 36), .u32, .ro, false⟩,
   ⟨.LNK_FEC_UNCORR, 0x5000, 0x0F, 1, (.units 36), .u32, .ro, false⟩,
   ⟨.LNK_RECOVERIES, 0x5000, 0x10, 1, (.units 36), .u32, .ro, false⟩,
   ⟨.LNK_TRAIN_FAILS, 0x5000, 0x11, 1, (.units 36), .u32, .ro, false⟩,
   ⟨.LNK_TEST, 0x5000, 0x12, 1, (.units 36), .u8, .rw, false⟩,
   ⟨.LNK_TEST_MS, 0x5000, 0x13, 1, (.units 36), .u16, .rw, false⟩,
   ⟨.LNK_TEST_ERR, 0x5000, 0x14, 1, (.units 36), .u32, .ro, false⟩,
   ⟨.CH_LINK_COUNT, 0x4001, 0x00, 1, .chan, .u8, .const, false⟩,
   ⟨.CH_LANE_MASK, 0x4001, 0x01, 1, .chan, .u32, .rws, true⟩,
   ⟨.CH_LINK_STATE, 0x4001, 0x02, 1, .chan, .u8, .ro, false⟩,
   ⟨.CH_LANES_USABLE, 0x4001, 0x03, 1, .chan, .u32, .ro, false⟩,
   ⟨.CH_LANES_EXCLUDED, 0x4001, 0x04, 1, .chan, .u32, .ro, false⟩,
   ⟨.CH_CAM_ID, 0x4001, 0x05, 1, .chan, .blob, .ro, false⟩,
   ⟨.CH_CAM_INFO, 0x4001, 0x06, 1, .chan, .blob, .ro, false⟩,
   ⟨.CH_PREVIEW_STRIDE, 0x4001, 0x07, 1, .chan, .u8, .ro, false⟩,
   ⟨.CH_TIME_OK, 0x4001, 0x08, 1, .chan, .bool, .ro, false⟩,
   ⟨.CH_TIME_OFFSET, 0x4001, 0x09, 1, .chan, .u48, .ro, false⟩,
   ⟨.CH_TIME_RESID, 0x4001, 0x0A, 1, .chan, .s32, .ro, false⟩,
   ⟨.CH_CREG_COUNT, 0x4003, 0x00, 1, .chan, .u8, .const, false⟩,
   ⟨.CH_CREG_ADDR, 0x4003, 0x01, 1, .chan, .u32, .rw, false⟩,
   ⟨.CH_CREG_LEN, 0x4003, 0x02, 1, .chan, .u8, .rw, false⟩,
   ⟨.CH_CREG_DATA, 0x4003, 0x03, 1, .chan, .blob, .rw, false⟩,
   ⟨.CH_CREG_GO, 0x4003, 0x04, 1, .chan, .u8, .cmd, false⟩,
   ⟨.CH_CREG_STATUS, 0x4003, 0x05, 1, .chan, .u8, .ro, false⟩,
   ⟨.CH_CREG_CAMCODE, 0x4003, 0x06, 1, .chan, .u8, .ro, false⟩,
   ⟨.CH_LINKCNT_COUNT, 0x4005, 0x00, 1, .chan, .u8, .const, false⟩,
   ⟨.CH_PKT_RX, 0x4005, 0x01, 1, .chan, .u32, .ro, false⟩,
   ⟨.CH_PKT_HDR, 0x4005, 0x02, 1, .chan, .u32, .ro, false⟩,
   ⟨.CH_PKT_CRC, 0x4005, 0x03, 1, .chan, .u32, .ro, false⟩,
   ⟨.CH_PKT_LOST, 0x4005, 0x04, 1, .chan, .u32, .ro, false⟩,
   ⟨.CH_PKT_REFUSED, 0x4005, 0x05, 1, .chan, .u32, .ro, false⟩,
   ⟨.CH_LINES_DAMAGED, 0x4005, 0x06, 1, .chan, .u32, .ro, false⟩,
   ⟨.CH_LINES_DUP, 0x4005, 0x07, 1, .chan, .u32, .ro, false⟩,
   ⟨.CH_LINE_RESTARTS, 0x4005, 0x08, 1, .chan, .u32, .ro, false⟩,
   ⟨.CH_CTRL_RETRY, 0x4005, 0x09, 1, .chan, .u32, .ro, false⟩,
   ⟨.CH_CTRL_TIMEOUT, 0x4005, 0x0A, 1, .chan, .u32, .ro, false⟩]

/-- Rows 120 to 179 of the object table. -/
def objRows2 : List ObjRow :=
  [⟨.CH_CAM_DROPS, 0x4005, 0x0B, 1, .chan, .u32, .ro, false⟩,
   ⟨.CH_CREDIT_VC0, 0x4005, 0x0C, 1, .chan, .u32, .ro, false⟩,
   ⟨.CH_CREDIT_FAR_VC2, 0x4005, 0x0D, 1, .chan, .u32, .ro, false⟩,
   ⟨.CH_CAMREP_COUNT, 0x4008, 0x00, 1, .chan, .u8, .const, false⟩,
   ⟨.CH_DARK_EVERY, 0x4008, 0x01, 1, .chan, .u8, .rws, true⟩,
   ⟨.CH_STATUS_MS, 0x4008, 0x02, 1, .chan, .u16, .rws, true⟩,
   ⟨.CH_TEMP_MS, 0x4008, 0x03, 1, .chan, .u16, .rws, true⟩,
   ⟨.CH_CTL_COUNT, 0x4000, 0x00, 1, .chan, .u8, .const, false⟩,
   ⟨.CH_ENABLE, 0x4000, 0x01, 1, .chan, .bool, .rws, true⟩,
   ⟨.CH_STATE, 0x4000, 0x02, 1, .chan, .u8, .ro, false⟩,
   ⟨.CH_MODALITY, 0x4000, 0x03, 1, .chan, .u8, .rws, true⟩,
   ⟨.CH_SLICES, 0x4000, 0x04, 1, .chan, .u8, .ro, false⟩,
   ⟨.CH_SLICE_PARTNER, 0x4000, 0x05, 1, .chan, .u8, .ro, false⟩,
   ⟨.CH_SAMPLE_RATE, 0x4000, 0x06, 1, .chan, .u64, .ro, false⟩,
   ⟨.CH_CAMSET_COUNT, 0x4002, 0x00, 1, .chan, .u8, .const, false⟩,
   ⟨.CH_PIXELS, 0x4002, 0x01, 1, .chan, .u16, .rws, true⟩,
   ⟨.CH_DT, 0x4002, 0x02, 1, .chan, .u8, .rws, true⟩,
   ⟨.CH_TRIGGER, 0x4002, 0x03, 1, .chan, .u8, .rws, true⟩,
   ⟨.CH_RATE_MHZ, 0x4002, 0x04, 1, .chan, .u32, .rws, true⟩,
   ⟨.CH_LINE_RATE_MAX, 0x4002, 0x05, 1, .chan, .u32, .rws, true⟩,
   ⟨.CH_EXPOSURE_NS, 0x4002, 0x06, 1, .chan, .u32, .rws, true⟩,
   ⟨.CH_GAIN0, 0x4002, 0x07, 1, .chan, .u16, .rws, true⟩,
   ⟨.CH_GAIN1, 0x4002, 0x08, 1, .chan, .u16, .rws, true⟩,
   ⟨.CH_GAIN2, 0x4002, 0x09, 1, .chan, .u16, .rws, true⟩,
   ⟨.CH_GENS_COUNT, 0x4006, 0x00, 1, .chan, .u8, .const, false⟩,
   ⟨.CH_CAM_GEN_SEEN, 0x4006, 0x01, 1, .chan, .u32, .ro, false⟩,
   ⟨.CH_FRONT_GEN, 0x4006, 0x02, 1, .chan, .u32, .ro, false⟩,
   ⟨.CH_CAMSET_BUSY, 0x4006, 0x03, 1, .chan, .bool, .ro, false⟩,
   ⟨.CH_CAM_FAULT, 0x4006, 0x04, 1, .chan, .u8, .ro, false⟩,
   ⟨.CH_GEN_STALE, 0x4006, 0x05, 1, .chan, .u32, .ro, false⟩,
   ⟨.CH_DISC_OFF, 0x4006, 0x06, 1, .chan, .u32, .ro, false⟩,
   ⟨.CH_FRONT_COUNT, 0x4010, 0x00, 1, .chan, .u8, .const, false⟩,
   ⟨.CH_BLACK_EN, 0x4010, 0x01, 1, .chan, .bool, .rws, true⟩,
   ⟨.CH_BLACK_SHIFT, 0x4010, 0x02, 1, .chan, .u8, .rws, true⟩,
   ⟨.CH_BLACK_MANUAL, 0x4010, 0x03, 1, .chan, .u24, .rws, true⟩,
   ⟨.CH_DPC_EN, 0x4010, 0x04, 1, .chan, .bool, .rws, true⟩,
   ⟨.CH_SHADE_EN, 0x4010, 0x05, 1, .chan, .bool, .rws, true⟩,
   ⟨.CH_BLACK0, 0x4010, 0x06, 1, .chan, .u24, .ro, false⟩,
   ⟨.CH_BLACK1, 0x4010, 0x07, 1, .chan, .u24, .ro, false⟩,
   ⟨.CH_BLACK2, 0x4010, 0x08, 1, .chan, .u24, .ro, false⟩,
   ⟨.CH_BOFF_COUNT, 0x4011, 0x00, 1, .chan, .u8, .const, false⟩,
   ⟨.CH_BOFF_PLANE, 0x4011, 0x01, 1, .chan, .u8, .rw, false⟩,
   ⟨.CH_BOFF_BASE, 0x4011, 0x02, 1, .chan, .u16, .rw, false⟩,
   ⟨.CH_BOFF_DATA, 0x4011, 0x03, 1, .chan, .blob, .rws, false⟩,
   ⟨.CH_DPM_COUNT, 0x4012, 0x00, 1, .chan, .u8, .const, false⟩,
   ⟨.CH_DPM_DATA, 0x4012, 0x01, 1, .chan, .blob, .rws, false⟩,
   ⟨.CH_DPM_ENTRIES, 0x4012, 0x02, 1, .chan, .u16, .ro, false⟩,
   ⟨.CH_SHADE_COUNT, 0x4013, 0x00, 1, .chan, .u8, .const, false⟩,
   ⟨.CH_SHADE_PLANE, 0x4013, 0x01, 1, .chan, .u8, .rw, false⟩,
   ⟨.CH_SHADE_BASE, 0x4013, 0x02, 1, .chan, .u16, .rw, false⟩,
   ⟨.CH_SHADE_DATA, 0x4013, 0x03, 1, .chan, .blob, .rws, false⟩,
   ⟨.CH_TAP_COUNT, 0x400C, 0x00, 1, .tap, .u8, .const, false⟩,
   ⟨.CH_TAP_ENABLE, 0x400C, 0x01, 1, .tap, .bool, .rws, true⟩,
   ⟨.CH_TAP_POINT, 0x400C, 0x02, 1, .tap, .u8, .rws, true⟩,
   ⟨.CH_TAP_QUEUE, 0x400C, 0x03, 1, .tap, .u16, .rws, true⟩,
   ⟨.CH_TAP_EVERY, 0x400C, 0x04, 1, .tap, .u16, .rws, true⟩,
   ⟨.CH_TAP_FIRST, 0x400C, 0x05, 1, .tap, .u16, .rws, true⟩,
   ⟨.CH_TAP_WIDTH, 0x400C, 0x06, 1, .tap, .u16, .rws, true⟩,
   ⟨.CH_TAP_FORMAT, 0x400C, 0x07, 1, .tap, .u8, .rws, true⟩,
   ⟨.CH_TAP_BLIND, 0x400C, 0x08, 1, .tap, .bool, .rws, true⟩]

/-- Rows 180 to 239 of the object table. -/
def objRows3 : List ObjRow :=
  [⟨.CH_TAP_LINES, 0x400C, 0x09, 1, .tap, .u32, .ro, false⟩,
   ⟨.CH_TAP_DROPS, 0x400C, 0x0A, 1, .tap, .u32, .ro, false⟩,
   ⟨.CH_STAT_COUNT, 0x4030, 0x00, 1, .chan, .u8, .const, false⟩,
   ⟨.CH_STAT_GEN, 0x4030, 0x01, 1, .chan, .u32, .ro, false⟩,
   ⟨.CH_STAT_LINES, 0x4030, 0x02, 1, .chan, .u32, .ro, false⟩,
   ⟨.CH_STAT_BLIND, 0x4030, 0x03, 1, .chan, .u32, .ro, false⟩,
   ⟨.CH_STAT_SAT, 0x4030, 0x04, 1, .chan, .u32, .ro, false⟩,
   ⟨.CH_STAT_CLIP, 0x4030, 0x05, 1, .chan, .u32, .ro, false⟩,
   ⟨.CH_STATP_GEN, 0x4030, 0x06, 1, .chan, .u32, .ro, false⟩,
   ⟨.CH_STATP_LINES, 0x4030, 0x07, 1, .chan, .u32, .ro, false⟩,
   ⟨.CH_STATP_BLIND, 0x4030, 0x08, 1, .chan, .u32, .ro, false⟩,
   ⟨.CH_STATP_SAT, 0x4030, 0x09, 1, .chan, .u32, .ro, false⟩,
   ⟨.CH_STATP_CLIP, 0x4030, 0x0A, 1, .chan, .u32, .ro, false⟩,
   ⟨.POS_SRC_COUNT, 0x2200, 0x00, 1, .one, .u8, .const, false⟩,
   ⟨.POS_SRC_PRIMARY, 0x2200, 0x01, 1, .one, .u8, .rws, true⟩,
   ⟨.POS_SRC_BACKUP, 0x2200, 0x02, 1, .one, .u8, .rws, true⟩,
   ⟨.POS_QUALITY, 0x2200, 0x03, 1, .one, .u8, .ro, false⟩,
   ⟨.POS_COAST_MS, 0x2200, 0x04, 1, .one, .u16, .rws, true⟩,
   ⟨.POS_REARM, 0x2200, 0x05, 1, .one, .u8, .cmd, false⟩,
   ⟨.POS_FILTER_NS, 0x2200, 0x06, 1, .one, .u8, .rws, true⟩,
   ⟨.POS_STOP_MS, 0x2200, 0x07, 1, .one, .u16, .rws, true⟩,
   ⟨.POS_ENC_COUNT, 0x2201, 0x00, 1, (.units 3), .u8, .const, false⟩,
   ⟨.POS_ENC_STEP, 0x2201, 0x01, 1, (.units 3), .u32, .rws, true⟩,
   ⟨.POS_ENC_INVERT, 0x2201, 0x02, 1, (.units 3), .bool, .rws, true⟩,
   ⟨.POS_ENC_TERM, 0x2201, 0x03, 1, (.units 3), .bool, .rws, true⟩,
   ⟨.POS_ENC_Z_MODE, 0x2201, 0x04, 1, (.units 3), .u8, .rws, true⟩,
   ⟨.POS_ENC_Z_COUNTS, 0x2201, 0x05, 1, (.units 3), .u32, .rws, true⟩,
   ⟨.POS_ENC_RAW, 0x2201, 0x06, 1, (.units 3), .u32, .ro, false⟩,
   ⟨.POS_ENC_STATE, 0x2201, 0x07, 1, (.units 3), .u8, .ro, false⟩,
   ⟨.POS_ERR, 0x2201, 0x08, 1, (.units 3), .u32, .ro, false⟩,
   ⟨.POS_Z_COUNT, 0x2201, 0x09, 1, (.units 3), .u32, .ro, false⟩,
   ⟨.POS_Z_ERR, 0x2201, 0x0A, 1, (.units 3), .u32, .ro, false⟩,
   ⟨.POS_Z_POS, 0x2201, 0x0B, 1, (.units 3), .u64, .ro, false⟩,
   ⟨.POS_Z_TIME, 0x2201, 0x0C, 1, (.units 3), .u64, .ro, false⟩,
   ⟨.POS_POS_COUNT, 0x2204, 0x00, 1, .one, .u8, .const, false⟩,
   ⟨.POS_POSITION, 0x2204, 0x01, 1, .one, .u64, .ro, false⟩,
   ⟨.POS_TIME, 0x2204, 0x02, 1, .one, .u64, .ro, false⟩,
   ⟨.POS_SPEED, 0x2204, 0x03, 1, .one, .s32, .ro, false⟩,
   ⟨.POS_DIR, 0x2204, 0x04, 1, .one, .u8, .ro, false⟩,
   ⟨.POS_STOPPED, 0x2204, 0x05, 1, .one, .bool, .ro, false⟩,
   ⟨.POS_SPEED_WIN_US, 0x2204, 0x06, 1, .one, .u16, .rws, true⟩,
   ⟨.POS_DIR_CHANGES, 0x2204, 0x07, 1, .one, .u32, .ro, false⟩,
   ⟨.POS_FAILOVERS, 0x2204, 0x08, 1, .one, .u32, .ro, false⟩,
   ⟨.POS_EMU_COUNT, 0x2208, 0x00, 1, (.units 4), .u8, .const, false⟩,
   ⟨.POS_EMU_ENABLE, 0x2208, 0x01, 1, (.units 4), .bool, .rws, true⟩,
   ⟨.POS_EMU_SOURCE, 0x2208, 0x02, 1, (.units 4), .u8, .rws, true⟩,
   ⟨.POS_EMU_N, 0x2208, 0x03, 1, (.units 4), .u16, .rws, true⟩,
   ⟨.POS_EMU_M, 0x2208, 0x04, 1, (.units 4), .u16, .rws, true⟩,
   ⟨.POS_EMU_FORM, 0x2208, 0x05, 1, (.units 4), .u8, .rws, true⟩,
   ⟨.POS_EMU_PULSE_NS, 0x2208, 0x06, 1, (.units 4), .u16, .rws, true⟩,
   ⟨.POS_EMU_REVERSE, 0x2208, 0x07, 1, (.units 4), .u8, .rws, true⟩,
   ⟨.POS_EMU_INTERP, 0x2208, 0x08, 1, (.units 4), .bool, .rws, true⟩,
   ⟨.POS_EMU_Z_EVERY, 0x2208, 0x09, 1, (.units 4), .u32, .rws, true⟩,
   ⟨.POS_EMU_OUT, 0x2208, 0x0A, 1, (.units 4), .u32, .ro, false⟩,
   ⟨.POS_EMU_BACKLOG, 0x2208, 0x0B, 1, (.units 4), .u16, .ro, false⟩,
   ⟨.POS_EMU_DROPS, 0x2208, 0x0C, 1, (.units 4), .u32, .ro, false⟩,
   ⟨.CH_RS_COUNT, 0x4018, 0x00, 1, .chan, .u8, .const, false⟩,
   ⟨.CH_RS_PITCH, 0x4018, 0x01, 1, .chan, .u32, .rws, true⟩,
   ⟨.CH_RS_FILTER, 0x4018, 0x02, 1, .chan, .u8, .rws, true⟩,
   ⟨.CH_RS_RATIO, 0x4018, 0x03, 1, .chan, .u32, .ro, false⟩]

/-- Rows 240 to 299 of the object table. -/
def objRows4 : List ObjRow :=
  [⟨.CH_RS_BANK, 0x4018, 0x04, 1, .chan, .u8, .ro, false⟩,
   ⟨.CH_RS_QUALITY, 0x4018, 0x05, 1, .chan, .u8, .ro, false⟩,
   ⟨.CH_RS_LINE, 0x4018, 0x06, 1, .chan, .u32, .ro, false⟩,
   ⟨.CH_RS_Y, 0x4018, 0x07, 1, .chan, .u64, .ro, false⟩,
   ⟨.CH_RS_COEF_COUNT, 0x4019, 0x00, 1, .chan, .u8, .const, false⟩,
   ⟨.CH_RS_USER_KIND, 0x4019, 0x01, 1, .chan, .u8, .rws, true⟩,
   ⟨.CH_RS_USER_COEF, 0x4019, 0x02, 1, .chan, .blob, .rws, true⟩,
   ⟨.CH_RS_BUILTIN_SEL, 0x4019, 0x03, 1, .chan, .u8, .rw, false⟩,
   ⟨.CH_RS_BUILTIN, 0x4019, 0x04, 1, .chan, .blob, .ro, false⟩,
   ⟨.CH_PH_COUNT, 0x401A, 0x00, 1, .chan, .u8, .const, false⟩,
   ⟨.CH_PH_DELAY, 0x401A, 0x01, 1, .chan, .u32, .rws, true⟩,
   ⟨.CH_PH_PLANE1, 0x401A, 0x02, 1, .chan, .s32, .rws, true⟩,
   ⟨.CH_PH_PLANE2, 0x401A, 0x03, 1, .chan, .s32, .rws, true⟩,
   ⟨.CH_DCB_COUNT, 0x401B, 0x00, 1, .chan, .u8, .const, false⟩,
   ⟨.CH_DCB_EN, 0x401B, 0x01, 1, .chan, .bool, .rws, true⟩,
   ⟨.CH_DCB_SHIFT, 0x401B, 0x02, 1, .chan, .u8, .rws, true⟩,
   ⟨.CH_DCB_LEVEL, 0x401B, 0x03, 1, .chan, .u24, .rws, true⟩,
   ⟨.CH_DCB_GATE, 0x401B, 0x04, 1, .chan, .u24, .rws, true⟩,
   ⟨.CH_DCB_FREEZE, 0x401B, 0x05, 1, .chan, .bool, .rw, false⟩,
   ⟨.CH_DCB_FROZEN, 0x401B, 0x06, 1, .chan, .bool, .ro, false⟩,
   ⟨.CH_DCB_HOLD_LINE, 0x401B, 0x07, 1, .chan, .u8, .rws, true⟩,
   ⟨.CH_RS_CNT_COUNT, 0x401C, 0x00, 1, .chan, .u8, .const, false⟩,
   ⟨.CH_RS_OUT, 0x401C, 0x01, 1, .chan, .u32, .ro, false⟩,
   ⟨.CH_RS_OVERSPEED, 0x401C, 0x02, 1, .chan, .u32, .ro, false⟩,
   ⟨.CH_RS_NONADV, 0x401C, 0x03, 1, .chan, .u32, .ro, false⟩,
   ⟨.CH_RS_ALIAS, 0x401C, 0x04, 1, .chan, .u32, .ro, false⟩,
   ⟨.CH_RS_CLIP, 0x401C, 0x05, 1, .chan, .u32, .ro, false⟩,
   ⟨.POS_GRID_COUNT, 0x220C, 0x00, 1, .one, .u8, .const, false⟩,
   ⟨.POS_DECSYNC_EN, 0x220C, 0x01, 1, .one, .bool, .rws, true⟩,
   ⟨.POS_DECSYNC_EDGE, 0x220C, 0x02, 1, .one, .u8, .rws, true⟩,
   ⟨.POS_GRID_ORIGIN, 0x220C, 0x03, 1, .one, .u64, .ro, false⟩,
   ⟨.POS_DECSYNC_POS, 0x220C, 0x04, 1, .one, .u64, .ro, false⟩,
   ⟨.POS_DECSYNC_COUNT, 0x220C, 0x05, 1, .one, .u32, .ro, false⟩,
   ⟨.POS_GRID_SET, 0x220C, 0x06, 1, .one, .u64, .cmd, false⟩,
   ⟨.CH_STI_COUNT, 0x4020, 0x00, 1, .chan, .u8, .const, false⟩,
   ⟨.CH_STI_SET, 0x4020, 0x01, 1, .chan, .u8, .rws, true⟩,
   ⟨.CH_STI_A0, 0x4020, 0x02, 1, .chan, .s32, .rws, true⟩,
   ⟨.CH_STI_A1, 0x4020, 0x03, 1, .chan, .s32, .rws, true⟩,
   ⟨.CH_STI_A2, 0x4020, 0x04, 1, .chan, .s32, .rws, true⟩,
   ⟨.CH_STI_A3, 0x4020, 0x05, 1, .chan, .s32, .rws, true⟩,
   ⟨.CH_STI_FIRST, 0x4020, 0x06, 1, .chan, .u16, .rws, true⟩,
   ⟨.CH_STI_LAST, 0x4020, 0x07, 1, .chan, .u16, .rws, true⟩,
   ⟨.CH_STI_TRIM, 0x4020, 0x08, 1, .chan, .s32, .ro, false⟩,
   ⟨.CH_STI_OVL_OFFSET, 0x4020, 0x09, 1, .chan, .s32, .ro, false⟩,
   ⟨.CH_STI_FLAGS, 0x4020, 0x0A, 1, .chan, .u8, .ro, false⟩,
   ⟨.CH_STI_LATE, 0x4020, 0x0B, 1, .chan, .u32, .ro, false⟩,
   ⟨.STI_COUNT, 0x6000, 0x00, 1, .one, .u8, .const, false⟩,
   ⟨.STI_ANCHOR_MIN, 0x6000, 0x01, 1, .one, .u32, .rws, true⟩,
   ⟨.STI_NCC_MIN, 0x6000, 0x02, 1, .one, .u16, .rws, true⟩,
   ⟨.STI_RATE, 0x6000, 0x03, 1, .one, .u16, .rws, true⟩,
   ⟨.STI_LOSS_ROWS, 0x6000, 0x04, 1, .one, .u16, .rws, true⟩,
   ⟨.STI_ACQ_MIN, 0x6000, 0x05, 1, .one, .u8, .rws, true⟩,
   ⟨.STI_REFINE_LINES, 0x6000, 0x06, 1, .one, .u32, .rws, true⟩,
   ⟨.STI_TRIM_STEP, 0x6000, 0x07, 1, .one, .u16, .rws, true⟩,
   ⟨.STI_TRIM_MAX, 0x6000, 0x08, 1, .one, .u16, .rws, true⟩,
   ⟨.STI_MARK_SRC, 0x6000, 0x09, 1, .one, .u8, .rws, true⟩,
   ⟨.STI_MARK_DIST, 0x6000, 0x0A, 1, .one, .s32, .rws, true⟩,
   ⟨.STI_MARK_WIN_PPM, 0x6000, 0x0B, 1, .one, .u32, .rws, true⟩,
   ⟨.STI_STRETCH_SHIFT, 0x6000, 0x0C, 1, .one, .u8, .rws, true⟩,
   ⟨.STI_STRETCH_MAX_PPM, 0x6000, 0x0D, 1, .one, .u32, .rws, true⟩]

/-- Rows 300 to 359 of the object table. -/
def objRows5 : List ObjRow :=
  [⟨.STI_STRETCH_PPM, 0x6000, 0x0E, 1, .one, .s32, .ro, false⟩,
   ⟨.STI_STRETCH_FIXED_PPM, 0x6000, 0x0F, 1, .one, .s32, .rws, true⟩,
   ⟨.STI_REPEAT, 0x6000, 0x10, 1, .one, .u32, .ro, false⟩,
   ⟨.STI_REPEAT_Y, 0x6000, 0x11, 1, .one, .u64, .ro, false⟩,
   ⟨.STI_MARKS_MISSED, 0x6000, 0x12, 1, .one, .u32, .ro, false⟩,
   ⟨.STI_MARKS_EXTRA, 0x6000, 0x13, 1, .one, .u32, .ro, false⟩,
   ⟨.STI_REPEAT_SET, 0x6000, 0x14, 1, .one, .u8, .rws, true⟩,
   ⟨.STI_SET_COUNT, 0x6010, 0x00, 1, (.units 8), .u8, .const, false⟩,
   ⟨.STI_SET_X0, 0x6010, 0x01, 1, (.units 8), .s32, .rws, true⟩,
   ⟨.STI_SET_WIDTH, 0x6010, 0x02, 1, (.units 8), .u32, .rws, true⟩,
   ⟨.STI_SET_REF, 0x6010, 0x03, 1, (.units 8), .u8, .rws, true⟩,
   ⟨.STI_SET_BLEND_W, 0x6010, 0x04, 1, (.units 8), .u16, .rws, true⟩,
   ⟨.STI_SET_TRIM_EN, 0x6010, 0x05, 1, (.units 8), .bool, .rws, true⟩,
   ⟨.STI_REG_EN, 0x6010, 0x06, 1, (.units 8), .bool, .rws, true⟩,
   ⟨.STI_REG_PLANE, 0x6010, 0x07, 1, (.units 8), .u8, .rws, true⟩,
   ⟨.STI_REG_STATE, 0x6010, 0x08, 1, (.units 8), .u8, .ro, false⟩,
   ⟨.STI_REG_VALID, 0x6010, 0x09, 1, (.units 8), .u16, .ro, false⟩,
   ⟨.STI_REG_DX, 0x6010, 0x0A, 1, (.units 8), .s32, .ro, false⟩,
   ⟨.STI_REG_DY, 0x6010, 0x0B, 1, (.units 8), .s32, .ro, false⟩,
   ⟨.STI_UNREG_LINES, 0x6010, 0x0C, 1, (.units 8), .u32, .ro, false⟩,
   ⟨.STI_OUTSIDE, 0x6010, 0x0D, 1, (.units 8), .u32, .ro, false⟩,
   ⟨.STI_HEFT_REREAD, 0x6010, 0x0E, 1, (.units 8), .u32, .ro, false⟩,
   ⟨.STI_MEMBERS, 0x6010, 0x0F, 1, (.units 8), .u16, .ro, false⟩,
   ⟨.HFT_COUNT, 0x6100, 0x00, 1, .one, .u8, .const, false⟩,
   ⟨.HFT_JOB_ID, 0x6100, 0x01, 1, .one, .u32, .rws, true⟩,
   ⟨.HFT_LEARN_REPEATS, 0x6100, 0x02, 1, .one, .u8, .rws, true⟩,
   ⟨.HFT_RUN_PADDOCK, 0x6100, 0x03, 1, .one, .u8, .ro, false⟩,
   ⟨.HFT_RUN_GEN, 0x6100, 0x04, 1, .one, .u32, .ro, false⟩,
   ⟨.HFT_TILES_TOTAL, 0x6100, 0x05, 1, .one, .u32, .ro, false⟩,
   ⟨.HFT_TILES_DONE, 0x6100, 0x06, 1, .one, .u32, .ro, false⟩,
   ⟨.HFT_NOSPACE, 0x6100, 0x07, 1, .one, .u32, .ro, false⟩,
   ⟨.HFT_TILE_MISSES, 0x6100, 0x08, 1, .one, .u32, .ro, false⟩,
   ⟨.HFT_SEAL_FAILS, 0x6100, 0x09, 1, .one, .u32, .ro, false⟩,
   ⟨.HFT_SWAPS, 0x6100, 0x0A, 1, .one, .u32, .ro, false⟩,
   ⟨.HFT_RULE_COUNT, 0x6104, 0x00, 1, .one, .u8, .const, false⟩,
   ⟨.HFT_TOL_GAIN, 0x6104, 0x01, 1, .one, .u8, .rws, true⟩,
   ⟨.HFT_TOL_FLOOR, 0x6104, 0x02, 1, .one, .u8, .rws, true⟩,
   ⟨.HFT_SHIFT_MAX, 0x6104, 0x03, 1, .one, .u8, .rws, true⟩,
   ⟨.HFT_OUT_GAIN, 0x6104, 0x04, 1, .one, .u8, .rws, true⟩,
   ⟨.HFT_OUT_MIN, 0x6104, 0x05, 1, .one, .u24, .rws, true⟩,
   ⟨.HFT_CONF_MAX, 0x6104, 0x06, 1, .one, .u8, .rws, true⟩,
   ⟨.HFT_EDGE_MIN, 0x6104, 0x07, 1, .one, .u24, .rws, true⟩,
   ⟨.HFT_LEARN_TOL_MIN, 0x6104, 0x08, 1, .one, .u8, .rws, true⟩,
   ⟨.HFT_LEARN_EFFORT, 0x6104, 0x09, 1, .one, .u8, .rws, true⟩,
   ⟨.HFT_SEAL_EFFORT, 0x6104, 0x0A, 1, .one, .u8, .rws, true⟩,
   ⟨.HFT_PD_COUNT, 0x6101, 0x00, 1, (.units 2), .u8, .const, false⟩,
   ⟨.HFT_PD_STATE, 0x6101, 0x01, 1, (.units 2), .u8, .ro, false⟩,
   ⟨.HFT_PD_ROLE, 0x6101, 0x02, 1, (.units 2), .u8, .ro, false⟩,
   ⟨.HFT_PD_JOB, 0x6101, 0x03, 1, (.units 2), .u32, .ro, false⟩,
   ⟨.HFT_PD_GEN, 0x6101, 0x04, 1, (.units 2), .u32, .ro, false⟩,
   ⟨.HFT_PD_ORIGIN, 0x6101, 0x05, 1, (.units 2), .u8, .ro, false⟩,
   ⟨.HFT_PD_SAMPLES, 0x6101, 0x06, 1, (.units 2), .u64, .ro, false⟩,
   ⟨.HFT_PD_BYTES, 0x6101, 0x07, 1, (.units 2), .u64, .ro, false⟩,
   ⟨.HFT_PD_CAPACITY, 0x6101, 0x08, 1, (.units 2), .u64, .const, false⟩,
   ⟨.HFT_PD_DIGEST, 0x6101, 0x09, 1, (.units 2), .blob, .ro, false⟩,
   ⟨.HFT_PD_CONF_PPM, 0x6101, 0x0A, 1, (.units 2), .u32, .ro, false⟩,
   ⟨.HFT_LOAD_COUNT, 0x6108, 0x00, 1, .one, .u8, .const, false⟩,
   ⟨.HFT_LOAD_QUEUE, 0x6108, 0x01, 1, .one, .u16, .rw, true⟩,
   ⟨.HFT_LOAD_BEGIN, 0x6108, 0x02, 1, .one, .u32, .cmd, false⟩,
   ⟨.HFT_LOAD_END, 0x6108, 0x03, 1, .one, .u32, .cmd, false⟩]

/-- Rows 360 to 419 of the object table. -/
def objRows6 : List ObjRow :=
  [⟨.HFT_LOAD_ABORT, 0x6108, 0x04, 1, .one, .u8, .cmd, false⟩,
   ⟨.HFT_LOAD_BLOCKS, 0x6108, 0x05, 1, .one, .u32, .ro, false⟩,
   ⟨.HFT_LOAD_MISSING, 0x6108, 0x06, 1, .one, .u32, .ro, false⟩,
   ⟨.HFT_LOAD_REFUSED, 0x6108, 0x07, 1, .one, .u32, .ro, false⟩,
   ⟨.HFT_SET_COUNT, 0x6110, 0x00, 1, (.units 8), .u8, .const, false⟩,
   ⟨.HFT_SET_LINES, 0x6110, 0x01, 1, (.units 8), .u32, .rws, true⟩,
   ⟨.HFT_LOAD_COLS, 0x6110, 0x02, 1, (.units 8), .u32, .rw, false⟩,
   ⟨.HFT_LOAD_LINES, 0x6110, 0x03, 1, (.units 8), .u32, .rw, false⟩,
   ⟨.HFT_LOAD_PLANES, 0x6110, 0x04, 1, (.units 8), .u8, .rw, false⟩,
   ⟨.HFT_RUN_COLS, 0x6110, 0x05, 1, (.units 8), .u32, .ro, false⟩,
   ⟨.HFT_RUN_LINES, 0x6110, 0x06, 1, (.units 8), .u32, .ro, false⟩,
   ⟨.HFT_SB_COLS, 0x6110, 0x07, 1, (.units 8), .u32, .ro, false⟩,
   ⟨.CMP_COUNT, 0x6200, 0x00, 1, .one, .u8, .const, false⟩,
   ⟨.CMP_EN, 0x6200, 0x01, 1, .one, .bool, .rws, true⟩,
   ⟨.CMP_RESOLUTION, 0x6200, 0x02, 1, .one, .u8, .ro, false⟩,
   ⟨.CMP_COMPARED, 0x6200, 0x03, 1, .one, .u64, .ro, false⟩,
   ⟨.CMP_FLAGGED, 0x6200, 0x04, 1, .one, .u64, .ro, false⟩,
   ⟨.CMP_MASKED, 0x6200, 0x05, 1, .one, .u64, .ro, false⟩,
   ⟨.CMP_SAT, 0x6200, 0x06, 1, .one, .u64, .ro, false⟩,
   ⟨.CMP_CLS_COUNT, 0x6210, 0x00, 1, .one, .u8, .const, false⟩,
   ⟨.CMP_CLS_PLAIN, 0x6210, 0x01, 1, .one, .u32, .rws, true⟩,
   ⟨.CMP_CLS_UNCONF, 0x6210, 0x02, 1, .one, .u32, .rws, true⟩,
   ⟨.CMP_CLS_EDGE, 0x6210, 0x03, 1, .one, .u32, .rws, true⟩,
   ⟨.CMP_CLS_VAR, 0x6210, 0x04, 1, .one, .u32, .rws, true⟩,
   ⟨.CMP_CLS_DIE, 0x6210, 0x05, 1, .one, .u32, .rws, true⟩,
   ⟨.CMP_CLSX_COUNT, 0x6218, 0x00, 1, .one, .u8, .const, false⟩,
   ⟨.CMP_CLS_LEARN, 0x6218, 0x01, 1, .one, .u32, .rws, true⟩,
   ⟨.CMP_CLS_PREVIEW, 0x6218, 0x02, 1, .one, .u32, .rws, true⟩,
   ⟨.PEN_COUNT, 0x6300, 0x00, 1, .one, .u8, .const, false⟩,
   ⟨.PEN_MAX_LINES, 0x6300, 0x01, 1, .one, .u16, .rws, true⟩,
   ⟨.PEN_BLIND_BRIDGE, 0x6300, 0x02, 1, .one, .u8, .rws, true⟩,
   ⟨.PEN_RESERVE, 0x6300, 0x03, 1, .one, .u32, .rws, true⟩,
   ⟨.PEN_XDEV_TIMEOUT_MS, 0x6300, 0x04, 1, .one, .u16, .rws, true⟩,
   ⟨.PEN_OPEN, 0x6300, 0x05, 1, .one, .u32, .ro, false⟩,
   ⟨.PEN_OPEN_PEAK, 0x6300, 0x06, 1, .one, .u32, .ro, false⟩,
   ⟨.PEN_CLOSED, 0x6300, 0x07, 1, .one, .u32, .ro, false⟩,
   ⟨.PEN_MERGES, 0x6300, 0x08, 1, .one, .u32, .ro, false⟩,
   ⟨.PEN_SPLITS, 0x6300, 0x09, 1, .one, .u32, .ro, false⟩,
   ⟨.PEN_OVF_RUNS, 0x6300, 0x0A, 1, .one, .u32, .ro, false⟩,
   ⟨.PEN_FRAGMENTS, 0x6300, 0x0B, 1, .one, .u32, .ro, false⟩,
   ⟨.PEN_PARTIAL, 0x6300, 0x0C, 1, .one, .u32, .ro, false⟩,
   ⟨.PEN_XDEV_OPEN, 0x6300, 0x0D, 1, .one, .u16, .ro, false⟩,
   ⟨.PEN_SET_CNT, 0x6310, 0x00, 1, (.units 8), .u8, .const, false⟩,
   ⟨.PEN_SET_EDGE, 0x6310, 0x01, 1, (.units 8), .u8, .rws, true⟩,
   ⟨.PEN_SET_OPEN, 0x6310, 0x02, 1, (.units 8), .u32, .ro, false⟩,
   ⟨.PEN_SET_OVF, 0x6310, 0x03, 1, (.units 8), .bool, .ro, false⟩,
   ⟨.PEN_SET_OVF_RUNS, 0x6310, 0x04, 1, (.units 8), .u32, .ro, false⟩,
   ⟨.PEN_SET_BLIND, 0x6310, 0x05, 1, (.units 8), .u32, .ro, false⟩,
   ⟨.RDL_R_COUNT, 0x6440, 0x00, 1, (.units 32), .u8, .const, false⟩,
   ⟨.RDL_R_EN, 0x6440, 0x01, 1, (.units 32), .bool, .rws, true⟩,
   ⟨.RDL_R_SETS, 0x6440, 0x02, 1, (.units 32), .u8, .rws, true⟩,
   ⟨.RDL_R_CLASSES, 0x6440, 0x03, 1, (.units 32), .u8, .rws, true⟩,
   ⟨.RDL_R_POL, 0x6440, 0x04, 1, (.units 32), .u8, .rws, true⟩,
   ⟨.RDL_R_AREA_MIN, 0x6440, 0x05, 1, (.units 32), .u32, .rws, true⟩,
   ⟨.RDL_R_AREA_MAX, 0x6440, 0x06, 1, (.units 32), .u32, .rws, true⟩,
   ⟨.RDL_R_PEAK_MIN, 0x6440, 0x07, 1, (.units 32), .u16, .rws, true⟩,
   ⟨.RDL_R_MEAN_MIN, 0x6440, 0x08, 1, (.units 32), .u16, .rws, true⟩,
   ⟨.RDL_R_WIDTH_MIN, 0x6440, 0x09, 1, (.units 32), .u32, .rws, true⟩,
   ⟨.RDL_R_LEN_MIN, 0x6440, 0x0A, 1, (.units 32), .u32, .rws, true⟩,
   ⟨.RDL_R_FLAGS_REQ, 0x6440, 0x0B, 1, (.units 32), .u16, .rws, true⟩]

/-- Rows 420 to 479 of the object table. -/
def objRows7 : List ObjRow :=
  [⟨.RDL_R_FLAGS_NOT, 0x6440, 0x0C, 1, (.units 32), .u16, .rws, true⟩,
   ⟨.RDL_R_CLASS, 0x6440, 0x0D, 1, (.units 32), .u8, .rws, true⟩,
   ⟨.RDL_R_SEV, 0x6440, 0x0E, 1, (.units 32), .u8, .rws, true⟩,
   ⟨.RDL_R_ACTION, 0x6440, 0x0F, 1, (.units 32), .u8, .rws, true⟩,
   ⟨.RDL_R_REJECT, 0x6440, 0x10, 1, (.units 32), .u8, .rws, true⟩,
   ⟨.RDL_R_HITS, 0x6440, 0x11, 1, (.units 32), .u32, .ro, false⟩,
   ⟨.RDL_COUNT, 0x6400, 0x00, 1, .one, .u8, .const, false⟩,
   ⟨.RDL_EN, 0x6400, 0x01, 1, .one, .bool, .rws, true⟩,
   ⟨.RDL_DEF_CLASS, 0x6400, 0x02, 1, .one, .u8, .rws, true⟩,
   ⟨.RDL_DEF_SEV, 0x6400, 0x03, 1, .one, .u8, .rws, true⟩,
   ⟨.RDL_DEF_ACTION, 0x6400, 0x04, 1, .one, .u8, .rws, true⟩,
   ⟨.RDL_RSEQ, 0x6400, 0x05, 1, .one, .u32, .ro, false⟩,
   ⟨.RDL_TSEQ, 0x6400, 0x06, 1, .one, .u32, .ro, false⟩,
   ⟨.RDL_TALLY_BACKLOG, 0x6400, 0x07, 1, .one, .u8, .ro, false⟩,
   ⟨.RDL_STORM, 0x6400, 0x08, 1, .one, .bool, .ro, false⟩,
   ⟨.RDL_STORM_PENS, 0x6400, 0x09, 1, .one, .u32, .ro, false⟩,
   ⟨.RDL_SUPPRESSED, 0x6400, 0x0A, 1, .one, .u32, .ro, false⟩,
   ⟨.RDL_RECORDS, 0x6400, 0x0B, 1, .one, .u32, .ro, false⟩,
   ⟨.RDL_DEST_COUNT, 0x6401, 0x00, 1, .one, .u8, .const, false⟩,
   ⟨.RDL_DEST, 0x6401, 0x01, 8, .one, .u16, .rws, true⟩,
   ⟨.RDL_SNIP_COUNT, 0x6408, 0x00, 1, .one, .u8, .const, false⟩,
   ⟨.RDL_SNIP_MARGIN, 0x6408, 0x01, 1, .one, .u8, .rws, true⟩,
   ⟨.RDL_SNIP_MAX_W, 0x6408, 0x02, 1, .one, .u16, .rws, true⟩,
   ⟨.RDL_SNIP_MAX_H, 0x6408, 0x03, 1, .one, .u16, .rws, true⟩,
   ⟨.RDL_SNIP_SEL, 0x6408, 0x04, 1, .one, .u32, .rw, false⟩,
   ⟨.RDL_SNIP_STATE, 0x6408, 0x05, 1, .one, .u8, .ro, false⟩,
   ⟨.RDL_SNIP_LEN, 0x6408, 0x06, 1, .one, .u32, .ro, false⟩,
   ⟨.RDL_SNIP_ADDR, 0x6408, 0x07, 1, .one, .u64, .ro, false⟩,
   ⟨.RDL_SNIP_DATA, 0x6408, 0x08, 1, .one, .blob, .ro, false⟩,
   ⟨.RDL_SNIP_MADE, 0x6408, 0x09, 1, .one, .u32, .ro, false⟩,
   ⟨.RDL_SNIP_TRUNC, 0x6408, 0x0A, 1, .one, .u32, .ro, false⟩,
   ⟨.RDL_SNIP_LOST, 0x6408, 0x0B, 1, .one, .u32, .ro, false⟩,
   ⟨.RDL_ST_COUNT, 0x6410, 0x00, 1, (.units 8), .u8, .const, false⟩,
   ⟨.RDL_ST_EN, 0x6410, 0x01, 1, (.units 8), .bool, .rws, true⟩,
   ⟨.RDL_ST_OUT, 0x6410, 0x02, 1, (.units 8), .u8, .rws, true⟩,
   ⟨.RDL_ST_DIST, 0x6410, 0x03, 1, (.units 8), .u32, .rws, true⟩,
   ⟨.RDL_ST_LEAD_US, 0x6410, 0x04, 1, (.units 8), .u32, .rws, true⟩,
   ⟨.RDL_ST_MODE, 0x6410, 0x05, 1, (.units 8), .u8, .rws, true⟩,
   ⟨.RDL_ST_PULSE_MIN_US, 0x6410, 0x06, 1, (.units 8), .u32, .rws, true⟩,
   ⟨.RDL_ST_EXTEND_US, 0x6410, 0x07, 1, (.units 8), .u32, .rws, true⟩,
   ⟨.RDL_ST_PENDING, 0x6410, 0x08, 1, (.units 8), .u16, .ro, false⟩,
   ⟨.RDL_ST_FIRED, 0x6410, 0x09, 1, (.units 8), .u32, .ro, false⟩,
   ⟨.RDL_ST_LATE, 0x6410, 0x0A, 1, (.units 8), .u32, .ro, false⟩,
   ⟨.RDL_ST_MERGED, 0x6410, 0x0B, 1, (.units 8), .u32, .ro, false⟩,
   ⟨.CH_CAL_COUNT, 0x4028, 0x00, 1, .chan, .u8, .const, false⟩,
   ⟨.CH_CAL_EN, 0x4028, 0x01, 1, .chan, .bool, .rws, true⟩,
   ⟨.CH_CAL_TEMP_DELTA, 0x4028, 0x02, 1, .chan, .u16, .rws, true⟩,
   ⟨.CH_CAL_REPEATS, 0x4028, 0x03, 1, .chan, .u8, .rws, true⟩,
   ⟨.CH_CAL_TOL_MAX, 0x4028, 0x04, 1, .chan, .u8, .rws, true⟩,
   ⟨.CH_CAL_FLAT, 0x4028, 0x05, 1, .chan, .u16, .rws, true⟩,
   ⟨.CH_CAL_LOW_MAX, 0x4028, 0x06, 1, .chan, .u16, .rws, true⟩,
   ⟨.CH_CAL_HIGH_MIN, 0x4028, 0x07, 1, .chan, .u16, .rws, true⟩,
   ⟨.CH_CAL_N_MIN, 0x4028, 0x08, 1, .chan, .u16, .rws, true⟩,
   ⟨.CH_CAL_SPREAD_MIN, 0x4028, 0x09, 1, .chan, .u16, .rws, true⟩,
   ⟨.CH_CAL_CHAIN_MAX, 0x4028, 0x0A, 1, .chan, .u8, .rws, true⟩,
   ⟨.CH_CAL_LINE_STEP, 0x4028, 0x0B, 1, .chan, .u16, .rws, true⟩,
   ⟨.CH_CAL_BND_COUNT, 0x4029, 0x00, 1, .chan, .u8, .const, false⟩,
   ⟨.CH_CAL_GAIN_STEP, 0x4029, 0x01, 1, .chan, .u16, .rws, true⟩,
   ⟨.CH_CAL_GAIN_SPAN, 0x4029, 0x02, 1, .chan, .u16, .rws, true⟩,
   ⟨.CH_CAL_OFF_STEP, 0x4029, 0x03, 1, .chan, .u16, .rws, true⟩]

/-- Rows 480 to 539 of the object table. -/
def objRows8 : List ObjRow :=
  [⟨.CH_CAL_OFF_SPAN, 0x4029, 0x04, 1, .chan, .u16, .rws, true⟩,
   ⟨.CH_CAL_DPX_COUNT, 0x402A, 0x00, 1, .chan, .u8, .const, false⟩,
   ⟨.CH_CAL_DPX_LIMIT, 0x402A, 0x01, 1, .chan, .u8, .rws, true⟩,
   ⟨.CH_CAL_DPX_FRAC, 0x402A, 0x02, 1, .chan, .u8, .rws, true⟩,
   ⟨.CH_CAL_DPX_CONFIRM, 0x402A, 0x03, 1, .chan, .u8, .rws, true⟩,
   ⟨.CH_CAL_DPX_AUTO, 0x402A, 0x04, 1, .chan, .bool, .rws, true⟩,
   ⟨.CH_CAL_DPX_MAX, 0x402A, 0x05, 1, .chan, .u8, .rws, true⟩,
   ⟨.CH_CAL_DPX_PROP, 0x402A, 0x06, 1, .chan, .blob, .ro, false⟩,
   ⟨.CH_CAL_DPX_ADDED, 0x402A, 0x07, 1, .chan, .u32, .ro, false⟩,
   ⟨.CH_CAL_ST_COUNT, 0x402B, 0x00, 1, .chan, .u8, .const, false⟩,
   ⟨.CH_CAL_STATE, 0x402B, 0x01, 1, .chan, .u8, .ro, false⟩,
   ⟨.CH_CAL_SEQ, 0x402B, 0x02, 1, .chan, .u32, .ro, false⟩,
   ⟨.CH_CAL_T_REF, 0x402B, 0x03, 1, .chan, .s16, .ro, false⟩,
   ⟨.CH_CAL_GEN, 0x402B, 0x04, 1, .chan, .u32, .ro, false⟩,
   ⟨.CH_CAL_DONE_REPEATS, 0x402B, 0x05, 1, .chan, .u8, .ro, false⟩,
   ⟨.CH_CAL_CYCLES, 0x402B, 0x06, 1, .chan, .u32, .ro, false⟩,
   ⟨.CH_CAL_DISCARDS, 0x402B, 0x07, 1, .chan, .u32, .ro, false⟩,
   ⟨.CH_CAL_UPDATED, 0x402B, 0x08, 1, .chan, .u32, .ro, false⟩,
   ⟨.CH_CAL_STEP_LIM, 0x402B, 0x09, 1, .chan, .u32, .ro, false⟩,
   ⟨.CH_CAL_SPAN_LIM, 0x402B, 0x0A, 1, .chan, .u32, .ro, false⟩,
   ⟨.CH_CAL_NODATA, 0x402B, 0x0B, 1, .chan, .u32, .ro, false⟩,
   ⟨.CH_CAL_PENDING, 0x402B, 0x0C, 1, .chan, .bool, .ro, false⟩,
   ⟨.CH_CAL_CMD_COUNT, 0x402C, 0x00, 1, .chan, .u8, .const, false⟩,
   ⟨.CH_CAL_START, 0x402C, 0x01, 1, .chan, .u8, .cmd, false⟩,
   ⟨.CH_CAL_ABORT, 0x402C, 0x02, 1, .chan, .u8, .cmd, false⟩,
   ⟨.CH_CAL_SEED, 0x402C, 0x03, 1, .chan, .u8, .cmd, false⟩,
   ⟨.CH_CAL_ANC_PLANE, 0x402C, 0x04, 1, .chan, .u8, .rw, false⟩,
   ⟨.CH_CAL_ANC_BASE, 0x402C, 0x05, 1, .chan, .u16, .rw, false⟩,
   ⟨.CH_CAL_ANC_OFF, 0x402C, 0x06, 1, .chan, .blob, .ro, false⟩,
   ⟨.CH_CAL_ANC_GAIN, 0x402C, 0x07, 1, .chan, .blob, .ro, false⟩,
   ⟨.CAL_COUNT, 0x6500, 0x00, 1, .one, .u8, .const, false⟩,
   ⟨.CAL_POOL_ENTRIES, 0x6500, 0x01, 1, .one, .u32, .const, false⟩,
   ⟨.CAL_POOL_USED, 0x6500, 0x02, 1, .one, .u32, .ro, false⟩,
   ⟨.CAL_STACK_TEMP, 0x6500, 0x03, 1, .one, .s16, .ro, false⟩,
   ⟨.CAL_STACK_REF, 0x6500, 0x04, 1, .one, .s16, .ro, false⟩,
   ⟨.CAL_STACK_DELTA, 0x6500, 0x05, 1, .one, .u16, .const, false⟩,
   ⟨.CAL_RETRAINS, 0x6500, 0x06, 1, .one, .u32, .ro, false⟩,
   ⟨.CAL_BUILD_SLOTS, 0x6500, 0x07, 1, .one, .u8, .const, false⟩,
   ⟨.CAL_APPLIES, 0x6500, 0x08, 1, .one, .u32, .ro, false⟩,
   ⟨.MEM_COUNT, 0x7000, 0x00, 1, .one, .u8, .const, false⟩,
   ⟨.MEM_STATE, 0x7000, 0x01, 1, .one, .u8, .ro, false⟩,
   ⟨.MEM_REFRESH_NS, 0x7000, 0x02, 1, .one, .u16, .ro, false⟩,
   ⟨.MEM_REFRESHES, 0x7000, 0x03, 1, .one, .u64, .ro, false⟩,
   ⟨.MEM_RD_BYTES, 0x7000, 0x04, 1, .one, .u64, .ro, false⟩,
   ⟨.MEM_WR_BYTES, 0x7000, 0x05, 1, .one, .u64, .ro, false⟩,
   ⟨.MEM_RETRAIN_STATE, 0x7000, 0x06, 1, .one, .u8, .ro, false⟩,
   ⟨.MEM_RETRAINS_DONE, 0x7000, 0x07, 1, .one, .u32, .ro, false⟩,
   ⟨.MEM_RETRAIN_FAIL, 0x7000, 0x08, 1, .one, .u32, .ro, false⟩,
   ⟨.MEM_RETRAIN_REQ, 0x7000, 0x09, 1, .one, .u8, .cmd, false⟩,
   ⟨.MEM_LANES_REPAIRED, 0x7000, 0x0A, 1, .one, .u16, .ro, false⟩,
   ⟨.MEM_ECC_CORR, 0x7000, 0x0B, 1, .one, .u32, .ro, false⟩,
   ⟨.MEM_ECC_UNCORR, 0x7000, 0x0C, 1, .one, .u32, .ro, false⟩,
   ⟨.MEM_LAT_MAX_NS, 0x7000, 0x0D, 1, .one, .u32, .ro, false⟩,
   ⟨.MEM_RING_DROPS, 0x7000, 0x0E, 1, .one, .u32, .ro, false⟩,
   ⟨.MEM_SW_GBS, 0x7000, 0x0F, 1, .one, .u16, .rws, true⟩,
   ⟨.MEM_SW_ADMIT, 0x7000, 0x10, 1, .one, .u16, .ro, false⟩,
   ⟨.MEM_PD_COUNT, 0x7010, 0x00, 1, (.units 5), .u8, .const, false⟩,
   ⟨.MEM_PD_BASE, 0x7010, 0x01, 1, (.units 5), .u64, .const, false⟩,
   ⟨.MEM_PD_SIZE, 0x7010, 0x02, 1, (.units 5), .u64, .const, false⟩,
   ⟨.MEM_PD_ORDER, 0x7010, 0x03, 1, (.units 5), .u8, .const, false⟩]

/-- Rows 540 to 599 of the object table. -/
def objRows9 : List ObjRow :=
  [⟨.MEM_PD_RD, 0x7010, 0x04, 1, (.units 5), .u64, .ro, false⟩,
   ⟨.MEM_PD_WR, 0x7010, 0x05, 1, (.units 5), .u64, .ro, false⟩,
   ⟨.MEM_RQ_COUNT, 0x7020, 0x00, 1, (.units 8), .u8, .const, false⟩,
   ⟨.MEM_RQ_HINT, 0x7020, 0x01, 1, (.units 8), .u8, .rws, true⟩,
   ⟨.MEM_RQ_RESERVED, 0x7020, 0x02, 1, (.units 8), .u8, .const, false⟩,
   ⟨.MEM_RQ_LAT_MAX_NS, 0x7020, 0x03, 1, (.units 8), .u32, .ro, false⟩,
   ⟨.FLC_COUNT, 0x7100, 0x00, 1, .one, .u8, .const, false⟩,
   ⟨.FLC_DEC_SAMPLES, 0x7100, 0x01, 1, .one, .u64, .ro, false⟩,
   ⟨.FLC_ENC_SAMPLES, 0x7100, 0x02, 1, .one, .u64, .ro, false⟩,
   ⟨.FLC_ENC_BYTES, 0x7100, 0x03, 1, .one, .u64, .ro, false⟩,
   ⟨.FLC_STORED, 0x7100, 0x04, 1, .one, .u32, .ro, false⟩,
   ⟨.FLC_VERIFY_FAILS, 0x7100, 0x05, 1, .one, .u32, .ro, false⟩,
   ⟨.FLC_READ_ERR, 0x7100, 0x06, 1, .one, .u32, .ro, false⟩,
   ⟨.FLC_RATIO, 0x7100, 0x07, 1, .one, .u32, .ro, false⟩,
   ⟨.FLC_JOB_COUNT, 0x7101, 0x00, 1, (.units 4), .u8, .const, false⟩,
   ⟨.FLC_JOB_OP, 0x7101, 0x01, 1, (.units 4), .u8, .rw, false⟩,
   ⟨.FLC_JOB_KIND, 0x7101, 0x02, 1, (.units 4), .u8, .rw, false⟩,
   ⟨.FLC_JOB_EFFORT, 0x7101, 0x03, 1, (.units 4), .u8, .rw, false⟩,
   ⟨.FLC_JOB_SRC, 0x7101, 0x04, 1, (.units 4), .u64, .rw, false⟩,
   ⟨.FLC_JOB_BLOCKS, 0x7101, 0x05, 1, (.units 4), .u32, .rw, false⟩,
   ⟨.FLC_JOB_DST, 0x7101, 0x06, 1, (.units 4), .u64, .rw, false⟩,
   ⟨.FLC_JOB_DST_LEN, 0x7101, 0x07, 1, (.units 4), .u32, .rw, false⟩,
   ⟨.FLC_JOB_GO, 0x7101, 0x08, 1, (.units 4), .u8, .cmd, false⟩,
   ⟨.FLC_JOB_STATE, 0x7101, 0x09, 1, (.units 4), .u8, .ro, false⟩,
   ⟨.FLC_JOB_CONSUMED, 0x7101, 0x0A, 1, (.units 4), .u32, .ro, false⟩,
   ⟨.FLC_JOB_PRODUCED, 0x7101, 0x0B, 1, (.units 4), .u32, .ro, false⟩,
   ⟨.FLC_JOB_ERROR, 0x7101, 0x0C, 1, (.units 4), .u8, .ro, false⟩,
   ⟨.CRC_U_COUNT, 0x7201, 0x00, 1, (.units 8), .u8, .const, false⟩,
   ⟨.CRC_ALG, 0x7201, 0x01, 1, (.units 8), .u8, .rw, false⟩,
   ⟨.CRC_MODE, 0x7201, 0x02, 1, (.units 8), .u8, .rw, false⟩,
   ⟨.CRC_ADDR, 0x7201, 0x03, 1, (.units 8), .u64, .rw, false⟩,
   ⟨.CRC_SEQ, 0x7201, 0x04, 1, (.units 8), .u32, .rw, false⟩,
   ⟨.CRC_CMD, 0x7201, 0x05, 1, (.units 8), .u8, .cmd, false⟩,
   ⟨.CRC_FEED8, 0x7201, 0x06, 1, (.units 8), .u8, .wo, false⟩,
   ⟨.CRC_FEED16, 0x7201, 0x07, 1, (.units 8), .u16, .wo, false⟩,
   ⟨.CRC_FEED24, 0x7201, 0x08, 1, (.units 8), .u24, .wo, false⟩,
   ⟨.CRC_FEED32, 0x7201, 0x09, 1, (.units 8), .u32, .wo, false⟩,
   ⟨.CRC_RESULT, 0x7201, 0x0A, 1, (.units 8), .u32, .ro, false⟩,
   ⟨.CRC_EXPECT, 0x7201, 0x0B, 1, (.units 8), .u32, .rw, false⟩,
   ⟨.CRC_CHECK, 0x7201, 0x0C, 1, (.units 8), .u8, .ro, false⟩,
   ⟨.CRC_BYTES, 0x7201, 0x0D, 1, (.units 8), .u32, .ro, false⟩,
   ⟨.CRC_CONTEXT, 0x7201, 0x0E, 1, (.units 8), .u64, .rw, false⟩,
   ⟨.QUE_COUNT, 0xA000, 0x00, 1, (.units 4096), .u8, .const, false⟩,
   ⟨.QUE_ENABLE, 0xA000, 0x01, 1, (.units 4096), .bool, .rws, true⟩,
   ⟨.QUE_DIR, 0xA000, 0x02, 1, (.units 4096), .u8, .rws, true⟩,
   ⟨.QUE_PEER, 0xA000, 0x03, 1, (.units 4096), .u8, .rws, true⟩,
   ⟨.QUE_RING_KIB, 0xA000, 0x04, 1, (.units 4096), .u32, .rws, true⟩,
   ⟨.QUE_POLICY, 0xA000, 0x05, 1, (.units 4096), .u8, .rws, true⟩,
   ⟨.QUE_THRESH_HI, 0xA000, 0x06, 1, (.units 4096), .u32, .rws, true⟩,
   ⟨.QUE_THRESH_LO, 0xA000, 0x07, 1, (.units 4096), .u32, .rws, true⟩,
   ⟨.QUE_MSIX, 0xA000, 0x08, 1, (.units 4096), .u16, .rws, true⟩,
   ⟨.QUE_SUBS, 0xA000, 0x09, 1, (.units 4096), .blob, .rws, true⟩,
   ⟨.QUE_RX_PORT, 0xA000, 0x0A, 1, (.units 4096), .u16, .rws, true⟩,
   ⟨.QUE_STATE, 0xA000, 0x0B, 1, (.units 4096), .u8, .ro, false⟩,
   ⟨.QUE_FILL, 0xA000, 0x0C, 1, (.units 4096), .u32, .ro, false⟩,
   ⟨.QUE_ISEQ, 0xA000, 0x0D, 1, (.units 4096), .u32, .ro, false⟩,
   ⟨.QUE_DROPS, 0xA000, 0x0E, 1, (.units 4096), .u32, .ro, false⟩,
   ⟨.QUE_BLOCK_DROPS, 0xA000, 0x0F, 1, (.units 4096), .u32, .ro, false⟩,
   ⟨.QUE_ETH_DROPS, 0xA000, 0x10, 1, (.units 4096), .u32, .ro, false⟩,
   ⟨.DMA_COUNT, 0x8000, 0x00, 1, .one, .u8, .const, false⟩]

/-- Rows 600 to 659 of the object table. -/
def objRows10 : List ObjRow :=
  [⟨.DMA_CHANNELS, 0x8000, 0x01, 1, .one, .u8, .const, false⟩,
   ⟨.DMA_LEASE_MS, 0x8000, 0x02, 1, .one, .u16, .rw, true⟩,
   ⟨.DMA_SCRATCH_BASE, 0x8000, 0x03, 1, .one, .u64, .const, false⟩,
   ⟨.DMA_CH_COUNT, 0x8001, 0x00, 1, (.units 32), .u8, .const, false⟩,
   ⟨.DMA_ENABLE, 0x8001, 0x01, 1, (.units 32), .bool, .rw, false⟩,
   ⟨.DMA_CMD, 0x8001, 0x02, 1, (.units 32), .u8, .cmd, false⟩,
   ⟨.DMA_STATE, 0x8001, 0x03, 1, (.units 32), .u8, .ro, false⟩,
   ⟨.DMA_RING_SPACE, 0x8001, 0x04, 1, (.units 32), .u8, .rw, false⟩,
   ⟨.DMA_RING_BASE, 0x8001, 0x05, 1, (.units 32), .u64, .rw, false⟩,
   ⟨.DMA_RING_ENTRIES, 0x8001, 0x06, 1, (.units 32), .u32, .rw, false⟩,
   ⟨.DMA_CPL_BASE, 0x8001, 0x07, 1, (.units 32), .u64, .rw, false⟩,
   ⟨.DMA_DOORBELL, 0x8001, 0x08, 1, (.units 32), .u32, .wo, false⟩,
   ⟨.DMA_HEAD, 0x8001, 0x09, 1, (.units 32), .u32, .ro, false⟩,
   ⟨.DMA_MSIX, 0x8001, 0x0A, 1, (.units 32), .u16, .rw, false⟩,
   ⟨.DMA_WAIT_US, 0x8001, 0x0B, 1, (.units 32), .u32, .rw, false⟩,
   ⟨.DMA_BYTES, 0x8001, 0x0C, 1, (.units 32), .u64, .ro, false⟩,
   ⟨.DMA_DESCS, 0x8001, 0x0D, 1, (.units 32), .u32, .ro, false⟩,
   ⟨.DMA_FAULT, 0x8001, 0x0E, 1, (.units 32), .u8, .ro, false⟩,
   ⟨.PCI_COUNT, 0x8100, 0x00, 1, .one, .u8, .const, false⟩,
   ⟨.PCI_LINK_SPEED, 0x8100, 0x01, 1, .one, .u8, .ro, false⟩,
   ⟨.PCI_LINK_WIDTH, 0x8100, 0x02, 1, .one, .u8, .ro, false⟩,
   ⟨.PCI_BAR2_WIN, 0x8100, 0x03, 1, .one, .u64, .rw, false⟩,
   ⟨.PCI_RELAXED, 0x8100, 0x04, 1, .one, .bool, .rw, true⟩,
   ⟨.PCI_BAR2_WRDISC, 0x8100, 0x05, 1, .one, .u32, .ro, false⟩,
   ⟨.PCI_POISONED, 0x8100, 0x06, 1, .one, .u32, .ro, false⟩,
   ⟨.PCI_STALE_REREADS, 0x8100, 0x07, 1, .one, .u32, .ro, false⟩,
   ⟨.PCI_FLRS, 0x8100, 0x08, 1, .one, .u32, .ro, false⟩,
   ⟨.PCI_CPL_ERR, 0x8100, 0x09, 1, .one, .u32, .ro, false⟩,
   ⟨.DEV_FW_COUNT, 0x1001, 0x00, 1, .one, .u8, .const, false⟩,
   ⟨.DEV_FW_MEAS, 0x1001, 0x01, 1, .one, .blob, .ro, false⟩,
   ⟨.DEV_FW_VERSION, 0x1001, 0x02, 1, .one, .u32, .ro, false⟩,
   ⟨.DEV_FW_SVN, 0x1001, 0x03, 1, .one, .u16, .ro, false⟩,
   ⟨.DEV_FW_SLOT, 0x1001, 0x04, 1, .one, .u8, .ro, false⟩,
   ⟨.DEV_FW_SVN_MIN, 0x1001, 0x05, 1, .one, .u16, .ro, false⟩,
   ⟨.DEV_BOOT, 0x1001, 0x06, 1, .one, .u32, .ro, false⟩,
   ⟨.TRU_KEY_COUNT, 0xC000, 0x00, 1, .one, .u8, .const, false⟩,
   ⟨.TRU_KEY_STATE, 0xC000, 0x01, 1, .one, .u8, .ro, false⟩,
   ⟨.TRU_PUBKEY, 0xC000, 0x02, 1, .one, .blob, .ro, false⟩,
   ⟨.TRU_CERT_SEL, 0xC000, 0x03, 1, .one, .u8, .rw, false⟩,
   ⟨.TRU_CERT, 0xC000, 0x04, 1, .one, .blob, .ro, false⟩,
   ⟨.TRU_SIGNED, 0xC000, 0x05, 1, .one, .u32, .ro, false⟩,
   ⟨.TRU_JRN_COUNT, 0xC001, 0x00, 1, .one, .u8, .const, false⟩,
   ⟨.TRU_JRN_HEAD, 0xC001, 0x01, 1, .one, .u32, .ro, false⟩,
   ⟨.TRU_JRN_DURABLE, 0xC001, 0x02, 1, .one, .u32, .ro, false⟩,
   ⟨.TRU_JRN_HEAD_HASH, 0xC001, 0x03, 1, .one, .blob, .ro, false⟩,
   ⟨.TRU_JRN_OLDEST, 0xC001, 0x04, 1, .one, .u32, .ro, false⟩,
   ⟨.TRU_JRN_SEL, 0xC001, 0x05, 1, .one, .u32, .rw, false⟩,
   ⟨.TRU_JRN_DATA, 0xC001, 0x06, 1, .one, .blob, .ro, false⟩,
   ⟨.TRU_JRN_FILL, 0xC001, 0x07, 1, .one, .u16, .ro, false⟩,
   ⟨.TRU_JRN_REFUSED, 0xC001, 0x08, 1, .one, .u32, .ro, false⟩,
   ⟨.TRU_HOLD_COUNT, 0xC002, 0x00, 1, .one, .u8, .const, false⟩,
   ⟨.TRU_HOLD_SCOPE, 0xC002, 0x01, 1, .one, .u32, .rw, false⟩,
   ⟨.TRU_HOLD_ID, 0xC002, 0x02, 1, .one, .u32, .rw, false⟩,
   ⟨.TRU_HOLD_REPEATS, 0xC002, 0x03, 1, .one, .u32, .rw, false⟩,
   ⟨.TRU_HOLD_SET, 0xC002, 0x04, 1, .one, .u8, .cmd, false⟩,
   ⟨.TRU_HOLD_RELEASE, 0xC002, 0x05, 1, .one, .u32, .cmd, false⟩,
   ⟨.TRU_HOLD_STATE, 0xC002, 0x06, 1, .one, .u8, .ro, false⟩,
   ⟨.TRU_HOLD_LEFT, 0xC002, 0x07, 1, .one, .u32, .ro, false⟩,
   ⟨.TRU_HOLD_JSEQ, 0xC002, 0x08, 1, .one, .u32, .ro, false⟩,
   ⟨.TRU_HOLD_REFUSED, 0xC002, 0x09, 1, .one, .u32, .ro, false⟩]

/-- Rows 660 to 719 of the object table. -/
def objRows11 : List ObjRow :=
  [⟨.TRU_FW_COUNT, 0xC003, 0x00, 1, .one, .u8, .const, false⟩,
   ⟨.TRU_FW_SRC, 0xC003, 0x01, 1, .one, .u64, .rw, false⟩,
   ⟨.TRU_FW_STAGE, 0xC003, 0x02, 1, .one, .u32, .cmd, false⟩,
   ⟨.TRU_FW_STATE, 0xC003, 0x03, 1, .one, .u8, .ro, false⟩,
   ⟨.TRU_FW_STAGED_MEAS, 0xC003, 0x04, 1, .one, .blob, .ro, false⟩,
   ⟨.TRU_SVN_LOCK, 0xC003, 0x05, 1, .one, .u16, .cmd, false⟩,
   ⟨.TIM_COUNT, 0x2300, 0x00, 1, .one, .u8, .const, false⟩,
   ⟨.TIM_SEC, 0x2300, 0x01, 1, .one, .u48, .ro, false⟩,
   ⟨.TIM_NS, 0x2300, 0x02, 1, .one, .u32, .ro, false⟩,
   ⟨.TIM_FRAC, 0x2300, 0x03, 1, .one, .u16, .ro, false⟩,
   ⟨.TIM_SRC, 0x2300, 0x04, 1, .one, .u8, .rws, true⟩,
   ⟨.TIM_SET, 0x2300, 0x05, 1, .one, .u64, .cmd, false⟩,
   ⟨.TIM_STEP_NS, 0x2300, 0x06, 1, .one, .s32, .cmd, false⟩,
   ⟨.TIM_RATE, 0x2300, 0x07, 1, .one, .s32, .ro, false⟩,
   ⟨.TIM_SERVO_STATE, 0x2300, 0x08, 1, .one, .u8, .ro, false⟩,
   ⟨.TIM_OFFSET, 0x2300, 0x09, 1, .one, .s32, .ro, false⟩,
   ⟨.TIM_MEAN_PATH, 0x2300, 0x0A, 1, .one, .s32, .ro, false⟩,
   ⟨.TIM_KP, 0x2300, 0x0B, 1, .one, .u16, .rws, true⟩,
   ⟨.TIM_KI, 0x2300, 0x0C, 1, .one, .u16, .rws, true⟩,
   ⟨.TIM_STEP_THRESH, 0x2300, 0x0D, 1, .one, .u32, .rws, true⟩,
   ⟨.TIM_LOCK_NS, 0x2300, 0x0E, 1, .one, .u32, .rws, true⟩,
   ⟨.TIM_STEPS, 0x2300, 0x0F, 1, .one, .u32, .ro, false⟩,
   ⟨.TIM_SNAP_TIME, 0x2300, 0x10, 1, .one, .u64, .ro, false⟩,
   ⟨.TIM_CLOCK_OK, 0x2300, 0x11, 1, .one, .bool, .ro, false⟩,
   ⟨.TIM_PTP_COUNT, 0x2301, 0x00, 1, .one, .u8, .const, false⟩,
   ⟨.TIM_PTP_ROLE, 0x2301, 0x01, 1, .one, .u8, .rws, true⟩,
   ⟨.TIM_PTP_PORT, 0x2301, 0x02, 1, .one, .u8, .rws, true⟩,
   ⟨.TIM_PTP_TRANSPORT, 0x2301, 0x03, 1, .one, .u8, .rws, true⟩,
   ⟨.TIM_PTP_DOMAIN, 0x2301, 0x04, 1, .one, .u8, .rws, true⟩,
   ⟨.TIM_PTP_TWO_STEP, 0x2301, 0x05, 1, .one, .bool, .rws, true⟩,
   ⟨.TIM_PTP_DELAY, 0x2301, 0x06, 1, .one, .u8, .rws, true⟩,
   ⟨.TIM_TC_EN, 0x2301, 0x07, 1, .one, .bool, .rws, true⟩,
   ⟨.TIM_PTP_LOG_SYNC, 0x2301, 0x08, 1, .one, .s32, .rws, true⟩,
   ⟨.TIM_PTP_LOG_ANNOUNCE, 0x2301, 0x09, 1, .one, .s32, .rws, true⟩,
   ⟨.TIM_PTP_LOG_MIN_DELAY, 0x2301, 0x0A, 1, .one, .s32, .rws, true⟩,
   ⟨.TIM_PTP_PRIORITY, 0x2301, 0x0B, 1, .one, .u16, .rws, true⟩,
   ⟨.TIM_PTP_CLOCK_CLASS, 0x2301, 0x0C, 1, .one, .u8, .rws, true⟩,
   ⟨.TIM_PTP_MASTER, 0x2301, 0x0D, 1, .one, .blob, .ro, false⟩,
   ⟨.TIM_UTC_OFFSET, 0x2301, 0x0E, 1, .one, .s32, .ro, false⟩,
   ⟨.TIM_PORT_COUNT, 0x2302, 0x00, 1, (.units 2), .u8, .const, false⟩,
   ⟨.TIM_PORT_ASYM, 0x2302, 0x01, 1, (.units 2), .s32, .rws, true⟩,
   ⟨.TIM_PORT_LINK_DELAY, 0x2302, 0x02, 1, (.units 2), .s32, .ro, false⟩,
   ⟨.TIM_PORT_RX, 0x2302, 0x03, 1, (.units 2), .u32, .ro, false⟩,
   ⟨.TIM_PORT_TX, 0x2302, 0x04, 1, (.units 2), .u32, .ro, false⟩,
   ⟨.TIM_PORT_FWD, 0x2302, 0x05, 1, (.units 2), .u32, .ro, false⟩,
   ⟨.TIM_PORT_BAD, 0x2302, 0x06, 1, (.units 2), .u32, .ro, false⟩,
   ⟨.TIM_PORT_FUP_ORPHAN, 0x2302, 0x07, 1, (.units 2), .u32, .ro, false⟩,
   ⟨.TIM_TT_COUNT, 0x2310, 0x00, 1, (.units 16), .u8, .const, false⟩,
   ⟨.TIM_TT_MODE, 0x2310, 0x01, 1, (.units 16), .u8, .rws, true⟩,
   ⟨.TIM_TT_POL, 0x2310, 0x02, 1, (.units 16), .u8, .rws, true⟩,
   ⟨.TIM_TT_START, 0x2310, 0x03, 1, (.units 16), .u64, .rws, true⟩,
   ⟨.TIM_TT_PERIOD, 0x2310, 0x04, 1, (.units 16), .u32, .rws, true⟩,
   ⟨.TIM_TT_PERIOD_FRAC, 0x2310, 0x05, 1, (.units 16), .u16, .rws, true⟩,
   ⟨.TIM_TT_WIDTH, 0x2310, 0x06, 1, (.units 16), .u32, .rws, true⟩,
   ⟨.TIM_TT_DELAY, 0x2310, 0x07, 1, (.units 16), .u32, .rws, true⟩,
   ⟨.TIM_TT_ARM, 0x2310, 0x08, 1, (.units 16), .u64, .cmd, false⟩,
   ⟨.TIM_TT_OWNER, 0x2310, 0x09, 1, (.units 16), .u8, .ro, false⟩,
   ⟨.TIM_TT_FIRED, 0x2310, 0x0A, 1, (.units 16), .u32, .ro, false⟩,
   ⟨.TIM_TT_LATE, 0x2310, 0x0B, 1, (.units 16), .u32, .ro, false⟩,
   ⟨.TIM_TC_COUNT, 0x2320, 0x00, 1, (.units 8), .u8, .const, false⟩]

/-- Rows 720 to 779 of the object table. -/
def objRows12 : List ObjRow :=
  [⟨.TIM_TC_EDGE, 0x2320, 0x01, 1, (.units 8), .u8, .rws, true⟩,
   ⟨.TIM_TC_FILTER_NS, 0x2320, 0x02, 1, (.units 8), .u8, .rws, true⟩,
   ⟨.TIM_TC_LAST, 0x2320, 0x03, 1, (.units 8), .u64, .ro, false⟩,
   ⟨.TIM_TC_FIFO, 0x2320, 0x04, 1, (.units 8), .blob, .ro, false⟩,
   ⟨.TIM_TC_EDGES, 0x2320, 0x05, 1, (.units 8), .u32, .ro, false⟩,
   ⟨.TIM_TC_OVERFLOW, 0x2320, 0x06, 1, (.units 8), .u32, .ro, false⟩,
   ⟨.EVT_COUNT, 0x2400, 0x00, 1, .one, .u8, .const, false⟩,
   ⟨.EVT_QUE_SEL, 0x2400, 0x01, 8, .one, .u16, .rws, true⟩,
   ⟨.EVT_LINE_COUNT, 0x2410, 0x00, 1, (.units 64), .u8, .const, false⟩,
   ⟨.EVT_LINE_SRC, 0x2410, 0x01, 1, (.units 64), .u16, .rws, true⟩,
   ⟨.EVT_LINE_RETRIG_NS, 0x2410, 0x02, 1, (.units 64), .u32, .rws, true⟩,
   ⟨.EVT_LINE_ATTR, 0x2410, 0x03, 1, (.units 64), .u8, .rws, true⟩,
   ⟨.EVT_LINE_OWNER, 0x2410, 0x04, 1, (.units 64), .u8, .ro, false⟩,
   ⟨.EVT_LINE_LEVEL, 0x2410, 0x05, 1, (.units 64), .bool, .ro, false⟩,
   ⟨.EVT_LINE_EDGES, 0x2410, 0x06, 1, (.units 64), .u32, .ro, false⟩,
   ⟨.EVT_LINE_SUPPRESSED, 0x2410, 0x07, 1, (.units 64), .u32, .ro, false⟩,
   ⟨.EVT_CELL_COUNT, 0x2450, 0x00, 1, (.units 32), .u8, .const, false⟩,
   ⟨.EVT_CELL_IN, 0x2450, 0x01, 4, (.units 32), .u8, .rws, true⟩,
   ⟨.EVT_CELL_TRUTH, 0x2450, 0x05, 1, (.units 32), .u16, .rws, true⟩,
   ⟨.EVT_CELL_FF, 0x2450, 0x06, 1, (.units 32), .u8, .rws, true⟩,
   ⟨.EVT_CELL_CLK, 0x2450, 0x07, 1, (.units 32), .u8, .rws, true⟩,
   ⟨.EVT_CELL_FILTER, 0x2450, 0x08, 1, (.units 32), .u8, .rws, true⟩,
   ⟨.EVT_CELL_OUT, 0x2450, 0x09, 1, (.units 32), .bool, .ro, false⟩,
   ⟨.EVT_TASK_COUNT, 0x2470, 0x00, 1, (.units 33), .u8, .const, false⟩,
   ⟨.EVT_TASK_SEL0, 0x2470, 0x01, 1, (.units 33), .u8, .rws, true⟩,
   ⟨.EVT_TASK_SEL1, 0x2470, 0x02, 1, (.units 33), .u8, .rws, true⟩,
   ⟨.EVT_TASK_ARG, 0x2470, 0x03, 1, (.units 33), .u16, .rws, true⟩,
   ⟨.EVT_TASK_PENDING, 0x2470, 0x04, 1, (.units 33), .u8, .ro, false⟩,
   ⟨.EVT_TASK_OVERFLOW, 0x2470, 0x05, 1, (.units 33), .bool, .ro, false⟩,
   ⟨.EVT_TASK_CLEAR, 0x2470, 0x06, 1, (.units 33), .u8, .cmd, false⟩,
   ⟨.FLD_COUNT, 0x3000, 0x00, 1, .one, .u8, .const, false⟩,
   ⟨.FLD_ID, 0x3000, 0x01, 1, .one, .u8, .ro, false⟩,
   ⟨.FLD_STATE, 0x3000, 0x02, 1, .one, .u8, .ro, false⟩,
   ⟨.FLD_EXPECT, 0x3000, 0x03, 1, .one, .u8, .rws, true⟩,
   ⟨.FLD_FORM_MS, 0x3000, 0x04, 1, .one, .u16, .rws, true⟩,
   ⟨.FLD_MEMBERS, 0x3000, 0x05, 1, .one, .u8, .ro, false⟩,
   ⟨.FLD_UPSTREAM, 0x3000, 0x06, 1, .one, .u8, .ro, false⟩,
   ⟨.FLD_POS_OFFSET, 0x3000, 0x07, 1, .one, .u64, .ro, false⟩,
   ⟨.FLD_COMMIT_AT, 0x3000, 0x08, 1, .one, .u32, .rw, false⟩,
   ⟨.FLD_RELAY_LINE, 0x3000, 0x09, 1, .one, .u8, .rws, true⟩,
   ⟨.FLD_TJ_MAX, 0x3000, 0x0A, 1, .one, .u8, .ro, false⟩,
   ⟨.FLD_LOST, 0x3000, 0x0B, 1, .one, .u32, .ro, false⟩,
   ⟨.FLD_POS_SLIPS, 0x3000, 0x0C, 1, .one, .u32, .ro, false⟩,
   ⟨.FLD_REPEAT_MISS, 0x3000, 0x0D, 1, .one, .u32, .ro, false⟩,
   ⟨.FLD_JOINS, 0x3000, 0x0E, 1, .one, .u32, .ro, false⟩,
   ⟨.FLD_M_COUNT, 0x3010, 0x00, 1, (.units 8), .u8, .const, false⟩,
   ⟨.FLD_M_STATE, 0x3010, 0x01, 1, (.units 8), .u8, .ro, false⟩,
   ⟨.FLD_M_REFUSE, 0x3010, 0x02, 1, (.units 8), .u8, .ro, false⟩,
   ⟨.FLD_M_SERIAL, 0x3010, 0x03, 1, (.units 8), .str, .ro, false⟩,
   ⟨.FLD_M_THETA, 0x3010, 0x04, 1, (.units 8), .s32, .ro, false⟩,
   ⟨.FLD_M_TWI, 0x3010, 0x05, 1, (.units 8), .u16, .ro, false⟩,
   ⟨.CLK_COUNT, 0x2000, 0x00, 1, .one, .u8, .const, false⟩,
   ⟨.CLK_CORE_HZ, 0x2000, 0x01, 1, .one, .u32, .ro, false⟩,
   ⟨.CLK_CORE_PLL, 0x2000, 0x02, 1, .one, .u8, .ro, false⟩,
   ⟨.CLK_COAST, 0x2000, 0x03, 1, .one, .bool, .ro, false⟩,
   ⟨.CLK_FORCED, 0x2000, 0x04, 1, .one, .u8, .ro, false⟩,
   ⟨.CLK_TIME_SRC, 0x2000, 0x05, 1, .one, .u8, .ro, false⟩,
   ⟨.CLK_AUTO_RETURN, 0x2000, 0x06, 1, .one, .bool, .rws, true⟩,
   ⟨.CLK_RETURN, 0x2000, 0x07, 1, .one, .u8, .cmd, false⟩,
   ⟨.CLK_REF_CNT, 0x2001, 0x00, 1, (.units 3), .u8, .const, false⟩]

/-- Rows 780 to 839 of the object table. -/
def objRows13 : List ObjRow :=
  [⟨.CLK_REF_STATE, 0x2001, 0x01, 1, (.units 3), .u8, .ro, false⟩,
   ⟨.CLK_REF_WINDOW, 0x2001, 0x02, 1, (.units 3), .u16, .ro, false⟩,
   ⟨.CLK_REF_FAILS, 0x2001, 0x03, 1, (.units 3), .u32, .ro, false⟩,
   ⟨.CLK_OUT_COUNT, 0x2004, 0x00, 1, .one, .u8, .const, false⟩,
   ⟨.CLK_OUT_SRC, 0x2004, 0x01, 1, .one, .u8, .rws, true⟩,
   ⟨.CLK_OUT_DIV, 0x2004, 0x02, 1, .one, .u16, .rws, true⟩,
   ⟨.PWR_COUNT, 0x2010, 0x00, 1, .one, .u8, .const, false⟩,
   ⟨.PWR_STATE, 0x2010, 0x01, 1, .one, .u8, .ro, false⟩,
   ⟨.PWR_POINT, 0x2010, 0x02, 1, .one, .u8, .ro, false⟩,
   ⟨.PWR_POINT_FLOOR, 0x2010, 0x03, 1, .one, .u8, .rws, true⟩,
   ⟨.PWR_VR_MODE, 0x2010, 0x04, 1, .one, .u8, .rws, true⟩,
   ⟨.PWR_VR_ADDR, 0x2010, 0x05, 1, .one, .u8, .rws, true⟩,
   ⟨.PWR_VR_TIMEOUT_US, 0x2010, 0x06, 1, .one, .u16, .rws, true⟩,
   ⟨.PWR_VDD_CORE_MV, 0x2010, 0x07, 1, .one, .u16, .ro, false⟩,
   ⟨.PWR_TJ, 0x2010, 0x08, 1, .one, .s16, .ro, false⟩,
   ⟨.PWR_TJ_PEAK, 0x2010, 0x09, 1, .one, .s16, .ro, false⟩,
   ⟨.PWR_SLEEP, 0x2010, 0x0A, 1, .one, .u8, .cmd, false⟩,
   ⟨.PWR_WAKE_LINE, 0x2010, 0x0B, 1, .one, .u8, .rws, true⟩,
   ⟨.PWR_RESET, 0x2010, 0x0C, 1, .one, .u8, .cmd, false⟩,
   ⟨.PWR_RESET_CAUSE, 0x2010, 0x0D, 1, .one, .u8, .ro, false⟩,
   ⟨.PWR_DVFS_MOVES, 0x2010, 0x0E, 1, .one, .u32, .ro, false⟩,
   ⟨.FLT_COUNT, 0x2020, 0x00, 1, .one, .u8, .const, false⟩,
   ⟨.FLT_ACTIVE, 0x2020, 0x01, 1, .one, .u32, .ro, false⟩,
   ⟨.FLT_LATCHED, 0x2020, 0x02, 1, .one, .u32, .ro, false⟩,
   ⟨.FLT_MASK, 0x2020, 0x03, 1, .one, .u32, .rw, true⟩,
   ⟨.FLT_CLEAR, 0x2020, 0x04, 1, .one, .u32, .cmd, false⟩,
   ⟨.FLT_LAST, 0x2020, 0x05, 1, .one, .u8, .ro, false⟩,
   ⟨.FLT_LAST_TIME, 0x2020, 0x06, 1, .one, .u64, .ro, false⟩,
   ⟨.FLT_RAISED, 0x2020, 0x07, 1, .one, .u32, .ro, false⟩,
   ⟨.FLT_WDOG_MS, 0x2020, 0x08, 1, .one, .u16, .rw, true⟩,
   ⟨.FLT_LEASE_REVOKED, 0x2020, 0x09, 1, .one, .u32, .ro, false⟩,
   ⟨.FLT_LEASE_LAST, 0x2020, 0x0A, 1, .one, .u32, .ro, false⟩,
   ⟨.FLT_LEASE_DROPS, 0x2020, 0x0B, 1, .one, .u32, .ro, false⟩,
   ⟨.TWI_COUNT, 0x2100, 0x00, 1, .one, .u8, .const, false⟩,
   ⟨.TWI_SPEED, 0x2100, 0x01, 1, .one, .u8, .rws, true⟩,
   ⟨.TWI_RISE_NS, 0x2100, 0x02, 1, .one, .u16, .rws, true⟩,
   ⟨.TWI_SU_DAT_NS, 0x2100, 0x03, 1, .one, .u16, .rws, true⟩,
   ⟨.TWI_HD_DAT_NS, 0x2100, 0x04, 1, .one, .u16, .rws, true⟩,
   ⟨.TWI_STRETCH_MS, 0x2100, 0x05, 1, .one, .u8, .rws, true⟩,
   ⟨.TWI_RETRY, 0x2100, 0x06, 1, .one, .u8, .rws, true⟩,
   ⟨.TWI_IDLE_US, 0x2100, 0x07, 1, .one, .u16, .rws, true⟩,
   ⟨.TWI_BUS_STATE, 0x2100, 0x08, 1, .one, .u8, .ro, false⟩,
   ⟨.TWI_RISE_MEAS_NS, 0x2100, 0x09, 1, .one, .u16, .ro, false⟩,
   ⟨.TWI_CNT_COUNT, 0x2101, 0x00, 1, .one, .u8, .const, false⟩,
   ⟨.TWI_FLAGS, 0x2101, 0x01, 1, .one, .u8, .ro, false⟩,
   ⟨.TWI_FLAG_CLEAR, 0x2101, 0x02, 1, .one, .u8, .cmd, false⟩,
   ⟨.TWI_ARB_LOST, 0x2101, 0x03, 1, .one, .u32, .ro, false⟩,
   ⟨.TWI_PROTO_ERR, 0x2101, 0x04, 1, .one, .u32, .ro, false⟩,
   ⟨.TWI_TIMEOUTS, 0x2101, 0x05, 1, .one, .u32, .ro, false⟩,
   ⟨.TWI_RECOVERIES, 0x2101, 0x06, 1, .one, .u32, .ro, false⟩,
   ⟨.TWI_RISE_OVER, 0x2101, 0x07, 1, .one, .u32, .ro, false⟩,
   ⟨.TWI_TGT_READS, 0x2101, 0x08, 1, .one, .u32, .ro, false⟩,
   ⟨.TWI_SLEEP_NACKS, 0x2101, 0x09, 1, .one, .u32, .ro, false⟩,
   ⟨.TWI_T_COUNT, 0x2108, 0x00, 1, .one, .u8, .const, false⟩,
   ⟨.TWI_T_ADDR, 0x2108, 0x01, 1, .one, .u8, .rw, false⟩,
   ⟨.TWI_T_WR, 0x2108, 0x02, 1, .one, .blob, .rw, false⟩,
   ⟨.TWI_T_RD_LEN, 0x2108, 0x03, 1, .one, .u8, .rw, false⟩,
   ⟨.TWI_T_PEC, 0x2108, 0x04, 1, .one, .bool, .rw, false⟩,
   ⟨.TWI_T_GO, 0x2108, 0x05, 1, .one, .u8, .cmd, false⟩,
   ⟨.TWI_T_STATUS, 0x2108, 0x06, 1, .one, .u8, .ro, false⟩]

/-- Rows 840 to 846 of the object table. -/
def objRows14 : List ObjRow :=
  [⟨.TWI_T_RD, 0x2108, 0x07, 1, .one, .blob, .ro, false⟩,
   ⟨.TWI_T_DONE_BYTES, 0x2108, 0x08, 1, .one, .u8, .ro, false⟩,
   ⟨.FLD_CNT_COUNT, 0x3001, 0x00, 1, .one, .u8, .const, false⟩,
   ⟨.FLD_LOSSES, 0x3001, 0x01, 1, .one, .u32, .ro, false⟩,
   ⟨.FLD_LINK_REFUSED, 0x3001, 0x02, 1, .one, .u32, .ro, false⟩,
   ⟨.CRC_COUNT, 0x7200, 0x00, 1, .one, .u8, .const, false⟩,
   ⟨.CRC_UNITS, 0x7200, 0x01, 1, .one, .u8, .const, false⟩]

/-- The whole object table, in the order of `Reg`. -/
def objTable : List ObjRow :=
  objRows0 ++ objRows1 ++ objRows2 ++ objRows3 ++ objRows4 ++ objRows5 ++ objRows6 ++ objRows7 ++ objRows8 ++ objRows9 ++ objRows10 ++ objRows11 ++ objRows12 ++ objRows13 ++ objRows14

/-- Width in bits of an object whose value is a number (R26); 0 for a STR or BLOB. -/
def Reg.bits : Reg → Nat
  | .DEV_VENDOR | .DEV_FAMILY | .DEV_PART | .DEV_SILICON | .DEV_SERIAL | .SES_PEER | .COM_IP6_ADDR | .LNK_FAR_ID |
    .CH_CAM_ID | .CH_CAM_INFO | .CH_CREG_DATA | .CH_BOFF_DATA | .CH_DPM_DATA | .CH_SHADE_DATA | .CH_RS_USER_COEF |
    .CH_RS_BUILTIN | .HFT_PD_DIGEST | .RDL_SNIP_DATA | .CH_CAL_DPX_PROP | .CH_CAL_ANC_OFF | .CH_CAL_ANC_GAIN |
    .QUE_SUBS | .DEV_FW_MEAS | .TRU_PUBKEY | .TRU_CERT | .TRU_JRN_HEAD_HASH | .TRU_JRN_DATA | .TRU_FW_STAGED_MEAS |
    .TIM_PTP_MASTER | .TIM_TC_FIFO | .FLD_M_SERIAL | .TWI_T_WR | .TWI_T_RD => 0
  | .NVS_AUTO | .LNK_ENABLE | .LNK_TX_INVERT | .LNK_TX_SLEEP_AUTO | .LNK_RX_INVERTED | .CH_TIME_OK | .CH_ENABLE |
    .CH_CAMSET_BUSY | .CH_BLACK_EN | .CH_DPC_EN | .CH_SHADE_EN | .CH_TAP_ENABLE | .CH_TAP_BLIND | .POS_ENC_INVERT |
    .POS_ENC_TERM | .POS_STOPPED | .POS_EMU_ENABLE | .POS_EMU_INTERP | .CH_DCB_EN | .CH_DCB_FREEZE | .CH_DCB_FROZEN |
    .POS_DECSYNC_EN | .STI_SET_TRIM_EN | .STI_REG_EN | .CMP_EN | .PEN_SET_OVF | .RDL_R_EN | .RDL_EN | .RDL_STORM |
    .RDL_ST_EN | .CH_CAL_EN | .CH_CAL_DPX_AUTO | .CH_CAL_PENDING | .QUE_ENABLE | .DMA_ENABLE | .PCI_RELAXED |
    .TIM_CLOCK_OK | .TIM_PTP_TWO_STEP | .TIM_TC_EN | .EVT_LINE_LEVEL | .EVT_CELL_OUT | .EVT_TASK_OVERFLOW |
    .CLK_COAST | .CLK_AUTO_RETURN | .TWI_T_PEC => 1
  | .DEV_CH_PRESENT | .DEV_DRAM_DEMAND | .DEV_DRAM_USABLE | .SES_PEER_PORT | .COM_DAP_PORT | .NVS_SKIPPED |
    .LNK_RX_SNR | .LNK_TEST_MS | .CH_STATUS_MS | .CH_TEMP_MS | .CH_PIXELS | .CH_GAIN0 | .CH_GAIN1 | .CH_GAIN2 |
    .CH_BOFF_BASE | .CH_DPM_ENTRIES | .CH_SHADE_BASE | .CH_TAP_QUEUE | .CH_TAP_EVERY | .CH_TAP_FIRST |
    .CH_TAP_WIDTH | .POS_COAST_MS | .POS_STOP_MS | .POS_SPEED_WIN_US | .POS_EMU_N | .POS_EMU_M | .POS_EMU_PULSE_NS |
    .POS_EMU_BACKLOG | .CH_STI_FIRST | .CH_STI_LAST | .STI_NCC_MIN | .STI_RATE | .STI_LOSS_ROWS | .STI_TRIM_STEP |
    .STI_TRIM_MAX | .STI_SET_BLEND_W | .STI_REG_VALID | .STI_MEMBERS | .HFT_LOAD_QUEUE | .PEN_MAX_LINES |
    .PEN_XDEV_TIMEOUT_MS | .PEN_XDEV_OPEN | .RDL_R_PEAK_MIN | .RDL_R_MEAN_MIN | .RDL_R_FLAGS_REQ | .RDL_R_FLAGS_NOT |
    .RDL_DEST | .RDL_SNIP_MAX_W | .RDL_SNIP_MAX_H | .RDL_ST_PENDING | .CH_CAL_TEMP_DELTA | .CH_CAL_FLAT |
    .CH_CAL_LOW_MAX | .CH_CAL_HIGH_MIN | .CH_CAL_N_MIN | .CH_CAL_SPREAD_MIN | .CH_CAL_LINE_STEP | .CH_CAL_GAIN_STEP |
    .CH_CAL_GAIN_SPAN | .CH_CAL_OFF_STEP | .CH_CAL_OFF_SPAN | .CH_CAL_T_REF | .CH_CAL_ANC_BASE | .CAL_STACK_TEMP |
    .CAL_STACK_REF | .CAL_STACK_DELTA | .MEM_REFRESH_NS | .MEM_LANES_REPAIRED | .MEM_SW_GBS | .MEM_SW_ADMIT |
    .CRC_FEED16 | .QUE_MSIX | .QUE_RX_PORT | .DMA_LEASE_MS | .DMA_MSIX | .DEV_FW_SVN | .DEV_FW_SVN_MIN |
    .TRU_JRN_FILL | .TRU_SVN_LOCK | .TIM_FRAC | .TIM_KP | .TIM_KI | .TIM_PTP_PRIORITY | .TIM_TT_PERIOD_FRAC |
    .EVT_QUE_SEL | .EVT_LINE_SRC | .EVT_CELL_TRUTH | .EVT_TASK_ARG | .FLD_FORM_MS | .FLD_M_TWI | .CLK_REF_WINDOW |
    .CLK_OUT_DIV | .PWR_VR_TIMEOUT_US | .PWR_VDD_CORE_MV | .PWR_TJ | .PWR_TJ_PEAK | .FLT_WDOG_MS | .TWI_RISE_NS |
    .TWI_SU_DAT_NS | .TWI_HD_DAT_NS | .TWI_IDLE_US | .TWI_RISE_MEAS_NS => 16
  | .CH_BLACK_MANUAL | .CH_BLACK0 | .CH_BLACK1 | .CH_BLACK2 | .CH_DCB_LEVEL | .CH_DCB_GATE | .HFT_OUT_MIN |
    .HFT_EDGE_MIN | .CRC_FEED24 => 24
  | .COM_MAC0 | .COM_MAC1 | .CH_TIME_OFFSET | .TIM_SEC => 48
  | .CH_SAMPLE_RATE | .POS_Z_POS | .POS_Z_TIME | .POS_POSITION | .POS_TIME | .CH_RS_Y | .POS_GRID_ORIGIN |
    .POS_DECSYNC_POS | .POS_GRID_SET | .STI_REPEAT_Y | .HFT_PD_SAMPLES | .HFT_PD_BYTES | .HFT_PD_CAPACITY |
    .CMP_COMPARED | .CMP_FLAGGED | .CMP_MASKED | .CMP_SAT | .RDL_SNIP_ADDR | .MEM_REFRESHES | .MEM_RD_BYTES |
    .MEM_WR_BYTES | .MEM_PD_BASE | .MEM_PD_SIZE | .MEM_PD_RD | .MEM_PD_WR | .FLC_DEC_SAMPLES | .FLC_ENC_SAMPLES |
    .FLC_ENC_BYTES | .FLC_JOB_SRC | .FLC_JOB_DST | .CRC_ADDR | .CRC_CONTEXT | .DMA_SCRATCH_BASE | .DMA_RING_BASE |
    .DMA_CPL_BASE | .DMA_BYTES | .PCI_BAR2_WIN | .TRU_FW_SRC | .TIM_SET | .TIM_SNAP_TIME | .TIM_TT_START |
    .TIM_TT_ARM | .TIM_TC_LAST | .FLD_POS_OFFSET | .FLT_LAST_TIME => 64
  | .DEV_ID_COUNT | .DEV_DRAM_GIB | .DEV_TJ_MAX | .DEV_STATE_COUNT | .DEV_STATE | .DEV_RUN_REQ | .DEV_REDUCED |
    .SES_COUNT | .SES_STATE | .SES_TRANSPORT | .SES_SUBS | .SES_CLOSE | .COM_COUNT | .COM_IP6_MODE | .COM_DAP_PORTS |
    .COM_BAR0_COUNT | .COM_BAR0_ABORT | .DEV_COMMIT_COUNT | .DEV_COMMIT_STATE | .DEV_STAGE_DISCARD |
    .CH_COMMIT_COUNT | .CH_COMMIT_STATE | .CH_STAGE_DISCARD | .NVS_COUNT | .NVS_SAVE | .NVS_ERASE | .NVS_ACTIVE |
    .NVS_STATE | .NVS_VALID | .LNK_COUNT | .LNK_RUNG_MAX | .LNK_STATE | .LNK_RUNG | .LNK_SLEEP_STATE | .LNK_TEST |
    .CH_LINK_COUNT | .CH_LINK_STATE | .CH_PREVIEW_STRIDE | .CH_CREG_COUNT | .CH_CREG_LEN | .CH_CREG_GO |
    .CH_CREG_STATUS | .CH_CREG_CAMCODE | .CH_LINKCNT_COUNT | .CH_CAMREP_COUNT | .CH_DARK_EVERY | .CH_CTL_COUNT |
    .CH_STATE | .CH_MODALITY | .CH_SLICES | .CH_SLICE_PARTNER | .CH_CAMSET_COUNT | .CH_DT | .CH_TRIGGER |
    .CH_GENS_COUNT | .CH_CAM_FAULT | .CH_FRONT_COUNT | .CH_BLACK_SHIFT | .CH_BOFF_COUNT | .CH_BOFF_PLANE |
    .CH_DPM_COUNT | .CH_SHADE_COUNT | .CH_SHADE_PLANE | .CH_TAP_COUNT | .CH_TAP_POINT | .CH_TAP_FORMAT |
    .CH_STAT_COUNT | .POS_SRC_COUNT | .POS_SRC_PRIMARY | .POS_SRC_BACKUP | .POS_QUALITY | .POS_REARM |
    .POS_FILTER_NS | .POS_ENC_COUNT | .POS_ENC_Z_MODE | .POS_ENC_STATE | .POS_POS_COUNT | .POS_DIR | .POS_EMU_COUNT |
    .POS_EMU_SOURCE | .POS_EMU_FORM | .POS_EMU_REVERSE | .CH_RS_COUNT | .CH_RS_FILTER | .CH_RS_BANK |
    .CH_RS_QUALITY | .CH_RS_COEF_COUNT | .CH_RS_USER_KIND | .CH_RS_BUILTIN_SEL | .CH_PH_COUNT | .CH_DCB_COUNT |
    .CH_DCB_SHIFT | .CH_DCB_HOLD_LINE | .CH_RS_CNT_COUNT | .POS_GRID_COUNT | .POS_DECSYNC_EDGE | .CH_STI_COUNT |
    .CH_STI_SET | .CH_STI_FLAGS | .STI_COUNT | .STI_ACQ_MIN | .STI_MARK_SRC | .STI_STRETCH_SHIFT | .STI_REPEAT_SET |
    .STI_SET_COUNT | .STI_SET_REF | .STI_REG_PLANE | .STI_REG_STATE | .HFT_COUNT | .HFT_LEARN_REPEATS |
    .HFT_RUN_PADDOCK | .HFT_RULE_COUNT | .HFT_TOL_GAIN | .HFT_TOL_FLOOR | .HFT_SHIFT_MAX | .HFT_OUT_GAIN |
    .HFT_CONF_MAX | .HFT_LEARN_TOL_MIN | .HFT_LEARN_EFFORT | .HFT_SEAL_EFFORT | .HFT_PD_COUNT | .HFT_PD_STATE |
    .HFT_PD_ROLE | .HFT_PD_ORIGIN | .HFT_LOAD_COUNT | .HFT_LOAD_ABORT | .HFT_SET_COUNT | .HFT_LOAD_PLANES |
    .CMP_COUNT | .CMP_RESOLUTION | .CMP_CLS_COUNT | .CMP_CLSX_COUNT | .PEN_COUNT | .PEN_BLIND_BRIDGE | .PEN_SET_CNT |
    .PEN_SET_EDGE | .RDL_R_COUNT | .RDL_R_SETS | .RDL_R_CLASSES | .RDL_R_POL | .RDL_R_CLASS | .RDL_R_SEV |
    .RDL_R_ACTION | .RDL_R_REJECT | .RDL_COUNT | .RDL_DEF_CLASS | .RDL_DEF_SEV | .RDL_DEF_ACTION |
    .RDL_TALLY_BACKLOG | .RDL_DEST_COUNT | .RDL_SNIP_COUNT | .RDL_SNIP_MARGIN | .RDL_SNIP_STATE | .RDL_ST_COUNT |
    .RDL_ST_OUT | .RDL_ST_MODE | .CH_CAL_COUNT | .CH_CAL_REPEATS | .CH_CAL_TOL_MAX | .CH_CAL_CHAIN_MAX |
    .CH_CAL_BND_COUNT | .CH_CAL_DPX_COUNT | .CH_CAL_DPX_LIMIT | .CH_CAL_DPX_FRAC | .CH_CAL_DPX_CONFIRM |
    .CH_CAL_DPX_MAX | .CH_CAL_ST_COUNT | .CH_CAL_STATE | .CH_CAL_DONE_REPEATS | .CH_CAL_CMD_COUNT | .CH_CAL_START |
    .CH_CAL_ABORT | .CH_CAL_SEED | .CH_CAL_ANC_PLANE | .CAL_COUNT | .CAL_BUILD_SLOTS | .MEM_COUNT | .MEM_STATE |
    .MEM_RETRAIN_STATE | .MEM_RETRAIN_REQ | .MEM_PD_COUNT | .MEM_PD_ORDER | .MEM_RQ_COUNT | .MEM_RQ_HINT |
    .MEM_RQ_RESERVED | .FLC_COUNT | .FLC_JOB_COUNT | .FLC_JOB_OP | .FLC_JOB_KIND | .FLC_JOB_EFFORT | .FLC_JOB_GO |
    .FLC_JOB_STATE | .FLC_JOB_ERROR | .CRC_U_COUNT | .CRC_ALG | .CRC_MODE | .CRC_CMD | .CRC_FEED8 | .CRC_CHECK |
    .QUE_COUNT | .QUE_DIR | .QUE_PEER | .QUE_POLICY | .QUE_STATE | .DMA_COUNT | .DMA_CHANNELS | .DMA_CH_COUNT |
    .DMA_CMD | .DMA_STATE | .DMA_RING_SPACE | .DMA_FAULT | .PCI_COUNT | .PCI_LINK_SPEED | .PCI_LINK_WIDTH |
    .DEV_FW_COUNT | .DEV_FW_SLOT | .TRU_KEY_COUNT | .TRU_KEY_STATE | .TRU_CERT_SEL | .TRU_JRN_COUNT |
    .TRU_HOLD_COUNT | .TRU_HOLD_SET | .TRU_HOLD_STATE | .TRU_FW_COUNT | .TRU_FW_STATE | .TIM_COUNT | .TIM_SRC |
    .TIM_SERVO_STATE | .TIM_PTP_COUNT | .TIM_PTP_ROLE | .TIM_PTP_PORT | .TIM_PTP_TRANSPORT | .TIM_PTP_DOMAIN |
    .TIM_PTP_DELAY | .TIM_PTP_CLOCK_CLASS | .TIM_PORT_COUNT | .TIM_TT_COUNT | .TIM_TT_MODE | .TIM_TT_POL |
    .TIM_TT_OWNER | .TIM_TC_COUNT | .TIM_TC_EDGE | .TIM_TC_FILTER_NS | .EVT_COUNT | .EVT_LINE_COUNT |
    .EVT_LINE_ATTR | .EVT_LINE_OWNER | .EVT_CELL_COUNT | .EVT_CELL_IN | .EVT_CELL_FF | .EVT_CELL_CLK |
    .EVT_CELL_FILTER | .EVT_TASK_COUNT | .EVT_TASK_SEL0 | .EVT_TASK_SEL1 | .EVT_TASK_PENDING | .EVT_TASK_CLEAR |
    .FLD_COUNT | .FLD_ID | .FLD_STATE | .FLD_EXPECT | .FLD_MEMBERS | .FLD_UPSTREAM | .FLD_RELAY_LINE | .FLD_TJ_MAX |
    .FLD_M_COUNT | .FLD_M_STATE | .FLD_M_REFUSE | .CLK_COUNT | .CLK_CORE_PLL | .CLK_FORCED | .CLK_TIME_SRC |
    .CLK_RETURN | .CLK_REF_CNT | .CLK_REF_STATE | .CLK_OUT_COUNT | .CLK_OUT_SRC | .PWR_COUNT | .PWR_STATE |
    .PWR_POINT | .PWR_POINT_FLOOR | .PWR_VR_MODE | .PWR_VR_ADDR | .PWR_SLEEP | .PWR_WAKE_LINE | .PWR_RESET |
    .PWR_RESET_CAUSE | .FLT_COUNT | .FLT_LAST | .TWI_COUNT | .TWI_SPEED | .TWI_STRETCH_MS | .TWI_RETRY |
    .TWI_BUS_STATE | .TWI_CNT_COUNT | .TWI_FLAGS | .TWI_FLAG_CLEAR | .TWI_T_COUNT | .TWI_T_ADDR | .TWI_T_RD_LEN |
    .TWI_T_GO | .TWI_T_STATUS | .TWI_T_DONE_BYTES | .FLD_CNT_COUNT | .CRC_COUNT | .CRC_UNITS => 8
  | _ => 32

/-- Default value of each object whose default is one number for every part and instance (the Default column of its table); 0 elsewhere. -/
def Reg.default0 : Reg → Nat
  | .DEV_RUN_REQ | .COM_IP6_MODE | .DEV_GEN_STAGED | .CH_GEN_STAGED | .NVS_AUTO | .LNK_ENABLE | .CH_DARK_EVERY |
    .CH_MODALITY | .CH_BLACK_EN | .CH_DPC_EN | .CH_SHADE_EN | .CH_TAP_EVERY | .CH_TAP_BLIND | .POS_ENC_TERM |
    .POS_STOPPED | .POS_EMU_N | .POS_EMU_M | .POS_EMU_FORM | .POS_EMU_REVERSE | .POS_EMU_INTERP |
    .CH_RS_BUILTIN_SEL | .STI_SET_TRIM_EN | .STI_REG_EN | .STI_REG_PLANE | .CMP_EN | .RDL_R_SEV | .RDL_EN |
    .RDL_DEF_SEV | .CH_CAL_EN | .DMA_RING_SPACE | .PCI_RELAXED | .TIM_CLOCK_OK | .TIM_PTP_TRANSPORT |
    .TIM_PTP_DELAY | .TIM_TC_EN | .TIM_PTP_LOG_ANNOUNCE | .FLD_STATE | .FLD_EXPECT | .FLD_MEMBERS |
    .CLK_AUTO_RETURN | .CLK_OUT_DIV | .PWR_RESET_CAUSE | .TWI_SPEED | .TWI_BUS_STATE | .CRC_COUNT => 1
  | .CH_LINK_COUNT | .CH_TAP_COUNT | .CH_STAT_COUNT | .POS_FILTER_NS | .HFT_COUNT | .HFT_RULE_COUNT | .HFT_PD_COUNT |
    .PEN_XDEV_TIMEOUT_MS | .TIM_TC_FILTER_NS => 10
  | .CH_STATUS_MS | .POS_EMU_PULSE_NS | .DMA_LEASE_MS | .TIM_LOCK_NS | .TWI_SU_DAT_NS => 100
  | .LNK_TEST_MS | .CH_TEMP_MS | .RDL_ST_PULSE_MIN_US | .DMA_WAIT_US | .TIM_TT_WIDTH | .EVT_LINE_RETRIG_NS => 0x3e8
  | .CH_EXPOSURE_NS | .STI_STRETCH_MAX_PPM => 0x2710
  | .CH_LINE_RATE_MAX | .TIM_STEP_THRESH => 0x186a0
  | .TIM_TT_PERIOD => 0xf4240
  | .RDL_SNIP_MAX_W | .RDL_SNIP_MAX_H => 0x400
  | .HFT_EDGE_MIN => 0xfa000
  | .COM_COUNT | .CH_STI_COUNT | .RDL_COUNT | .RDL_SNIP_COUNT | .RDL_ST_COUNT | .CH_CAL_COUNT | .TIM_TT_COUNT |
    .FLT_COUNT => 11
  | .POS_ENC_COUNT | .POS_EMU_COUNT | .CH_DCB_SHIFT | .CH_CAL_ST_COUNT | .FLC_JOB_COUNT => 12
  | .CH_CAL_DPX_LIMIT | .CH_CAL_DPX_FRAC => 128
  | .CH_LINKCNT_COUNT | .PEN_COUNT => 13
  | .CH_CAL_GAIN_SPAN => 0x51f
  | .CRC_U_COUNT | .DMA_CH_COUNT | .TIM_PTP_COUNT | .FLD_COUNT | .PWR_COUNT => 14
  | .STI_SET_COUNT => 15
  | .STI_LOSS_ROWS | .HFT_TOL_FLOOR | .CH_CAL_TEMP_DELTA | .CAL_BUILD_SLOTS | .MEM_COUNT | .QUE_COUNT => 16
  | .CH_RS_PITCH => 0x190000
  | .CMP_CLS_DIE => 0x1010008
  | .RDL_R_COUNT | .TIM_COUNT => 17
  | .TIM_KP => 179
  | .LNK_RUNG_MAX | .CH_DPM_COUNT | .CH_TAP_FORMAT | .STI_STRETCH_SHIFT | .HFT_LEARN_EFFORT | .CMP_CLSX_COUNT |
    .CH_CAL_DPX_CONFIRM | .FLC_JOB_EFFORT | .CLK_OUT_COUNT | .FLD_CNT_COUNT => 2
  | .LNK_COUNT | .STI_COUNT => 20
  | .POS_COAST_MS | .POS_SPEED_WIN_US => 200
  | .FLD_FORM_MS | .PWR_VR_TIMEOUT_US => 0x7d0
  | .STI_MARK_WIN_PPM => 0x4e20
  | .CH_CAL_SPREAD_MIN => 0x800
  | .CMP_CLS_PLAIN | .CMP_CLS_LEARN => 0x81010008
  | .CMP_CLS_VAR => 0x81818010
  | .CMP_CLS_UNCONF => 0x82020010
  | .CMP_CLS_EDGE => 0x83030010
  | .CMP_CLS_PREVIEW => 0x84040020
  | .COM_DAP_PORT => 0x6068
  | .TIM_PTP_CLOCK_CLASS => 248
  | .STI_ACQ_MIN | .TWI_STRETCH_MS => 25
  | .NVS_ACTIVE | .LNK_RUNG | .CH_SLICE_PARTNER | .POS_SRC_BACKUP | .CH_DCB_HOLD_LINE | .CH_STI_SET | .STI_SET_REF |
    .HFT_RUN_PADDOCK | .CMP_RESOLUTION | .EVT_CELL_IN | .EVT_CELL_CLK | .EVT_TASK_SEL0 | .EVT_TASK_SEL1 |
    .FLD_UPSTREAM | .FLD_RELAY_LINE | .PWR_WAKE_LINE | .FLT_LAST => 255
  | .CH_GAIN0 | .CH_GAIN1 | .CH_GAIN2 | .STI_RATE | .STI_SET_BLEND_W | .CH_CAL_N_MIN | .CH_CAL_LINE_STEP |
    .CH_CAL_GAIN_STEP | .DMA_RING_ENTRIES => 0x100
  | .COM_DAP_PORTS | .CH_CAMREP_COUNT | .CH_BOFF_COUNT | .CH_SHADE_COUNT | .POS_EMU_SOURCE | .CH_PH_COUNT |
    .HFT_SHIFT_MAX | .RDL_R_ACTION | .RDL_DEF_ACTION | .MEM_RQ_COUNT | .DMA_COUNT | .CLK_REF_CNT | .TWI_RETRY => 3
  | .TWI_RISE_NS | .TWI_HD_DAT_NS => 0x12c
  | .CH_CAL_LOW_MAX => 0xc00
  | .HFT_LEARN_TOL_MIN | .RDL_SNIP_MARGIN | .CH_CAL_TOL_MAX | .DMA_CHANNELS => 32
  | .COM_IP4_ADDR => 0xc0a80a32
  | .CH_STI_LAST => 0x7fff
  | .CH_CAL_T_REF => 0x8000
  | .TIM_PTP_PRIORITY => 0x8080
  | .CH_DT => 33
  | .MEM_REFRESH_NS => 0xf3c
  | .STI_NCC_MIN => 0x999a
  | .CH_CREG_LEN | .CH_BLACK_SHIFT | .CH_RS_COEF_COUNT | .CH_CAL_REPEATS | .CH_CAL_BND_COUNT | .CH_CAL_DPX_MAX => 4
  | .HFT_CONF_MAX | .MEM_SW_GBS => 40
  | .PEN_RESERVE | .CH_CAL_OFF_SPAN => 0x1000
  | .HFT_OUT_MIN => 0x64000
  | .LNK_TX_EQ => 0x400000
  | .CH_STI_A1 => 0x19000000
  | .COM_IP4_MASK => 0xffffff00
  | .TIM_PTP_LOG_SYNC => 0xfffffffd
  | .HFT_TOL_GAIN => 48
  | .DEV_REDUCED | .COM_BAR0_COUNT | .CH_RS_CNT_COUNT | .CMP_CLS_COUNT | .PEN_SET_CNT | .MEM_PD_COUNT |
    .TRU_KEY_COUNT | .TRU_FW_COUNT | .FLD_M_COUNT => 5
  | .POS_STOP_MS | .TWI_IDLE_US => 50
  | .STI_TRIM_MAX | .FLT_WDOG_MS => 0x1f4
  | .STI_TRIM_STEP | .CH_CAL_OFF_STEP => 0x200
  | .CH_DCB_GATE => 0xc800
  | .CH_DCB_LEVEL => 0x80000
  | .DEV_STATE_COUNT | .CH_CREG_COUNT | .CH_CTL_COUNT | .CH_GENS_COUNT | .POS_GRID_COUNT | .HFT_SEAL_EFFORT |
    .CMP_COUNT | .DEV_FW_COUNT | .TIM_TC_COUNT | .EVT_TASK_COUNT => 6
  | .DEV_DRAM_USABLE => 0x258
  | .FLT_MASK => 0xebff
  | .STI_ANCHOR_MIN | .HFT_OUT_GAIN | .PEN_BLIND_BRIDGE | .CH_CAL_FLAT | .PWR_VR_ADDR => 64
  | .HFT_LOAD_QUEUE | .PEN_MAX_LINES | .RDL_DEST | .QUE_MSIX | .DMA_MSIX | .EVT_QUE_SEL | .EVT_TASK_ARG => 0xffff
  | .STI_REFINE_LINES => 0x10000
  | .POS_ENC_STEP => 0xa0000
  | .DEV_COMMIT_COUNT | .CH_COMMIT_COUNT | .POS_SRC_COUNT | .CH_RS_COUNT | .CH_DCB_COUNT | .HFT_LOAD_COUNT |
    .HFT_SET_COUNT | .CH_CAL_DPX_COUNT | .CH_CAL_CMD_COUNT | .FLC_COUNT | .TIM_PORT_COUNT | .EVT_LINE_COUNT |
    .CLK_COUNT => 7
  | .TIM_KI => 77
  | .CAL_POOL_ENTRIES => 0xc0000
  | .DEV_ID_COUNT | .CH_FRONT_COUNT | .POS_POS_COUNT | .HFT_LEARN_REPEATS | .RDL_DEST_COUNT | .CH_CAL_CHAIN_MAX |
    .CAL_COUNT | .MEM_RQ_RESERVED | .TRU_JRN_COUNT | .EVT_COUNT | .TWI_T_COUNT | .TWI_T_ADDR | .CRC_UNITS => 8
  | .CAL_STACK_DELTA => 80
  | .CH_RATE_MHZ => 0x4c4b400
  | .CH_CAL_HIGH_MIN => 0x2000
  | .SES_COUNT | .NVS_COUNT | .CH_CAMSET_COUNT | .PCI_COUNT | .TRU_HOLD_COUNT | .EVT_CELL_COUNT | .TWI_COUNT |
    .TWI_CNT_COUNT => 9
  | _ => 0

end Sys2Proof.Machine
end

