-- ==== Sys2Proof/Config.lean ====
section
/-!
DEFINITION. What the manual leaves open, as constants without a body: nothing in Lean can evaluate them or prove a value of
them, so a statement that mentions one holds for every value it could have. Each is applied to the operands it may depend
on, or to the model's own counter of free values (log entry 1).
-/
namespace Sys2Proof.Config

/-- A fresh free natural number for each use of the counter; the user reduces it to the range the manual allows. -/
opaque freeNat : Nat → Nat

/-- A fresh free octet string for each use of the counter. -/
opaque freeOctets : Nat → Octets

/-- The private key of the unit with the given serial number: generated at final test and readable by nothing (R368,
log entry 2). -/
opaque privateKey : Octets → Nat

/-- The public key and the end of validity of Palluhal's manufacturing CA (R369: as issued). -/
opaque caKey : Octets
opaque caNotAfter : Octets

/-- The DER of a certificate of a unit's with an issuer, common name, serialNumber of the subject, end of validity, key usage and public key (R369). Its own
number, the start of its validity and its signature are the issuer's. -/
opaque certDer : Octets → Octets → Octets → Octets → Octets → Nat → Octets → Octets

/-- The payload an encoder of the codec makes of a block at an effort (R319: the same for the same input; log entry 10). -/
opaque fleecePayload : Nat → Nat → List Nat → Octets

end Sys2Proof.Config
end

