-- ==== Sys2Proof/Machine/State.lean ====
section
/-!
DEFINITION. The state of the device as plain data: the dictionary's objects as one store per copy, and the state behind them
block by block, in the order of the manual's chapters; the command queue; and the machine right after reset. The default of
each field is its value at reset (log entry 4 names those that the manual does not give).
-/
namespace Sys2Proof.Machine

/-- Why a step stops. No meaning of this model ends in a fault: every event of the table has an effect the manual gives. -/
inductive Fault where
  /-- Raised by nothing: kept so that the type names the one stop a block of this kind could have, a device with no
  supply at all. Safe. -/
  | unpowered
deriving DecidableEq, Repr

/-- Why a command is refused. -/
inductive Refusal where
  /-- Raised by `exec` for a command of the table that has no meaning yet. Safe: the model stops. -/
  | notModelled (mnemonic : String)
  /-- Raised by every meaning for a command that is not well formed (`Instr.wf`): its operands name no unit of the device or
  no value of the field they stand for, so that it is no command of the table. Safe: the model stops. -/
  | illFormed
deriving DecidableEq, Repr

/-! ## Values and stores of the dictionary (R25 to R28) -/

/-- The value of an object: a number in two's complement below its type's width, or the bytes of a STR or BLOB. -/
inductive Val where
  | num (n : Nat)
  | bytes (b : Octets)
deriving DecidableEq, Repr

/-- An object of one unit: the object and the unit's number (0 where there is one). -/
structure Key where
  reg : Reg
  inst : Nat
deriving DecidableEq, Repr

/-- A copy of the dictionary's values: the objects whose value differs from the default, in rising key order. -/
abbrev Store := List (Key × Val)

/-- A commit scope (R46): the device or one channel. -/
inductive Scope where
  | device
  | channel (n : Nat)
deriving DecidableEq, Repr

/-- The orderable parts of R1. -/
inductive Part where
  | vlx2416c
  | vlx2416e
  | vlx1208c
deriving DecidableEq, Repr

/-- What the unit is: its part, serial number, MAC addresses and fold straps (R1, R5, R8, R41). Log entry 5. -/
structure Identity where
  part : Part := .vlx2416c
  serial : Octets := List.replicate 16 0x30
  mac0 : Nat := 0
  mac1 : Nat := 0
  foldId : Nat := 0
deriving DecidableEq, Repr

/-! ## What the device sends -/

/-- What a command makes the device send or drive: the frames, packets, datagrams, messages and pins that the manual says
leave the device. -/
inductive Out where
  /-- A DAP response or push: Ethernet port, peer address and UDP port, payload (R33). -/
  | dap (port : Nat) (peer : Octets) (udp : Nat) (payload : Octets)
  /-- A control frame of 32 octets, or its content in a marker FRAME field, on a lane (R63, R67). -/
  | frame (lane : Nat) (octets : Octets)
  /-- A MSI-X message (R361). -/
  | msix (vector : Nat)
  /-- A fragment or credit datagram of a queue: port, source UDP port, address, UDP port, payload (R347, R349). -/
  | eth (port src : Nat) (peer : Octets) (udp : Nat) (payload : Octets)
  /-- An address resolution request for a subscriber (R348). -/
  | resolve (port : Nat) (peer : Octets)
  /-- Bytes written to host memory (R350, R355), and whether the writes carry Relaxed Ordering (R360). -/
  | host (addr : Nat) (bytes : Octets) (relaxed : Bool)
  /-- A completion of a BAR read: its value, and the EP bit (R43, R359). -/
  | completion (value : Octets) (poisoned : Bool)
  /-- A packet on a lane: its header, payload and CRC as sent (R79). -/
  | packet (lane : Nat) (octets : Octets)
  /-- Bits that a lane's transmitter sends at rungs 0 and 1, in the order in which they leave its pins (R62, R72). -/
  | bits (lane : Nat) (bits : List Nat)
  /-- PAM4 levels that a lane's transmitter sends at rungs 2 and 2H, in thirds of the outer amplitude, in order (R68, R72). -/
  | levels (lane : Nat) (levels : List Int)
  /-- The abort code of an object write made from outside DAP; 0 when it was applied (R27). -/
  | result (abort : Nat)
  /-- A PTP message out of a port (R391, R392). -/
  | ptp (port transport : Nat) (msg : Octets)
  /-- A line of the event fabric rose at a local time (R399). -/
  | lineRise (line : Nat) (time : Nat)
  /-- A timed output, emulation output or other pin changes (R394, R142). -/
  | pin (name : String) (level : Bool) (time : Nat)
  /-- An emulation count reaches the pins: output, direction, Z (R142). -/
  | emu (k : Nat) (forward : Bool) (z : Bool)
  /-- A two-wire transaction of the controller: address, bytes written, bytes to read (R459). -/
  | twi (addr : Nat) (wr : Octets) (rd : Nat)
  /-- Bytes a target read returns (R467). -/
  | twiRead (bytes : Octets)
  /-- A lane's transmitter does something that is not a frame. -/
  | lane (lane : Nat) (what : String)
  /-- An image written into a flash slot (R372). -/
  | flash (slot : Nat) (image : Octets)
  /-- A message to firmware or another block that the manual names but that leaves no other trace. -/
  | note (what : String)
deriving DecidableEq, Repr

/-! ## Dictionary, sessions, commit and the non-volatile store (02_dictionary.md) -/

/-- A subscription of a session (R38): the object, its mode, its interval in µs, the tick of its last push and the value
pushed. -/
structure Subscription where
  key : Key
  periodic : Bool
  interval : Nat
  lastTick : Nat
  lastVal : Val
deriving DecidableEq, Repr

/-- The segment buffer of a session (R35): the object being built and the segments received, oldest first, each with its
offset. -/
structure SegBuffer where
  key : Key
  segs : List (Nat × Octets)
deriving DecidableEq, Repr

/-- An open session other than session 0 (R36, R37). `eth` and `lastRx` are the Ethernet port and
the tick of the peer's last datagram; `lastSeq` and
`lastResp` are the SEQ of the last executed request and the stored response. -/
structure Session where
  n : Nat
  peer : Octets
  port : Nat
  eth : Nat := 0
  lastRx : Nat
  lastSeq : Option Nat := none
  lastResp : Octets := []
  pushSeq : Nat := 0
  subs : List Subscription := []
  seg : Option SegBuffer := none
deriving DecidableEq, Repr

/-- A pending set (R45): its scope, generation, values of the scope's RWS objects that differ from their defaults, and the
tick of its acceptance. -/
structure PendingSet where
  scope : Scope
  gen : Nat
  values : Store
  since : Nat
deriving DecidableEq, Repr

/-- The non-volatile store beside its objects (R50 to R53): the images of the two banks as MRAM holds them, the image and
target bank of a save in progress, a held save, an erase that waits for the save to complete, the mark that a persistent
value has changed since the last save began, and the tick at which the last automatic save started. -/
structure Nvs where
  bank0 : Octets := []
  bank1 : Octets := []
  saving : Option (Nat × Octets) := none
  held : Bool := false
  heldExplicit : Bool := false
  eraseWaits : Bool := false
  erased : Bool := false
  dirty : Bool := false
  autoAt : Option Nat := none
  /-- The save began in this tick, at whose end its snapshot is taken (R51). -/
  fresh : Bool := false
deriving DecidableEq, Repr

/-! ## Rinar lanes (03_rinar_lanes.md) -/

/-- A rung change in progress (R61): the target rung, the COUNT of the next RUNG_REQ, the start preset, whether a RUNG_ACK has
arrived, whether COUNT 0 has been sent, whether the transmitters have switched, and whether this end asks. -/
structure RungChange where
  target : Nat
  count : Nat
  preset : Nat
  acked : Bool := false
  sentZero : Bool := false
  switched : Bool := false
  asks : Bool := true
deriving DecidableEq, Repr

/-- A test running or asked for (R74): its code, its duration in ms, whether the far end asked for it, and whether it runs. -/
structure LaneTest where
  code : Nat
  ms : Nat
  far : Bool
  running : Bool
  saved : Nat
deriving DecidableEq, Repr

/-- The PRBS checker (R72): the last bits received, how many correct predictions in a row while it seeks lock, whether it is locked,
and which of the last 64 bits or symbols were wrong. -/
structure Checker where
  reg : Nat := 0
  filled : Nat := 0
  run : Nat := 0
  locked : Bool := false
  recent : List Bool := []
deriving DecidableEq, Repr

/-- What a lane's transmitter is sending (R61, R62, R65, R66, R68, R72, R75, R76). -/
structure LaneTx where
  /-- The rung it sends at, which follows the lane's once what was due at the rung before has left, and the µs for which it still stays
  electrically idle at the switch (R61). -/
  rung : Nat := 0
  hush : Nat := 0
  /-- Training frames and packets due, oldest first. -/
  frames : List Octets := []
  packets : List Octets := []
  /-- Rungs 0 and 1: the octets still to send of the ordered set, frame or packet in progress, control characters marked; the running
  disparity is positive; µs since the outstanding request was last sent (R62, R64). -/
  chars : List (Bool × Nat) := []
  plus : Bool := false
  beat : Nat := 0
  /-- Rungs 2 and 2H: quarters of a symbol since the superframe in progress began, octets still to send of the packets begun, SFCOUNT of
  the next superframe, the last 58 scrambled bits, and P(n−1) (R65, R66, R68). -/
  elapsed : Nat := 0
  left : Octets := []
  sfCount : Nat := 0
  scrambler : Nat := 0
  lastP : Nat := 0
  /-- Idle fill still to send after a wake, and before SLEEP NOW: µs at rung 1, superframes at rungs 2 and 2H (R75, R76). -/
  fill : Nat := 0
  nod : Option Nat := none
  /-- SLEEP NOW has been made ready: the transmitter goes electrically idle behind it (R75). -/
  closing : Bool := false
  /-- A test pattern replaces the coded stream, and its register (R72). -/
  pattern : Bool := false
  prbs : Nat := 0
deriving DecidableEq, Repr

/-- A lane beside its objects. -/
structure Lane where
  /-- Octets 3–29 and SEQ of the last training frame sent (R63). -/
  txLast : Octets := []
  txSeq : Nat := 0
  /-- Comma lock at rungs 0 and 1 (R62). -/
  comma : Bool := false
  /-- Marker lock at rungs 2 and 2H (R67); markers seen in a row, and missed in a row. -/
  marker : Bool := false
  seen : Nat := 0
  missed : Nat := 0
  /-- The IDENT received since the lane last left SEEK: octets 4–29 (R63), whether it is matched, and the order of matching. -/
  ident : Option Octets := none
  matched : Bool := false
  excluded : Bool := false
  /-- Own IDENT sent since SEEK was left. -/
  identSent : Bool := false
  /-- Rungs 2 and 2H that have failed since SEEK was left (R59), and the 10 s retry wait. -/
  failed2 : Bool := false
  failed2h : Bool := false
  retryWait : Bool := false
  change : Option RungChange := none
  /-- The transmitter coefficients last used at rung 1 (R58, RELOCK). -/
  eqRung1 : Nat := 0x00400000
  /-- The SNR measured at rung 1, in 0.25 dB (R70). -/
  snr1 : Nat := 0
  /-- The start preset of TRAIN2 and how often it has been rotated (R70). -/
  preset : Nat := 1
  rotations : Nat := 0
  /-- The EQ exchange (R69): the REQUEST and PRESET this end has out, whether STATUS has come for it, timeouts, whether the last
  request of the training has been made and answered, and the STATUS this end reports. -/
  eqReq : Nat := 0
  eqPreset : Nat := 0
  eqAcked : Bool := true
  eqTimeouts : Nat := 0
  eqDone : Bool := false
  eqStatus : Nat := 0
  /-- RX_READY sent, frames in a row it was sent in, and received in (R71). -/
  ready : Bool := false
  readySent : Nat := 0
  readyGot : Nat := 0
  /-- LNK_CODE_VIOL when the last request was answered (R71). -/
  violMark : Nat := 0
  /-- Corrected symbols of the last superframes in a row without an uncorrectable codeword, newest first, at most 64 (R71). -/
  window : List Nat := []
  /-- The last 58 scrambled bits and the last level received (R66, R68). -/
  scrambler : Nat := 0
  lastP : Nat := 0
  /-- Octets of the packet whose flits are arriving, each with its errored mark, and the packets delineated and not yet checked:
  octets, whether one is errored, local time of the first (R67, R80). -/
  flits : List (Nat × Bool) := []
  flitTime : Nat := 0
  arrived : List (Octets × Bool × Nat) := []
  test : Option LaneTest := none
  checker : Checker := {}
  /-- Sleep requested by this end: the direction (0 own transmitter) and the repeats; directions that have been acknowledged. -/
  sleepReq : Option (Nat × Nat) := none
  sleepAcked : Bool := false
  /-- Waiting for lock after the signal returned (R76). -/
  wakeWait : Bool := false
  /-- Hunting for a header (R80). -/
  hunting : Bool := false
  /-- The transmitter. -/
  tx : LaneTx := {}
deriving DecidableEq, Repr

/-! ## Links, packets and camera control (04_link_packets.md) -/

/-- A packet after its check, as it is held and released: data type, FIRST, LAST, BIN, credit class, credit cost, the local time
of its first octet, and its payload, none where the CRC failed. A count declared lost is released as data type 0. -/
structure Packet where
  dt : Nat
  first : Bool
  last : Bool
  bin : Bool
  cls : Nat
  cost : Nat
  time : Nat
  payload : Option Octets
deriving DecidableEq, Repr

/-- The credits of one class of a virtual channel (R87): consumed, the limit in force, and (receiver) those freed. -/
structure Credit where
  used : Nat := 0
  limit : Nat := 0
  freed : Nat := 0
deriving DecidableEq, Repr

/-- Reception on one virtual channel (R84 to R87): the next count expected, packets held for order by their SEQ32, packets released
and not yet taken, and the credits by class (channel links use class 0 alone, R414). -/
structure VcRx where
  expect : Nat := 0
  held : List (Nat × Packet) := []
  released : List Packet := []
  cr : List Credit := [{}, {}]
deriving DecidableEq, Repr

/-- A packet waiting to be sent: data type, CTL bits below VC, credit class, payload. -/
structure TxPacket where
  dt : Nat
  ctl : Nat
  cls : Nat
  payload : Octets
deriving DecidableEq, Repr

/-- Transmission on one virtual channel (R83, R84, R87): the next count, the credits by class, and the packets waiting. -/
structure VcTx where
  count : Nat := 0
  cr : List Credit := [{}, {}]
  waiting : List TxPacket := []
deriving DecidableEq, Repr

/-- A control request (R95): TAG, OP, arguments, retransmissions and BUSY answers so far. -/
structure Request where
  tag : Nat
  op : Nat
  args : Octets
  retries : Nat := 0
  busies : Nat := 0
  /-- Waiting 1 ms after a BUSY answer. -/
  waitBusy : Bool := false
deriving DecidableEq, Repr

/-- One TIME_ECHO result (R99): the camera time of the echo (midway between C2 and C3) and the offset O. -/
structure Echo where
  cam : Nat
  offset : Nat
deriving DecidableEq, Repr

/-- A line of raw samples on its way into the front end (R89 to R93): header values, data type, BIN, blind mark, trigger time in total
ns of device time, credits it holds, and the samples, plane by plane within each pixel. `restart` marks the first line after a line-number
restart; `replaced` a line made under R93, and `zeros` one without a good line to repeat. -/
structure RawLine where
  gen : Nat
  line : Nat
  trig : Nat
  temp : Nat
  dt : Nat
  bin : Bool
  blind : Bool
  restart : Bool
  zeros : Bool
  credits : Nat
  samples : List Nat
deriving DecidableEq, Repr

/-- The line being joined from its segments (R89): data type, BIN, octets so far, whether a segment failed, whether the rest of it is
skipped because it has been judged, credits held, the local time of the FIRST segment, and the one whose FIRST segment was lost. -/
structure Assembly where
  dt : Nat
  bin : Bool
  octets : Octets
  damaged : Bool := false
  skip : Bool := false
  headless : Bool := false
  credits : Nat := 0
  time : Nat := 0
deriving DecidableEq, Repr

/-- What the judge of R93 remembers of lines of one BIN value: the last line number, the last good line, and the numbers and camera
TRIGs of the last good lines, newest first, at most 64. -/
structure LineHistory where
  lastLine : Option Nat := none
  /-- GEN, LINE, TRIG (camera ns), TEMP of the last good line. -/
  good : Option (Nat × Nat × Nat × Nat) := none
  recent : List (Nat × Nat) := []
deriving DecidableEq, Repr

/-- A link of bonded lanes: channels 0 to 15, 16 west, 17 east (R82 to R102). -/
structure Link where
  up : Bool := false
  refLane : Option Nat := none
  refIdent : Octets := []
  rx : List VcRx := List.replicate 4 {}
  tx : List VcTx := List.replicate 4 {}
  /-- The far end's first credit update has arrived (R87). -/
  credited : Bool := false
  /-- The usable lanes with their rungs at the last look (R100). -/
  usable : List (Nat × Nat) := []
  /-- The last control TAG, the request outstanding, and those queued behind it. -/
  tag : Nat := 0
  out : Option Request := none
  queue : List (Nat × Octets) := []
  /-- Step of R100 reached: 0 down, 2 waiting for credit, 3 GET_INFO, 4 SETTINGS and ACTIVATE, 5 echoes, 6 MODE. -/
  step : Nat := 0
  /-- Generations sent in SETTINGS since the link formed, newest first, with their data types and exposures (R93, R149); the generations
  whose ACTIVATE is due when SETTINGS is acknowledged, and the one acknowledged (R98). -/
  sent : List (Nat × Nat × Nat) := []
  ackedGen : Option Nat := none
  activateDue : List Nat := []
  /-- The arguments of those SETTINGS, by generation (R97). -/
  sentArgs : List (Nat × Octets) := []
  /-- MODE and stride last sent, and acknowledged: 0 STOP, 1 PREVIEW, 2 FULL; 3 none. -/
  modeSent : Nat × Nat := (3, 0)
  modeAcked : Nat := 3
  /-- Echoes, newest first, at most two; T1 of the echo in flight; timeouts and good residuals in a row; one-way delay (R99). -/
  echoes : List Echo := []
  echoT1 : Nat := 0
  echoBad : Nat := 0
  echoGood : Nat := 0
  delay : Nat := 0
  asm : Option Assembly := none
  /-- A lane of the FULL channel has left SERVICE: full lines that still arrive complete are used (R101). -/
  fullTail : Bool := false
  hist : List LineHistory := [{}, {}]
  lastBin : Option Bool := none
  afterStop : Bool := false
  /-- Data type of the last line judged, which its dark block follows, and the dark block being joined (R92). -/
  lineDt : Nat := 0x21
  dark : Option Assembly := none
  /-- Lines waiting in the ingest line buffer, oldest first (R125). -/
  ingest : List RawLine := []
  /-- Tracked black level of each plane with the GEN it was last set under; none before the first dark block (R117). -/
  black : List (Option (Nat × Nat)) := [none, none, none]
  /-- FLAGS, LINES and GEN of the last status, and the last temperature readings (R94). -/
  camFlags : Nat := 0
  camLines : Nat := 0
  camGen : Nat := 0
  temps : List Nat := []
  /-- FOLD_ID of a fold link's neighbour, and whether it fits the ring (R411). -/
  farFold : Option Nat := none
  ringOk : Bool := true
deriving DecidableEq, Repr

/-! ## The channel front end (05_channel_front.md) -/

/-- The three correction tables of a channel (R118): entries that differ from the default, by plane × 32,768 + pixel, in rising order, and the
defective-pixel map. -/
structure Tables where
  offs : List (Nat × Int) := []
  gains : List (Nat × Nat) := []
  dpm : List Nat := []
deriving DecidableEq, Repr

/-- The stitch geometry of a line (R179): that of the set under which it entered the front end. Q24.8, Q8.24, 2^−40 and 2^−56 µm, first and last valid
pixel, and the pitch of its grid (Q16.16 µm). -/
structure Geo where
  a0 : Int := 0
  a1 : Int := 0
  a2 : Int := 0
  a3 : Int := 0
  first : Nat := 0
  last : Nat := 0
  pitch : Nat := 0
deriving DecidableEq, Repr

/-- A line with its corrected samples (Q14.10), plane by plane. -/
structure CorLine where
  gen : Nat
  line : Nat
  trig : Nat
  temp : Nat
  bin : Bool
  blind : Bool
  restart : Bool
  planes : List (List Nat)
  /-- Its geometry, and the CAL_SEQ of the tables that corrected it (R292). -/
  geo : Geo := {}
  seq : Nat := 0
deriving DecidableEq, Repr

/-- What SLICE_ASSIGN decided for an accepted commit (R123): the slices the channel holds after its hand-over and with whom it shares, those
it takes from the FREE ones, those that then drain, and the partner it leaves. -/
structure SlicePlan where
  slices : Nat
  partner : Nat := 0xFF
  take : Nat := 0
  drain : Nat := 0
  leaves : Nat := 0xFF
deriving DecidableEq, Repr

/-- The front end of a channel beside its objects. -/
structure Front where
  live : Tables := {}
  staged : Tables := {}
  pend : Option Tables := none
  /-- Software has written the staging offsets, gains or map since the last accepted commit (R119). -/
  touched : Bool × Bool × Bool := (false, false, false)
  /-- The same of the pending tables: which of them software wrote (R119). -/
  pendTouched : Bool × Bool × Bool := (false, false, false)
  /-- The camera generation, the one before it, and the front-correction set in force before the hand-over that changed it:
  generation, tables, and the objects at offset 0x10 (R112, R113). -/
  camGen : Nat := 0
  prevGen : Nat := 0
  prevFront : Option (Nat × Tables × Store) := none
  /-- Last corrected output of each BIN value since the link formed (R491). -/
  lastCor : List (Option CorLine) := [none, none]
  /-- Lines that have reached each tap's point since its set became live (R120). -/
  tapCount : List Nat := [0, 0, 0, 0]
  /-- An enable held until the drain completes (R109). -/
  enableHeld : Bool := false
  /-- Slices that drain after a release, and the plan of an accepted commit (R123). -/
  drainSlices : Nat := 0
  plan : Option SlicePlan := none
deriving DecidableEq, Repr

/-! ## Web position (06_web_position.md) -/

/-- A position source beside its objects (R129 to R133, R139): the decoder's state (none before the first filtered levels), the run of
consecutive illegal transitions, the stamps of the last two legal counts, newest first, and the raw count at the last Z. -/
structure Source where
  code : Option Nat := none
  run : Nat := 0
  stamps : List Nat := []
  zRaw : Option Nat := none
deriving DecidableEq, Repr

/-- A retained count (R138, R149): the counter (Q48.16 µm) and its stamp in total ns. -/
structure Count where
  p : Nat
  t : Nat
deriving DecidableEq, Repr

/-- An emulation output beside its objects (R141, R142): the progress value, the scheduled emission, the stamps of the last two counts of the
position counter it follows, and the counts waiting for the pins (forward, computed time), oldest first; forward counts since the last Z; the
quadrature phase that A and B show; in pulse form the end of the pulse on A and whether the last count was reverse; and the output counts for which Z stays high. -/
structure Emu where
  a : Int := 0
  sched : Option Nat := none
  backlog : List (Bool × Nat) := []
  zCount : Nat := 0
  phase : Nat := 0
  pulseEnd : Nat := 0
  reverse : Bool := false
  zLeft : Nat := 0
deriving DecidableEq, Repr

/-- The position interface beside its objects. -/
structure Pos where
  srcs : List Source := List.replicate 3 {}
  active : Option Nat := none
  /-- Sources that become active at their first legal count (R133, R134). -/
  await : List Nat := []
  /-- Retained counts, newest first, at most 4,096, and how many of them the speed window may use (R138). -/
  counts : List Count := []
  usable : Nat := 0
  /-- v as a quotient: Q48.16 µm over ns; 0 over 0 when it is 0. -/
  vNum : Int := 0
  vDen : Nat := 0
  /-- Legal counts that the active source still owes before the held speed gives way (R132). -/
  hold : Nat := 0
  /-- Time from which the bound of R138 runs. -/
  boundAt : Nat := 0
  /-- P_f and t_f (R136), the speed and the step in force there, and the end of coasting; what readings were from which time on: time and quality, newest first, at
  most 64 (R149). -/
  coastP : Nat := 0
  coastT : Nat := 0
  coastNum : Int := 0
  coastDen : Nat := 0
  coastStep : Nat := 0
  lostT : Nat := 0
  quals : List (Nat × Nat) := []
  /-- Stamps of the last two counts that moved the counter, newest first. -/
  stamps : List Nat := []
deriving DecidableEq, Repr

/-! ## Down-web resampling (07_resampling.md) -/

/-- A line of the resampler's history (R149, R150): its position (Q48.16 µm, signed), t_mid in ns, quality, its place since the history
was cleared, and the corrected line's GEN, LINE and samples. -/
structure InLine where
  p : Int
  t : Nat
  q : Nat
  idx : Nat
  gen : Nat
  line : Nat
  temp : Nat
  blind : Bool
  planes : List (List Nat)
  geo : Geo
  seq : Nat
deriving DecidableEq, Repr

/-- An output line (R148, R151): its number j, y (Q48.16 µm, signed), time in ns, quality, blind mark, BIN, the GEN, LINE and TEMP of the line
below its target, its samples, plane by plane, its geometry, CAL_SEQ, and the grid origin it was targeted on. -/
structure OutLine where
  j : Nat
  y : Int
  t : Nat
  q : Nat
  blind : Bool
  bin : Bool
  gen : Nat
  line : Nat
  temp : Nat
  planes : List (List Nat)
  geo : Geo := {}
  seq : Nat := 0
  grid : Int := 0
deriving DecidableEq, Repr

/-- A channel's resampler beside its objects. -/
structure Resampler where
  /-- The history, oldest first, and the lines that have entered it since it was cleared. -/
  hist : List InLine := []
  entered : Nat := 0
  bin : Bool := false
  /-- The channel's grid origin and the one pending for it (R148, R169); the next target: j and y, none before the first. -/
  origin : Int := 0
  pending : Option Int := none
  next : Option (Nat × Int) := none
  /-- j and y of the last emitted line since the channel entered RESTARTING (R161). -/
  last : Option (Nat × Int) := none
  balance : Nat := 0
  /-- Places of the last 64 output lines of plane 0 among the input lines, in 1/256, newest first (R155). -/
  places : List Nat := []
  bank : Nat := 1
  /-- Samples of the last non-blind output line (R153), of each BIN value. -/
  good : List (Option (List (List Nat))) := [none, none]
  /-- The DC-blocking profile, Q14.18, plane by plane; none before it is seeded (R165). -/
  profile : Option (List (List Nat)) := none
deriving DecidableEq, Repr

/-! ## Stitching and registration (08_stitch_register.md) -/

/-- The value of a tested sample that goes beside it to the compare (R285, R286): sample, channel, pixel, the CAL_SEQ of its line, and the pixel's
values, plane by plane. -/
structure CalPix where
  s : Nat
  ch : Nat
  px : Nat
  seq : Nat
  gen : Nat
  vals : List Nat
deriving DecidableEq, Repr

/-- A stitched line in the registration delay buffer (R178): j, y_j, t_j, quality, resolution, samples plane by plane, the blind bits, the values live
calibration tests, and the modalities of its members. -/
structure StLine where
  j : Nat
  y : Int
  t : Nat
  q : Nat
  bin : Bool
  planes : List (List Nat)
  blind : List Bool
  cal : List CalPix := []
deriving DecidableEq, Repr

/-- The field of a tile row (R192): row, the line from which on it holds (none: all of the row's), and dx, dy (1/16 sample) and quality (0 MEASURED, 1 HELD,
2 UNREGISTERED) of each tile column. -/
structure RegRow where
  r : Nat
  since : Option Nat := none
  cols : List (Int × Int × Nat)
deriving DecidableEq, Repr

/-- An overlap of a set (R182): left and right member, the sums C(−8) to C(8), the lines that entered them, and δ in 1/16 sample once measured. -/
structure Overlap where
  left : Nat
  right : Nat
  sums : List Int := List.replicate 17 0
  lines : Nat := 0
  delta : Option Int := none
deriving DecidableEq, Repr

/-- A stitch set beside its objects. -/
structure Stitch where
  /-- The resolution of its lines, the grid they lie on (origin and pitch), the current j, and the lines that wait: channel and line, oldest first. -/
  bin : Bool := false
  grid : Int := 0
  pitch : Nat := 0
  next : Option Nat := none
  waiting : List (Nat × OutLine) := []
  /-- The last output line of each member, and t_j of the last two stitched lines, newest first. -/
  last : List (Nat × OutLine) := []
  made : List Nat := []
  /-- The registration delay buffer, oldest first, and the line that left it last. -/
  buf : List StLine := []
  prev : Option StLine := none
  /-- The field of the last tile rows, newest first, at most 1,024; the next row is predicted at displacement 0 (R192); the heft block rows that each tile
  column of the last row used, with the repeat (R195); rows in a row without a valid axis. -/
  rows : List RegRow := []
  zeroPred : Bool := true
  cache : Option (Nat × List (Int × Int)) := none
  loss : Nat := 0
  overlaps : List Overlap := []
  /-- Trims that take effect at the next repeat boundary (R183), oldest update first: channel and τ. -/
  trims : List (Nat × Int) := []
  /-- Draining (R196): every member has left ON, and the buffer is flushed. -/
  flushing : Bool := false
  /-- The repeat of the last line compared; none before the first repeat. -/
  k : Option Nat := none
  /-- Every line of the set's repeat has been compared at full resolution with a heft in force (R283). -/
  full : Bool := false
deriving DecidableEq, Repr

/-- The start of a repeat (R185 to R187): its index, Y_k (Q48.16 µm) and the stretch in force for it. -/
structure RepeatStart where
  k : Nat
  y : Int
  e : Int
deriving DecidableEq, Repr

/-- Repeats beside their objects: starts, newest first, at most 1,024; whether a repeat is open for marks. -/
structure Repeats where
  starts : List RepeatStart := []
  opened : Bool := false
deriving DecidableEq, Repr

/-! ## Hefts (09_heft_reference.md) -/

/-- A layer of a heft (R204). -/
structure Layer where
  set : Nat
  cols : Nat
  lines : Nat
  planes : Nat
deriving DecidableEq, Repr

/-- A block of a layer (R205). -/
structure BlockAt where
  set : Nat
  plane : Nat
  br : Nat
  bc : Nat
deriving DecidableEq, Repr

/-- A block being rebuilt on die (R212): the learning repeat, the block, the tile's count before this repeat, its words and their touched
bits, and whether it is set from preview lines (R219). -/
structure Rebuild where
  rep : Nat
  pad : Nat
  block : BlockAt
  n : Nat
  words : List Nat
  touched : List Bool
  seed : Bool := false
deriving DecidableEq, Repr

/-- A block written and not yet verified (R215): its extent, bytes and words, whether it seals, whether it has been written again, and whether it comes from a
load. -/
structure BlockWrite where
  rep : Nat
  block : BlockAt
  pad : Nat
  off : Nat
  bytes : Octets
  words : List Nat
  seals : Bool
  retried : Bool := false
  load : Bool := false
  seed : Bool := false
deriving DecidableEq, Repr

/-- A tile scheduled in a learning repeat (R215): the paddock, words updated, which of its sixteen blocks have been written and which are finished,
whether one of them failed or found no space, and whether the write is the one that seals (R214, R227). -/
structure TileRun where
  rep : Nat
  pad : Nat
  set : Nat
  plane : Nat
  tr : Nat
  tc : Nat
  updated : Nat := 0
  written : Nat := 0
  done : Nat := 0
  failed : Bool := false
  seals : Bool := false
deriving DecidableEq, Repr

/-- What the compare of a repeat reads (R226, R234). -/
inductive RefMode where
  /-- Nothing: NO_REF. -/
  | idle
  /-- Heft in force: paddock. -/
  | heft (pad : Nat)
  /-- The heft resident for the running job during LAMBING, read by preview lines alone: paddock. -/
  | resident (pad : Nat)
  /-- The heft being learned, at half resolution (R218): paddock. -/
  | learn (pad : Nat)
  /-- The words set from preview lines (R219): paddock. -/
  | seed (pad : Nat)
deriving DecidableEq, Repr

/-- What is in force from a device repeat on (R226, R236): the repeat, the reference, the generation in force, whether learning takes samples and as which
learning repeat, whether it is throttled (R23), whether preview lines set words (R219), the paddock that learns, the class words, and the generation of the
VALID heft that the reference names. -/
structure InForce where
  k : Nat
  mode : RefMode
  gen : Nat := 0
  learning : Option Nat := none
  throttled : Bool := false
  seeding : Bool := false
  learnPad : Nat := 0
  classes : Store := []
  heftGen : Nat := 0
deriving DecidableEq, Repr

/-- A heft that lines of an earlier repeat are still to be compared with, after its paddock has been cleared (R226): its paddock, generation, layers, and the
bytes of its blocks, with those left unsealed. -/
structure OldHeft where
  pad : Nat
  gen : Nat
  layers : List Layer
  blocks : List (BlockAt × Octets)
  unsealed : List BlockAt
deriving DecidableEq, Repr

/-- The hefts beside their objects. -/
structure Heft where
  /-- Layers of paddocks A and B. -/
  layers : List (List Layer) := [[], []]
  /-- Learning counts that are not 0 (R215): tile index and count; words with CONF = 1 are counted when a heft becomes VALID. -/
  counts : List (Nat × Nat) := []
  rebuilds : List Rebuild := []
  writes : List BlockWrite := []
  runs : List TileRun := []
  /-- The number of the learning repeat in progress, counted from its start (R217); none when not learning at full resolution. -/
  learnRep : Option Nat := none
  /-- The paddock that `counts` and `sealed` speak of, and the tiles whose sealing write has been made and verified (R214, R227). -/
  learnPad : Nat := 1
  sealed : List Nat := []
  /-- A job change became live during LAMBING, and preview lines set the words of the standby (R219). -/
  seeding : Bool := false
  /-- Hefts that only lines of earlier repeats still read (R226), newest first. -/
  old : List OldHeft := []
  /-- Preview repeats learned under R219 since the job change. -/
  seedRep : Nat := 0
  /-- The kind of the open load (R222): none before its first stored item, else whether it is a mask. -/
  loadMask : Option Bool := none
  /-- What is in force, newest first, at most 8. -/
  force : List InForce := []
  /-- An item of the last load found no room (R222). -/
  loadFull : Bool := false
  /-- Blocks left unsealed in a heft in force (R217): paddock and block. -/
  unsealed : List (Nat × BlockAt) := []
  /-- Blocks that the stack delivers poisoned in the command under way, and those whose last read was poisoned (R318): paddock and block. -/
  bad : List BlockAt := []
  poisoned : List (Nat × BlockAt) := []
  /-- Uncompressed and compressed bytes of the heft blocks read in this repeat (R21). -/
  readBytes : Nat × Nat := (0, 0)
deriving DecidableEq, Repr

/-! ## Compare and segmentation (10_compare_segment.md) -/

/-- A sample of a compared line (R233, R239, R245): masked or unflagged; blind; or flagged with its excess n, polarity, planes, DIE-EDGE-VAR flags, class,
HELD and saturated marks, and displacement in 1/16 sample. -/
inductive Px where
  | clear
  | blind
  | flag (n pol planes hf cls : Nat) (held sat : Bool) (dx dy : Int)
deriving DecidableEq, Repr

/-- A line on its way from the compare to labelling (R238): line, down-web position (Q48.16 µm), time, COASTED, resolution (0 full, 1 half, 2 quarter), repeat
and whether it is the first of it, distance into the repeat (w of R188, Q48.16 µm), whether a heft was in force, whether it has a blind sample, whether the compare
may flag (CMP_EN), and its samples. -/
structure CmpLine where
  j : Nat
  y : Int
  t : Nat
  coasted : Bool
  res : Nat
  k : Nat
  first : Bool
  w : Int
  heft : Bool
  blind : Bool
  en : Bool := true
  px : List Px
deriving DecidableEq, Repr

/-- A run of a line (R238) and the pen it belongs to. -/
structure Run where
  s0 : Nat
  s1 : Nat
  pen : Nat
deriving DecidableEq, Repr

/-- A pen (R244) with what the device looks up for it: whether it is of its set's reserve (R246), its fragment tag (R250), and of line JFIRST its position,
time, repeat, distance into the repeat and C before it; C at the last line; the resolution of its lines; and, of a fragment, the sender's X0 and Λ. -/
structure Pen where
  idx : Nat
  set : Nat
  own : Bool := false
  smin : Nat
  smax : Nat
  jfirst : Nat
  height : Nat
  area : Nat
  peak : Nat
  peakS : Nat
  peakDj : Nat
  peakDx : Int
  peakDy : Int
  sum : Nat
  pol : Nat
  planes : Nat
  hflags : Nat
  cls : Nat
  blind : Nat
  qual : Nat
  flags : Nat
  tag : Option Nat := none
  y : Int
  t : Nat
  k : Nat
  w : Int
  heft : Bool
  c0 : Nat
  c1 : Nat
  res : Nat
  x0 : Int := 0
  pitch : Nat := 0
deriving DecidableEq, Repr

/-- One line's entry of an EDGE message (R251): line, blind, tag or 0. -/
structure EdgeEntry where
  j : Nat
  blind : Bool
  tag : Nat
deriving DecidableEq, Repr

/-- Segmentation of a set: lines waiting, and of the previous processed line its resolution, runs and, per sample, how many lines it has been carried (none
when neither flagged nor carried); entries of its shared edges not yet sent; and at the east device the neighbour's entries, its own of column 0, and the
EDGE whose WATERMARK is due (R251): last line of it, and the lost lines. -/
structure Segment where
  queue : List CmpLine := []
  res : Nat := 0
  runs : List Run := []
  carry : List (Option Nat) := []
  west : List EdgeEntry := []
  east : List EdgeEntry := []
  peer : List EdgeEntry := []
  own : List EdgeEntry := []
deriving DecidableEq, Repr

/-- A component at the bellwether (R252): its tags, those absorbed by ALIAS, the fragments it holds with their tags and senders, when the first arrived (tick), and whether it completes only by
timeout (R416). -/
structure Component where
  tags : List Nat
  dead : List Nat := []
  frags : List (Nat × Pen)
  firstAt : Option Nat := none
  byTimeout : Bool := false
deriving DecidableEq, Repr

/-- Segmentation beside its objects: the open pens, those absorbed on the line being labelled, those closed and waiting for the classifier (with CROSS and PARTIAL),
and at the bellwether the components, the tags whose component was passed on without their FRAG, and the WATERMARKs: east device, set, line. -/
structure Pens where
  sets : List Segment := List.replicate 8 {}
  pens : List Pen := []
  absorbed : List Pen := []
  closed : List (Pen × Bool × Bool) := []
  comps : List Component := []
  passed : List Nat := []
  marks : List (Nat × Nat × Nat) := []
deriving DecidableEq, Repr

/-! ## Records, tally blocks and reject scheduling (11_raddle_records.md) -/

/-- A tally block (R269 to R271) without its signature. -/
structure Tally where
  tseq : Nat := 0
  rseqFirst : Nat := 0
  records : List Octets := []
  k : Nat := 0
  heftGen : Nat := 0
  openSec : Nat := 0
  openNs : Nat := 0
  sev : List Nat := [0, 0, 0, 0]
  counts : List Nat := [0, 0, 0, 0, 0]
  sets : List (Nat × Nat) := List.replicate 8 (0, 0)
  /-- Per channel: GEN_FIRST, LINES_FIRST, GEN_LAST, LINES_LAST, LINES_MID. -/
  chans : List (List Nat) := List.replicate 16 [0, 0, 0, 0, 0]
  close : Nat := 0
  closeSec : Nat := 0
  closeNs : Nat := 0
  devGen : Nat := 0
  jseq : Nat := 0
  jhead : Octets := []
deriving DecidableEq, Repr

/-- What a snippet takes of one channel (R266): first and last position (Q48.16 µm), first pixel and pixels. -/
structure SnipPart where
  ch : Nat
  y0 : Int
  y1 : Int
  first : Nat
  pixels : Nat
deriving DecidableEq, Repr

/-- A snippet (R266 to R268): handle, unit in the store, units reserved, its record, what it takes, state of RDL_SNIP_STATE, and its length once written. -/
structure Snippet where
  handle : Nat
  unit : Nat
  units : Nat
  rseq : Nat
  tseq : Nat
  parts : List SnipPart
  state : Nat
  bin : Bool := false
  len : Nat := 0
deriving DecidableEq, Repr

/-- A line in the history ring (R24, R266): its place in the ring and bytes, channel, GEN, LINE, position, width of a sample, raw samples plane by plane, and whether
its write was dropped and it is marked absent (R314). -/
structure RingLine where
  at_ : Nat
  bytes : Nat
  ch : Nat
  gen : Nat
  line : Nat
  bin : Bool
  pos : Option Int
  w : Nat
  planes : List (List Nat)
  absent : Bool := false
deriving DecidableEq, Repr

/-- What one record asks of a reject station (R276): station, start position and length (Q48.16 µm), and the settings under which it was armed; its predicted start,
total ns, its width, and whether it only extends the pulse to its own end, as one that found the list full does (R277). -/
structure PulsePart where
  station : Nat
  y : Int
  len : Int
  lead : Nat
  least : Nat
  extend : Nat
  start : Option Nat := none
  width : Nat := 0
  tail : Bool := false
deriving DecidableEq, Repr

/-- A pending or started pulse (R276, R277): its number, its output, its parts, whether its start is fixed, and its end once started. -/
structure Pulse where
  id : Nat := 0
  out : Nat
  parts : List PulsePart
  fixed : Bool := false
  ends : Option Nat := none
deriving DecidableEq, Repr

/-- Records, tally blocks and reject scheduling beside their objects: the open block, those closed and not yet signed, the SHA-256 of the last signed block, whether
the storm has made its record, the snippets with the store's next unit and epoch, the ring with its next place
and whether it has wrapped, the lines it has overwritten (channel, preview, position), the pulses, and the number of the next. -/
structure Raddle where
  tally : Tally := {}
  signing : List Tally := []
  prev : Octets := List.replicate 32 0
  stormTold : Bool := false
  snips : List Snippet := []
  unit : Nat := 0
  epoch : Nat := 1
  ring : List RingLine := []
  ringAt : Nat := 0
  wrapped : Bool := false
  gone : List (Nat × Bool × Int) := []
  pulses : List Pulse := []
  pulseId : Nat := 0
deriving DecidableEq, Repr

/-! ## Live calibration (12_live_calibration.md) -/

/-- An accumulator entry (R288) of a pixel-plane, by plane × 32,768 + pixel. -/
structure CalAcc where
  key : Nat
  nh : Nat := 0
  nl : Nat := 0
  nx : Nat := 0
  seh : Nat := 0
  sel : Nat := 0
  sdh : Int := 0
  sdl : Int := 0
deriving DecidableEq, Repr

/-- The tables that a build has made (R290, R295, R296), and its counts. -/
structure CalBuild where
  /-- Built without bounds, as a seed (R294). -/
  seed : Bool := false
  tables : Tables
  updated : Nat
  stepLim : Nat
  spanLim : Nat
  noData : Nat
  cands : List Nat
  added : List Nat
deriving DecidableEq, Repr

/-- A channel's calibration beside its objects: accumulators, and as they stood at the last boundary of the set; a build put off past a boundary; whether the channel
holds entries of the pool; the CAL_SEQ and parameters of the cycle, the seed mark, follow-on cycles in a row, the last TEMP, the candidates' runs (key, cycles), the
anchors, and what the build made. -/
structure Calib where
  accs : List CalAcc := []
  kept : List CalAcc := []
  late : Bool := false
  pool : Bool := false
  seq0 : Nat := 0
  params : Store := []
  seedMark : Bool := false
  chain : Nat := 0
  temp : Option Nat := none
  runs : List (Nat × Nat) := []
  ancOffs : List (Nat × Int) := []
  ancGains : List (Nat × Nat) := []
  build : Option CalBuild := none
deriving DecidableEq, Repr

/-- The flow of lines beside its objects (R15): a blind line in this and the last device repeat. -/
structure Flow where
  blindNow : Bool := false
  blindLast : Bool := false
deriving DecidableEq, Repr

/-! ## In-package DRAM, the Fleece codec and check-value units (13_memory_codec.md) -/

/-- The DRAM controller beside its objects (R315, R317): the refresh interval from the next window on, the pieces still to be retrained, oldest
first, and those that failed in the last retraining. -/
structure DramCtl where
  interval : Nat := 3900
  pieces : List Nat := []
  failed : List Nat := []
deriving DecidableEq, Repr

/-- A software job of the codec beside its objects (R327): the settings taken at GO, and the source bytes behind it. -/
structure FleeceJob where
  op : Nat := 0
  kind : Nat := 0
  effort : Nat := 0
  src : Nat := 0
  blocks : Nat := 0
  dst : Nat := 0
  dstLen : Nat := 0
  taken : Nat := 0
deriving DecidableEq, Repr

/-- A check-value unit beside its objects (R329 to R332): whether it is started, and its running register. -/
structure CrcUnit where
  started : Bool := false
  reg : Nat := 0
deriving DecidableEq, Repr

/-! ## Queues, drovers and PCIe (14_queues_dma.md) -/

/-- An item in a queue's ring (R340): its kind, flags, ISEQ and QUE_DROPS at placement, and its payload without padding. -/
structure Item where
  kind : Nat
  flags : Nat
  iseq : Nat
  drops : Nat
  payload : Octets
deriving DecidableEq, Repr

/-- Reception of an item on an Ethernet ingress queue (R349): the bytes accepted so far of the item that QUE_ISEQ names, and the
Ethernet port, address and UDP port of the last accepted fragment. -/
structure Ingress where
  got : Octets := []
  from_ : Option (Nat × Octets × Nat) := none
deriving DecidableEq, Repr

/-- The ring of a queue beside its objects: items oldest first, whether an item was dropped since the last one placed, whether
QUE_HI was raised and QUE_LO not yet, the size, direction and peer in force, the channel that holds the queue (R352), and what has
arrived of the next ingress item. -/
structure Ring where
  q : Nat
  items : List Item := []
  gap : Bool := false
  hi : Bool := false
  pages : Nat := 0
  dir : Nat := 0
  peer : Nat := 0
  holder : Option Nat := none
  ingress : Ingress := {}
deriving DecidableEq, Repr

/-- A resolved MAC address of a subscriber (R348): port, IP address, MAC. -/
structure Neighbour where
  port : Nat
  addr : Octets
  mac : Octets
deriving DecidableEq, Repr

/-- The descriptor a drover channel executes (R351), with the bytes and items moved so far. -/
structure Descriptor where
  src : Nat
  dst : Nat
  length : Nat
  ctl : Nat
  obj : Nat
  tag : Nat
  bytes : Nat := 0
  items : Nat := 0
  halfSent : Bool := false
  /-- What the reads of host memory at its source return, up to the first that fails (R355). -/
  data : Octets := []
deriving DecidableEq, Repr

/-- A drover channel beside its objects (R350, R356): the tail index, the expected phase, how often the head descriptor has been
read stale, the descriptor in progress, and whether clearing FAULT moves DMA_HEAD past the descriptor that faulted. -/
structure Drover where
  c : Nat
  tail : Nat := 0
  phase : Bool := true
  stale : Nat := 0
  cur : Option Descriptor := none
  skip : Bool := false
deriving DecidableEq, Repr

/-- The PCIe endpoint beside its objects: Memory Space Enable of its Command register, Relaxed Ordering enabled in Device Control, PERST asserted, the MSI-X
vectors that are unmasked and those pending (R358 to R362). -/
structure Pcie where
  memEnable : Bool := false
  relaxed : Bool := true
  perst : Bool := false
  unmasked : List Nat := []
  pendingBits : List Nat := []
deriving DecidableEq, Repr

/-! ## Trust and journal (15_trust_journal.md) -/

/-- A journal entry (R373). -/
structure JEntry where
  jseq : Nat
  boot : Nat
  ty : Nat
  flags : Nat
  session : Nat
  sec : Nat
  ns : Nat
  index : Nat
  sub : Nat
  vtype : Nat
  vlen : Nat
  gen : Nat
  value : Octets
  peer : Octets
  port : Nat
  prev : Octets
deriving DecidableEq, Repr

/-- The journal unit (R373 to R378): entries made and not yet durable, oldest first; durable entries retained in the ring or the
mirror, oldest first; the budget of external entries; and JSEQ and hash of the newest entry made. -/
structure Journal where
  buf : List JEntry := []
  kept : List JEntry := []
  budget : Nat := 4096
  head : Nat := 0
  headHash : Octets := List.replicate 32 0
deriving DecidableEq, Repr

/-- The one-time fuses of firmware verification (R371): hash of the key of each slot, revocation bits, and the minimum SVN. -/
structure Fuses where
  keyHash : List Octets := List.replicate 4 (List.replicate 32 0)
  revoked : Nat := 0
  svnMin : Nat := 0
deriving DecidableEq, Repr

/-- The MRAM counter slots (R376): the newest slot's number and sequence, the boot counter and the heft generation counter. -/
structure CounterSlots where
  slot : Nat := 0
  seq : Nat := 0
  boot : Nat := 0
  heftGen : Nat := 0
deriving DecidableEq, Repr

/-! ## Time, time-triggered I/O and the event fabric (16_time_events.md) -/

/-- The local clock (R384, R385): seconds, nanoseconds and the internal 32-bit fraction of a nanosecond. -/
structure Clock where
  sec : Nat := 0
  ns : Nat := 0
  frac : Nat := 0
deriving DecidableEq, Repr

/-- A foreign master record (R389): the Announce fields that the dataset comparison uses, the interval, and the local times of
the last Announces received. -/
structure Foreign where
  ident : Octets
  priority1 : Nat
  clockClass : Nat
  accuracy : Nat
  variance : Nat
  priority2 : Nat
  gm : Octets
  stepsRemoved : Nat
  utc : Int
  logInterval : Int
  times : List Nat
deriving DecidableEq, Repr

/-- A Sync received and waiting for its Follow_Up (R389), or forwarded and remembered for it (R392): source, sequence, stamp of
arrival in 2^−16 ns, correction, residence to add, and the local time of it. -/
structure SyncWait where
  port : Nat
  source : Octets
  seq : Nat
  t2 : Int
  corr : Int
  add : Int
  at_ : Nat
deriving DecidableEq, Repr

/-- The IEEE 1588 state beside its objects. Times are in 2^−16 ns. -/
structure Ptp where
  foreign : List Foreign := []
  syncWait : List SyncWait := []
  fwdSync : List SyncWait := []
  /-- Delay_Req sent and unanswered: sequence, t3 and the t2 − t1 − c_s of the last Sync. -/
  delayReq : Option (Nat × Int) := none
  lastDiff : Option Int := none
  pathDelay : Option Int := none
  /-- Pdelay_Req sent by each port: sequence and t1; the response waiting for its follow-up: t4, t2, correction. -/
  pdelayReq : List (Nat × Nat × Int) := []
  pdelayResp : List (Nat × Nat × Int × Int × Int) := []
  seqSync : Nat := 0
  seqAnnounce : Nat := 0
  seqDelay : Nat := 0
  seqPdelay : Nat := 0
deriving DecidableEq, Repr

/-- The servo beside its objects (R390): the integral in 2^−16 ppb, the run of in-limit samples and the local time of the last
sample in ns. -/
structure Servo where
  integral : Int := 0
  run : Nat := 0
  lastAt : Option Nat := none
  /-- T of the last sample, in ns. -/
  interval : Nat := 0
  /-- The clock has been stepped while LOCKED (R406). -/
  stepped : Bool := false
deriving DecidableEq, Repr

/-- A time-triggered output beside its objects (R394): the start of an armed ONCE pulse, the index of the next PERIODIC edge, the end of
a pulse in progress, and the end of the last pulse, in total ns. -/
structure TtOut where
  armed : Option Nat := none
  edge : Nat := 0
  activeUntil : Option Nat := none
  lastEnd : Option Nat := none
deriving DecidableEq, Repr

/-- A whistle line (R399, R401): its level and the time of its last accepted rising edge in ns. -/
structure Line where
  level : Bool := false
  lastRise : Option Nat := none
  /-- The enforced re-trigger interval of the last accepted edge. -/
  hold : Nat := 0
  /-- The level its source drives, as last seen. -/
  src : Bool := false
deriving DecidableEq, Repr

/-- A cell (R400): the stored Q and the last look-up output. -/
structure Cell where
  q : Bool := false
  lut : Bool := false
  out : Bool := false
deriving DecidableEq, Repr

/-- The event fabric beside its objects: lines, cells, edges on their way to task inputs and to CLK inputs (with their stamps),
and the stamps of each task input's pending tasks (R404). -/
structure Fabric where
  lines : List Line := List.replicate 64 {}
  cells : List Cell := List.replicate 32 {}
  taskEdges : List (Nat × Nat) := []
  clkEdges : List Nat := []
  relayEdges : List Nat := []
  tasks : List (List Nat) := List.replicate 33 []
deriving DecidableEq, Repr

/-! ## Folds of several devices (17_fold.md) -/

/-- What the bellwether keeps of a member beside its objects (R417 to R419): the servo state of its last STATUS, whether its POS request has been
answered, the tick of its last STATUS, its FLD_STATE, its repeat count, Y_k, G0 and a reading from JOIN, its junction limit, and its shared edges: set, X0, Λ, W, PEN_SET_EDGE. -/
structure FoldMember where
  locked : Bool := false
  posSet : Bool := false
  heard : Nat := 0
  state : Nat := 0
  k : Nat := 0
  y : Nat := 0
  grid : Nat := 0
  posT : Nat := 0
  posP : Nat := 0
  tj : Nat := 0
  edges : List (Nat × Int × Nat × Nat × Nat) := []
deriving DecidableEq, Repr

/-- A request on VC2 that waits for its answer (R416): destination, data type, MSEQ, content, and how often it has been sent again. -/
structure FoldRequest where
  dst : Nat
  dt : Nat
  mseq : Nat
  body : Octets
  tries : Nat := 0
deriving DecidableEq, Repr

/-- The fold beside its objects. -/
structure Fold where
  /-- MSEQ of the next message of each VC (R414), and the last MSEQ seen of each source on each VC: source, VC, MSEQ. -/
  mseq : List Nat := [0, 0, 0, 0]
  seen : List (Nat × Nat × Nat) := []
  reqs : List FoldRequest := []
  members : List FoldMember := List.replicate 8 {}
  /-- The repeat from which the membership applies, as BEACON names it. -/
  fromK : Nat := 0
  /-- FLD_MEMBERS as the shared edges go by it: as it stood at the last repeat from which a membership applied (R429). -/
  shown : Nat := 1
  /-- A slip of R423 since the last repeat boundary. -/
  slip : Bool := false
  /-- The position offset in force until the device joins at its next boundary, while FLD_POS_OFFSET already holds the one to come (R421). -/
  held : Option Nat := none
  /-- The bellwether has acknowledged this member's JOIN (R417), and the member has its position offset (R418). -/
  acked : Bool := false
  posKnown : Bool := false
  /-- The start of repeat that an ISOLATED member takes when it joins again (R418, R424). -/
  start : Option RepeatStart := none
  /-- The member whose repeat count, grid and position this bellwether took before its first repeat boundary (R420). -/
  adopted : Option Nat := none
  /-- The level of FOLD_SYNC as seen (R412, R425). -/
  sync : Bool := false
  /-- Fold times of RELAY messages whose pulse is to come (R425). -/
  relays : List Nat := []
  /-- The count of the last fragment tag (R250). -/
  tag : Nat := 0
deriving DecidableEq, Repr

/-! ## Clocks, power and faults (18_clocks_power_faults.md) -/

/-- A reference clock beside its objects (R435 to R438): consecutive bad windows, its own cycles in good windows since the last bad one, good
windows since it became ready, whether it has failed and not returned, and whether its domains use it. -/
structure RefClock where
  bad : Nat := 0
  cycles : Nat := 0
  good : Nat := 0
  failed : Bool := false
  inUse : Bool := false
deriving DecidableEq, Repr

/-- The stages of a change of operating point (R441): raising waits for the voltage, the PLL and the switch; lowering for the PLL, the switch and
the voltage; a return of REFCLK_SYS for the PLL and the switch alone (R438). -/
inductive DvfsStage where
  | idle
  | raiseVolt (target : Nat)
  | raisePll (target : Nat)
  | raiseSwitch (target : Nat)
  | lowerPll (target : Nat)
  | lowerSwitch (target : Nat)
  | lowerVolt (target : Nat)
  | backPll
  | backSwitch
deriving DecidableEq, Repr

/-- A glitch-free switch in progress (R439): which clock (0 core, 1 time, 2 CLKOUT) and what it changes to. -/
structure ClockSwitch where
  which : Nat
  target : Nat
deriving DecidableEq, Repr

/-- How far bring-up has come (R448). -/
inductive BringUp where
  /-- Held in reset (PORST_N or SYSRST_N low, or a thermal trip). -/
  | held
  /-- Waiting for the boot ROM's image check. -/
  | boot
  /-- The chosen image and bank are in force; the references are awaited (step 4). -/
  | refs
  /-- Firmware runs; DRAM training has not ended. -/
  | train
  /-- The dictionary is reachable. -/
  | up
deriving DecidableEq, Repr

/-- Causes of forced STANDBY (R446). -/
structure Forced where
  tj : Bool := false
  stack : Bool := false
  supply : Bool := false
  refSys : Bool := false
deriving DecidableEq, Repr

/-! ## Two-wire interface (19_twi.md) -/

/-- A controller transaction (R459): its requester (0 the sequencer, 1 the fold poll, 2 software), the address, the bytes written after it, the bytes read,
whether it carries a packet error code (R470), and whether it is the second attempt of a fold poll (R413). -/
structure TwiReq where
  who : Nat
  addr : Nat
  wr : Octets
  rd : Nat
  pec : Bool := false
  again : Bool := false
deriving DecidableEq, Repr

/-- The two-wire block beside its objects (R459 to R470): the requests pending, oldest first; the transaction in progress, how often it has been retried, and
whether it waits for a retry; the arbiter's pointer; no START has been observed since reset; in DEEP_SLEEP, the block beyond the comparator is powered; the flags raised in this tick (R472); and the
settings in force: speed, rise, set-up, hold, stretch, retries, idle. -/
structure Twi where
  pending : List TwiReq := []
  cur : Option TwiReq := none
  tries : Nat := 0
  retryWait : Bool := false
  pointer : Nat := 0
  fresh : Bool := true
  powered : Bool := false
  raisedNow : Nat := 0
  settings : List Nat := [1, 300, 100, 300, 25, 3, 50]
deriving DecidableEq, Repr

/-! ## The device -/

/-- Everything the manual gives the device. The default of each field is its value at reset. -/
structure Device where
  /-- What the unit is (R1, R5). -/
  ident : Identity := {}
  /-- The live copy of every object (R28). -/
  live : Store := []
  /-- The staging copy of the RWS objects (R27). -/
  staged : Store := []
  /-- The pending sets, at most one per scope (R45). -/
  pend : List PendingSet := []
  /-- Scopes handed over in this tick, whose next commit waits for the next tick (R47). -/
  released : List Scope := []
  /-- The open sessions 1 to 1023, by number (R37). -/
  sess : List Session := []
  /-- The bulk mailbox of BAR0 from offset 0, bytes beyond its end 0 (R42). -/
  mailbox : Octets := []
  /-- The non-volatile store (R50). -/
  nvs : Nvs := {}
  /-- The session whose access was the last one applied in this tick, 1,024 for OPEN (R31). -/
  lastAccess : Nat := 0
  /-- Dictionary ticks since reset (R31, R385). -/
  tick : Nat := 0
  /-- The 36 lanes (R54). -/
  lanes : List Lane := List.replicate 36 {}
  /-- The sixteen channel links, west and east (R82, R102). -/
  links : List Link := List.replicate 18 {}
  /-- The channel front ends (R107). -/
  fronts : List Front := List.replicate 16 {}
  /-- Which channel of a shared slice took its last line (R124): lower channel, taker. -/
  sliceLast : List (Nat × Nat) := []
  /-- The position interface (R127). -/
  pos : Pos := {}
  /-- The emulation outputs (R141). -/
  emus : List Emu := List.replicate 4 {}
  /-- The resamplers (R148). -/
  rs : List Resampler := List.replicate 16 {}
  /-- The device's pending grid origin (R168). -/
  gridPend : Option Int := none
  /-- The grid origins before the one of POS_GRID_ORIGIN, newest first (R169, R263). -/
  gridPast : List Int := []
  /-- The stitch sets (R177). -/
  stitch : List Stitch := List.replicate 8 {}
  /-- The repeats (R185). -/
  rep : Repeats := {}
  /-- The hefts (R201). -/
  heft : Heft := {}
  /-- Segmentation (R238). -/
  seg : Pens := {}
  /-- Records, tally blocks and rejects (R259). -/
  rdl : Raddle := {}
  /-- Live calibration (R283). -/
  cal : List Calib := List.replicate 16 {}
  /-- The flow of lines (R15). -/
  flow : Flow := {}
  /-- The stack's bytes that differ from 0, by address (R306; log entry 9). -/
  dram : List Host.Cell := []
  /-- The DRAM controller (R308). -/
  ctl : DramCtl := {}
  /-- The codec's software jobs (R327). -/
  jobs : List FleeceJob := List.replicate 4 {}
  /-- The check-value units (R328). -/
  crcs : List CrcUnit := List.replicate 8 {}
  /-- The rings of the queues that are not OFF and empty, by queue (R339). -/
  rings : List Ring := []
  /-- Resolved subscribers (R348). -/
  neigh : List Neighbour := []
  /-- The drover channels that have been enabled, by channel (R350). -/
  drovers : List Drover := []
  /-- The endpoint (R358). -/
  pcie : Pcie := {}
  /-- The journal (R373). -/
  jrn : Journal := {}
  /-- The fuses (R371). -/
  fuses : Fuses := {}
  /-- BOOT and the heft generation counter in MRAM (R376). -/
  ctr : CounterSlots := {}
  /-- The sealed device key passes its authentication tag (R368). -/
  keyOk : Bool := true
  /-- A firmware image being verified or written, and its SVN (R372). -/
  staging : Option (Octets × Nat) := none
  /-- The measurement latched by the boot ROM; none before firmware runs (R371). -/
  fwMeas : Option Octets := none
  /-- The local clock (R384). -/
  clk : Clock := {}
  /-- IEEE 1588 (R387). -/
  ptp : Ptp := {}
  /-- The servo (R390). -/
  servo : Servo := {}
  /-- The time-triggered outputs (R394). -/
  tt : List TtOut := List.replicate 16 {}
  /-- The FIFO of each TC_IN: time and kind, oldest first (R398). -/
  tcFifo : List (List (Nat × Nat)) := List.replicate 8 []
  /-- Whistle lines, cells and tasks (R399). -/
  evt : Fabric := {}
  /-- The fold (R411). -/
  fold : Fold := {}
  /-- The session that acts has written 1 to its own SES_CLOSE, and ends with its request (R36). -/
  closing : Bool := false
  /-- PWR_RESET has been applied and the reset follows its response (R447). -/
  resetDue : Bool := false
  /-- The step of bring-up (R448). -/
  bring : BringUp := .boot
  /-- REFCLK_SYS, REFCLK_SD, REFCLK_TIME (R435). -/
  refs : List RefClock := List.replicate 3 {}
  /-- The sequencer (R441). -/
  dvfs : DvfsStage := .idle
  /-- The voltage last commanded, in mV; the regulator's power-up output until then (R442). -/
  voltMv : Nat := 800
  /-- The exponent N read from VOUT_MODE (R442). -/
  vrExp : Option Int := none
  /-- Switches waiting for the old clock's acknowledge (R439). -/
  switches : List ClockSwitch := []
  /-- Causes of forced STANDBY present (R446). -/
  forced : Forced := {}
  /-- Supply rails out of range (R449). -/
  rails : List Nat := []
  /-- The faults raised in this tick, by bit (R453). -/
  raisedNow : Nat := 0
  /-- The line of PWR_WAKE_LINE has risen in this tick (R445). -/
  wakeNow : Bool := false
  /-- WATCHDOG has been raised since firmware last confirmed (R451). -/
  wdog : Bool := false
  /-- CLKOUT's source in force (R440). -/
  clkOut : Nat := 0
  /-- Held in reset by a thermal trip until PORST_N (R447). -/
  thermalHeld : Bool := false
  /-- DEV_STATE when STANDBY was entered (R16). -/
  leftState : Nat := 0
  /-- Tick at which the lanes were woken to leave STANDBY (R16). -/
  wakeAt : Option Nat := none
  /-- The two-wire block (R459). -/
  twi : Twi := {}
  /-- The model's counter of free values (log entry 1); not the manual's. -/
  freeCtr : Nat := 0
  /-- What the last command sent or drove, oldest first; not the manual's (log entry 6). -/
  outs : List Out := []
deriving DecidableEq, Repr

/-- The state of the model: the device, and the commands that are waiting, first in, first out. -/
structure State where
  dev : Device := {}
  pending : List Instr := []
deriving DecidableEq, Repr

/-- The machine right after reset: every field at the value of its declaration, no command waiting. -/
def State.reset : State := { dev := {}, pending := [] }

end Sys2Proof.Machine
end

