-- ==== Sys2Proof/Machine/Ops.lean ====
section
/-!
DEFINITION. The named operations on the state that every block uses: reading and writing an object's live or staging copy, the
local time, the free values, the outputs of a command, and the form every meaning has.
-/
namespace Sys2Proof.Machine

/-- The octets of an ASCII string. -/
def ascii (s : String) : Octets := s.toList.map Char.toNat

/-- A camera channel that the part has (R1, R3). -/
def Identity.hasChan (id : Identity) (n : Nat) : Bool := n < (if id.part = .vlx1208c then 8 else 16)

/-- The paddocks of R307: base address. -/
def Identity.paddockBase (id : Identity) (k : Nat) : Nat :=
  let h := if id.part = .vlx1208c then 2 else 1
  match k with
  | 0 => 0
  | 1 => 0x200000000 / h
  | 2 => 0x400000000 / h
  | 3 => 0x500000000 / h
  | _ => 0x580000000 / h

/-- The paddocks of R307: size in bytes. -/
def Identity.paddockSize (id : Identity) (k : Nat) : Nat :=
  let h := if id.part = .vlx1208c then 2 else 1
  match k with
  | 0 => 0x200000000 / h
  | 1 => 0x200000000 / h
  | 2 => 0x100000000 / h
  | _ => 0x80000000 / h

/-- The map order of a paddock (R307). -/
def paddockOrder (k : Nat) : Nat := match k with | 2 => 0 | 4 => 2 | _ => 1

/-- First byte of scratch (R338). -/
def Identity.scratchBase (id : Identity) : Nat := if id.part = .vlx1208c then 0x2F4000000 else 0x5E8000000

/-- Bytes of scratch (R338). -/
def Identity.scratchSize (id : Identity) : Nat := if id.part = .vlx1208c then 0xC000000 else 0x18000000

/-- Bytes of the stack (R306). -/
def Identity.dramSize (id : Identity) : Nat := if id.part = .vlx1208c then 0x300000000 else 0x600000000

/-- DEV_TJ_MAX of the part (R1, R5). -/
def Identity.tjMax (id : Identity) : Nat := if id.part = .vlx2416e then 105 else 100

/-- The default value of an object of a unit: the Default column of its table, where that names the part, the unit or the
instance; otherwise the number of `Reg.default0`, or no bytes. -/
def Identity.dflt (id : Identity) (r : Reg) (i : Nat) : Val :=
  match r with
  | .DEV_VENDOR => .bytes (ascii "Palluhal")
  | .DEV_FAMILY => .bytes (ascii "Volaux")
  | .DEV_PART => .bytes (match id.part with
      | .vlx2416c => ascii "VLX2416-C"
      | .vlx2416e => ascii "VLX2416-E"
      | .vlx1208c => ascii "VLX1208-C")
  | .DEV_SILICON => .bytes (ascii "B1")
  | .DEV_CH_PRESENT => .num (if id.part = .vlx1208c then 0x00FF else 0xFFFF)
  | .DEV_DRAM_GIB => .num (if id.part = .vlx1208c then 12 else 24)
  | .DEV_TJ_MAX => .num id.tjMax
  | .DEV_SERIAL => .bytes id.serial
  | .COM_MAC0 => .num (id.mac0 % 2 ^ 48)
  | .COM_MAC1 => .num (id.mac1 % 2 ^ 48)
  | .COM_IP6_ADDR => .bytes (List.replicate 16 0)
  | .CH_LANE_MASK => .num ((3 <<< (2 * i)) % 2 ^ 32)
  | .CH_STATE => .num (if id.hasChan i then 0 else 4)
  | .HFT_PD_ROLE => .num (i % 2)
  | .HFT_PD_CAPACITY => .num (id.paddockSize 0)
  | .MEM_PD_BASE => .num (id.paddockBase i)
  | .MEM_PD_SIZE => .num (id.paddockSize i)
  | .MEM_PD_ORDER => .num (paddockOrder i)
  | .MEM_RQ_HINT => .num (match i with | 0 => 1 | 4 => 1 | 5 => 3 | 6 => 2 | 7 => 2 | _ => 0)
  | .DMA_SCRATCH_BASE => .num id.scratchBase
  | .FLD_ID => .num (id.foldId % 8)
  | .FLD_TJ_MAX => .num id.tjMax
  | _ =>
    match r.bits with
    | 0 => .bytes []
    | _ => .num r.default0

/-! ## Stores -/

/-- The place of a key in a store's order. -/
def Key.code (k : Key) : Nat := k.inst * 0x1000 + k.reg.ctorIdx

/-- The value a store lists for a key. -/
def Store.find (st : Store) (k : Key) : Option Val :=
  match st with
  | [] => none
  | (k', v) :: t => if k' = k then some v else Store.find t k

/-- A store without a key. -/
def Store.drop (st : Store) (k : Key) : Store := st.filter (fun e => e.1 ≠ k)

/-- A store with a value listed for a key. -/
def Store.ins (st : Store) (k : Key) (v : Val) : Store :=
  match st with
  | [] => [(k, v)]
  | (k', v') :: t =>
    if k' = k then (k, v) :: t
    else if k.code < k'.code then (k, v) :: (k', v') :: t
    else (k', v') :: Store.ins t k v

/-- A store with a key's value changed, given the key's default: the default is never listed. -/
def Store.put (st : Store) (k : Key) (v dflt : Val) : Store := if v = dflt then st.drop k else st.ins k v

/-- The keys of a store strictly rise. -/
def Store.rising : Store → Bool
  | [] => true
  | [_] => true
  | a :: b :: t => a.1.code < b.1.code && Store.rising (b :: t)

/-- The canonical form of a store: keys strictly rising, no entry equal to its default. -/
def Store.wf (id : Identity) (st : Store) : Bool :=
  st.rising && st.all (fun e => e.2 ≠ id.dflt e.1.reg e.1.inst)

/-! ## Reading and writing objects -/

/-- The number a value holds; a STR or BLOB counts its bytes (R26: its BAR0 slot). -/
def Val.toNat : Val → Nat
  | .num n => n
  | .bytes b => b.length

/-- The bytes a value holds; none for a number. -/
def Val.toOctets : Val → Octets
  | .num _ => []
  | .bytes b => b

namespace Device

/-- Live value of an object (R28). -/
def val (d : Device) (r : Reg) (i : Nat) : Val := (d.live.find ⟨r, i⟩).getD (d.ident.dflt r i)

/-- Staging value of an object (R27). -/
def stg (d : Device) (r : Reg) (i : Nat) : Val := (d.staged.find ⟨r, i⟩).getD (d.ident.dflt r i)

/-- Live number of an object. -/
def num (d : Device) (r : Reg) (i : Nat) : Nat := (d.val r i).toNat

/-- Live number of a signed object. -/
def int (d : Device) (r : Reg) (i : Nat) : Int := toSigned r.bits (d.num r i)

/-- Live value of a BOOL object. -/
def on (d : Device) (r : Reg) (i : Nat) : Bool := d.num r i != 0

/-- Live bytes of a STR or BLOB object. -/
def oct (d : Device) (r : Reg) (i : Nat) : Octets := (d.val r i).toOctets

/-- Staging number of an object. -/
def stgNum (d : Device) (r : Reg) (i : Nat) : Nat := (d.stg r i).toNat

/-- Staging number of a signed object. -/
def stgInt (d : Device) (r : Reg) (i : Nat) : Int := toSigned r.bits (d.stgNum r i)

/-- Staging value of a BOOL object. -/
def stgOn (d : Device) (r : Reg) (i : Nat) : Bool := d.stgNum r i != 0

/-- Staging bytes of a STR or BLOB object. -/
def stgOct (d : Device) (r : Reg) (i : Nat) : Octets := (d.stg r i).toOctets

/-- The live copy of an object takes a value. -/
def put (d : Device) (r : Reg) (i : Nat) (v : Val) : Device :=
  { d with live := d.live.put ⟨r, i⟩ v (d.ident.dflt r i) }

/-- The staging copy of an object takes a value. -/
def putStg (d : Device) (r : Reg) (i : Nat) (v : Val) : Device :=
  { d with staged := d.staged.put ⟨r, i⟩ v (d.ident.dflt r i) }

/-- The live copy of a number object takes the low bits of `n` that its type holds (R26). -/
def set (d : Device) (r : Reg) (i n : Nat) : Device := d.put r i (.num (n % 2 ^ r.bits))

/-- The live copy of a signed object takes an integer in two's complement. -/
def setI (d : Device) (r : Reg) (i : Nat) (n : Int) : Device := d.put r i (.num (ofSigned r.bits n))

/-- The live copy of a BOOL object. -/
def setOn (d : Device) (r : Reg) (i : Nat) (b : Bool) : Device := d.set r i (b2n b)

/-- The live copy of a STR or BLOB object. -/
def setOct (d : Device) (r : Reg) (i : Nat) (b : Octets) : Device := d.put r i (.bytes b)

/-- A counter advances by `k`, wrapping at its width (R41, R78 and every counter of the object tables). -/
def add (d : Device) (r : Reg) (i k : Nat) : Device := d.set r i (d.num r i + k)

/-- A counter advances by one. -/
def bump (d : Device) (r : Reg) (i : Nat) : Device := d.add r i 1

/-- A counter advances by one when a condition holds. -/
def bumpIf (d : Device) (c : Bool) (r : Reg) (i : Nat) : Device := if c then d.bump r i else d

/-- A register that keeps the greatest value it has had. -/
def peak (d : Device) (r : Reg) (i n : Nat) : Device := if d.num r i < n then d.set r i n else d

/-! ## Time, free values, outputs -/

/-- Local time in total ns (R384): seconds × 10^9 + nanoseconds, modulo 2^64. -/
def now (d : Device) : Nat := (d.clk.sec * 1000000000 + d.clk.ns) % 2 ^ 64

/-- A fresh free value below `n` (`n` > 0), and the counter advanced. -/
def fresh (d : Device) (n : Nat) : Nat × Device :=
  (Config.freeNat d.freeCtr % n, { d with freeCtr := d.freeCtr + 1 })

/-- The command sends or drives something. -/
def emit (d : Device) (o : Out) : Device := { d with outs := d.outs ++ [o] }

/-- The command sends several things. -/
def emits (d : Device) (os : List Out) : Device := { d with outs := d.outs ++ os }

/-- The link-local address of an Ethernet port (R32): fe80::/64 and the interface identifier of its MAC address by the modified EUI-64 rule. The octet of a MAC
address that is sent first is the highest of its U48, as R41 states for IPv4 addresses (DEDUCED, log entry 55). -/
def linkLocal (d : Device) (port : Nat) : Octets :=
  let m := be 6 (d.num (if port = 0 then .COM_MAC0 else .COM_MAC1) 0)
  [0xFE, 0x80, 0, 0, 0, 0, 0, 0] ++ [octet m 0 ^^^ 2, octet m 1, octet m 2, 0xFF, 0xFE, octet m 3, octet m 4, octet m 5]

/-- An address is one of the device's own on an Ethernet port (R32, R41): COM_IP4_ADDR, the link-local address with COM_IP6_MODE 1 or 2, COM_IP6_ADDR with 2. -/
def ownAddress (d : Device) (port : Nat) (a : Octets) : Bool :=
  let mode := d.num .COM_IP6_MODE 0
  a == be 4 (d.num .COM_IP4_ADDR 0) || (mode != 0 && a == d.linkLocal port) || (mode == 2 && a == d.oct .COM_IP6_ADDR 0)

/-- The dictionary is reachable (R448, step 6). -/
def reachable (d : Device) : Bool := d.bring = .up

/-- The SerDes domain runs from its reference (R433, R437). -/
def sdUp (d : Device) : Bool := (d.refs.getD 1 {}).inUse

/-- ETH0 and ETH1 are up: from step 6 of bring-up on, while the SerDes domain runs (R437, R448). -/
def ethUp (d : Device) : Bool := d.reachable && d.sdUp

/-- ETH0 and ETH1 send: they are up, and do not only receive as in DEEP_SLEEP (R444). -/
def ethSends (d : Device) : Bool := d.ethUp && !(d.num .PWR_STATE 0 == 2)

end Device

/-- The device as a command finds it: nothing sent yet, no reset due, no session about to close. -/
def Device.begin (d : Device) : Device := { d with outs := [], resetDue := false, closing := false }

/-- The form of every meaning: a well-formed command changes the device by `f`, beginning with no output; the queue is left as it
is. A command that is not well formed is refused. -/
def run (ok : Bool) (s : State) (f : Device → Device) : Host.Outcome State Fault Refusal :=
  match ok with
  | true => .next { s with dev := f s.dev.begin }
  | false => .refused .illFormed

end Sys2Proof.Machine
end

