-- ==== Sys2Proof/Machine/Operands.lean ====
section
/-!
DEFINITION. The values an object can take on the wire: where an index and subindex lead, the encoding of a value in a DAP item,
a bank record or a journal entry, and the range of each writable object (R26, R27 and the Meaning column of each table).
-/
namespace Sys2Proof.Machine

/-- The index ranges of R29: first and last index, and the offset of the first index in the live view. -/
def indexRanges : List (Nat × Nat × Nat) :=
  [(0x1000, 0x10FF, 0x000000), (0x1100, 0x11FF, 0x040000), (0x1200, 0x12FF, 0x080000), (0x2000, 0x20FF, 0x200000), (0x2100, 0x21FF, 0x240000),
   (0x2200, 0x22FF, 0x280000), (0x2300, 0x23FF, 0x2C0000), (0x2400, 0x24FF, 0x300000), (0x3000, 0x30FF, 0x340000), (0x4000, 0x43FF, 0x100000),
   (0x5000, 0x5023, 0x380000), (0x6000, 0x60FF, 0x3C0000), (0x6100, 0x61FF, 0x400000), (0x6200, 0x62FF, 0x440000), (0x6300, 0x63FF, 0x480000),
   (0x6400, 0x64FF, 0x4C0000), (0x6500, 0x65FF, 0x500000), (0x7000, 0x70FF, 0x540000), (0x7100, 0x71FF, 0x580000), (0x7200, 0x72FF, 0x5C0000),
   (0x8000, 0x80FF, 0x600000), (0x8100, 0x81FF, 0x640000), (0x9000, 0x93FF, 0x700000), (0xA000, 0xAFFF, 0x800000), (0xC000, 0xC0FF, 0x680000),
   (0xF000, 0xF0FF, 0x6C0000)]

/-- The row of an object in the object table. -/
def Reg.row (r : Reg) : ObjRow := objTable.getD r.ctorIdx ⟨.DEV_ID_COUNT, 0x1000, 0, 1, .one, .u8, .const, false⟩

/-- The unit that an index names under a row: which repetition of the row's first index it is (R7, R29, R30). -/
def Repeat.unitOf (rep : Repeat) (base index : Nat) : Option Nat :=
  if index < base then none else
  let o := index - base
  match rep with
  | .one => if o = 0 then some 0 else none
  | .units n => if o < n then some o else none
  | .chan => if o % 0x40 = 0 ∧ o / 0x40 < 16 then some (o / 0x40) else none
  | .tap => if o % 0x40 < 4 ∧ o / 0x40 < 16 then some (4 * (o / 0x40) + o % 0x40) else none

/-- The index of unit `u` under a row. -/
def Repeat.indexOf (rep : Repeat) (base u : Nat) : Nat :=
  match rep with
  | .one => base
  | .units _ => base + u
  | .chan => base + 0x40 * u
  | .tap => base + 0x40 * (u / 4) + u % 4

/-- The object at an index and subindex under one row. -/
def ObjRow.at_ (row : ObjRow) (index sub : Nat) : Option Key :=
  if row.sub ≤ sub ∧ sub < row.sub + row.subs then
    match row.rep.unitOf row.base index with
    | some u => some ⟨row.reg, u * row.subs + (sub - row.sub)⟩
    | none => none
  else none

/-- The object that an index and subindex name; none where the table has none (R25). -/
def locate (index sub : Nat) : Option Key := objTable.findSome? (fun row => row.at_ index sub)

/-- The index of an object. -/
def Key.index (k : Key) : Nat := k.reg.row.rep.indexOf k.reg.row.base (k.inst / k.reg.row.subs)

/-- The subindex of an object. -/
def Key.sub (k : Key) : Nat := k.reg.row.sub + k.inst % k.reg.row.subs

/-- (index << 8) | subindex, the form in which the device records an object (R44, R46). -/
def Key.at_ (k : Key) : Nat := k.index * 256 + k.sub

/-- Type code of a bank record and of a journal entry (R50, R373). -/
def ObjType.code : ObjType → Nat
  | .bool => 0
  | .u8 => 1
  | .u16 => 2
  | .u24 => 3
  | .u32 => 6
  | .s32 => 7
  | .u48 => 8
  | .u64 => 9
  | .str => 10
  | .blob => 11
  | .s16 => 12

/-- Wire size of a number type (R26); none for STR and BLOB. -/
def ObjType.size : ObjType → Option Nat
  | .bool => some 1
  | .u8 => some 1
  | .u16 => some 2
  | .u24 => some 3
  | .u32 => some 4
  | .s32 => some 4
  | .u48 => some 6
  | .u64 => some 8
  | .s16 => some 2
  | .str => none
  | .blob => none

/-- The bytes of a value on the wire. -/
def encodeVal (ty : ObjType) (v : Val) : Octets :=
  match ty.size, v with
  | some k, .num n => le k n
  | some k, .bytes b => slice b 0 k
  | none, .bytes b => b
  | none, .num _ => []

/-- The value that bytes of the right length spell. -/
def decodeVal (ty : ObjType) (b : Octets) : Val :=
  match ty.size with
  | some _ => .num (ofLE b)
  | none => .bytes b

/-- Longest value of a STR or BLOB object (R26 and its Meaning). -/
def Reg.maxLen (r : Reg) : Nat :=
  match r.row.ty, r with
  | .str, _ => 255
  | _, .COM_IP6_ADDR => 16
  | _, .CH_CREG_DATA => 64
  | _, .CH_DPM_DATA => 32768
  | _, .CH_RS_USER_COEF => 1024
  | _, .QUE_SUBS => 192
  | _, .TWI_T_WR => 32
  | _, _ => 65536

/-- The length check of R27: a number's length is its wire size; a STR or BLOB is no longer than its object allows, and some
allow only certain lengths (R41, R157, R348). -/
def lengthOk (r : Reg) (n : Nat) : Bool :=
  match r.row.ty.size with
  | some k => n == k
  | none =>
    n ≤ r.maxLen && (match r with
      | .COM_IP6_ADDR => n == 16
      | .CH_RS_USER_COEF => n == 0 || n == 1024
      | .QUE_SUBS => n % 24 == 0
      | .CH_DPM_DATA => n % 4 == 0
      | .CH_BOFF_DATA => n % 2 == 0
      | .CH_SHADE_DATA => n % 2 == 0
      | _ => true)

/-- A 32-bit mask whose ones are contiguous from the top (R41). -/
def contiguousMask (n : Nat) : Bool := (List.range 33).any (fun k => n == (2 ^ 32 - 2 ^ (32 - k)))

/-- A number or 0xFF, or a number or 0xFFFF. -/
def upToOr (hi none_ n : Nat) : Bool := n ≤ hi || n == none_

/-- A number in `[lo, hi]`. -/
def within (lo hi n : Nat) : Bool := lo ≤ n && n ≤ hi

/-- A source code of R399. -/
def sourceCode (n : Nat) : Bool :=
  n ≤ 0x16 || within 0x20 0x3A n || within 0x40 0x61 n || within 0x100 0x11F n

/-- A power of two up to 2^16. -/
def powerOfTwo (n : Nat) : Bool := (List.range 17).any (fun k => n == 2 ^ k)

/-- An entry of QUE_SUBS (R348). -/
def subscriberOk (e : Octets) : Bool :=
  let fam := octet e 0
  (fam == 4 || fam == 6) && octet e 1 ≤ 3 && leAt e 2 2 != 0 && leAt e 4 4 == 0 &&
    (fam == 6 || (slice e 12 12).all (· == 0))

/-- The entries of an octet string cut into pieces of `k` octets, `n` of them. -/
def chunks (k : Nat) : Nat → Octets → List Octets
  | 0, _ => []
  | n + 1, b => b.take k :: chunks k n (b.drop k)

/-- The range of a STR or BLOB object (R27: a STR holds 0x20 to 0x7E; R348 for QUE_SUBS). -/
def bytesInRange (r : Reg) (b : Octets) : Bool :=
  match r.row.ty with
  | .str => b.all (fun c => 0x20 ≤ c && c ≤ 0x7E)
  | _ =>
    match r with
    | .QUE_SUBS => (chunks 24 (b.length / 24) b).all subscriberOk
    | _ => true

/-- The range of a number object: what its Meaning lists (R27, step 3). Objects without a stated range take every value of their
type. -/
def numInRange (k : Key) (n : Nat) : Bool :=
  let s := toSigned k.reg.bits n
  if k.reg.row.ty = .bool then
    n ≤ 1 && !(k.reg == .LNK_TX_SLEEP_AUTO && 32 ≤ k.inst && n == 1)
  else
  match k.reg with
  | .DEV_RUN_REQ => n ≤ 1
  | .SES_CLOSE => n == 1
  | .COM_IP4_MASK => contiguousMask n
  | .COM_IP6_MODE => n ≤ 2
  | .COM_DAP_PORT => n != 0
  | .COM_DAP_PORTS => n ≤ 3
  | .DEV_STAGE_DISCARD => n == 1
  | .CH_STAGE_DISCARD => n == 1
  | .NVS_SAVE => n == 1
  | .NVS_ERASE => n == 0xA5
  | .LNK_RUNG_MAX => within 1 3 n
  | .LNK_TEST => n ≤ 8
  | .LNK_TEST_MS => n != 0
  | .CH_CREG_LEN => within 1 64 n
  | .CH_CREG_GO => within 1 2 n
  | .CH_STATUS_MS => n == 0 || within 10 60000 n
  | .CH_TEMP_MS => n == 0 || within 10 60000 n
  | .CH_MODALITY => n ≤ 7
  | .CH_PIXELS => n ≤ 32768
  | .CH_DT => n == 0x20 || n == 0x21 || n == 0x22 || n == 0x28
  | .CH_TRIGGER => n ≤ 1
  | .CH_RATE_MHZ => within 1000 250000000 n
  | .CH_LINE_RATE_MAX => within 1 250000 n
  | .CH_BLACK_SHIFT => n ≤ 8
  | .CH_BOFF_PLANE => n ≤ 2
  | .CH_BOFF_BASE => n ≤ 32767
  | .CH_SHADE_PLANE => n ≤ 2
  | .CH_SHADE_BASE => n ≤ 32767
  | .CH_TAP_POINT => n ≤ 3
  | .CH_TAP_QUEUE => n ≤ 4095
  | .CH_TAP_EVERY => n != 0
  | .CH_TAP_FORMAT => n ≤ 2
  | .POS_SRC_PRIMARY => upToOr 2 0xFF n
  | .POS_SRC_BACKUP => upToOr 2 0xFF n
  | .POS_COAST_MS => n ≤ 2000
  | .POS_REARM => n ≤ 2
  | .POS_FILTER_NS => n ≤ 40
  | .POS_STOP_MS => within 1 10000 n
  | .POS_ENC_Z_MODE => n ≤ 2
  | .POS_SPEED_WIN_US => within 10 10000 n
  | .POS_EMU_SOURCE => n ≤ 3
  | .POS_EMU_N => n != 0
  | .POS_EMU_M => n != 0
  | .POS_EMU_FORM => n ≤ 1
  | .POS_EMU_PULSE_NS => within 20 10000 n
  | .POS_EMU_REVERSE => n ≤ 1
  | .CH_RS_PITCH => within 0x10000 0x07D00000 n
  | .CH_RS_FILTER => n ≤ 5
  | .CH_RS_USER_KIND => n ≤ 1
  | .CH_RS_BUILTIN_SEL => within 1 4 n
  | .CH_PH_PLANE1 => -131072000 ≤ s && s ≤ 131072000
  | .CH_PH_PLANE2 => -131072000 ≤ s && s ≤ 131072000
  | .CH_DCB_SHIFT => within 4 20 n
  | .CH_DCB_HOLD_LINE => upToOr 63 0xFF n
  | .POS_DECSYNC_EDGE => n ≤ 1
  | .CH_STI_SET => upToOr 7 0xFF n
  | .STI_RATE => within 1 1280 n
  | .STI_LOSS_ROWS => within 1 1024 n
  | .STI_ACQ_MIN => within 1 100 n
  | .STI_REFINE_LINES => within 1024 16777216 n
  | .STI_MARK_SRC => n ≤ 9
  | .STI_MARK_WIN_PPM => within 100 200000 n
  | .STI_STRETCH_SHIFT => n ≤ 8
  | .STI_STRETCH_FIXED_PPM => -50000 ≤ s && s ≤ 50000
  | .STI_REPEAT_SET => n ≤ 7
  | .STI_SET_WIDTH => n ≤ 131072
  | .STI_SET_BLEND_W => within 1 4096 n
  | .STI_REG_PLANE => n ≤ 2
  | .HFT_LEARN_REPEATS => within 4 15 n
  | .HFT_TOL_GAIN => n != 0
  | .HFT_TOL_FLOOR => n ≤ 62
  | .HFT_SHIFT_MAX => within 1 6 n
  | .HFT_OUT_GAIN => n != 0
  | .HFT_CONF_MAX => n ≤ 62
  | .HFT_LEARN_TOL_MIN => n ≤ 62
  | .HFT_LEARN_EFFORT => n ≤ 7
  | .HFT_SEAL_EFFORT => n ≤ 7
  | .HFT_LOAD_QUEUE => upToOr 4095 0xFFFF n
  | .HFT_LOAD_ABORT => n == 1
  | .HFT_SET_LINES => n == 0 || within 256 16777215 n
  | .HFT_LOAD_COLS => n ≤ 131072
  | .HFT_LOAD_LINES => n == 0 || within 256 16777215 n
  | .HFT_LOAD_PLANES => n == 0 || n == 1 || n == 3
  | .CMP_CLS_PLAIN | .CMP_CLS_UNCONF | .CMP_CLS_EDGE | .CMP_CLS_VAR | .CMP_CLS_DIE | .CMP_CLS_LEARN | .CMP_CLS_PREVIEW => field n 30 28 == 0
  | .PEN_MAX_LINES => 256 ≤ n
  | .PEN_XDEV_TIMEOUT_MS => within 1 1000 n
  | .PEN_SET_EDGE => n ≤ 3
  | .RDL_R_POL => n ≤ 3
  | .RDL_R_CLASS => n ≤ 254
  | .RDL_R_SEV => n ≤ 3
  | .RDL_R_ACTION => n ≤ 3
  | .RDL_DEF_CLASS => n ≤ 254
  | .RDL_DEF_SEV => n ≤ 3
  | .RDL_DEF_ACTION => n ≤ 3
  | .RDL_DEST => upToOr 4095 0xFFFF n
  | .RDL_SNIP_MAX_W => within 64 32768 n
  | .RDL_SNIP_MAX_H => within 64 32768 n
  | .RDL_ST_OUT => n ≤ 15
  | .RDL_ST_LEAD_US => n ≤ 1000000
  | .RDL_ST_MODE => n ≤ 1
  | .RDL_ST_PULSE_MIN_US => within 1 10000000 n
  | .CH_CAL_TEMP_DELTA => within 1 1600 n
  | .CH_CAL_REPEATS => within 1 64 n
  | .CH_CAL_TOL_MAX => n ≤ 62
  | .CH_CAL_FLAT => within 1 16383 n
  | .CH_CAL_LOW_MAX => n ≤ 4095
  | .CH_CAL_HIGH_MIN => n ≤ 16383
  | .CH_CAL_N_MIN => within 16 2047 n
  | .CH_CAL_SPREAD_MIN => within 1 16383 n
  | .CH_CAL_CHAIN_MAX => n ≤ 64
  | .CH_CAL_LINE_STEP => n != 0
  | .CH_CAL_GAIN_STEP => within 1 16384 n
  | .CH_CAL_GAIN_SPAN => within 1 16384 n
  | .CH_CAL_OFF_STEP => within 1 32767 n
  | .CH_CAL_OFF_SPAN => within 1 32767 n
  | .CH_CAL_DPX_LIMIT => n != 0
  | .CH_CAL_DPX_FRAC => n != 0
  | .CH_CAL_DPX_CONFIRM => within 1 16 n
  | .CH_CAL_DPX_MAX => n ≤ 64
  | .CH_CAL_START => n == 1
  | .CH_CAL_ABORT => n == 1
  | .CH_CAL_SEED => n == 0xA5
  | .CH_CAL_ANC_PLANE => n ≤ 2
  | .CH_CAL_ANC_BASE => n ≤ 32767
  | .MEM_RETRAIN_REQ => n == 1
  | .MEM_SW_GBS => within 1 600 n
  | .MEM_RQ_HINT => n ≤ 3
  | .FLC_JOB_OP => n ≤ 1
  | .FLC_JOB_KIND => n ≤ 3
  | .FLC_JOB_EFFORT => n ≤ 7
  | .FLC_JOB_DST => n % 8 == 0
  | .FLC_JOB_GO => within 1 2 n
  | .CRC_ALG => n ≤ 2
  | .CRC_MODE => n ≤ 15
  | .CRC_CMD => within 1 2 n
  | .QUE_DIR => n ≤ 1
  | .QUE_PEER => n ≤ 2
  | .QUE_RING_KIB => n % 64 == 0 && n ≤ 1572864
  | .QUE_POLICY => n ≤ 1
  | .QUE_MSIX => upToOr 255 0xFFFF n
  | .DMA_LEASE_MS => within 1 10000 n
  | .DMA_CMD => within 1 2 n
  | .DMA_RING_SPACE => n ≤ 1
  | .DMA_RING_BASE => n % 64 == 0
  | .DMA_RING_ENTRIES => powerOfTwo n && within 16 65536 n
  | .DMA_CPL_BASE => n % 64 == 0
  | .DMA_MSIX => upToOr 255 0xFFFF n
  | .DMA_WAIT_US => within 1 10000000 n
  | .PCI_BAR2_WIN => n % 0x100000 == 0
  | .TRU_CERT_SEL => n ≤ 1
  | .TRU_HOLD_SCOPE => n < 512
  | .TRU_HOLD_SET => n == 1
  | .TIM_SRC => n ≤ 2
  | .TIM_LOCK_NS => within 1 1000000 n
  | .TIM_PTP_ROLE => n ≤ 2
  | .TIM_PTP_PORT => n ≤ 1
  | .TIM_PTP_TRANSPORT => n ≤ 2
  | .TIM_PTP_DOMAIN => n ≤ 127
  | .TIM_PTP_DELAY => within 1 2 n
  | .TIM_PTP_LOG_SYNC => -7 ≤ s && s ≤ 4
  | .TIM_PTP_LOG_ANNOUNCE => 0 ≤ s && s ≤ 4
  | .TIM_PTP_LOG_MIN_DELAY => -7 ≤ s && s ≤ 5
  | .TIM_TT_MODE => n ≤ 3
  | .TIM_TT_POL => n ≤ 1
  | .TIM_TT_PERIOD => within 10 4000000000 n
  | .TIM_TT_WIDTH => within 2 4000000000 n
  | .TIM_TT_DELAY => n ≤ 1000000000
  | .TIM_TC_EDGE => n ≤ 3
  | .TIM_TC_FILTER_NS => n ≤ 40
  | .EVT_QUE_SEL => upToOr 4095 0xFFFF n
  | .EVT_LINE_SRC => sourceCode n
  | .EVT_LINE_RETRIG_NS => within 20 1000000000 n
  | .EVT_LINE_ATTR => n ≤ 1
  | .EVT_CELL_IN => upToOr 63 0xFF n
  | .EVT_CELL_FF => n ≤ 3
  | .EVT_CELL_CLK => upToOr 63 0xFF n
  | .EVT_CELL_FILTER => n ≤ 5
  | .EVT_TASK_SEL0 => upToOr 63 0xFF n
  | .EVT_TASK_SEL1 => upToOr 63 0xFF n
  | .EVT_TASK_ARG => upToOr 255 0xFFFF n
  | .EVT_TASK_CLEAR => n == 1
  | .FLD_FORM_MS => within 100 60000 n
  | .FLD_RELAY_LINE => upToOr 59 0xFF n
  | .CLK_RETURN => n == 1
  | .CLK_OUT_SRC => n ≤ 6
  | .CLK_OUT_DIV => within 1 256 n
  | .PWR_POINT_FLOOR => n ≤ 3
  | .PWR_VR_MODE => n ≤ 1
  | .PWR_VR_ADDR => within 0x08 0x77 n
  | .PWR_VR_TIMEOUT_US => within 100 60000 n
  | .PWR_SLEEP => n == 1
  | .PWR_WAKE_LINE => upToOr 63 0xFF n
  | .PWR_RESET => n == 0xA5
  | .FLT_WDOG_MS => within 10 10000 n
  | .TWI_SPEED => n ≤ 2
  | .TWI_RISE_NS => within 20 1000 n
  | .TWI_SU_DAT_NS => n ≤ 1000
  | .TWI_HD_DAT_NS => n ≤ 1000
  | .TWI_STRETCH_MS => n != 0
  | .TWI_RETRY => n ≤ 7
  | .TWI_IDLE_US => within 10 1000 n
  | .TWI_FLAG_CLEAR => n ≤ 15
  | .TWI_T_ADDR => within 0x08 0x77 n
  | .TWI_T_RD_LEN => n ≤ 32
  | .TWI_T_GO => n == 1
  | _ => true

/-- The range check of R27. -/
def inRange (k : Key) (v : Val) : Bool :=
  match v with
  | .num n => numInRange k n
  | .bytes b => bytesInRange k.reg b

end Sys2Proof.Machine
end

