-- ==== Sys2Proof/Machine/Event.lean ====
section
/-!
DEFINITION. The asynchronous event fabric: whistle lines, cells and the edges they hand to task inputs, CLK inputs and the fold
relay (R399 to R406). The fabric takes no time in the model: a pulse rises, the fabric settles, the pulse falls, the fabric
settles (log entry 7).
-/
namespace Sys2Proof.Machine

namespace Device

/-- FAULT_N is asserted (R454): from reset until step 4 of bring-up, and then while FLT_LATCHED holds a non-maskable fault or an
unmasked one. -/
def faultN (d : Device) : Bool :=
  d.bring = .held || d.bring = .boot || d.bring = .refs || (d.num .FLT_LATCHED 0 &&& (0x4ADF ||| d.num .FLT_MASK 0)) != 0

/-- The level that a level source drives (R399); false for a pulse source. -/
def sourceLevel (d : Device) (code : Nat) : Bool :=
  if code = 0x010 then d.on .POS_STOPPED 0
  else if code = 0x011 then d.num .POS_DIR 0 = 1
  else if code = 0x016 then d.on .RDL_STORM 0
  else if code = 0x039 then d.num .TIM_SERVO_STATE 0 = 2
  else if code = 0x060 then d.faultN
  else if 0x100 ≤ code then (d.evt.cells.getD (code - 0x100) {}).out
  else false

/-- The lines whose source is not constant 0 and that the fold does not own (R405), with their source codes, as the live copy lists them. -/
def wiredLines (d : Device) : List (Nat × Nat) :=
  d.live.filterMap (fun e =>
    if e.1.reg = .EVT_LINE_SRC && !(d.num .EVT_LINE_OWNER e.1.inst = 1) then some (e.1.inst, e.2.toNat) else none)

/-- The cells whose truth table is not 0. -/
def wiredCells (d : Device) : List Nat :=
  d.live.filterMap (fun e => if e.1.reg = .EVT_CELL_TRUTH then some e.1.inst else none)

/-- Change one line. -/
def setLine (d : Device) (l : Nat) (f : Line → Line) : Device :=
  { d with evt := { d.evt with lines := modTab 64 {} d.evt.lines l f } }

/-- Change one cell. -/
def setCell (d : Device) (c : Nat) (f : Cell → Cell) : Device :=
  { d with evt := { d.evt with cells := modTab 32 {} d.evt.cells c f } }

/-- A task input selects line `l` with how many of its two selectors (R403). -/
def taskSelects (d : Device) (k l : Nat) : Nat :=
  (if d.num .EVT_TASK_SEL0 k = l then 1 else 0) + (if d.num .EVT_TASK_SEL1 k = l then 1 else 0)

/-- An accepted rising edge of line `l` sets out for the task inputs, the CLK inputs and the fold relay that select it; the line that wakes
the device from deep sleep is noted (R445). -/
def deliver (d : Device) (l t : Nat) : Device :=
  let ts := (List.range 33).flatMap (fun k => List.replicate (d.taskSelects k l) (k, t))
  let cs := (List.range 32).filter (fun c => d.num .EVT_CELL_CLK c = l && d.num .EVT_CELL_FF c != 0)
  let rs := if d.num .FLD_RELAY_LINE 0 = l then [t] else []
  { d with wakeNow := d.wakeNow || d.num .PWR_WAKE_LINE 0 == l, evt := { d.evt with
      taskEdges := d.evt.taskEdges ++ ts
      clkEdges := d.evt.clkEdges ++ cs
      relayEdges := d.evt.relayEdges ++ rs } }

/-- A rising edge on line `l` at the present (R401): accepted, or suppressed within the re-trigger interval of the last accepted
edge. The enforced interval lies between the programmed one and 1.1 times it plus 40 ns; where, is free. -/
def riseLine (d : Device) (l : Nat) : Device :=
  let ln := d.evt.lines.getD l {}
  let t := d.now
  match ln.lastRise with
  | some t0 =>
    if t < t0 + ln.hold then
      (d.setLine l (fun x => { x with src := true })).bump .EVT_LINE_SUPPRESSED l
    else accept d l t
  | none => accept d l t
where
  /-- The edge is accepted. -/
  accept (d : Device) (l t : Nat) : Device :=
    let r := d.num .EVT_LINE_RETRIG_NS l
    let (slack, d) := d.fresh (r / 10 + 41)
    let d := d.setLine l (fun x => { x with level := true, src := true, lastRise := some t, hold := r + slack })
    let d := (d.bump .EVT_LINE_EDGES l).setOn .EVT_LINE_LEVEL l true
    (d.deliver l t).emit (.lineRise l t)

/-- A line's source falls. -/
def fallLine (d : Device) (l : Nat) : Device :=
  (d.setLine l (fun x => { x with level := false, src := false })).setOn .EVT_LINE_LEVEL l false

/-- Line `l` follows its level source. -/
def followLevel (d : Device) (l code : Nat) : Device :=
  let ln := d.evt.lines.getD l {}
  let now := d.sourceLevel code
  if now && !ln.src then d.riseLine l
  else if !now && ln.src then d.fallLine l
  else d

/-- The level of a cell's input: a line's, or 0 (R400). -/
def cellInput (d : Device) (sel : Nat) : Bool := (d.evt.lines.getD sel {}).level && sel < 64

/-- The look-up output of cell `c` (R400): bit D·8 + C·4 + B·2 + A of its truth table. -/
def cellLut (d : Device) (c : Nat) : Bool :=
  let i := bitMap 4 (fun k => d.cellInput (d.num .EVT_CELL_IN (4 * c + k)))
  bit (d.num .EVT_CELL_TRUTH c) i

/-- Whether a pulse of 8 ns passes the glitch filter of a code, to within ±30 % (R400): 0 and 5 ns let it pass, 20 ns and more
remove it, and for 10 ns it is free. -/
def pulsePasses (d : Device) (filter : Nat) : Bool × Device :=
  if filter ≤ 1 then (true, d)
  else if filter = 2 then
    let (x, d) := d.fresh 2
    (x == 1, d)
  else (false, d)

/-- Cell `c` follows its inputs; while a pulse is on its way (`pulse`), its output changes only if the pulse passes the filter. -/
def followCell (pulse : Bool) (d : Device) (c : Nat) : Device :=
  let cell := d.evt.cells.getD c {}
  let lut := d.cellLut c
  let ff := d.num .EVT_CELL_FF c
  let q := if ff = 3 && lut && !cell.lut then true else cell.q
  let out := if ff = 0 then lut else q
  let (pass, d) :=
    if pulse && out != cell.out && ff = 0 then d.pulsePasses (d.num .EVT_CELL_FILTER c) else (true, d)
  let out := if pass then out else cell.out
  (d.setCell c (fun _ => { q := q, lut := lut, out := out })).setOn .EVT_CELL_OUT c out

/-- One round: every line with a level source, then every cell with a truth table. -/
def settleRound (pulse : Bool) (d : Device) : Device :=
  let d := d.wiredLines.foldl (fun d e => d.followLevel e.1 e.2) d
  d.wiredCells.foldl (followCell pulse) d

/-- Rounds until every path through 32 cells has settled (R402: no cycle without storage). -/
def settleRounds (pulse : Bool) : Nat → Device → Device
  | 0, d => d
  | k + 1, d => settleRounds pulse k (d.settleRound pulse)

/-- The fabric settles: nothing to do while no line has a source. -/
def settle (d : Device) : Device := if d.wiredLines = [] then d else settleRounds false 33 d

/-- A pulse source is raised (R399): every line that carries it is driven high for 8 ns. -/
def pulse (d : Device) (code : Nat) : Device :=
  let ls := (d.wiredLines.filter (fun e => e.2 = code)).map Prod.fst
  if ls = [] then d else
  let d := ls.foldl riseLine d
  let d := settleRounds true 33 d
  let d := ls.foldl fallLine d
  settleRounds false 33 d

/-- QUE_HI (`low` false) or QUE_LO of queue `q` on the event fabric (R343, R399). -/
def pulseQueue (d : Device) (q : Nat) (low : Bool) : Device :=
  (List.range 8).foldl
    (fun d k => if d.num .EVT_QUE_SEL k = q then d.pulse (if low then 0x058 + k else 0x050 + k) else d) d

/-! ## MSI-X (R361) -/

/-- A message for a vector: sent, or kept pending while the vector is masked; 0xFFFF means no vector. -/
def msix (d : Device) (v : Nat) : Device :=
  if 256 ≤ v then d
  else if d.pcie.unmasked.contains v then d.emit (.msix v)
  else if d.pcie.pendingBits.contains v then d
  else { d with pcie := { d.pcie with pendingBits := d.pcie.pendingBits ++ [v] } }

end Device

end Sys2Proof.Machine
end

