-- ==== Sys2Proof/Machine/Flags.lean ====
section
/-!
DEFINITION. The fault flags (R452 to R454): raising, conditions present, and clearing.
-/
namespace Sys2Proof.Machine

/-- The faults of R452, by bit. -/
inductive FaultBit where
  | refSys | refSd | refTime | pllLock | supply | tjWarn | tjMax | stackHot
  | dvfs | watchdog | lease | memTrain | nvsWrite | hftVerify | truKey | fldPos
deriving DecidableEq, Repr

/-- The bit of a fault in FLT_ACTIVE, FLT_LATCHED and FLT_MASK. -/
def FaultBit.num (f : FaultBit) : Nat := f.ctorIdx

/-- The non-maskable faults (R452, R458). -/
def nonMaskable : Nat := 0x4ADF

namespace Device

/-- A fault is raised (R453): its latched bit is set, source 0x061 pulses, FLT_RAISED counts, and FLT_LAST and FLT_LAST_TIME take
it. -/
def raiseFault (d : Device) (f : FaultBit) : Device :=
  let d := { (d.set .FLT_LATCHED 0 (setBit (d.num .FLT_LATCHED 0) f.num)) with raisedNow := setBit d.raisedNow f.num }
  let d := (d.bump .FLT_RAISED 0).set .FLT_LAST 0 f.num
  let d := d.set .FLT_LAST_TIME 0 d.now
  (d.pulse 0x061).settle

/-- The condition of a fault arises: it is raised, unless it was present already (R453). -/
def faultOn (d : Device) (f : FaultBit) : Device :=
  if bit (d.num .FLT_ACTIVE 0) f.num then d
  else (d.set .FLT_ACTIVE 0 (setBit (d.num .FLT_ACTIVE 0) f.num)).raiseFault f

/-- The condition of a fault ends; the latched bit stays (R453). -/
def faultOff (d : Device) (f : FaultBit) : Device :=
  d.set .FLT_ACTIVE 0 (clearBit (d.num .FLT_ACTIVE 0) f.num)

/-- FLT_CLEAR (R453): the named latched bits whose condition is not active and that have not been raised in this tick, and CLK_FORCED. -/
def clearFaults (d : Device) (mask : Nat) : Device :=
  let act := d.num .FLT_ACTIVE 0 ||| d.raisedNow
  let d := d.set .FLT_LATCHED 0 (bitMap 16 (fun k => bit (d.num .FLT_LATCHED 0) k && !(bit mask k && !bit act k)))
  (d.set .CLK_FORCED 0 0).settle

end Device

end Sys2Proof.Machine
end

