-- ==== Sys2Proof/Machine/Hash.lean ====
section
/-!
DEFINITION. The check values and digests of the manual: CRC-8 (R470), CRC-16 (R63, R79), CRC-32 and CRC-32C (R52, R79, R328)
and SHA-256 (R210, R373), written so that Lean's kernel can evaluate them.
-/
namespace Sys2Proof.Machine

/-- One bit step of a reflected (least significant bit first) CRC with reversed polynomial `poly`. -/
def crcStepR (poly c : Nat) : Nat := if c % 2 = 1 then (c >>> 1) ^^^ poly else c >>> 1

/-- `k` bit steps of a reflected CRC. -/
def crcStepsR (poly : Nat) : Nat → Nat → Nat
  | 0, c => c
  | k + 1, c => crcStepsR poly k (crcStepR poly c)

/-- A reflected CRC register after the octets of `bs`. -/
def crcRegR (poly : Nat) : Nat → Octets → Nat
  | c, [] => c
  | c, b :: bs => crcRegR poly (crcStepsR poly 8 (c ^^^ (b % 256))) bs

/-- One bit step of an unreflected CRC of width `w`. -/
def crcStepF (w poly c : Nat) : Nat :=
  if bit c (w - 1) then ((c <<< 1) % 2 ^ w) ^^^ poly else (c <<< 1) % 2 ^ w

/-- `k` bit steps of an unreflected CRC. -/
def crcStepsF (w poly : Nat) : Nat → Nat → Nat
  | 0, c => c
  | k + 1, c => crcStepsF w poly k (crcStepF w poly c)

/-- An unreflected CRC register of width `w` ≥ 8 after the octets of `bs`. -/
def crcRegF (w poly : Nat) : Nat → Octets → Nat
  | c, [] => c
  | c, b :: bs => crcRegF w poly (crcStepsF w poly 8 (c ^^^ ((b % 256) <<< (w - 8)))) bs

/-- CRC-32C (Castagnoli), reflected, initial value and final XOR all ones. -/
def crc32c (bs : Octets) : Nat := crcRegR 0x82F63B78 0xFFFFFFFF bs ^^^ 0xFFFFFFFF

/-- CRC-16 with polynomial 0x1021, initial value 0xFFFF, unreflected, no final XOR. -/
def crc16 (bs : Octets) : Nat := crcRegF 16 0x1021 0xFFFF bs

/-- CRC-8 with polynomial 0x07 and initial value 0: the packet error code of R470. -/
def crc8 (bs : Octets) : Nat := crcRegF 8 0x07 0 bs

/-- The eight 32-bit words that a number of 256 bits holds, the most significant first. -/
def words8 (n : Nat) : List Nat := (List.range 8).map (fun i => (n >>> (32 * (7 - i))) % 2 ^ 32)

/-- The round constants of SHA-256, eight to a number: word i is the fraction of the cube root of the i-th prime (`shaConstants_cubes` in Laws). -/
def shaRows : List Nat :=
  [0x428a2f9871374491b5c0fbcfe9b5dba53956c25b59f111f1923f82a4ab1c5ed5,
   0xd807aa9812835b01243185be550c7dc372be5d7480deb1fe9bdc06a7c19bf174,
   0xe49b69c1efbe47860fc19dc6240ca1cc2de92c6f4a7484aa5cb0a9dc76f988da,
   0x983e5152a831c66db00327c8bf597fc7c6e00bf3d5a7914706ca635114292967,
   0x27b70a852e1b21384d2c6dfc53380d13650a7354766a0abb81c2c92e92722c85,
   0xa2bfe8a1a81a664bc24b8b70c76c51a3d192e819d6990624f40e3585106aa070,
   0x19a4c1161e376c082748774c34b0bcb5391c0cb34ed8aa4a5b9cca4f682e6ff3,
   0x748f82ee78a5636f84c878148cc7020890befffaa4506cebbef9a3f7c67178f2]

/-- The round constants in order. -/
def shaConstants : List Nat := shaRows.flatMap words8

/-- The first chaining value of SHA-256: the fractions of the square roots of the first eight primes. -/
def shaStart : List Nat :=
  words8 0x6a09e667bb67ae853c6ef372a54ff53a510e527f9b05688c1f83d9ab5be0cd19

/-- A 32-bit word rotated right. -/
def rotr (k x : Nat) : Nat := (x * 2 ^ (32 - k) ||| x / 2 ^ k) % 2 ^ 32

/-- The sum modulo 2 of a word rotated right by two amounts and a third word made from it: the Σ and σ functions differ in the third alone. -/
def shaMix (r1 r2 x third : Nat) : Nat :=
  rotr r1 x ^^^ rotr r2 x ^^^ third

/-- One round on the eight working words; `kw` is the round constant with the schedule's word. -/
def shaRound (v : List Nat) (kw : Nat) : List Nat :=
  match v with
  | [a, b, c, d, e, f, g, h] =>
    let choose := (e &&& (f ^^^ g)) ^^^ g
    let majority := (a &&& (b ||| c)) ||| (b &&& c)
    let t := h + shaMix 6 11 e (rotr 25 e) + choose + kw
    [(t + shaMix 2 13 a (rotr 22 a) + majority) % 2 ^ 32, a, b, c, (d + t) % 2 ^ 32, e, f, g]
  | _ => v

/-- The next word of the schedule from the last sixteen, the oldest first. -/
def shaNext (w : List Nat) : Nat :=
  let (x, y) := (w.getD 1 0, w.getD 14 0)
  (w.getD 0 0 + shaMix 7 18 x (x / 2 ^ 3) + w.getD 9 0 + shaMix 17 19 y (y / 2 ^ 10)) % 2 ^ 32

/-- The rounds of one block: each takes the oldest word of the window and lets the next one in. -/
def shaRounds : List Nat → List Nat → List Nat → List Nat
  | [], _, v => v
  | k :: ks, w, v => shaRounds ks (w.drop 1 ++ [shaNext w]) (shaRound v (k + w.getD 0 0))

/-- The compression of one block of 64 octets. -/
def shaBlock (v : List Nat) (blk : Octets) : List Nat :=
  let w := (List.range 16).map (fun i => beAt blk (4 * i) 4)
  (v.zip (shaRounds shaConstants w v)).map (fun e => (e.1 + e.2) % 2 ^ 32)

/-- Compression of the whole blocks of a message; `k` of them. -/
def shaBlocks : Nat → List Nat → Octets → List Nat
  | 0, v, _ => v
  | k + 1, v, bs => shaBlocks k (shaBlock v bs) (bs.drop 64)

/-- SHA-256 of an octet string, 32 octets: a one bit, zeros and the length in bits fill its last block. -/
def sha256 (bs : Octets) : Octets :=
  let m := bs ++ 0x80 :: (List.replicate ((119 - bs.length % 64) % 64) 0 ++ be 8 (8 * bs.length))
  (shaBlocks (m.length / 64) shaStart m).flatMap (be 4)

end Sys2Proof.Machine
end

