-- ==== Sys2Proof/Machine/LaneBase.lean ====
section
/-!
DEFINITION. What every event of a lane uses: the lane's state and objects, entering a state of R58, and sending training frames
(R63).
-/
namespace Sys2Proof.Machine

/-- Lane state codes of R58. -/
abbrev LS.off := 0
/-- SEEK. -/
abbrev LS.seek := 1
/-- IDENT. -/
abbrev LS.ident := 2
/-- STEP1. -/
abbrev LS.step1 := 3
/-- TRAIN1. -/
abbrev LS.train1 := 4
/-- LOW. -/
abbrev LS.low := 5
/-- STEP2. -/
abbrev LS.step2 := 6
/-- TRAIN2. -/
abbrev LS.train2 := 7
/-- SERVICE. -/
abbrev LS.service := 8
/-- RECOVER. -/
abbrev LS.recover := 9
/-- RELOCK. -/
abbrev LS.relock := 10
/-- TEST. -/
abbrev LS.test := 11

/-- The CRC-16 of a training frame or link header: high octet first (R63, R79). -/
def crcTail (bs : Octets) : Octets := be 2 (crc16 bs)

/-- A training frame joins those that a transmitter has due (R63). Of DISCOVER, IDENT and EQ, which state what holds now, one that still
waits is replaced. -/
def LaneTx.due (x : LaneTx) (f : Octets) : LaneTx :=
  let ty := octet f 0
  let keep := if ty = 0x01 || ty = 0x02 || ty = 0x05 then x.frames.filter (fun g => octet g 0 != ty) else x.frames
  { x with frames := keep ++ [f] }

/-- What a lane keeps when its training begins anew: the last frame with its SEQ, the scrambled bits received, since the scrambler runs
on (R66), and its transmitter. -/
def Lane.afresh (x : Lane) : Lane :=
  { ({} : Lane) with txLast := x.txLast, txSeq := x.txSeq, scrambler := x.scrambler, tx := x.tx }

/-- A training frame of 32 octets passes its CRC (R63). -/
def frameOk (f : Octets) : Bool := f.length == 32 && slice f 30 2 == crcTail (f.take 30)

/-- A valid training frame of one type. -/
def frameIs (ty : Nat) (f : Octets) : Bool := frameOk f && octet f 0 == ty

/-- The transmitter coefficients of a preset as LNK_TX_EQ holds them (R69): c(1), c(0), c(−1), c(−2), a signed byte each. -/
def presetEq (p : Nat) : Nat :=
  match p with
  | 2 => eqWord 0 (-4) 52 (-8)
  | 3 => eqWord 2 (-8) 42 (-12)
  | _ => eqWord 0 0 64 0
where
  /-- Four coefficients in one word. -/
  eqWord (m2 m1 z p1 : Int) : Nat :=
    ofSigned 8 m2 + 2 ^ 8 * ofSigned 8 m1 + 2 ^ 16 * ofSigned 8 z + 2 ^ 24 * ofSigned 8 p1

namespace Device

/-- The device rests in STANDBY: it is there and has not begun to wake (R16, R77). -/
def resting (d : Device) : Bool := d.num .DEV_STATE 0 = 3 && d.wakeAt.isNone

/-- Lane `l`. -/
def lane (d : Device) (l : Nat) : Lane := d.lanes.getD l {}

/-- Lane `l` changed. -/
def modLane (d : Device) (l : Nat) (f : Lane → Lane) : Device := { d with lanes := modTab 36 {} d.lanes l f }

/-- Link `k`: channels 0 to 15, 16 west, 17 east. -/
def link (d : Device) (k : Nat) : Link := d.links.getD k {}

/-- Link `k` changed. -/
def modLink (d : Device) (k : Nat) (f : Link → Link) : Device := { d with links := modTab 18 {} d.links k f }

/-- The channel whose live mask names a camera lane (R82); a lane of no mask has none. -/
def chanOfLane (d : Device) (l : Nat) : Option Nat := (List.range 16).find? (fun n => bit (d.num .CH_LANE_MASK n) l)

/-- The link that a lane belongs to (R82, R102): lanes 32 and 33 the east link, 34 and 35 the west link. -/
def linkOfLane (d : Device) (l : Nat) : Option Nat :=
  if l < 32 then d.chanOfLane l else if l < 34 then some 17 else some 16

/-- The lanes of a link. -/
def lanesOfLink (d : Device) (k : Nat) : List Nat :=
  if k < 16 then bitsOf 32 (d.num .CH_LANE_MASK k) else if k = 17 then [32, 33] else [34, 35]

/-- A lane may leave OFF (R58, R78): enabled in the live set and, for a camera lane, not routed to an absent channel. A camera lane that no
channel's mask names is routed to none and may leave OFF, a case of which the manual says nothing (DESIGN CHOICE, log entry 53). -/
def laneAllowed (d : Device) (l : Nat) : Bool :=
  d.on .LNK_ENABLE l && (match (if l < 32 then d.chanOfLane l else none) with
    | some n => d.ident.hasChan n
    | none => true)

/-- The state code of a lane. -/
def lstate (d : Device) (l : Nat) : Nat := d.num .LNK_STATE l

/-- The rung of a lane. -/
def lrung (d : Device) (l : Nat) : Nat := d.num .LNK_RUNG l

/-- The SENDER bit of a lane's frames (R63): 0 the device; on a fold lane, 1 from the member with the higher FOLD_ID. Until the far end's
FOLD_ID is known the bit is 0, which the manual does not say (DESIGN CHOICE, log entry 53). -/
def senderBit (d : Device) (l : Nat) : Nat :=
  match (if l < 32 then none else (d.linkOfLane l).bind (fun k => (d.link k).farFold)) with
  | some f => b2n (f < d.num .FLD_ID 0)
  | none => 0

/-- The end that leads a lane up the ladder (R58): the device; on a fold lane, where both ends are devices, the member that R63 makes the
device of the two, with the lower FOLD_ID (DEDUCED, log entry 53). -/
def leads (d : Device) (l : Nat) : Bool := d.senderBit l == 0

/-- A training frame is sent (R63): SEQ advances when octets 3 to 29 differ from those of the frame before. -/
def sendFrame (d : Device) (l ty : Nat) (payload : Octets) : Device :=
  let body := d.lstate l :: slice payload 0 26
  let ln := d.lane l
  let seq := if ln.txLast = body then ln.txSeq else (ln.txSeq + 1) % 256
  let head := [ty, d.senderBit l, seq] ++ body
  let f := head ++ crcTail head
  (d.modLane l (fun x => { x with txLast := body, txSeq := seq, tx := x.tx.due f })).emit (.frame l f)

/-- ABORT with a reason (R63). -/
def sendAbort (d : Device) (l reason : Nat) : Device := d.sendFrame l 0x08 [reason]

/-- The device's own IDENT (R63): VENDOR 0x0001, MODEL, the last eight characters of DEV_SERIAL, 36 lanes, the lane's number, rung 2
with 2H, every capability, KIND 1 and FOLD_ID. -/
def ownIdent (d : Device) (l : Nat) : Octets :=
  le 2 1 ++ le 2 (if d.ident.part = .vlx1208c then 0x1208 else 0x2416) ++ slice (d.ident.serial.drop 8) 0 8
    ++ [36, l, 0x82, 0x0F, 1, d.num .FLD_ID 0]

/-- The state and the rung of a lane take new values. -/
def setLane (d : Device) (l st rung : Nat) : Device := (d.set .LNK_STATE l st).set .LNK_RUNG l rung

/-- A lane enters OFF (R57, R58): transmitter idle, receiver off, the inversion forgotten. -/
def toOff (d : Device) (l : Nat) : Device :=
  let d := (d.setLane l LS.off 0xFF).setOn .LNK_RX_INVERTED l false
  let d := (d.set .LNK_SLEEP_STATE l 0).set .LNK_TEST l 0
  d.modLane l (fun x => { x.afresh with tx := { sfCount := x.tx.sfCount, scrambler := x.tx.scrambler } })

/-- A lane enters SEEK (R58, R59, R63): rung 0, no lock, no IDENT, the record of failed rungs cleared, any test, sleep or rung change
over. -/
def toSeek (d : Device) (l : Nat) : Device :=
  let d := (d.setLane l LS.seek 0).set .LNK_SLEEP_STATE l 0
  let d := d.set .LNK_TEST l 0
  d.modLane l (fun x => { x.afresh with tx := { x.tx with packets := [], left := [], fill := 0, nod := none, closing := false } })

/-- A failure exit of R58 counts. -/
def trainFail (d : Device) (l : Nat) : Device := d.bump .LNK_TRAIN_FAILS l

/-- A request of the device timed out (R64): ABORT with reason 3, and SEEK. -/
def failToSeek (d : Device) (l : Nat) : Device := ((d.trainFail l).sendAbort l 3).toSeek l

/-- The RUNG_REQ of a change in progress (R61, R63). -/
def sendRungReq (d : Device) (l : Nat) : Device :=
  match (d.lane l).change with
  | some c => d.sendFrame l 0x03 [c.target, c.count, c.preset]
  | none => d

/-- A rung change begins at this end (R61): COUNT 8 is sent. -/
def startChange (d : Device) (l target preset : Nat) : Device :=
  let d := d.modLane l (fun x => { x with change := some { target := target, count := 8, preset := preset } })
  d.sendRungReq l

/-- The start preset for PAM4 from the SNR measured at rung 1, in 0.25 dB (R70). -/
def startPreset (d : Device) (l : Nat) : Nat :=
  let s := (d.lane l).snr1
  if 96 < s then 1 else if 72 ≤ s then 2 else 3

/-- The equaliser exchange begins (R69, R71): no request answered yet, RX_READY not set. -/
def resetEq (d : Device) (l : Nat) : Device :=
  let v := d.num .LNK_CODE_VIOL l
  d.modLane l (fun x => { x with
    eqReq := 0, eqPreset := 0, eqAcked := true, eqTimeouts := 0, eqDone := false, eqStatus := 0
    ready := false, readySent := 0, readyGot := 0, violMark := v, window := [] })

/-- The EQ frame of this end (R63, R69). -/
def sendEq (d : Device) (l : Nat) : Device :=
  let x := d.lane l
  let d := d.sendFrame l 0x05 ([x.eqReq, x.eqPreset, x.eqStatus, b2n x.ready] ++ le 2 (d.num .LNK_RX_SNR l) ++ le 4 (d.num .LNK_TX_EQ l))
  d.modLane l (fun x => { x with readySent := if x.ready then x.readySent + 1 else 0 })

/-- The device's next equaliser request (R69): which tap step or preset a receiver asks for is its own adaptation, which the manual
leaves to it, so it is a free value; none ends the exchange. -/
def nextRequest (d : Device) (l : Nat) : Device :=
  let (r, d) := d.fresh 256
  let (p, d) := d.fresh 4
  let done := r = 0 ∧ p = 0
  let d := d.modLane l (fun x => { x with eqReq := r, eqPreset := p, eqAcked := done, eqDone := done })
  d.sendEq l

/-- TRAIN1 (R58, R69): three taps at rung 1, from preset 1. -/
def toTrain1 (d : Device) (l : Nat) (eq : Nat) : Device :=
  let d := ((d.setLane l LS.train1 1).set .LNK_TX_EQ l eq).resetEq l
  (d.modLane l (fun x => { x with change := none, test := none })).nextRequest l

/-- TRAIN2 (R58, R68, R70): the new rung, the transmitter at the start preset or at saved coefficients, P(−1) = 0. -/
def toTrain2 (d : Device) (l rung preset eq : Nat) : Device :=
  let d := ((d.setLane l LS.train2 rung).set .LNK_TX_EQ l eq).resetEq l
  let d := d.modLane l (fun x => { x with
    change := none, test := none, comma := false, marker := false, seen := 0, missed := 0, lastP := 0
    preset := preset, rotations := 0, flits := [], hunting := true })
  d.nextRequest l

/-- LOW (R58, R71). -/
def toLow (d : Device) (l : Nat) : Device :=
  let eq := d.num .LNK_TX_EQ l
  (d.setLane l LS.low 1).modLane l (fun x => { x with change := none, eqRung1 := eq, eqReq := 0, eqPreset := 0 })

/-- SERVICE (R58, R80): the receiver hunts for a header. -/
def toService (d : Device) (l : Nat) : Device :=
  (d.set .LNK_STATE l LS.service).modLane l (fun x => { x with hunting := true, flits := [], change := none })

/-- RECOVER (R58, R67). -/
def toRecover (d : Device) (l : Nat) : Device :=
  ((d.set .LNK_STATE l LS.recover).bump .LNK_RECOVERIES l).modLane l
    (fun x => { x with marker := false, seen := 0, missed := 0, window := [], ready := false, readyGot := 0, flits := [] })

/-- RELOCK (R58, R59): rung 1 with the coefficients last used there. -/
def toRelock (d : Device) (l : Nat) : Device :=
  let v := d.num .LNK_CODE_VIOL l
  let d := (d.setLane l LS.relock 1).set .LNK_TX_EQ l (d.lane l).eqRung1
  d.modLane l (fun x => { x with
    comma := false, marker := false, change := none, ready := false, readySent := 0, readyGot := 0
    eqDone := true, eqAcked := true, eqReq := 0, eqPreset := 0, violMark := v, wakeWait := false })

/-- Rung 2 (or 2H) has failed since the lane left SEEK (R59). -/
def markFailed (d : Device) (l rung : Nat) : Device :=
  d.modLane l (fun x => if rung = 3 then { x with failed2h := true } else { x with failed2 := true })

/-- A rung change reaches the switch (R61): the transmitter idles for at most 20 µs and restarts at the new rung. From STEP1 comma lock
at rung 1 is awaited; to rungs 2 and 2H the lane enters TRAIN2 from the start preset; down to rung 1 it relocks. -/
def rungSwitch (d : Device) (l : Nat) : Device :=
  match (d.lane l).change with
  | none => d
  | some c =>
    let d := d.emit (.lane l "switch")
    if c.target = 1 then
      if d.lstate l = LS.step1 ∨ d.lstate l = LS.ident then
        (d.setLane l LS.step1 1).modLane l
          (fun x => { x with comma := false, change := some { c with switched := true } })
      else d.toRelock l
    else d.toTrain2 l c.target c.preset (presetEq c.preset)

end Device

end Sys2Proof.Machine
end

