-- ==== Sys2Proof/Machine/Cycle.lean ====
section
/-!
DEFINITION. The cycle of live calibration (R283 to R285, R289, R299): its states, triggers and discards, what it keeps, and its share of the pool; and the front end
of a channel beside its objects.
-/
namespace Sys2Proof.Machine

/-- Planes of a data type (R110). -/
def dtPlanes (dt : Nat) : Nat := if dt = 0x28 then 3 else 1

/-- The parameters that a cycle keeps from its start (R299). -/
def calRegs : List Reg :=
  [.CH_CAL_TEMP_DELTA, .CH_CAL_REPEATS, .CH_CAL_TOL_MAX, .CH_CAL_FLAT, .CH_CAL_LOW_MAX, .CH_CAL_HIGH_MIN, .CH_CAL_N_MIN, .CH_CAL_SPREAD_MIN, .CH_CAL_CHAIN_MAX, .CH_CAL_LINE_STEP,
   .CH_CAL_GAIN_STEP, .CH_CAL_GAIN_SPAN, .CH_CAL_OFF_STEP, .CH_CAL_OFF_SPAN, .CH_CAL_DPX_LIMIT, .CH_CAL_DPX_FRAC, .CH_CAL_DPX_CONFIRM, .CH_CAL_DPX_AUTO, .CH_CAL_DPX_MAX]

namespace Device

/-- The front end of a channel. -/
def front (d : Device) (n : Nat) : Front := d.fronts.getD n {}

/-- A channel's front end changed. -/
def modFront (d : Device) (n : Nat) (f : Front → Front) : Device := { d with fronts := modTab 16 {} d.fronts n f }

/-- Planes of a channel's live set. -/
def planesOf (d : Device) (n : Nat) : Nat := dtPlanes (d.num .CH_DT n)

/-- A channel's calibration. -/
def calOf (d : Device) (n : Nat) : Calib := d.cal.getD n {}

/-- A channel's calibration changed. -/
def modCal (d : Device) (n : Nat) (f : Calib → Calib) : Device := { d with cal := modTab 16 {} d.cal n f }

/-- A parameter of the current cycle (R299). -/
def calPar (d : Device) (n : Nat) (r : Reg) : Nat := (((d.calOf n).params.find ⟨r, n⟩).getD (d.val r n)).toNat

/-- The cycle is under way (R284, R285). -/
def calRuns (d : Device) (n : Nat) : Bool := 2 ≤ d.num .CH_CAL_STATE n && d.num .CH_CAL_STATE n ≤ 5

/-- CAL_POOL_USED (R289): the entries that channels hold. -/
def countPool (d : Device) : Device :=
  d.set .CAL_POOL_USED 0 ((List.range 16).foldl (fun a n => if (d.calOf n).pool then a + d.num .CH_PIXELS n * d.planesOf n else a) 0)

/-- The accumulators of a cycle are cleared, and what was built from them. -/
def calClear (d : Device) (n : Nat) : Device := d.modCal n (fun c => { c with accs := [], kept := [], late := false, build := none })

/-- CAL_START (R283, R284): a cycle starts in WAIT. -/
def calStart (d : Device) (n : Nat) (tref : Option Nat) (chain : Nat) : Device :=
  let d := match tref with | some t => d.set .CH_CAL_T_REF n t | none => d
  let d := ((d.set .CH_CAL_STATE n 2).bump .CH_CAL_CYCLES n).set .CH_CAL_DONE_REPEATS n 0
  let d := (d.set .CH_CAL_GEN n (d.front n).camGen).calClear n
  d.modCal n (fun c => { c with chain := chain, params := calRegs.map (fun r => (⟨r, n⟩, d.val r n)) })

/-- A held trigger starts a cycle (R284), with T_REF from the last line. -/
def calHeld (d : Device) (n : Nat) : Device := (d.setOn .CH_CAL_PENDING n false).calStart n (d.calOf n).temp 0

/-- After a cycle ends (R284): a held trigger starts the next at once. -/
def calNext (d : Device) (n : Nat) : Device :=
  let d := (d.set .CH_CAL_STATE n 1).calClear n
  if d.on .CH_CAL_PENDING n then d.calHeld n else d

/-- A trigger of R284. -/
def calTrigger (d : Device) (n : Nat) : Device :=
  match d.num .CH_CAL_STATE n with
  | 1 => d.calStart n (d.calOf n).temp 0
  | 2 | 3 | 4 | 5 => d.setOn .CH_CAL_PENDING n true
  | _ => d

/-- CAL_DISCARD (R285). -/
def calDiscard (d : Device) (n : Nat) : Device := if d.calRuns n then (d.bump .CH_CAL_DISCARDS n).calNext n else d

/-- CH_CAL_STATE follows the enables (R283, R285): OFF, BLOCKED or IDLE. A cycle under way is discarded, and a held trigger goes with it. The channel's entries of the
pool are returned when it leaves ON or calibration is disabled, and taken again in ON (R289). -/
def calRefresh (d : Device) (n : Nat) : Device :=
  let on := d.on .CH_CAL_EN n && d.num .CH_STATE n = 1
  let blocked := d.on .CH_DCB_EN n || d.num .CH_STI_SET n = 0xFF
  let st := d.num .CH_CAL_STATE n
  let holds := on || (d.on .CH_CAL_EN n && st = 0 && (d.calOf n).pool)
  let d :=
    if on && !blocked then if st = 0 || st = 6 then d.set .CH_CAL_STATE n 1 else d
    else (((d.bumpIf (d.calRuns n) .CH_CAL_DISCARDS n).setOn .CH_CAL_PENDING n false).calClear n).set .CH_CAL_STATE n (if on then 6 else 0)
  (d.modCal n (fun c => { c with pool := holds })).countPool

/-- A channel hand-over that enables calibration takes the entries it needs (R289), whatever state the channel is in. -/
def calTake (d : Device) (n : Nat) : Device := (d.modCal n (fun c => { c with pool := c.pool || d.on .CH_CAL_EN n })).countPool

end Device

end Sys2Proof.Machine
end

