-- ==== Sys2Proof/Machine/Crc.lean ====
section
/-!
DEFINITION. The check-value units (R328 to R332): starting, feeding, ending, and saving a context.
-/
namespace Sys2Proof.Machine

/-- The initial value of an algorithm (R328). -/
def crcInit (alg : Nat) : Nat := if alg = 2 then 0xFFFF else 0xFFFFFFFF

/-- The register after some bytes (R328). -/
def crcRun (alg reg : Nat) (bs : Octets) : Nat :=
  match alg with
  | 0 => crcRegR 0x82F63B78 reg bs
  | 1 => crcRegR 0xEDB88320 reg bs
  | _ => crcRegF 16 0x1021 reg bs

/-- The final XOR of an algorithm (R328, R63). -/
def crcFinal (alg reg : Nat) : Nat := if alg = 2 then reg % 65536 else reg ^^^ 0xFFFFFFFF

namespace Device

/-- A unit. -/
def crcUnit (d : Device) (u : Nat) : CrcUnit := d.crcs.getD u {}

/-- A unit takes a state. -/
def setCrc (d : Device) (u : Nat) (x : CrcUnit) : Device := { d with crcs := modTab 8 {} d.crcs u (fun _ => x) }

/-- A start (R330): the initial value and the pseudo-header. -/
def crcStart (d : Device) (u : Nat) : Device :=
  let alg := d.num .CRC_ALG u
  let mode := d.num .CRC_MODE u
  let head := (if bit mode 0 then le 8 (d.num .CRC_ADDR u) else []) ++ (if bit mode 1 then le 4 (d.num .CRC_SEQ u) else [])
  (d.setCrc u { started := true, reg := crcRun alg (crcInit alg) head }).set .CRC_BYTES u 0

/-- Bytes fed (R329): a unit not started is started first. -/
def crcFeed (d : Device) (u : Nat) (bs : Octets) : Device :=
  let d := if (d.crcUnit u).started then d else d.crcStart u
  (d.setCrc u { started := true, reg := crcRun (d.num .CRC_ALG u) (d.crcUnit u).reg bs }).add .CRC_BYTES u bs.length

/-- An end (R331). -/
def crcEnd (d : Device) (u : Nat) : Device :=
  let d := if (d.crcUnit u).started then d else d.crcStart u
  let mode := d.num .CRC_MODE u
  let r := crcFinal (d.num .CRC_ALG u) (d.crcUnit u).reg
  let d := d.set .CRC_RESULT u r
  let ok := r = d.num .CRC_EXPECT u
  let d := if bit mode 3 then (d.set .CRC_CHECK u (if ok then 1 else 2)).pulse (if ok then 0x040 + u else 0x048 + u)
    else d.set .CRC_CHECK u 0
  let d := if bit mode 2 then d.bump .CRC_SEQ u else d
  (d.setCrc u { (d.crcUnit u) with started := false }).settle

/-- CRC_CONTEXT as it reads (R332). -/
def crcContext (d : Device) (u : Nat) : Nat := (d.crcUnit u).reg % 2 ^ 32 + 2 ^ 32 * d.num .CRC_BYTES u

/-- A write of CRC_CONTEXT (R332): the unit is started with the register and the count it gives. -/
def crcRestore (d : Device) (u v : Nat) : Device :=
  (d.setCrc u { started := true, reg := v % 2 ^ 32 }).set .CRC_BYTES u (v / 2 ^ 32)

/-- A drover descriptor is feeding the unit (R332): destination kind 3 of a descriptor in progress. -/
def crcFed (d : Device) (u : Nat) : Bool :=
  d.drovers.any (fun x => match x.cur with
    | some c => field c.ctl 6 5 == 3 && c.obj % 8 == u
    | none => false)

end Device

end Sys2Proof.Machine
end

