-- ==== Sys2Proof/WellFormed.lean ====
section
/-!
DEFINITION. When a command is well formed: its operands lie in the ranges the manual gives the units and fields they name.
-/
namespace Sys2Proof

/-- A lane number (R54). -/
def WF.lane (n : Nat) : Bool := n < 36
/-- A camera channel number (R1). -/
def WF.chan (n : Nat) : Bool := n < 16
/-- A set number (R177). -/
def WF.set (n : Nat) : Bool := n < 8
/-- An octet string. -/
def WF.octets (b : Octets) : Bool := b.all (· < 256)
/-- A datagram: port 0 or 1, IPv4 or IPv6 addresses of one kind, UDP ports, octets. -/
def WF.dgram (d : Datagram) : Bool :=
  d.port < 2 && (d.peer.length == 4 || d.peer.length == 16) && WF.octets d.peer && d.udp < 65536 && d.dst.length == d.peer.length && WF.octets d.dst && d.dport < 65536 && WF.octets d.payload
/-- A DAP datagram of 16 bytes or more with operation code `op` (R35). -/
def WF.dapOp (op : Nat) (d : Datagram) : Bool := WF.dgram d && 16 ≤ d.payload.length && d.payload.getD 1 0 == op
/-- A session number (R37). -/
def WF.session (n : Nat) : Bool := n < 1024
/-- A queue number (R339). -/
def WF.queue (n : Nat) : Bool := n < 4096
/-- A value of `w` bits. -/
def WF.bits (w n : Nat) : Bool := n < 2 ^ w
/-- The octets of a training frame (R63). -/
def WF.frame (f : Octets) : Bool := f.length == 32 && WF.octets f
/-- The PAM4 levels of one superframe of 257 codewords (R65). -/
def WF.levels (ls : List Nat) : Bool := ls.length == 699040 && ls.all (· < 4)
/-- A link: channels 0 to 15, 16 west, 17 east (R82, R102). -/
def WF.link (k : Nat) : Bool := k < 18
/-- A drover channel (R364). -/
def WF.drover (c : Nat) : Bool := c < 32
/-- A time-triggered output (R394). -/
def WF.tt (n : Nat) : Bool := n < 16
/-- A PTP message of a type on a port, with the stamp of its arrival in units of 2^−16 ns (R387, R388). -/
def WF.ptp (ty port : Nat) (m : PtpMsg) (t : Nat) : Bool := port < 2 && m.transport < 3 && WF.octets m.octets && m.octets.headD 16 % 16 == ty && WF.bits 80 t
/-- A fold link: 16 west, 17 east (R102). -/
def WF.fold (k : Nat) : Bool := k == 16 || k == 17

/-- The operands of OBJECT_WRITE. -/
def WF.objectWrite (session : Nat) (staged : Bool) (index : Nat) (sub : Nat) (value : Octets) : Bool := WF.session session && (session == 0 || !staged) && WF.bits 16 index && WF.bits 8 sub && WF.octets value

/-- The operands of DAP_OPEN. -/
def WF.dapOpen (d : Datagram) : Bool := WF.dapOp 0x01 d

/-- The operands of DAP_CLOSE. -/
def WF.dapClose (d : Datagram) : Bool := WF.dapOp 0x02 d

/-- The operands of DAP_KEEPALIVE. -/
def WF.dapKeepalive (d : Datagram) : Bool := WF.dapOp 0x03 d

/-- The operands of DAP_READ. -/
def WF.dapRead (d : Datagram) : Bool := WF.dapOp 0x10 d

/-- The operands of DAP_WRITE. -/
def WF.dapWrite (d : Datagram) : Bool := WF.dapOp 0x11 d

/-- The operands of DAP_READ_INDEX. -/
def WF.dapReadIndex (d : Datagram) : Bool := WF.dapOp 0x12 d

/-- The operands of DAP_READ_SEG. -/
def WF.dapReadSeg (d : Datagram) : Bool := WF.dapOp 0x13 d

/-- The operands of DAP_WRITE_SEG. -/
def WF.dapWriteSeg (d : Datagram) : Bool := WF.dapOp 0x14 d

/-- The operands of DAP_SUBSCRIBE. -/
def WF.dapSubscribe (d : Datagram) : Bool := WF.dapOp 0x20 d

/-- The operands of DAP_UNSUBSCRIBE. -/
def WF.dapUnsubscribe (d : Datagram) : Bool := WF.dapOp 0x21 d

/-- The operands of DAP_DATAGRAM_REFUSED. -/
def WF.dapDatagramRefused (d : Datagram) : Bool := WF.dgram d

/-- The operands of SUBSCRIPTION_PUSH. -/
def WF.subscriptionPush (n : Nat) : Bool := WF.session n && n != 0

/-- The operands of SESSION_TIMEOUT. -/
def WF.sessionTimeout (n : Nat) : Bool := WF.session n && n != 0

/-- The operands of SES_CLOSE. -/
def WF.sesClose (session : Nat) (n : Nat) (value : Nat) : Bool := WF.session session && WF.session n && WF.bits 8 value

/-- The operands of BAR0_WIDE_READ. -/
def WF.bar0WideRead (r : WideRead) : Bool := WF.bits 25 r.offset && r.offset % 4 == 0 && WF.bits 8 r.enables && r.enables != 0 && (r.enables < 16 || r.offset % 8 == 0)

/-- The operands of BAR0_BULK_GO. -/
def WF.bar0BulkGo (fill : Octets) (length : Nat) : Bool := WF.octets fill && fill.length ≤ 65536 && WF.bits 32 length

/-- The operands of BAR0_REACHABILITY_CHANGE. -/
def WF.bar0ReachabilityChange (speed : Nat) (width : Nat) (_ctl : PcieControl) : Bool := speed ≤ 4 && (width == 0 || width == 1 || width == 2 || width == 4 || width == 8)

/-- The operands of DEV_COMMIT. -/
def WF.devCommit (session : Nat) (gen : Nat) : Bool := WF.session session && WF.bits 32 gen

/-- The operands of CH_COMMIT. -/
def WF.chCommit (session : Nat) (n : Nat) (gen : Nat) : Bool := WF.session session && WF.chan n && WF.bits 32 gen

/-- The operands of DEV_STAGE_DISCARD. -/
def WF.devStageDiscard (session : Nat) (value : Nat) : Bool := WF.session session && WF.bits 8 value

/-- The operands of CH_STAGE_DISCARD. -/
def WF.chStageDiscard (session : Nat) (n : Nat) (value : Nat) : Bool := WF.session session && WF.chan n && WF.bits 8 value

/-- The operands of CH_HANDOVER_TIMEOUT. -/
def WF.chHandoverTimeout (n : Nat) : Bool := WF.chan n

/-- The operands of NVS_SAVE. -/
def WF.nvsSave (session : Nat) (value : Nat) : Bool := WF.session session && WF.bits 8 value

/-- The operands of NVS_SAVE_DONE. -/
def WF.nvsSaveDone (_firstOk : Bool) (_retryOk : Bool) : Bool := true

/-- The operands of NVS_ERASE. -/
def WF.nvsErase (session : Nat) (value : Nat) : Bool := WF.session session && WF.bits 8 value

/-- The operands of DISCOVER_SEND. -/
def WF.discoverSend (l : Nat) : Bool := WF.lane l

/-- The operands of COMMA_LOCK_ACQUIRE. -/
def WF.commaLockAcquire (l : Nat) (_inverted : Bool) : Bool := WF.lane l

/-- The operands of COMMA_LOCK_LOSS. -/
def WF.commaLockLoss (l : Nat) (errors : Nat) : Bool := WF.lane l && 1 ≤ errors && errors ≤ 1024

/-- The operands of DISCOVER_RX. -/
def WF.discoverRx (l : Nat) (f : Octets) : Bool := WF.lane l && WF.frame f

/-- The operands of IDENT_RX. -/
def WF.identRx (l : Nat) (f : Octets) : Bool := WF.lane l && WF.frame f

/-- The operands of RUNG_REQ_SEND. -/
def WF.rungReqSend (l : Nat) : Bool := WF.lane l

/-- The operands of RUNG_REQ_RX. -/
def WF.rungReqRx (l : Nat) (f : Octets) : Bool := WF.lane l && WF.frame f

/-- The operands of RUNG_ACK_RX. -/
def WF.rungAckRx (l : Nat) (f : Octets) : Bool := WF.lane l && WF.frame f

/-- The operands of EQ_RX. -/
def WF.eqRx (l : Nat) (f : Octets) : Bool := WF.lane l && WF.frame f

/-- The operands of RX_READY_SET. -/
def WF.rxReadySet (l : Nat) (snr : Nat) : Bool := WF.lane l && WF.bits 16 snr

/-- The operands of EQ_STEP_TIMEOUT. -/
def WF.eqStepTimeout (l : Nat) : Bool := WF.lane l

/-- The operands of PRESET_ROTATE. -/
def WF.presetRotate (l : Nat) : Bool := WF.lane l

/-- The operands of IDENT_TIMEOUT. -/
def WF.identTimeout (l : Nat) : Bool := WF.lane l

/-- The operands of RUNG_ACK_TIMEOUT. -/
def WF.rungAckTimeout (l : Nat) : Bool := WF.lane l

/-- The operands of TRAIN1_TIMEOUT. -/
def WF.train1Timeout (l : Nat) : Bool := WF.lane l

/-- The operands of STEP2_START. -/
def WF.step2Start (l : Nat) : Bool := WF.lane l

/-- The operands of STEP2_RETRY. -/
def WF.step2Retry (l : Nat) : Bool := WF.lane l

/-- The operands of TRAIN2_TIMEOUT. -/
def WF.train2Timeout (l : Nat) : Bool := WF.lane l

/-- The operands of RECOVER_TIMEOUT. -/
def WF.recoverTimeout (l : Nat) : Bool := WF.lane l

/-- The operands of RELOCK_TIMEOUT. -/
def WF.relockTimeout (l : Nat) : Bool := WF.lane l

/-- The operands of SUPERFRAME_RX. -/
def WF.superframeRx (l : Nat) (_follows : Bool) (levels : List Nat) : Bool := WF.lane l && WF.levels levels

/-- The operands of SIGNAL_DETECT_LOSS. -/
def WF.signalDetectLoss (l : Nat) (_long : Bool) : Bool := WF.lane l

/-- The operands of ABORT_RX. -/
def WF.abortRx (l : Nat) (f : Octets) : Bool := WF.lane l && WF.frame f

/-- The operands of LNK_TEST_START. -/
def WF.lnkTestStart (session : Nat) (l : Nat) (value : Nat) : Bool := WF.session session && WF.lane l && WF.bits 8 value && value != 0

/-- The operands of LNK_TEST_STOP. -/
def WF.lnkTestStop (session : Nat) (l : Nat) : Bool := WF.session session && WF.lane l

/-- The operands of TEST_REQ_RX. -/
def WF.testReqRx (l : Nat) (f : Octets) : Bool := WF.lane l && WF.frame f

/-- The operands of TEST_ACK_RX. -/
def WF.testAckRx (l : Nat) (f : Octets) : Bool := WF.lane l && WF.frame f

/-- The operands of TEST_NAK_RX. -/
def WF.testNakRx (l : Nat) (f : Octets) : Bool := WF.lane l && WF.frame f

/-- The operands of TEST_REQ_TIMEOUT. -/
def WF.testReqTimeout (l : Nat) : Bool := WF.lane l

/-- The operands of TEST_EXPIRE. -/
def WF.testExpire (l : Nat) : Bool := WF.lane l

/-- The operands of SLEEP_REQ_RX. -/
def WF.sleepReqRx (l : Nat) (f : Octets) : Bool := WF.lane l && WF.frame f

/-- The operands of SLEEP_ACK_RX. -/
def WF.sleepAckRx (l : Nat) (f : Octets) : Bool := WF.lane l && WF.frame f

/-- The operands of SLEEP_NAK_RX. -/
def WF.sleepNakRx (l : Nat) (f : Octets) : Bool := WF.lane l && WF.frame f

/-- The operands of SLEEP_NOW_RX. -/
def WF.sleepNowRx (l : Nat) (f : Octets) : Bool := WF.lane l && WF.frame f

/-- The operands of SLEEP_WAKE_RX. -/
def WF.sleepWakeRx (l : Nat) (f : Octets) : Bool := WF.lane l && WF.frame f

/-- The operands of SLEEP_REQ_REPEAT. -/
def WF.sleepReqRepeat (l : Nat) : Bool := WF.lane l

/-- The operands of LANE_AUTO_SLEEP. -/
def WF.laneAutoSleep (l : Nat) : Bool := WF.lane l

/-- The operands of LANE_TX_WAKE. -/
def WF.laneTxWake (l : Nat) : Bool := WF.lane l

/-- The operands of WAKE_LOCK_TIMEOUT. -/
def WF.wakeLockTimeout (l : Nat) : Bool := WF.lane l

/-- The operands of PACKET_RX. -/
def WF.packetRx (l : Nat) (direct : Option (List Nat × Nat)) : Bool := WF.lane l && (match direct with | some (p, t) => WF.octets p && 8 ≤ p.length && WF.bits 64 t | none => true)

/-- The operands of PACKET_LOSS_DECLARE. -/
def WF.packetLossDeclare (k : Nat) (vc : Nat) : Bool := WF.link k && vc < 4

/-- The operands of LINE_SEGMENT_RX. -/
def WF.lineSegmentRx (n : Nat) : Bool := WF.chan n

/-- The operands of DARK_BLOCK_RX. -/
def WF.darkBlockRx (n : Nat) : Bool := WF.chan n

/-- The operands of CAMERA_STATUS_RX. -/
def WF.cameraStatusRx (n : Nat) : Bool := WF.chan n

/-- The operands of TEMPERATURE_RX. -/
def WF.temperatureRx (n : Nat) : Bool := WF.chan n

/-- The operands of CREDIT_UPDATE_RX. -/
def WF.creditUpdateRx (k : Nat) : Bool := WF.link k

/-- The operands of TEST_PACKET_RX. -/
def WF.testPacketRx (k : Nat) : Bool := WF.link k

/-- The operands of CREDIT_UPDATE_SEND. -/
def WF.creditUpdateSend (k : Nat) : Bool := WF.link k

/-- The operands of FIRST_CREDIT_TIMEOUT. -/
def WF.firstCreditTimeout (n : Nat) : Bool := WF.chan n

/-- The operands of CONTROL_RETRANSMIT. -/
def WF.controlRetransmit (n : Nat) : Bool := WF.chan n

/-- The operands of CONTROL_BUSY_RETRY. -/
def WF.controlBusyRetry (n : Nat) : Bool := WF.chan n

/-- The operands of GET_INFO_DONE. -/
def WF.getInfoDone (n : Nat) : Bool := WF.chan n

/-- The operands of SETTINGS_DONE. -/
def WF.settingsDone (n : Nat) : Bool := WF.chan n

/-- The operands of ACTIVATE_DONE. -/
def WF.activateDone (n : Nat) : Bool := WF.chan n

/-- The operands of MODE_DONE. -/
def WF.modeDone (n : Nat) : Bool := WF.chan n

/-- The operands of TIME_ECHO_SEND. -/
def WF.timeEchoSend (n : Nat) : Bool := WF.chan n

/-- The operands of TIME_ECHO_DONE. -/
def WF.timeEchoDone (n : Nat) : Bool := WF.chan n

/-- The operands of CREG_READ. -/
def WF.cregRead (session : Nat) (n : Nat) : Bool := WF.session session && WF.chan n

/-- The operands of CREG_WRITE. -/
def WF.cregWrite (session : Nat) (n : Nat) : Bool := WF.session session && WF.chan n

/-- The operands of REG_READ_DONE. -/
def WF.regReadDone (n : Nat) : Bool := WF.chan n

/-- The operands of REG_WRITE_DONE. -/
def WF.regWriteDone (n : Nat) : Bool := WF.chan n

/-- The operands of FRONT_END_LINE. -/
def WF.frontEndLine (n : Nat) : Bool := WF.chan n

/-- The operands of CAMSET_BUSY_TIMEOUT. -/
def WF.camsetBusyTimeout (n : Nat) : Bool := WF.chan n

/-- The operands of CHANNEL_DRAIN_DONE. -/
def WF.channelDrainDone (n : Nat) : Bool := WF.chan n

/-- The operands of SLICE_DRAIN_DONE. -/
def WF.sliceDrainDone (n : Nat) : Bool := WF.chan n

/-- The operands of POSITION_EDGE. -/
def WF.positionEdge (src : Nat) (code : Nat) (t : Nat) : Bool := src < 3 && code < (if src < 2 then 4 else 8) && WF.bits 64 t

/-- The operands of ENC_FAILSAFE_DETECT. -/
def WF.encFailsafeDetect (src : Nat) : Bool := src < 2

/-- The operands of POS_REARM. -/
def WF.posRearm (session : Nat) (value : Nat) : Bool := WF.session session && WF.bits 8 value

/-- The operands of INDEX_PULSE. -/
def WF.indexPulse (src : Nat) (t : Nat) : Bool := src < 2 && WF.bits 64 t

/-- The operands of EMU_SCHEDULED_EMIT. -/
def WF.emuScheduledEmit (e : Nat) : Bool := e < 4

/-- The operands of EMU_PIN_EMIT. -/
def WF.emuPinEmit (e : Nat) : Bool := e < 4

/-- The operands of DEC_SYNC_EDGE. -/
def WF.decSyncEdge (_rising : Bool) (t : Nat) : Bool := WF.bits 64 t

/-- The operands of POS_GRID_SET. -/
def WF.posGridSet (session : Nat) (value : Nat) : Bool := WF.session session && WF.bits 64 value

/-- The operands of STITCH_LINE. -/
def WF.stitchLine (set : Nat) : Bool := WF.set set

/-- The operands of OVERLAP_MEASURE. -/
def WF.overlapMeasure (n : Nat) : Bool := WF.chan n

/-- The operands of COMPARE_LINE. -/
def WF.compareLine (set : StackRead (List (Nat × Nat × Nat))) : Bool := WF.set set.unit

/-- The operands of HEFT_BLOCK_WRITE. -/
def WF.heftBlockWrite (set : Nat) (plane : Nat) (br : Nat) (bc : Nat) : Bool := WF.set set && plane < 3 && WF.bits 18 br && WF.bits 11 bc

/-- The operands of HEFT_BLOCK_VERIFIED. -/
def WF.heftBlockVerified (set : Nat) (plane : Nat) (br : Nat) (bc : Nat) (_ok : Bool) : Bool := WF.set set && plane < 3 && WF.bits 18 br && WF.bits 11 bc

/-- The operands of HFT_LOAD_BEGIN. -/
def WF.hftLoadBegin (session : Nat) (job : Nat) : Bool := WF.session session && WF.bits 32 job

/-- The operands of HFT_LOAD_END. -/
def WF.hftLoadEnd (session : Nat) (job : Nat) : Bool := WF.session session && WF.bits 32 job

/-- The operands of HFT_LOAD_ABORT. -/
def WF.hftLoadAbort (session : Nat) (value : Nat) : Bool := WF.session session && WF.bits 8 value

/-- The operands of LABEL_LINE. -/
def WF.labelLine (set : Nat) : Bool := WF.set set

/-- The operands of EDGE_RX. -/
def WF.edgeRx (k : Nat) : Bool := WF.fold k

/-- The operands of LINK_RX. -/
def WF.linkRx (k : Nat) : Bool := WF.fold k

/-- The operands of WATERMARK_RX. -/
def WF.watermarkRx (k : Nat) : Bool := WF.fold k

/-- The operands of ALIAS_RX. -/
def WF.aliasRx (k : Nat) : Bool := WF.fold k

/-- The operands of FRAG_RX. -/
def WF.fragRx (k : Nat) : Bool := WF.fold k

/-- The operands of COMPONENT_TIMEOUT. -/
def WF.componentTimeout (tag : Nat) : Bool := WF.bits 32 tag

/-- The operands of SNIPPET_WRITE. -/
def WF.snippetWrite (handle : StackRead (List Nat)) : Bool := WF.bits 32 handle.unit

/-- The operands of REJECT_REPREDICT. -/
def WF.rejectRepredict (station : Nat) : Bool := station < 8

/-- The operands of REJECT_PULSE_START. -/
def WF.rejectPulseStart (out : Nat) : Bool := out < 16

/-- The operands of REJECT_PULSE_END. -/
def WF.rejectPulseEnd (out : Nat) : Bool := out < 16

/-- The operands of CAL_BUILD_DONE. -/
def WF.calBuildDone (n : Nat) : Bool := WF.chan n

/-- The operands of CH_CAL_START. -/
def WF.chCalStart (session : Nat) (n : Nat) (value : Nat) : Bool := WF.session session && WF.chan n && WF.bits 8 value

/-- The operands of CH_CAL_ABORT. -/
def WF.chCalAbort (session : Nat) (n : Nat) (value : Nat) : Bool := WF.session session && WF.chan n && WF.bits 8 value

/-- The operands of CH_CAL_SEED. -/
def WF.chCalSeed (session : Nat) (n : Nat) (value : Nat) : Bool := WF.session session && WF.chan n && WF.bits 8 value

/-- The operands of STACK_TEMP_READ. -/
def WF.stackTempRead (t : Nat) : Bool := WF.bits 16 t

/-- The operands of MEM_RETRAIN_REQ. -/
def WF.memRetrainReq (session : Nat) (value : Nat) : Bool := WF.session session && WF.bits 8 value

/-- The operands of REFRESH_WINDOW. -/
def WF.refreshWindow (r : RefreshReport) : Bool := WF.bits 32 r.corrected && r.latency.length == 8 && r.latency.all (WF.bits 32)

/-- The operands of DRAM_TRAINING_DONE. -/
def WF.dramTrainingDone (_ready : Bool) (repaired : Nat) : Bool := WF.bits 16 repaired

/-- The operands of FLC_JOB_START. -/
def WF.flcJobStart (session : Nat) (j : Nat) : Bool := WF.session session && j < 4

/-- The operands of FLC_JOB_RESUME. -/
def WF.flcJobResume (session : Nat) (j : Nat) : Bool := WF.session session && j < 4

/-- The operands of FLC_JOB_BLOCK_DONE. -/
def WF.flcJobBlockDone (j : StackRead Bool) : Bool := j.unit < 4

/-- The operands of CRC_START. -/
def WF.crcStart (session : Nat) (u : Nat) : Bool := WF.session session && u < 8

/-- The operands of CRC_END. -/
def WF.crcEnd (session : Nat) (u : Nat) : Bool := WF.session session && u < 8

/-- The operands of CRC_FEED8. -/
def WF.crcFeed8 (session : Nat) (u : Nat) (value : Nat) : Bool := WF.session session && u < 8 && WF.bits 8 value

/-- The operands of CRC_FEED16. -/
def WF.crcFeed16 (session : Nat) (u : Nat) (value : Nat) : Bool := WF.session session && u < 8 && WF.bits 16 value

/-- The operands of CRC_FEED24. -/
def WF.crcFeed24 (session : Nat) (u : Nat) (value : Nat) : Bool := WF.session session && u < 8 && WF.bits 24 value

/-- The operands of CRC_FEED32. -/
def WF.crcFeed32 (session : Nat) (u : Nat) (value : Nat) : Bool := WF.session session && u < 8 && WF.bits 32 value

/-- The operands of CRC_CONTEXT_WRITE. -/
def WF.crcContextWrite (session : Nat) (u : Nat) (value : Nat) : Bool := WF.session session && u < 8 && WF.bits 64 value

/-- The operands of QUEUE_DRAIN_END. -/
def WF.queueDrainEnd (q : Nat) : Bool := WF.queue q

/-- The operands of ETH_ITEM_TRANSMIT. -/
def WF.ethItemTransmit (q : Nat) : Bool := WF.queue q

/-- The operands of INGRESS_FRAGMENT_RX. -/
def WF.ingressFragmentRx (dst : Nat) (d : Datagram) : Bool := WF.dgram d && WF.bits 16 dst && dst != 0

/-- The operands of QUEUE_CREDIT_SEND. -/
def WF.queueCreditSend (q : Nat) : Bool := WF.queue q

/-- The operands of DMA_DOORBELL. -/
def WF.dmaDoorbell (session : Nat) (c : Nat) (value : Nat) : Bool := WF.session session && WF.drover c && WF.bits 32 value

/-- The operands of DMA_DESCRIPTOR_FETCH. -/
def WF.dmaDescriptorFetch (c : Nat) (desc : Octets) (data : Octets) : Bool := WF.drover c && WF.octets desc && WF.octets data

/-- The operands of DMA_STALE_REREAD. -/
def WF.dmaStaleReread (c : Nat) (desc : Octets) (data : Octets) : Bool := WF.drover c && WF.octets desc && WF.octets data

/-- The operands of DMA_ITEM_WAIT_EXPIRE. -/
def WF.dmaItemWaitExpire (c : Nat) : Bool := WF.drover c

/-- The operands of DMA_DESCRIPTOR_COMPLETE. -/
def WF.dmaDescriptorComplete (c : Nat) (good : Nat) : Bool := WF.drover c && WF.bits 32 good

/-- The operands of DMA_ENABLE. -/
def WF.dmaEnable (session : Nat) (c : Nat) : Bool := WF.session session && WF.drover c

/-- The operands of DMA_DISABLE. -/
def WF.dmaDisable (session : Nat) (c : Nat) : Bool := WF.session session && WF.drover c

/-- The operands of DMA_FINISH. -/
def WF.dmaFinish (session : Nat) (c : Nat) : Bool := WF.session session && WF.drover c

/-- The operands of DMA_CLEAR_FAULT. -/
def WF.dmaClearFault (session : Nat) (c : Nat) : Bool := WF.session session && WF.drover c

/-- The operands of BAR2_READ. -/
def WF.bar2Read (offset : Nat) (n : Nat) (_good : Nat) : Bool := WF.bits 30 offset && n ≤ 4096 && 0 < n

/-- The operands of BAR2_WRITE. -/
def WF.bar2Write (offset : Nat) (data : Octets) : Bool := WF.bits 30 offset && WF.octets data && data.length ≤ 512

/-- The operands of BAR2_WINDOW_WRITE. -/
def WF.bar2WindowWrite (session : Nat) (value : Nat) : Bool := WF.session session && WF.bits 64 value

/-- The operands of MSIX_VECTOR_UNMASK. -/
def WF.msixVectorUnmask (v : Nat) : Bool := v < 256

/-- The operands of TRU_FW_STAGE. -/
def WF.truFwStage (session : Nat) (value : Nat) : Bool := WF.session session && WF.bits 32 value

/-- The operands of TRU_SVN_LOCK. -/
def WF.truSvnLock (session : Nat) (value : Nat) : Bool := WF.session session && WF.bits 16 value

/-- The operands of TRU_HOLD_SET. -/
def WF.truHoldSet (session : Nat) (value : Nat) : Bool := WF.session session && WF.bits 8 value

/-- The operands of TRU_HOLD_RELEASE. -/
def WF.truHoldRelease (session : Nat) (value : Nat) : Bool := WF.session session && WF.bits 32 value

/-- The operands of BOOT_IMAGE_CHECK. -/
def WF.bootImageCheck (slot0 : Octets) (slot1 : Octets) : Bool := WF.octets slot0 && WF.octets slot1

/-- The operands of BOOT_RETRY. -/
def WF.bootRetry (slot0 : Octets) (slot1 : Octets) : Bool := WF.octets slot0 && WF.octets slot1

/-- The operands of TIM_SET. -/
def WF.timSet (session : Nat) (value : Nat) : Bool := WF.session session && WF.bits 64 value

/-- The operands of TIM_STEP. -/
def WF.timStep (session : Nat) (value : Nat) : Bool := WF.session session && WF.bits 32 value

/-- The operands of SYNC_RX. -/
def WF.syncRx (port : Nat) (m : PtpMsg) (t : Nat) (te : Nat) : Bool := WF.ptp 0 port m t && WF.bits 80 te

/-- The operands of FOLLOW_UP_RX. -/
def WF.followUpRx (port : Nat) (m : PtpMsg) : Bool := WF.ptp 8 port m 0

/-- The operands of DELAY_REQ_RX. -/
def WF.delayReqRx (port : Nat) (m : PtpMsg) (t : Nat) (te : Nat) : Bool := WF.ptp 1 port m t && WF.bits 80 te

/-- The operands of DELAY_RESP_RX. -/
def WF.delayRespRx (port : Nat) (m : PtpMsg) : Bool := WF.ptp 9 port m 0

/-- The operands of PDELAY_REQ_RX. -/
def WF.pdelayReqRx (port : Nat) (m : PtpMsg) (t : Nat) (te : Nat) : Bool := WF.ptp 2 port m t && WF.bits 80 te

/-- The operands of PDELAY_RESP_RX. -/
def WF.pdelayRespRx (port : Nat) (m : PtpMsg) (t : Nat) : Bool := WF.ptp 3 port m t

/-- The operands of PDELAY_RESP_FOLLOW_UP_RX. -/
def WF.pdelayRespFollowUpRx (port : Nat) (m : PtpMsg) : Bool := WF.ptp 10 port m 0

/-- The operands of ANNOUNCE_RX. -/
def WF.announceRx (port : Nat) (m : PtpMsg) : Bool := WF.ptp 11 port m 0

/-- The operands of DELAY_REQ_SEND. -/
def WF.delayReqSend (te : Nat) : Bool := WF.bits 80 te

/-- The operands of PDELAY_REQ_SEND. -/
def WF.pdelayReqSend (port : Nat) (te : Nat) : Bool := port < 2 && WF.bits 80 te

/-- The operands of SYNC_SEND. -/
def WF.syncSend (te : Nat) : Bool := WF.bits 80 te

/-- The operands of TT_PULSE_START. -/
def WF.ttPulseStart (n : Nat) : Bool := WF.tt n

/-- The operands of TT_PULSE_END. -/
def WF.ttPulseEnd (n : Nat) : Bool := WF.tt n

/-- The operands of TIM_TT_ARM. -/
def WF.timTtArm (session : Nat) (n : Nat) (value : Nat) : Bool := WF.session session && WF.tt n && WF.bits 64 value

/-- The operands of TC_IN_EDGE. -/
def WF.tcInEdge (n : Nat) (_falling : Bool) (t : Nat) : Bool := n < 8 && WF.bits 64 t

/-- The operands of TC_FIFO_READ. -/
def WF.tcFifoRead (n : Nat) : Bool := n < 8

/-- The operands of TASK_INPUT_EDGE. -/
def WF.taskInputEdge (k : Nat) : Bool := k < 33

/-- The operands of TASK_CONSUME. -/
def WF.taskConsume (k : Nat) : Bool := k < 33

/-- The operands of EVT_TASK_CLEAR. -/
def WF.evtTaskClear (session : Nat) (k : Nat) : Bool := WF.session session && k < 33

/-- The operands of CELL_CLOCK_EDGE. -/
def WF.cellClockEdge (c : Nat) : Bool := c < 32

/-- The operands of JOIN_RX. -/
def WF.joinRx (k : Nat) : Bool := WF.fold k

/-- The operands of JOIN_ANSWER_RX. -/
def WF.joinAnswerRx (k : Nat) : Bool := WF.fold k

/-- The operands of TIME_SEND. -/
def WF.timeSend (t1 : Nat) : Bool := WF.bits 80 t1

/-- The operands of TIME_REQ_RX. -/
def WF.timeReqRx (k : Nat) (t2 : Nat) (t3 : Nat) : Bool := WF.fold k && WF.bits 80 t2 && WF.bits 80 t3

/-- The operands of TIME_ANSWER_RX. -/
def WF.timeAnswerRx (k : Nat) (t4 : Nat) : Bool := WF.fold k && WF.bits 80 t4

/-- The operands of POS_REQ_RX. -/
def WF.posReqRx (k : Nat) : Bool := WF.fold k

/-- The operands of POS_ANSWER_RX. -/
def WF.posAnswerRx (k : Nat) : Bool := WF.fold k

/-- The operands of BEACON_RX. -/
def WF.beaconRx (k : Nat) : Bool := WF.fold k

/-- The operands of STATUS_RX. -/
def WF.statusRx (k : Nat) : Bool := WF.fold k

/-- The operands of REPEAT_RX. -/
def WF.repeatRx (k : Nat) : Bool := WF.fold k

/-- The operands of GRID_RX. -/
def WF.gridRx (k : Nat) : Bool := WF.fold k

/-- The operands of QITEM_RX. -/
def WF.qitemRx (k : Nat) : Bool := WF.fold k

/-- The operands of RELAY_RX. -/
def WF.relayRx (k : Nat) : Bool := WF.fold k

/-- The operands of FOLD_PACKET_FORWARD. -/
def WF.foldPacketForward (k : Nat) : Bool := WF.fold k

/-- The operands of FOLD_REQUEST_RETRY. -/
def WF.foldRequestRetry (dt : Nat) : Bool := dt == 0x40 || dt == 0x41 || dt == 0x42

/-- The operands of MEMBER_LOST. -/
def WF.memberLost (m : Nat) : Bool := 1 ≤ m && m < 8

/-- The operands of REF_MONITOR_WINDOW. -/
def WF.refMonitorWindow (c0 : Nat) (c1 : Nat) (c2 : Nat) : Bool := WF.bits 16 c0 && WF.bits 16 c1 && WF.bits 16 c2

/-- The operands of CLK_RETURN. -/
def WF.clkReturn (session : Nat) (value : Nat) : Bool := WF.session session && WF.bits 8 value

/-- The operands of PLL_LOCK_LOSS. -/
def WF.pllLockLoss (k : Nat) : Bool := k < 3

/-- The operands of CLOCK_SWITCH_DONE. -/
def WF.clockSwitchDone (which : Nat) : Bool := which < 3

/-- The operands of CLOCK_SWITCH_FORCED. -/
def WF.clockSwitchForced (which : Nat) : Bool := which < 3

/-- The operands of DVFS_VOLTAGE_REACHED. -/
def WF.dvfsVoltageReached (mv : Nat) : Bool := WF.bits 16 mv

/-- The operands of VDD_CORE_LOW. -/
def WF.vddCoreLow (mv : Nat) : Bool := WF.bits 16 mv

/-- The operands of VDD_CORE_HIGH. -/
def WF.vddCoreHigh (mv : Nat) : Bool := WF.bits 16 mv

/-- The operands of SUPPLY_RAIL_FAULT. -/
def WF.supplyRailFault (rail : Nat) : Bool := rail < 7

/-- The operands of PWR_SLEEP. -/
def WF.pwrSleep (session : Nat) (value : Nat) : Bool := WF.session session && WF.bits 8 value

/-- The operands of DIE_TEMP_READ. -/
def WF.dieTempRead (t : Nat) : Bool := WF.bits 16 t

/-- The operands of PWR_RESET. -/
def WF.pwrReset (session : Nat) (value : Nat) : Bool := WF.session session && WF.bits 8 value

/-- The operands of LEASE_EXPIRE. -/
def WF.leaseExpire (kind : Nat) (holder : Nat) : Bool := 1 ≤ kind && kind ≤ 6 && WF.bits 24 holder

/-- The operands of FLT_CLEAR. -/
def WF.fltClear (session : Nat) (value : Nat) : Bool := WF.session session && WF.bits 32 value

/-- The operands of TWI_T_GO. -/
def WF.twiTGo (session : Nat) (value : Nat) : Bool := WF.session session && WF.bits 8 value

/-- The operands of TWI_TRANSACTION_START. -/
def WF.twiTransactionStart (lost : Nat) : Bool := lost < 3

/-- The operands of TWI_TRANSACTION_END. -/
def WF.twiTransactionEnd (outcome : Nat) (done : Nat) (rise : Nat) (slow : Nat) (data : Octets) : Bool := outcome < 3 && WF.bits 8 done && WF.bits 16 rise && WF.bits 32 slow && WF.octets data

/-- The operands of TWI_ARB_RETRY. -/
def WF.twiArbRetry (lost : Nat) : Bool := lost < 3

/-- The operands of TWI_STRETCH_TIMEOUT. -/
def WF.twiStretchTimeout (_freed : Bool) : Bool := true

/-- The operands of TWI_RECOVERY_RETRY. -/
def WF.twiRecoveryRetry (_freed : Bool) : Bool := true

/-- The operands of TWI_TARGET_ADDRESSED. -/
def WF.twiTargetAddressed (kind : Nat) (n : Nat) : Bool := kind < 6 && WF.bits 16 n

/-- The operands of TWI_FLAG_CLEAR. -/
def WF.twiFlagClear (session : Nat) (value : Nat) : Bool := WF.session session && WF.bits 8 value

/-- The operands of SIGNAL_DETECT_RETURN. -/
def WF.signalDetectReturn (l : Nat) : Bool := WF.lane l

/-- The operands of PRBS_CHECKER_LOCK. -/
def WF.prbsCheckerLock (l : Nat) (bits : List Nat) : Bool := WF.lane l && bits.all (· < 2)

/-- The operands of SIGNALING_MANAGEMENT_RX. -/
def WF.signalingManagementRx (port : Nat) (m : PtpMsg) : Bool := port < 2 && m.transport < 3 && WF.octets m.octets

/-- The operands of ARP_ND_REPLY_RX. -/
def WF.arpNdReplyRx (port : Nat) (addr : Octets) (mac : Octets) : Bool := port < 2 && (addr.length == 4 || addr.length == 16) && WF.octets addr && mac.length == 6 && WF.octets mac

/-- The operands of FOLD_SYNC_EDGE. -/
def WF.foldSyncEdge (_rise : Bool) : Bool := true

/-- The operands of TWI_START_STOP_OBSERVED. -/
def WF.twiStartStopObserved (_stop : Bool) : Bool := true

/-- The operands of SUPPLY_RAIL_RETURN. -/
def WF.supplyRailReturn (rail : Nat) : Bool := rail < 7

/-- A command is well formed when its operands name units and values that the device has: what each clause checks is the
range of one operand. -/
def Instr.wf : Instr → Bool
  | .objectWrite session staged index sub value => WF.objectWrite session staged index sub value
  | .dapOpen d => WF.dapOpen d
  | .dapClose d => WF.dapClose d
  | .dapKeepalive d => WF.dapKeepalive d
  | .dapRead d => WF.dapRead d
  | .dapWrite d => WF.dapWrite d
  | .dapReadIndex d => WF.dapReadIndex d
  | .dapReadSeg d => WF.dapReadSeg d
  | .dapWriteSeg d => WF.dapWriteSeg d
  | .dapSubscribe d => WF.dapSubscribe d
  | .dapUnsubscribe d => WF.dapUnsubscribe d
  | .dapDatagramRefused d => WF.dapDatagramRefused d
  | .subscriptionPush n => WF.subscriptionPush n
  | .sessionTimeout n => WF.sessionTimeout n
  | .sesClose session n value => WF.sesClose session n value
  | .bar0WideRead r => WF.bar0WideRead r
  | .bar0BulkGo fill length => WF.bar0BulkGo fill length
  | .bar0ReachabilityChange speed width ctl => WF.bar0ReachabilityChange speed width ctl
  | .devCommit session gen => WF.devCommit session gen
  | .chCommit session n gen => WF.chCommit session n gen
  | .devStageDiscard session value => WF.devStageDiscard session value
  | .chStageDiscard session n value => WF.chStageDiscard session n value
  | .chHandoverTimeout n => WF.chHandoverTimeout n
  | .nvsSave session value => WF.nvsSave session value
  | .nvsSaveDone firstOk retryOk => WF.nvsSaveDone firstOk retryOk
  | .nvsErase session value => WF.nvsErase session value
  | .discoverSend l => WF.discoverSend l
  | .commaLockAcquire l inverted => WF.commaLockAcquire l inverted
  | .commaLockLoss l errors => WF.commaLockLoss l errors
  | .discoverRx l f => WF.discoverRx l f
  | .identRx l f => WF.identRx l f
  | .rungReqSend l => WF.rungReqSend l
  | .rungReqRx l f => WF.rungReqRx l f
  | .rungAckRx l f => WF.rungAckRx l f
  | .eqRx l f => WF.eqRx l f
  | .rxReadySet l snr => WF.rxReadySet l snr
  | .eqStepTimeout l => WF.eqStepTimeout l
  | .presetRotate l => WF.presetRotate l
  | .identTimeout l => WF.identTimeout l
  | .rungAckTimeout l => WF.rungAckTimeout l
  | .train1Timeout l => WF.train1Timeout l
  | .step2Start l => WF.step2Start l
  | .step2Retry l => WF.step2Retry l
  | .train2Timeout l => WF.train2Timeout l
  | .recoverTimeout l => WF.recoverTimeout l
  | .relockTimeout l => WF.relockTimeout l
  | .superframeRx l follows levels => WF.superframeRx l follows levels
  | .signalDetectLoss l long => WF.signalDetectLoss l long
  | .abortRx l f => WF.abortRx l f
  | .lnkTestStart session l value => WF.lnkTestStart session l value
  | .lnkTestStop session l => WF.lnkTestStop session l
  | .testReqRx l f => WF.testReqRx l f
  | .testAckRx l f => WF.testAckRx l f
  | .testNakRx l f => WF.testNakRx l f
  | .testReqTimeout l => WF.testReqTimeout l
  | .testExpire l => WF.testExpire l
  | .sleepReqRx l f => WF.sleepReqRx l f
  | .sleepAckRx l f => WF.sleepAckRx l f
  | .sleepNakRx l f => WF.sleepNakRx l f
  | .sleepNowRx l f => WF.sleepNowRx l f
  | .sleepWakeRx l f => WF.sleepWakeRx l f
  | .sleepReqRepeat l => WF.sleepReqRepeat l
  | .laneAutoSleep l => WF.laneAutoSleep l
  | .laneTxWake l => WF.laneTxWake l
  | .wakeLockTimeout l => WF.wakeLockTimeout l
  | .packetRx l direct => WF.packetRx l direct
  | .packetLossDeclare k vc => WF.packetLossDeclare k vc
  | .lineSegmentRx n => WF.lineSegmentRx n
  | .darkBlockRx n => WF.darkBlockRx n
  | .cameraStatusRx n => WF.cameraStatusRx n
  | .temperatureRx n => WF.temperatureRx n
  | .creditUpdateRx k => WF.creditUpdateRx k
  | .testPacketRx k => WF.testPacketRx k
  | .creditUpdateSend k => WF.creditUpdateSend k
  | .firstCreditTimeout n => WF.firstCreditTimeout n
  | .controlRetransmit n => WF.controlRetransmit n
  | .controlBusyRetry n => WF.controlBusyRetry n
  | .getInfoDone n => WF.getInfoDone n
  | .settingsDone n => WF.settingsDone n
  | .activateDone n => WF.activateDone n
  | .modeDone n => WF.modeDone n
  | .timeEchoSend n => WF.timeEchoSend n
  | .timeEchoDone n => WF.timeEchoDone n
  | .cregRead session n => WF.cregRead session n
  | .cregWrite session n => WF.cregWrite session n
  | .regReadDone n => WF.regReadDone n
  | .regWriteDone n => WF.regWriteDone n
  | .frontEndLine n => WF.frontEndLine n
  | .camsetBusyTimeout n => WF.camsetBusyTimeout n
  | .channelDrainDone n => WF.channelDrainDone n
  | .sliceDrainDone n => WF.sliceDrainDone n
  | .positionEdge src code t => WF.positionEdge src code t
  | .encFailsafeDetect src => WF.encFailsafeDetect src
  | .posRearm session value => WF.posRearm session value
  | .indexPulse src t => WF.indexPulse src t
  | .emuScheduledEmit e => WF.emuScheduledEmit e
  | .emuPinEmit e => WF.emuPinEmit e
  | .decSyncEdge rising t => WF.decSyncEdge rising t
  | .posGridSet session value => WF.posGridSet session value
  | .stitchLine set => WF.stitchLine set
  | .overlapMeasure n => WF.overlapMeasure n
  | .compareLine set => WF.compareLine set
  | .heftBlockWrite set plane br bc => WF.heftBlockWrite set plane br bc
  | .heftBlockVerified set plane br bc ok => WF.heftBlockVerified set plane br bc ok
  | .hftLoadBegin session job => WF.hftLoadBegin session job
  | .hftLoadEnd session job => WF.hftLoadEnd session job
  | .hftLoadAbort session value => WF.hftLoadAbort session value
  | .labelLine set => WF.labelLine set
  | .edgeRx k => WF.edgeRx k
  | .linkRx k => WF.linkRx k
  | .watermarkRx k => WF.watermarkRx k
  | .aliasRx k => WF.aliasRx k
  | .fragRx k => WF.fragRx k
  | .componentTimeout tag => WF.componentTimeout tag
  | .snippetWrite handle => WF.snippetWrite handle
  | .rejectRepredict station => WF.rejectRepredict station
  | .rejectPulseStart out => WF.rejectPulseStart out
  | .rejectPulseEnd out => WF.rejectPulseEnd out
  | .calBuildDone n => WF.calBuildDone n
  | .chCalStart session n value => WF.chCalStart session n value
  | .chCalAbort session n value => WF.chCalAbort session n value
  | .chCalSeed session n value => WF.chCalSeed session n value
  | .stackTempRead t => WF.stackTempRead t
  | .memRetrainReq session value => WF.memRetrainReq session value
  | .refreshWindow r => WF.refreshWindow r
  | .dramTrainingDone ready repaired => WF.dramTrainingDone ready repaired
  | .flcJobStart session j => WF.flcJobStart session j
  | .flcJobResume session j => WF.flcJobResume session j
  | .flcJobBlockDone j => WF.flcJobBlockDone j
  | .crcStart session u => WF.crcStart session u
  | .crcEnd session u => WF.crcEnd session u
  | .crcFeed8 session u value => WF.crcFeed8 session u value
  | .crcFeed16 session u value => WF.crcFeed16 session u value
  | .crcFeed24 session u value => WF.crcFeed24 session u value
  | .crcFeed32 session u value => WF.crcFeed32 session u value
  | .crcContextWrite session u value => WF.crcContextWrite session u value
  | .queueDrainEnd q => WF.queueDrainEnd q
  | .ethItemTransmit q => WF.ethItemTransmit q
  | .ingressFragmentRx dst d => WF.ingressFragmentRx dst d
  | .queueCreditSend q => WF.queueCreditSend q
  | .dmaDoorbell session c value => WF.dmaDoorbell session c value
  | .dmaDescriptorFetch c desc data => WF.dmaDescriptorFetch c desc data
  | .dmaStaleReread c desc data => WF.dmaStaleReread c desc data
  | .dmaItemWaitExpire c => WF.dmaItemWaitExpire c
  | .dmaDescriptorComplete c good => WF.dmaDescriptorComplete c good
  | .dmaEnable session c => WF.dmaEnable session c
  | .dmaDisable session c => WF.dmaDisable session c
  | .dmaFinish session c => WF.dmaFinish session c
  | .dmaClearFault session c => WF.dmaClearFault session c
  | .bar2Read offset n good => WF.bar2Read offset n good
  | .bar2Write offset data => WF.bar2Write offset data
  | .bar2WindowWrite session value => WF.bar2WindowWrite session value
  | .msixVectorUnmask v => WF.msixVectorUnmask v
  | .truFwStage session value => WF.truFwStage session value
  | .truSvnLock session value => WF.truSvnLock session value
  | .truHoldSet session value => WF.truHoldSet session value
  | .truHoldRelease session value => WF.truHoldRelease session value
  | .bootImageCheck slot0 slot1 => WF.bootImageCheck slot0 slot1
  | .bootRetry slot0 slot1 => WF.bootRetry slot0 slot1
  | .timSet session value => WF.timSet session value
  | .timStep session value => WF.timStep session value
  | .syncRx port m t te => WF.syncRx port m t te
  | .followUpRx port m => WF.followUpRx port m
  | .delayReqRx port m t te => WF.delayReqRx port m t te
  | .delayRespRx port m => WF.delayRespRx port m
  | .pdelayReqRx port m t te => WF.pdelayReqRx port m t te
  | .pdelayRespRx port m t => WF.pdelayRespRx port m t
  | .pdelayRespFollowUpRx port m => WF.pdelayRespFollowUpRx port m
  | .announceRx port m => WF.announceRx port m
  | .delayReqSend te => WF.delayReqSend te
  | .pdelayReqSend port te => WF.pdelayReqSend port te
  | .syncSend te => WF.syncSend te
  | .ttPulseStart n => WF.ttPulseStart n
  | .ttPulseEnd n => WF.ttPulseEnd n
  | .timTtArm session n value => WF.timTtArm session n value
  | .tcInEdge n falling t => WF.tcInEdge n falling t
  | .tcFifoRead n => WF.tcFifoRead n
  | .taskInputEdge k => WF.taskInputEdge k
  | .taskConsume k => WF.taskConsume k
  | .evtTaskClear session k => WF.evtTaskClear session k
  | .cellClockEdge c => WF.cellClockEdge c
  | .joinRx k => WF.joinRx k
  | .joinAnswerRx k => WF.joinAnswerRx k
  | .timeSend t1 => WF.timeSend t1
  | .timeReqRx k t2 t3 => WF.timeReqRx k t2 t3
  | .timeAnswerRx k t4 => WF.timeAnswerRx k t4
  | .posReqRx k => WF.posReqRx k
  | .posAnswerRx k => WF.posAnswerRx k
  | .beaconRx k => WF.beaconRx k
  | .statusRx k => WF.statusRx k
  | .repeatRx k => WF.repeatRx k
  | .gridRx k => WF.gridRx k
  | .qitemRx k => WF.qitemRx k
  | .relayRx k => WF.relayRx k
  | .foldPacketForward k => WF.foldPacketForward k
  | .foldRequestRetry dt => WF.foldRequestRetry dt
  | .memberLost m => WF.memberLost m
  | .refMonitorWindow c0 c1 c2 => WF.refMonitorWindow c0 c1 c2
  | .clkReturn session value => WF.clkReturn session value
  | .pllLockLoss k => WF.pllLockLoss k
  | .clockSwitchDone which => WF.clockSwitchDone which
  | .clockSwitchForced which => WF.clockSwitchForced which
  | .dvfsVoltageReached mv => WF.dvfsVoltageReached mv
  | .vddCoreLow mv => WF.vddCoreLow mv
  | .vddCoreHigh mv => WF.vddCoreHigh mv
  | .supplyRailFault rail => WF.supplyRailFault rail
  | .pwrSleep session value => WF.pwrSleep session value
  | .dieTempRead t => WF.dieTempRead t
  | .pwrReset session value => WF.pwrReset session value
  | .leaseExpire kind holder => WF.leaseExpire kind holder
  | .fltClear session value => WF.fltClear session value
  | .twiTGo session value => WF.twiTGo session value
  | .twiTransactionStart lost => WF.twiTransactionStart lost
  | .twiTransactionEnd outcome done rise slow data => WF.twiTransactionEnd outcome done rise slow data
  | .twiArbRetry lost => WF.twiArbRetry lost
  | .twiStretchTimeout freed => WF.twiStretchTimeout freed
  | .twiRecoveryRetry freed => WF.twiRecoveryRetry freed
  | .twiTargetAddressed kind n => WF.twiTargetAddressed kind n
  | .twiFlagClear session value => WF.twiFlagClear session value
  | .signalDetectReturn l => WF.signalDetectReturn l
  | .prbsCheckerLock l bits => WF.prbsCheckerLock l bits
  | .signalingManagementRx port m => WF.signalingManagementRx port m
  | .arpNdReplyRx port addr mac => WF.arpNdReplyRx port addr mac
  | .foldSyncEdge rise => WF.foldSyncEdge rise
  | .twiStartStopObserved stop => WF.twiStartStopObserved stop
  | .supplyRailReturn rail => WF.supplyRailReturn rail
  | .devHandoverTimeout => true
  | .nvsAutoSave => true
  | .coastEnd => true
  | .speedStop => true
  | .markMissed => true
  | .heftLoadItem => true
  | .penClassify => true
  | .tallyBlockSigned => true
  | .subscriberResolve => true
  | .functionLevelReset => true
  | .pciePerstAssert => true
  | .journalEntryWrite => true
  | .journalBudgetRefill => true
  | .fwStageDone => true
  | .refWaitLimit => true
  | .secondRollover => true
  | .announceReceiptTimeout => true
  | .announceSend => true
  | .servoHoldover => true
  | .relayLineEdge => true
  | .joinSend => true
  | .beaconSend => true
  | .statusSend => true
  | .beaconTimeout => true
  | .foldFormTimeout => true
  | .foldTwiPoll => true
  | .dvfsPllLocked => true
  | .dvfsTimeout => true
  | .deepSleepWake => true
  | .thermalTrip => true
  | .powerOnReset => true
  | .systemResetPin => true
  | .watchdogConfirm => true
  | .watchdogExpire => true
  | .watchdogReset => true
  | .standbyWakeLimit => true
  | .twiBusIdle => true
  | .twiSleepMatch => true
  | .twiTargetIdle => true
  | .pciePerstRelease => true

end Sys2Proof
end

