-- ==== Sys2Proof/Machine/Dram.lean ====
section
/-!
DEFINITION. The in-package DRAM (R306 to R318): bytes in one canonical form, the paddocks, traffic counts, refresh and retraining.
-/
namespace Sys2Proof.Machine

/-- What a byte that nothing has written reads as (log entry 9). -/
def unwrittenByte : BitVec 8 := 0

/-- The byte at an address. -/
def Memory.read (m : List Host.Cell) (a : Nat) : BitVec 8 :=
  match m with
  | [] => unwrittenByte
  | (b, v) :: t => if b = a then v else Memory.read t a

/-- Memory without an address listed. -/
def Memory.drop (m : List Host.Cell) (a : Nat) : List Host.Cell := m.filter (fun c => c.1 ≠ a)

/-- Memory with an address listed, in rising order. -/
def Memory.ins (m : List Host.Cell) (a : Nat) (v : BitVec 8) : List Host.Cell :=
  match m with
  | [] => [(a, v)]
  | (b, w) :: t => if b = a then (a, v) :: t else if a < b then (a, v) :: (b, w) :: t else (b, w) :: Memory.ins t a v

/-- One byte written: the value that an unlisted address reads as is never listed. -/
def Memory.write (m : List Host.Cell) (a : Nat) (v : BitVec 8) : List Host.Cell :=
  if v = unwrittenByte then Memory.drop m a else Memory.ins m a v

/-- Bytes written from an address on. -/
def Memory.writes (m : List Host.Cell) (a : Nat) : Octets → List Host.Cell
  | [] => m
  | b :: bs => Memory.writes (Memory.write m a (BitVec.ofNat 8 b)) (a + 1) bs

/-- The addresses of a memory strictly rise. -/
def Memory.rising : List Host.Cell → Bool
  | [] => true
  | [_] => true
  | a :: b :: t => a.1 < b.1 && Memory.rising (b :: t)

/-- The canonical form: addresses strictly rising, no entry equal to what an unlisted address reads as. -/
def Memory.wf (m : List Host.Cell) : Bool := Memory.rising m && m.all (fun c => c.2 ≠ unwrittenByte)

/-- The paddock that holds an address (R307). -/
def Identity.paddockOf (id : Identity) (a : Nat) : Option Nat :=
  (List.range 5).find? (fun k => id.paddockBase k ≤ a && a < id.paddockBase k + id.paddockSize k)

/-- `n` bytes from address `a` lie in scratch (R338). -/
def Identity.inScratch (id : Identity) (a n : Nat) : Bool := id.scratchBase ≤ a && a + n ≤ id.scratchBase + id.scratchSize

/-- Where a byte of the stack lies (R308): pseudo-channel, bank, row, column (a granule of 64 bytes) and byte. -/
structure StackPlace where
  channel : Nat
  bank : Nat
  row : Nat
  column : Nat
  byte : Nat
deriving DecidableEq, Repr

/-- An address split by a map order (R308): 0 spread, 1 row-local, 2 hashed. -/
def stackPlace (order a : Nat) : StackPlace :=
  let bank := field a 18 15
  { channel := if order = 0 then field a 10 6 else field a 14 10
    bank := if order = 2 then bank ^^^ field a 22 19 else bank
    row := field a 34 19
    column := if order = 0 then field a 14 11 else field a 9 6
    byte := field a 5 0 }

/-- The place of a byte in the order of its paddock (R307, R308). -/
def Identity.placeOf (id : Identity) (a : Nat) : Option StackPlace := (id.paddockOf a).map (fun k => stackPlace (paddockOrder k) a)

namespace Device

/-- Bytes of the stack. -/
def dramPeek (d : Device) (a n : Nat) : Octets := (List.range n).map (fun i => (Memory.read d.dram (a + i)).toNat)

/-- Bytes counted as read (R333, R334). -/
def countRead (d : Device) (a n : Nat) : Device :=
  let d := d.add .MEM_RD_BYTES 0 n
  match d.ident.paddockOf a with
  | some k => d.add .MEM_PD_RD k n
  | none => d

/-- Bytes as software reads them (R338): those of the firmware image, the journal mirror and the queue pool, whose places in their regions the manual leaves to the device,
are free (log entry 9). -/
def dramSee (d : Device) (a n : Nat) : Octets × Device :=
  let (lo, hi) := (d.ident.paddockBase 4, d.ident.scratchBase)
  if a < hi && lo < a + n then
    ((d.dramPeek a n).zipIdx.map (fun e => if lo ≤ a + e.2 && a + e.2 < hi then Config.freeNat (d.freeCtr + e.2) % 256 else e.1), { d with freeCtr := d.freeCtr + n })
  else (d.dramPeek a n, d)

/-- Bytes of a queue's ring or of the mirror written, and read (R333, R334). -/
def poolWrite (d : Device) (n : Nat) : Device := (d.add .MEM_WR_BYTES 0 n).add .MEM_PD_WR 4 n

/-- Bytes of a queue's ring read. -/
def poolRead (d : Device) (n : Nat) : Device := (d.add .MEM_RD_BYTES 0 n).add .MEM_PD_RD 4 n

/-- Bytes written and counted (R333, R334). -/
def dramWrite (d : Device) (a : Nat) (bs : Octets) : Device :=
  let d := { d with dram := Memory.writes d.dram a bs }
  let d := d.add .MEM_WR_BYTES 0 bs.length
  match d.ident.paddockOf a with
  | some k => d.add .MEM_PD_WR k bs.length
  | none => d

/-- A range of the stack reads as never written. -/
def dramClear (d : Device) (a n : Nat) : Device := { d with dram := d.dram.filter (fun c => c.1 < a || a + n ≤ c.1) }

/-- The DRAM controller changed. -/
def modCtl (d : Device) (f : DramCtl → DramCtl) : Device := { d with ctl := f d.ctl }

/-- RETRAIN_REQUEST (R317): a retraining starts with the next window, the lanes that failed last time first; one requested while it runs is held. -/
def retrainRequest (d : Device) : Device :=
  match d.num .MEM_RETRAIN_STATE 0 with
  | 0 => retrainStart d
  | _ => d.set .MEM_RETRAIN_STATE 0 2
where
  /-- 128 pieces: byte lane b of pseudo-channel p is piece 4p + b. -/
  retrainStart (d : Device) : Device :=
    (d.set .MEM_RETRAIN_STATE 0 1).modCtl (fun c =>
      { c with pieces := c.failed ++ (List.range 128).filter (fun k => !c.failed.contains k), failed := [] })

/-- RETRAIN_PIECE (R317): the next piece inside a refresh window; a held retraining begins in the window after the last piece. -/
def retrainPiece (d : Device) (fails : Bool) : Device :=
  match d.ctl.pieces with
  | [] => d
  | k :: rest =>
    let d := (d.bumpIf fails .MEM_RETRAIN_FAIL 0).modCtl (fun c =>
      { c with pieces := rest, failed := if fails then c.failed ++ [k] else c.failed })
    if rest ≠ [] then d
    else
      let held := d.num .MEM_RETRAIN_STATE 0 = 2
      let d := (d.bump .MEM_RETRAINS_DONE 0).set .MEM_RETRAIN_STATE 0 0
      if held then d.retrainRequest else d

/-- Corrected errors and longest latencies are counted (R313, R318). -/
def stackReport (d : Device) (corrected : Nat) (latency : List Nat) : Device :=
  (latency.zipIdx).foldl (fun d e => (d.peak .MEM_LAT_MAX_NS 0 e.1).peak .MEM_RQ_LAT_MAX_NS e.2 e.1) (d.add .MEM_ECC_CORR 0 corrected)

/-- A stack reading for monitor 16 (R298, R315): the refresh interval from the next window on, and a request when the change exceeds 5 °C. -/
def stackReading (d : Device) (t : Nat) : Device :=
  let v := toSigned 16 t
  let d := (d.setI .CAL_STACK_TEMP 0 v).modCtl (fun c => { c with interval := if 1360 < v then 1950 else 3900 })
  if 80 < (v - d.int .CAL_STACK_REF 0).natAbs then ((d.setI .CAL_STACK_REF 0 v).bump .CAL_RETRAINS 0).retrainRequest else d

end Device

/-- REFRESH_WINDOW (R315, R317): an all-bank window opens; the interval in force follows the last reading, and one piece of a retraining is done in
the window. In DEEP_SLEEP and without REFCLK_SYS the stack refreshes itself and no window opens (R437, R444). The stall of 350 ns is timing, which the
model leaves out (log entry 7). `corrected` counts the errors that the stack has corrected since the window before, and `latency` is each requester's longest latency since
then, ns (R309, R313, R318). -/
def execRefreshWindow (r : RefreshReport) (s : State) : Host.Outcome State Fault Refusal :=
  run (WF.refreshWindow r) s fun d =>
    if d.num .PWR_STATE 0 = 2 || !(d.refs.getD 0 {}).inUse then d
    else (((d.bump .MEM_REFRESHES 0).set .MEM_REFRESH_NS 0 d.ctl.interval).retrainPiece r.pieceFails).stackReport r.corrected r.latency

end Sys2Proof.Machine
end

