-- ==== Sys2Proof/Machine/Ecdsa.lean ====
section
/-!
DEFINITION. ECDSA on NIST P-256 with SHA-256 as R370 and R371 use it: verification of a firmware header's signature, and the
signing unit's deterministic signature with the nonce of RFC 6979. The private key itself is a free constant of `Config`.
-/
namespace Sys2Proof.Machine.Ecdsa

/-- The field prime of P-256. -/
def p : Nat := 0xffffffff00000001000000000000000000000000ffffffffffffffffffffffff
/-- The group order of P-256. -/
def n : Nat := 0xffffffff00000000ffffffffffffffffbce6faada7179e84f3b9cac2fc632551
/-- The curve coefficient `b`; `a` is −3. -/
def b : Nat := 0x5ac635d8aa3a93e7b3ebbd55769886bc651d06b0cc53b0f63bce3c3e27d2604b
/-- The base point. -/
def gx : Nat := 0x6b17d1f2e12c4247f8bce6e563a440f277037d812deb33a0f4a13945d898c296
/-- The base point. -/
def gy : Nat := 0x4fe342e2fe1a7f9b8ee7eb4a7c0f9e162bce33576b315ececbb6406837bf51f5

/-- `x ^ e mod m` over the `k` low bits of `e`. -/
def powMod (m : Nat) : Nat → Nat → Nat → Nat → Nat
  | 0, _, _, acc => acc
  | k + 1, x, e, acc => powMod m k (x * x % m) (e / 2) (if e % 2 = 1 then acc * x % m else acc)

/-- The inverse modulo a prime below 2^256. -/
def inv (m x : Nat) : Nat := powMod m 256 (x % m) (m - 2) 1

/-- A point in Jacobian coordinates; `z = 0` is the point at infinity. -/
structure Point where
  x : Nat
  y : Nat
  z : Nat
deriving DecidableEq, Repr

/-- Subtraction modulo the field prime. -/
def sub (u v : Nat) : Nat := (u + (p - v % p)) % p

/-- Doubling (a = −3). -/
def double (q : Point) : Point :=
  if q.z = 0 ∨ q.y = 0 then ⟨1, 1, 0⟩ else
  let zz := q.z * q.z % p
  let yy := q.y * q.y % p
  let s := 4 * q.x * yy % p
  let m := 3 * sub q.x zz * (q.x + zz) % p
  let x := sub (m * m) (2 * s)
  ⟨x, sub (m * sub s x) (8 * yy * yy), 2 * q.y * q.z % p⟩

/-- Addition. -/
def add (q r : Point) : Point :=
  if q.z = 0 then r else if r.z = 0 then q else
  let z1 := q.z * q.z % p
  let z2 := r.z * r.z % p
  let u1 := q.x * z2 % p
  let u2 := r.x * z1 % p
  let s1 := q.y * z2 * r.z % p
  let s2 := r.y * z1 * q.z % p
  if u1 = u2 then (if s1 = s2 then double q else ⟨1, 1, 0⟩) else
  let h := sub u2 u1
  let hh := h * h % p
  let hhh := hh * h % p
  let v := u1 * hh % p
  let w := sub s2 s1
  let x := sub (w * w) (hhh + 2 * v)
  ⟨x, sub (w * sub v x) (s1 * hhh), q.z * r.z * h % p⟩

/-- `k` times a point, over the low `i` bits of `k`, most significant first. -/
def mulBits (q : Point) (k : Nat) : Nat → Point → Point
  | 0, acc => acc
  | i + 1, acc =>
    let d := double acc
    mulBits q k i (if bit k i then add d q else d)

/-- Scalar multiplication. -/
def mul (k : Nat) (q : Point) : Point := mulBits q k 256 ⟨1, 1, 0⟩

/-- Affine coordinates. -/
def affine (q : Point) : Nat × Nat :=
  let zi := inv p q.z
  let z2 := zi * zi % p
  (q.x * z2 % p, q.y * z2 * zi % p)

/-- The affine point lies on the curve. -/
def onCurve (x y : Nat) : Bool := x < p && y < p && y * y % p == (x * x * x + (p - 3) * x + b) % p

/-- The base point in Jacobian coordinates. -/
def g : Point := ⟨gx, gy, 1⟩

/-- FIPS 186-5 verification of the signature `r ‖ s` over the message under the key `x ‖ y`, all most significant octet first. -/
def verify (key msg sig : Octets) : Bool :=
  let x := beAt key 0 32
  let y := beAt key 32 32
  let r := beAt sig 0 32
  let s := beAt sig 32 32
  onCurve x y && 0 < r && r < n && 0 < s && s < n &&
    (let e := ofBE (sha256 msg)
     let w := inv n s
     let q := add (mul (e * w % n) g) (mul (r * w % n) ⟨x, y, 1⟩)
     q.z != 0 && (affine q).1 % n == r)

/-- HMAC with SHA-256 under a 32-octet key. -/
def hmac (key msg : Octets) : Octets :=
  let k := key ++ List.replicate (64 - key.length) 0
  sha256 (k.map (· ^^^ 0x5c) ++ sha256 (k.map (· ^^^ 0x36) ++ msg))

/-- The nonce loop of RFC 6979 step h: candidates until one lies in `[1, n − 1]`. The bound on the number of candidates is
never reached by more than a chance of 2^−32 each. -/
def nonceLoop : Nat → Octets → Octets → Nat
  | 0, _, _ => 1
  | f + 1, k, v =>
    let v := hmac k v
    let c := ofBE v
    if 0 < c ∧ c < n then c
    else
      let k := hmac k (v ++ [0])
      nonceLoop f k (hmac k v)

/-- The deterministic nonce of RFC 6979 for private key `d` and digest `h`. -/
def nonce (d : Nat) (h : Octets) : Nat :=
  let x := be 32 d
  let z := be 32 (ofBE h % n)
  let v0 := List.replicate 32 1
  let k1 := hmac (List.replicate 32 0) (v0 ++ [0] ++ x ++ z)
  let v1 := hmac k1 v0
  let k2 := hmac k1 (v1 ++ [1] ++ x ++ z)
  nonceLoop 16 k2 (hmac k2 v1)

/-- The signature `r ‖ s` of a message under private key `d`. -/
def signWith (d : Nat) (msg : Octets) : Octets :=
  let h := sha256 msg
  let k := nonce d h
  let r := (affine (mul k g)).1 % n
  let s := inv n k * (ofBE h + r * d) % n
  be 32 r ++ be 32 s

/-- The uncompressed SEC 1 point of private key `d`, 65 octets. -/
def publicKey (d : Nat) : Octets :=
  let (x, y) := affine (mul d g)
  4 :: (be 32 x ++ be 32 y)

end Sys2Proof.Machine.Ecdsa
end

