-- ==== Sys2Proof/Machine/Journal.lean ====
section
/-!
DEFINITION. The change journal (R373 to R378): the 128 bytes of an entry, its hash, making an entry, the room an external access
needs, writing entries to MRAM, and the scan at boot.
-/
namespace Sys2Proof.Machine

/-- The 128 bytes of an entry (R373). -/
def JEntry.bytes (e : JEntry) : Octets :=
  le 4 e.jseq ++ le 4 e.boot ++ [e.ty % 256, e.flags % 256] ++ le 2 e.session ++ le 6 e.sec ++ le 4 e.ns ++ le 2 e.index
    ++ [e.sub % 256, e.vtype % 256] ++ le 2 e.vlen ++ le 4 e.gen ++ slice e.value 0 32 ++ slice e.peer 0 16 ++ le 2 e.port
    ++ List.replicate 14 0 ++ slice e.prev 0 32

/-- H of an entry: the SHA-256 of its 128 bytes (R373). -/
def JEntry.hash (e : JEntry) : Octets := sha256 e.bytes

/-- Entries the MRAM ring holds (R376). -/
def ringEntries : Nat := 48640

/-- Entries the mirror holds (R378). -/
def Identity.mirrorEntries (id : Identity) : Nat := if id.part = .vlx1208c then 262144 else 524288

/-- An address as PEER carries it: IPv6, or IPv4 as ::ffff:a.b.c.d (R373). -/
def peerField (a : Octets) : Octets :=
  if a.length = 4 then List.replicate 10 0 ++ [0xFF, 0xFF] ++ a else slice a 0 16

namespace Device

/-- An entry is made (R373, R375): it takes the next JSEQ, the time of the event, and PREV; a value longer than 32 bytes is carried
as its SHA-256 with HASHED set. -/
def journal (d : Device) (ty flags session index sub vtype gen : Nat) (value peer : Octets) (port : Nat) : Device :=
  let long := 32 < value.length
  let e : JEntry :=
    { jseq := (d.jrn.head + 1) % 2 ^ 32
      boot := d.ctr.boot
      ty := ty
      flags := if long then flags ||| 2 else flags
      session := session
      sec := d.clk.sec
      ns := d.clk.ns
      index := index
      sub := sub
      vtype := vtype
      vlen := value.length % 65536
      gen := gen % 2 ^ 32
      value := if long then sha256 value else slice value 0 32
      peer := peer
      port := port
      prev := d.jrn.headHash }
  { d with jrn := { d.jrn with buf := d.jrn.buf ++ [e], head := e.jseq, headHash := e.hash } }

/-- A device entry (SESSION 0xFFFF) about an object. -/
def journalDevice (d : Device) (ty : Nat) (k : Key) (vtype gen : Nat) (value : Octets) : Device :=
  d.journal ty 0 0xFFFF k.index k.sub vtype gen value (List.replicate 16 0) 0

/-- A device entry finds a slot (R375): external entries leave 128 of the 512 to device entries. -/
def deviceRoom (d : Device) (n : Nat) : Bool := d.jrn.buf.length + n ≤ 512

/-- An external write or commit finds room (R375): the buffer holds fewer than 384 entries and the budget is not empty. -/
def externalRoom (d : Device) : Bool := d.jrn.buf.length < 384 && 0 < d.jrn.budget

/-- The PEER and PEER_PORT of a session's entries: zero for session 0 (R373). -/
def sessionPeer (d : Device) (n : Nat) : Octets × Nat :=
  match d.sess.find? (fun s => s.n = n) with
  | some s => (peerField s.peer, s.port)
  | none => (List.replicate 16 0, 0)

/-- The entry of an applied external write or commit, drawing on the budget (R374, R375). -/
def journalExternal (d : Device) (ty flags session : Nat) (k : Key) (gen : Nat) (value : Octets) : Device :=
  let (p, port) := d.sessionPeer session
  let d := { d with jrn := { d.jrn with budget := d.jrn.budget - 1 } }
  d.journal ty flags session k.index k.sub k.reg.row.ty.code gen value p port

/-- The journal unit writes the next buffered entry to MRAM and the mirror (R375, R376, R378); the oldest entry goes when both
have overwritten it. -/
def journalWrite (d : Device) : Device :=
  match d.jrn.buf with
  | [] => d
  | e :: rest =>
    let kept := d.jrn.kept ++ [e]
    let kept := kept.drop (kept.length - d.ident.mirrorEntries)
    let d := { d with jrn := { d.jrn with buf := rest, kept := kept } }
    if d.num .MEM_STATE 0 = 2 then d.poolWrite e.bytes.length else d

/-- JSEQ of the newest durable entry. -/
def journalDurable (d : Device) : Nat :=
  match d.jrn.kept.getLast? with
  | some e => e.jseq
  | none => 0

/-- JSEQ of the oldest entry retained in the mirror or MRAM. -/
def journalOldest (d : Device) : Nat :=
  match (d.jrn.kept ++ d.jrn.buf).head? with
  | some e => e.jseq
  | none => 0

/-- TRU_JRN_DATA (R378): up to 512 entries from a JSEQ on; empty when it is older than the oldest or newer than the head. An entry of the buffer is copied to the mirror
too. -/
def journalData (d : Device) : Octets :=
  let sel := d.num .TRU_JRN_SEL 0
  (((d.jrn.kept ++ d.jrn.buf).dropWhile (fun e => e.jseq ≠ sel)).take 512).flatMap JEntry.bytes

end Device

/-- The entries of a ring reached by following PREV links unbroken from the oldest (R377). -/
def linked : List JEntry → List JEntry
  | [] => []
  | [e] => [e]
  | e :: f :: t => if f.prev = e.hash ∧ f.jseq = (e.jseq + 1) % 2 ^ 32 then e :: linked (f :: t) else [e]

/-- The journal unit at bring-up step 3 (R377, R378): the ring is scanned from its oldest slot; undurable entries are lost; the mirror
is filled from the ring. -/
def Journal.scan (j : Journal) : Journal :=
  let ring := linked (j.kept.drop (j.kept.length - ringEntries))
  match ring.getLast? with
  | some e => { buf := [], kept := ring, budget := 4096, head := e.jseq, headHash := e.hash }
  | none => {}

/-- JOURNAL_ENTRY_WRITE (R375): one entry every 250 ns. -/
def execJournalEntryWrite (s : State) : Host.Outcome State Fault Refusal := run true s Device.journalWrite

/-- JOURNAL_BUDGET_REFILL (R375): the budget of 4,096 external entries refills at one entry per millisecond. -/
def execJournalBudgetRefill (s : State) : Host.Outcome State Fault Refusal :=
  run true s fun d => { d with jrn := { d.jrn with budget := Nat.min 4096 (d.jrn.budget + 1) } }

end Sys2Proof.Machine
end

