-- ==== Sys2Proof/Machine/Queue.lean ====
section
/-!
DEFINITION. The hardware queues: items, placement by policy, removal, thresholds, pages and draining (R339 to R344).
-/
namespace Sys2Proof.Machine

/-- Bytes padded to a multiple of 16. -/
def pad16 (n : Nat) : Nat := (n + 15) / 16 * 16

/-- Bytes an item takes in a ring: its 16-byte header and its padded payload (R340). -/
def Item.size (i : Item) : Nat := 16 + pad16 i.payload.length

/-- An item as it is copied or sent: header, payload and padding (R340). -/
def Item.wire (q : Nat) (i : Item) : Octets :=
  le 4 i.payload.length ++ [i.kind % 256, i.flags % 256] ++ le 2 q ++ le 4 i.iseq ++ le 4 i.drops ++ i.payload
    ++ List.replicate (pad16 i.payload.length - i.payload.length) 0

/-- Bytes in a ring: QUE_FILL (R343). -/
def Ring.fill (r : Ring) : Nat := r.items.foldl (fun a i => a + i.size) 0

/-- Bytes a ring has pages for (R341). -/
def Ring.capacity (r : Ring) : Nat := r.pages * 65536

/-- Pages of the queue pool (R341). -/
def Identity.poolPages (id : Identity) : Nat := if id.part = .vlx1208c then 12288 else 24576

/-- The bytes that a queue named in RDL_DEST keeps for signed blocks (R342). -/
def blockReserve : Nat := 5504

namespace Device

/-- The ring of a queue. -/
def ring (d : Device) (q : Nat) : Ring := (getKeyed Ring.q q d.rings).getD { q := q }

/-- A queue's ring takes a new value. -/
def setRing (d : Device) (r : Ring) : Device := { d with rings := putKeyed Ring.q r d.rings }

/-- A queue's ring changed by a function. -/
def modRing (d : Device) (q : Nat) (f : Ring → Ring) : Device := d.setRing (f (d.ring q))

/-- A queue named in RDL_DEST of the live set (R342). -/
def isRecordDest (d : Device) (q : Nat) : Bool := (List.range 8).any (fun k => d.num .RDL_DEST k = q)

/-- An item was dropped from a queue: QUE_DROPS counts, and the next item placed carries GAP. -/
def countDrop (d : Device) (q : Nat) : Device := (d.bump .QUE_DROPS q).modRing q (fun r => { r with gap := true })

/-- QUE_LO (R343): a removal brings the fill below the low threshold, after a QUE_HI. -/
def lowThreshold (d : Device) (q : Nat) : Device :=
  let lo := d.num .QUE_THRESH_LO q
  let r := d.ring q
  if lo != 0 && r.hi && r.fill < lo then
    ((d.setRing { r with hi := false }).pulseQueue q true).msix (d.num .QUE_MSIX q)
  else d

/-- QUE_HI (R343): a placement brought the fill from `before` to or above the high threshold. -/
def highThreshold (d : Device) (q before : Nat) : Device :=
  let hi := d.num .QUE_THRESH_HI q
  let r := d.ring q
  if hi != 0 && before < hi && hi ≤ r.fill then
    ((d.setRing { r with hi := true }).pulseQueue q false).msix (d.num .QUE_MSIX q)
  else d

/-- The oldest item leaves the ring (taken by the consumer). -/
def takeItem (d : Device) (q : Nat) : Device :=
  let r := d.ring q
  ((d.setRing { r with items := r.items.drop 1 }).poolRead ((r.items.head?.map Item.size).getD 0)).lowThreshold q

/-- DROP_OLD (R342): the oldest items not yet taken are discarded until `need` bytes are free; at most `n` of them. -/
def dropOld (d : Device) (q need : Nat) : Nat → Device
  | 0 => d
  | n + 1 =>
    let r := d.ring q
    if need + r.fill ≤ r.capacity ∨ r.items = [] then d
    else dropOld ((d.setRing { r with items := r.items.drop 1 }).countDrop q) q need n

/-- An egress item is offered to a queue (R342): placed when the ring has room, leaving the reserve of a RDL_DEST queue to signed
blocks; otherwise dropped by the queue's policy. Every item placed or dropped advances ISEQ (R340). Says whether it was placed. -/
def offerRing (d : Device) (q kind : Nat) (payload : Octets) : Device × Bool :=
  let st := d.num .QUE_STATE q
  if st = 0 then (d, false) else
  let signed := kind = 2
  let size := 16 + pad16 payload.length
  let d := if st = 1 && d.num .QUE_POLICY q = 1 then (d.dropOld q size (d.ring q).items.length).lowThreshold q else d
  let r := d.ring q
  let before := r.fill
  let keep := if d.num .QUE_POLICY q = 0 && d.isRecordDest q && !signed then blockReserve else 0
  let fits := st = 1 && before + size + keep ≤ r.capacity
  let iseq := d.num .QUE_ISEQ q
  let d := d.bump .QUE_ISEQ q
  if fits then
    let it : Item :=
      { kind := kind, flags := b2n r.gap, iseq := iseq, drops := d.num .QUE_DROPS q, payload := payload }
    (((d.poolWrite size).setRing { r with items := r.items ++ [it], gap := false }).highThreshold q before, true)
  else
    ((d.countDrop q).bumpIf signed .QUE_BLOCK_DROPS q, false)

end Device
end Sys2Proof.Machine
end

