-- ==== Sys2Proof/Machine/Drover.lean ====
section
/-!
DEFINITION. The drovers (R350 to R357): descriptors, transfers of bytes and of whole items, completion records, and the commands of a
channel; and the placement of an item in a queue, from which a waiting drover copies at once.
-/
namespace Sys2Proof.Machine

/-- The bytes of a transfer rearranged in groups (R354). -/
def swapBytes (mode : Nat) (b : Octets) : Octets :=
  match mode, b with
  | 1, b0 :: b1 :: t => b1 :: b0 :: swapBytes 1 t
  | 2, b0 :: b1 :: b2 :: b3 :: t => b3 :: b2 :: b1 :: b0 :: swapBytes 2 t
  | 3, b0 :: b1 :: b2 :: b3 :: t => b2 :: b3 :: b0 :: b1 :: swapBytes 3 t
  | _, b => b

/-- Bytes of a group (R354). -/
def swapGroup (mode : Nat) : Nat := match mode with | 0 => 1 | 1 => 2 | _ => 4

/-- A descriptor from its 32 bytes (R351). -/
def Descriptor.ofBytes (b : Octets) (data : Octets) : Descriptor :=
  { src := leAt b 0 8, dst := leAt b 8 8, length := leAt b 16 4, ctl := leAt b 20 2, obj := leAt b 22 2, tag := leAt b 24 4, data := data }

/-- Source space: 0 DRAM, 1 host, 2 queue. -/
def Descriptor.from (x : Descriptor) : Nat := field x.ctl 8 7
/-- Destination space: 0 DRAM, 1 host, 2 queue, 3 check-value unit. -/
def Descriptor.into (x : Descriptor) : Nat := field x.ctl 6 5
/-- SWAP. -/
def Descriptor.swap (x : Descriptor) : Nat := field x.ctl 12 11
/-- A queue is its source or its destination. -/
def Descriptor.queued (x : Descriptor) : Bool := x.from == 2 || x.into == 2

namespace Device

/-- A drover channel. -/
def drover (d : Device) (c : Nat) : Drover := (getKeyed Drover.c c d.drovers).getD { c := c }

/-- A drover channel takes a state. -/
def setDrover (d : Device) (x : Drover) : Device := { d with drovers := putKeyed Drover.c x d.drovers }

/-- A drover channel changed. -/
def modDrover (d : Device) (c : Nat) (f : Drover → Drover) : Device := d.setDrover { f (d.drover c) with c := c }

/-- Bytes of the stack as a reader gets them; where there is no stack, free. -/
def stackRead (d : Device) (a n : Nat) : Octets × Device :=
  let here := Nat.min n (d.ident.dramSize - a)
  let (b, d) := d.dramSee a here
  (b ++ (List.range (n - here)).map (fun i => Config.freeNat (d.freeCtr + i) % 256),
    { (d.countRead a here) with freeCtr := d.freeCtr + (n - here) })

/-- Bytes written where a ring or a destination lies: 1 host memory, where `data` may carry Relaxed Ordering (R360); else DRAM, where only scratch takes them (R338). -/
def spaceWrite (d : Device) (space a : Nat) (b : Octets) (data : Bool) : Device :=
  if space = 1 then d.emit (.host a b (data && d.on .PCI_RELAXED 0 && d.pcie.relaxed))
  else if d.ident.inScratch a b.length then d.dramWrite a b else d

/-- IRQ_HALF (R351, R355): once, when half of LENGTH has been written. -/
def halfWay (d : Device) (c : Nat) : Device :=
  match (d.drover c).cur with
  | some x =>
    if bit x.ctl 14 && !x.halfSent && x.length ≤ 2 * x.bytes then
      (d.modDrover c (fun y => { y with cur := some { x with halfSent := true } })).msix (d.num .DMA_MSIX c)
    else d
  | none => d

/-- The direction of a queue in force. -/
def queueDir (d : Device) (q : Nat) : Nat := if d.num .QUE_STATE q = 0 then d.num .QUE_DIR q else (d.ring q).dir
/-- The peer of a queue in force. -/
def queuePeer (d : Device) (q : Nat) : Nat := if d.num .QUE_STATE q = 0 then d.num .QUE_PEER q else (d.ring q).peer

/-- The next item of a queue source fits in what is left of LENGTH, and its bytes can leave: a host destination needs the link (R352). -/
def canCopy (d : Device) (x : Descriptor) : Bool :=
  match (d.ring x.obj).items with
  | it :: _ => x.bytes + it.size ≤ x.length && (x.into != 1 || d.num .PCI_LINK_SPEED 0 != 0)
  | [] => false

/-- Whole items are copied, and each leaves the ring once its bytes are written (R352); at most `n` of them. -/
def copyItems (d : Device) (c : Nat) : Nat → Device
  | 0 => d
  | n + 1 =>
    match (d.drover c).cur, (d.drover c).cur.bind (fun x => (d.ring x.obj).items.head?) with
    | some x, some it =>
      if x.from = 2 && d.canCopy x then
        let w := it.wire x.obj
        let d := (if x.into = 3 then d.crcFeed x.obj w else d.spaceWrite x.into (x.dst + x.bytes) w true).add .DMA_BYTES c w.length
        let d := d.modDrover c (fun y => { y with cur := some { x with bytes := x.bytes + w.length, items := x.items + 1 } })
        copyItems ((d.takeItem x.obj).halfWay c) c n
      else d
    | _, _ => d

/-- The channel that holds a queue copies what it can. -/
def feedDrover (d : Device) (q : Nat) : Device :=
  match (d.ring q).holder with
  | some c => d.copyItems c (d.ring q).items.length
  | none => d

/-- An egress item is offered to a queue (R342), and a waiting drover copies it at once (R352). Says whether it was placed. -/
def offerItem (d : Device) (q kind : Nat) (payload : Octets) : Device × Bool :=
  let (d, ok) := d.offerRing q kind payload
  (if ok then d.feedDrover q else d, ok)

/-- An egress item is placed or dropped. -/
def placeItem (d : Device) (q kind : Nat) (payload : Octets) : Device := (d.offerItem q kind payload).1

/-- An ingress item arrives whole (R339, R340): the load queue places it; any other, and one that drains or is OFF, discards it into QUE_DROPS. None where
the load queue has no room, and the producer waits (K6). -/
def arriveItem (d : Device) (q kind flags : Nat) (payload : Octets) : Option Device :=
  let iseq := d.num .QUE_ISEQ q
  let r := d.ring q
  let it : Item := { kind := kind, flags := flags, iseq := iseq, drops := d.num .QUE_DROPS q, payload := payload }
  if d.num .QUE_STATE q = 1 && d.num .HFT_LOAD_QUEUE 0 = q then
    if r.fill + it.size ≤ r.capacity then
      some ((((d.bump .QUE_ISEQ q).poolWrite it.size).setRing { r with items := r.items ++ [it] }).highThreshold q r.fill)
    else none
  else some ((d.bump .QUE_ISEQ q).countDrop q)

/-! ## Descriptors -/

/-- Index after `i` in a channel's rings. -/
def nextIndex (d : Device) (c i : Nat) : Nat := if d.num .DMA_RING_ENTRIES c ≤ i + 1 then 0 else i + 1

/-- The head moves past its descriptor; the expected phase inverts when it wraps to 0 (R350). -/
def advanceHead (d : Device) (c : Nat) : Device :=
  let h := d.nextIndex c (d.num .DMA_HEAD c)
  (d.set .DMA_HEAD c h).modDrover c (fun y => { y with phase := if h = 0 then !y.phase else y.phase, stale := 0 })

/-- The channel gives up the queue it holds. -/
def releaseQueues (d : Device) (c : Nat) : Device :=
  { d with rings := d.rings.map (fun r => if r.holder = some c then { r with holder := none } else r) }

/-- RUNNING while descriptors remain up to the tail, else IDLE. -/
def droverState (d : Device) (c : Nat) : Device :=
  d.set .DMA_STATE c (if (d.drover c).tail = d.num .DMA_HEAD c then 1 else 2)

/-- The 16 bytes of a completion record (R355). -/
def completionRecord (x : Descriptor) (status head : Nat) : Octets :=
  le 4 x.tag ++ le 4 x.bytes ++ [status, b2n (bit x.ctl 15)] ++ le 2 head ++ le 4 x.items

/-- A descriptor completes with a status (R355): the head moves on, the record is written at its index after its data, and IRQ_FULL follows. -/
def completeDesc (d : Device) (c : Nat) (x : Descriptor) (status : Nat) : Device :=
  let at_ := d.num .DMA_HEAD c
  let d := ((d.releaseQueues c).modDrover c (fun y => { y with cur := none })).advanceHead c
  let d := d.bump .DMA_DESCS c
  let d := d.spaceWrite (d.num .DMA_RING_SPACE c) (d.num .DMA_CPL_BASE c + 16 * at_) (completionRecord x status (d.num .DMA_HEAD c)) false
  let d := d.droverState c
  if bit x.ctl 13 then d.msix (d.num .DMA_MSIX c) else d

/-- The channel enters FAULT (R350, R355, R357); `skip` where clearing it must still move the head. -/
def droverFault (d : Device) (c code : Nat) (skip : Bool) : Device :=
  ((d.set .DMA_STATE c 4).set .DMA_FAULT c code).modDrover c (fun y => { y with cur := none, skip := skip, stale := 0 })

/-- The faults that complete a descriptor as BAD_DESC (R351, R354). -/
def badDesc (d : Device) (b : Octets) (x : Descriptor) : Bool :=
  x.ctl % 32 != 0 || leAt b 28 4 != 0 || x.from == 3
    || ((x.queued || x.into == 3) && x.swap != 0)
    || (x.from == 2 && x.into == 2)
    || (x.queued && 4096 ≤ x.obj) || (x.into == 3 && 8 ≤ x.obj)
    || (x.from == 2 && !(d.queueDir x.obj == 0 && d.queuePeer x.obj == 0))
    || (x.into == 2 && !(d.queueDir x.obj == 1 && d.queuePeer x.obj == 0))
    || (x.into == 0 && !d.ident.inScratch x.dst x.length)
    || x.length == 0 || 2 ^ 31 < x.length
    || x.length % swapGroup x.swap != 0

/-- The descriptor at the head starts, or completes at once with BAD_DESC or BUSY (R351, R352). -/
def startDesc (d : Device) (c : Nat) (b data : Octets) : Device :=
  let x := Descriptor.ofBytes b data
  if d.badDesc b x then d.completeDesc c x 3
  else if x.queued then
    match (d.ring x.obj).holder with
    | some _ => d.completeDesc c x 4
    | none =>
      let d := (d.modDrover c (fun y => { y with cur := some x, stale := 0 })).modRing x.obj (fun r => { r with holder := some c })
      d.feedDrover x.obj
  else d.modDrover c (fun y => { y with cur := some x, stale := 0 })

/-- One read of the descriptor at the head (R350): `desc` is what host memory returns where the ring lies there, none where the completion has an
error status; `data` is what host memory holds at its source. -/
def readDesc (d : Device) (c : Nat) (desc data : Octets) (again : Bool) : Device :=
  let a := d.num .DMA_RING_BASE c + 32 * d.num .DMA_HEAD c
  let host := d.num .DMA_RING_SPACE c = 1
  let (b, d) := if host then (desc, d) else d.stackRead a 32
  let d := d.bumpIf again .PCI_STALE_REREADS 0
  if b.length != 32 then (d.bump .PCI_CPL_ERR 0).droverFault c 2 true
  else if bit (leAt b 20 2) 15 = (d.drover c).phase then d.startDesc c b data
  else if (d.drover c).stale = 8 then (d.droverFault c 1 true).msix (d.num .DMA_MSIX c)
  else d.modDrover c (fun y => { y with stale := y.stale + 1 })

/-- The first `n` bytes of a transfer are written, rearranged (R352 to R354). -/
def moveBytes (d : Device) (c : Nat) (x : Descriptor) (n : Nat) : Device :=
  let (src, d) := if x.from = 1 then (slice x.data 0 n, d) else d.stackRead x.src n
  let b := swapBytes x.swap src
  let d := if x.into = 3 then d.crcFeed x.obj b else d.spaceWrite x.into x.dst b true
  ((d.add .DMA_BYTES c n).modDrover c (fun y => { y with cur := some { x with bytes := n } })).halfWay c

/-- Items from the source bytes `b` that follow those already placed are placed while they fit (R352); at most `n`. Answers whether a header runs past the
descriptor's end, and whether all of `b` has been placed. -/
def placeBytes (d : Device) (c end_ : Nat) (b : Octets) : Nat → Device × Bool × Bool
  | 0 => (d, false, true)
  | n + 1 =>
    match (d.drover c).cur with
    | none => (d, false, false)
    | some x =>
      let r := b.drop x.bytes
      let len := leAt r 0 4
      let size := 16 + pad16 len
      if x.bytes = end_ then (d, false, true)
      else if end_ < x.bytes + 16 ∨ end_ < x.bytes + size then (d, true, false)
      else if r.length < size then (d, false, true)
      else
        match d.arriveItem x.obj (octet r 4) (octet r 5) (slice r 16 len) with
        | none => (d, false, false)
        | some d =>
          let d := d.add .DMA_BYTES c size
          let d := d.modDrover c (fun y => { y with cur := some { x with bytes := x.bytes + size, items := x.items + 1 } })
          placeBytes (d.halfWay c) c end_ b n

/-- What ends a byte transfer: the bytes that can be delivered, and the status. -/
def sourceEnd (x : Descriptor) (good : Nat) : Nat × Nat :=
  if x.from = 1 then (if x.data.length < x.length then (x.data.length, 6) else (x.length, 0))
  else if good < x.length then (good, 5) else (x.length, 0)

/-- A descriptor that ended with `status`: counts of what a source delivered badly, the record, and FAULT after HOST_ERR (R318, R355). -/
def finishDesc (d : Device) (c status : Nat) : Device :=
  match (d.drover c).cur with
  | none => d
  | some x =>
    let d := d.bumpIf (status = 5) .MEM_ECC_UNCORR 0
    let d := d.bumpIf (status = 6) .PCI_CPL_ERR 0
    let d := d.completeDesc c x status
    if status = 6 then d.droverFault c 2 false else d

/-- A descriptor whose own rule ends it (R352, R355): `good` bytes of a DRAM source come before a poisoned granule. -/
def droverComplete (d : Device) (c good : Nat) : Device :=
  match (d.drover c).cur with
  | none => d
  | some x =>
    if x.from = 2 then
      match (d.ring x.obj).items with
      | [] => if x.bytes = x.length then d.finishDesc c 0 else d
      | it :: _ =>
        if x.bytes + it.size ≤ x.length then d
        else d.finishDesc c (if x.items = 0 then 2 else 0)
    else
      let (n, status) := sourceEnd x good
      if x.into = 2 then
        let (src, d) := if x.from = 1 then (slice x.data 0 n, d) else d.stackRead x.src n
        let (d, bad, all) := d.placeBytes c x.length src (x.length / 16 + 1)
        if bad then d.finishDesc c 3 else if all then d.finishDesc c status else d
      else (d.moveBytes c x n).finishDesc c status

/-! ## Commands of a channel -/

/-- DMA_DOORBELL (R350): a doorbell that does not move the tail forward has no effect; the tail of a channel that is OFF is
set by its enable, and one in FAULT executes nothing until it is cleared. -/
def doorbell (d : Device) (c v : Nat) : Device :=
  let n := Nat.max 1 (d.num .DMA_RING_ENTRIES c)
  let h := d.num .DMA_HEAD c
  let old := ((d.drover c).tail + n - h) % n
  let new := (v % n + n - h) % n
  let st := d.num .DMA_STATE c
  if st = 0 ∨ new ≤ old then d
  else
    let d := d.modDrover c (fun y => { y with tail := v % n })
    if st = 1 then d.set .DMA_STATE c 2 else d

/-- DMA_ENABLE = 1 (R356, R365). -/
def droverEnable (d : Device) (c : Nat) : Device :=
  let d := d.set .DMA_ENABLE c 1
  if d.num .DMA_STATE c != 0 then d
  else
    let d := ((((d.set .DMA_HEAD c 0).set .DMA_BYTES c 0).set .DMA_DESCS c 0).set .DMA_FAULT c 0).set .DMA_STATE c 1
    d.setDrover { c := c }

/-- DMA_ENABLE = 0 (R356): the channel stops at once. DMA_HEAD, DMA_BYTES, DMA_DESCS and the destination's contents are free values. -/
def droverDisable (d : Device) (c : Nat) : Device :=
  let d := d.set .DMA_ENABLE c 0
  if d.num .DMA_STATE c = 0 then d
  else
    let d := match (d.drover c).cur with
      | some x =>
        if x.into = 0 then
          let b := (List.range x.length).map (fun i => Config.freeNat (d.freeCtr + i) % 256)
          { (d.spaceWrite 0 x.dst b true) with freeCtr := d.freeCtr + x.length }
        else if x.into = 3 then
          let (r, d) := d.fresh (2 ^ 32)
          let (n, d) := d.fresh (2 ^ 32)
          d.crcRestore x.obj (r + 2 ^ 32 * n)
        else d
      | none => d
    let d := (d.releaseQueues c).setDrover { c := c }
    let (h, d) := d.fresh (2 ^ 32)
    let (b, d) := d.fresh (2 ^ 64)
    let (k, d) := d.fresh (2 ^ 32)
    (((d.set .DMA_HEAD c h).set .DMA_BYTES c b).set .DMA_DESCS c k).set .DMA_STATE c 0

/-- DMA_CMD = 1 (R356): the descriptor in progress completes as FINISHED, or as DONE where its own rule ends it, and the channel goes to IDLE. How many
bytes of a byte transfer have been written is free. -/
def droverFinish (d : Device) (c : Nat) : Device :=
  if d.num .DMA_STATE c != 2 then d
  else
    let d := match (d.drover c).cur with
      | none => d
      | some x =>
        if x.queued then
          let own := x.from == 2 && (x.bytes == x.length || (match (d.ring x.obj).items with
            | it :: _ => 0 < x.items && x.length < x.bytes + it.size
            | [] => false))
          d.finishDesc c (if own then 0 else 1)
        else
          let (n, d) := d.fresh ((sourceEnd x x.length).1 + 1)
          (d.moveBytes c x n).finishDesc c (if n = x.length then 0 else 1)
    (d.set .DMA_STATE c 1).modDrover c (fun y => { y with stale := 0 })

/-- DMA_CMD = 2 (R356). -/
def droverClear (d : Device) (c : Nat) : Device :=
  if d.num .DMA_STATE c != 4 then d
  else
    let d := if (d.drover c).skip then d.advanceHead c else d
    ((d.set .DMA_STATE c 1).set .DMA_FAULT c 0).modDrover c (fun y => { y with skip := false, stale := 0 })

/-- The sheepdog revokes a channel's lease of its queue (R357): the channel is fenced, and only then is the queue freed. Whether an item had been started, which
is then discarded, is free. -/
def droverRevoke (d : Device) (c : Nat) : Device :=
  match (d.drover c).cur with
  | none => d
  | some x =>
    if !x.queued then d
    else
      let d := d.droverFault c 3 true
      let (started, d) := d.fresh 2
      let d := if x.from = 2 ∧ started = 1 ∧ (d.ring x.obj).items ≠ [] then (d.takeItem x.obj).countDrop x.obj else d
      d.releaseQueues c

end Device

/-- DMA_DESCRIPTOR_FETCH (R350, R351). -/
def execDmaDescriptorFetch (c : Nat) (desc data : Octets) (s : State) : Host.Outcome State Fault Refusal :=
  run (WF.dmaDescriptorFetch c desc data) s fun d =>
    let x := d.drover c
    if d.num .DMA_STATE c = 2 && x.cur.isNone && x.stale = 0 && x.tail != d.num .DMA_HEAD c then d.readDesc c desc data false else d

/-- DMA_STALE_REREAD (R350). -/
def execDmaStaleReread (c : Nat) (desc data : Octets) (s : State) : Host.Outcome State Fault Refusal :=
  run (WF.dmaStaleReread c desc data) s fun d =>
    if d.num .DMA_STATE c = 2 && (d.drover c).cur.isNone && (d.drover c).stale != 0 then d.readDesc c desc data true else d

/-- DMA_ITEM_WAIT_EXPIRE (R352): DMA_WAIT_US have passed since the first item was copied. -/
def execDmaItemWaitExpire (c : Nat) (s : State) : Host.Outcome State Fault Refusal :=
  run (WF.dmaItemWaitExpire c) s fun d =>
    match (d.drover c).cur with
    | some x => if d.num .DMA_STATE c = 2 && x.from = 2 && x.items != 0 then d.finishDesc c 0 else d
    | none => d

/-- DMA_DESCRIPTOR_COMPLETE (R355). -/
def execDmaDescriptorComplete (c good : Nat) (s : State) : Host.Outcome State Fault Refusal :=
  run (WF.dmaDescriptorComplete c good) s fun d => if d.num .DMA_STATE c = 2 then d.droverComplete c good else d

end Sys2Proof.Machine
end

