-- ==== Sys2Proof/Machine/Phy.lean ====
section
/-!
DEFINITION. The PAM4 line coding of rungs 2 and 2H: the Gray map and precoder (R68), the scrambler (R66), the RS(544,514) code of
IEEE 802.3 clause 91 (R65), the marker codeword (R66, R67), and the test-pattern generators and their checker (R72).
-/
namespace Sys2Proof.Machine

/-! ## Gray map and precoder (R68) -/

/-- G of a bit pair (b1, b0), b1 the earlier bit. -/
def grayOf (b1 b0 : Nat) : Nat :=
  match b1, b0 with
  | 0, 0 => 0
  | 0, _ => 1
  | _, 0 => 3
  | _, _ => 2

/-- Bits in pairs, each Gray-mapped, the first bit of a pair the earlier. -/
def grayPairs : List Nat → List Nat
  | b1 :: b0 :: rest => grayOf b1 b0 :: grayPairs rest
  | _ => []

/-- The bit pair of a G, earlier bit first. -/
def grayBits (g : Nat) : List Nat :=
  match g with
  | 0 => [0, 0]
  | 1 => [0, 1]
  | 2 => [1, 1]
  | _ => [1, 0]

/-- The transmitter's precoder: P(n) = (G(n) − P(n−1)) mod 4 from the P before. -/
def precode (last : Nat) : List Nat → List Nat
  | [] => []
  | g :: gs =>
    let p := (g + 4 - last % 4) % 4
    p :: precode p gs

/-- The receiver's decoder: G(n) = (P(n) + P(n−1)) mod 4. -/
def unprecode (last : Nat) : List Nat → List Nat
  | [] => []
  | p :: ps => (p + last) % 4 :: unprecode p ps

/-- The bits that received levels carry, given the last level before them. -/
def pamBits (last : Nat) (ps : List Nat) : List Nat := (unprecode last ps).flatMap grayBits

/-! ## The scrambler (R66) -/

/-- Received scrambled bits made payload bits: d(n) = s(n) ⊕ s(n−39) ⊕ s(n−58). Bit k of `reg` is s(n−1−k). The register after the
bits comes with them. -/
def descramble (reg : Nat) : List Nat → List Nat × Nat
  | [] => ([], reg)
  | s :: ss =>
    let d := (s + b2n (bit reg 38) + b2n (bit reg 57)) % 2
    let (ds, r) := descramble ((reg * 2 + s % 2) % 2 ^ 58) ss
    (d :: ds, r)

/-- The transmitter's scrambler: s(n) = d(n) ⊕ s(n−39) ⊕ s(n−58). The register after the bits comes with them. -/
def scramble (reg : Nat) : List Nat → List Nat × Nat
  | [] => ([], reg)
  | d :: ds =>
    let s := (d + b2n (bit reg 38) + b2n (bit reg 57)) % 2
    let (ss, r) := scramble ((reg * 2 + s) % 2 ^ 58) ds
    (s :: ss, r)

/-! ## The field and the code (R65) -/

/-- Multiplication in GF(2^10) with x^10 + x^3 + 1: `n` more bits of `b` to add in. -/
def gfMulGo : Nat → Nat → Nat → Nat → Nat
  | 0, _, _, acc => acc
  | n + 1, a, b, acc =>
    let a2 := a * 2
    gfMulGo n (if a2 < 1024 then a2 else (a2 - 1024) ^^^ 9) (b / 2) (if b % 2 = 1 then acc ^^^ a else acc)

/-- Multiplication in GF(2^10). -/
def gfMul (a b : Nat) : Nat := gfMulGo 10 a b 0

/-- Powers in GF(2^10) by repeated squaring, over the low `k` bits of the exponent. -/
def gfPowGo : Nat → Nat → Nat → Nat → Nat
  | 0, _, _, acc => acc
  | k + 1, a, n, acc => gfPowGo k (gfMul a a) (n / 2) (if n % 2 = 1 then gfMul acc a else acc)

/-- A power in GF(2^10). -/
def gfPow (a n : Nat) : Nat := gfPowGo 10 a n 1

/-- The inverse in GF(2^10). -/
def gfInv (a : Nat) : Nat := gfPow a 1022

/-- The value of a polynomial, highest coefficient first, at `x`. -/
def polyEval (x : Nat) (cs : List Nat) : Nat := cs.foldl (fun a c => gfMul a x ^^^ c) 0

/-- The generator polynomial of the code without its leading 1, highest coefficient first: the product of x − α^j for j from 0 to 29. -/
def rsGenerator : List Nat :=
  ((List.range 30).foldl (fun g j => polyTimes (gfPow 2 j) g) [1]).drop 1
where
  /-- A polynomial, highest coefficient first, times x − a. -/
  polyTimes (a : Nat) (g : List Nat) : List Nat :=
    (List.range (g.length + 1)).map (fun i => g.getD i 0 ^^^ (if i = 0 then 0 else gfMul a (g.getD (i - 1) 0)))

/-- The 30 parity symbols of a message: the remainder of the message times x^30 by the generator polynomial `g`. -/
def rsParity (g msg : List Nat) : List Nat :=
  msg.foldl (fun r m =>
    let f := m ^^^ r.headD 0
    List.zipWith (fun a c => a ^^^ gfMul f c) (r.drop 1 ++ [0]) g) (List.replicate 30 0)

/-- A codeword of a message of 514 symbols (R65). -/
def rsEncode (g msg : List Nat) : List Nat := msg ++ rsParity g msg

/-- The 30 syndromes of a codeword: its values at α^0 to α^29, α = 2. -/
def syndromes (cw : List Nat) : List Nat := (List.range 30).map (fun j => polyEval (gfPow 2 j) cw)

/-- Sum of two polynomials, lowest coefficient first. -/
def polyAdd : List Nat → List Nat → List Nat
  | [], q => q
  | p, [] => p
  | a :: p, b :: q => (a ^^^ b) :: polyAdd p q

/-- One step of Berlekamp and Massey's algorithm: connection polynomial, the one before, length, gap and discrepancy. -/
structure BM where
  c : List Nat := [1]
  b : List Nat := [1]
  l : Nat := 0
  m : Nat := 1
  db : Nat := 1

/-- The step for syndrome `n`. -/
def BM.step (ss : List Nat) (s : BM) (n : Nat) : BM :=
  let d := (List.range (s.l + 1)).foldl (fun a i => a ^^^ gfMul (s.c.getD i 0) (ss.getD (n - i) 0)) 0
  if d = 0 then { s with m := s.m + 1 }
  else
    let f := gfMul d (gfInv s.db)
    let c' := polyAdd s.c (List.replicate s.m 0 ++ s.b.map (gfMul f))
    if 2 * s.l ≤ n then { c := c', b := s.c, l := n + 1 - s.l, m := 1, db := d }
    else { s with c := c', m := s.m + 1 }

/-- The value of a polynomial, lowest coefficient first. -/
def polyAt (x : Nat) (cs : List Nat) : Nat := polyEval x cs.reverse

/-- The error evaluator: syndromes times locator, modulo x^30. -/
def evaluator (ss c : List Nat) : List Nat :=
  (List.range 30).map (fun k =>
    (List.range (k + 1)).foldl (fun a i => a ^^^ gfMul (c.getD i 0) (ss.getD (k - i) 0)) 0)

/-- The formal derivative. -/
def polyDeriv (c : List Nat) : List Nat :=
  (List.range (c.length - 1)).map (fun i => if i % 2 = 0 then c.getD (i + 1) 0 else 0)

/-- The errors of a codeword of 544 symbols: positions in transmission order, with magnitudes; none when it is uncorrectable. -/
def rsErrors (cw : List Nat) : Option (List (Nat × Nat)) :=
  let ss := syndromes cw
  if ss.all (· == 0) then some [] else
  let s := (List.range 30).foldl (BM.step ss) {}
  let w := evaluator ss s.c
  let dc := polyDeriv s.c
  let errs := (List.range 544).filterMap (fun pos =>
    let x := gfPow 2 (543 - pos)
    let xi := gfInv x
    if polyAt xi s.c = 0 then some (pos, gfMul x (gfMul (polyAt xi w) (gfInv (polyAt xi dc)))) else none)
  if s.l ≤ 15 ∧ errs.length = s.l then some errs else none

/-- A codeword after error correction: its symbols, how many were corrected, and whether it is uncorrectable (R67). -/
structure Codeword where
  symbols : List Nat
  corrected : Nat
  bad : Bool

/-- Error correction of a received codeword (R65, R67). -/
def rsDecode (cw : List Nat) : Codeword :=
  match rsErrors cw with
  | some es =>
    { symbols := es.foldl (fun c e => modAt c e.1 (· ^^^ e.2)) cw, corrected := es.length, bad := false }
  | none => { symbols := cw, corrected := 0, bad := true }

/-! ## Superframes (R65 to R67) -/

/-- Bits gathered into numbers of `w` bits, least significant bit first; at most `n` of them. -/
def gather (w : Nat) : Nat → List Nat → List Nat
  | 0, _ => []
  | n + 1, bs =>
    match bs with
    | [] => []
    | _ => ((bs.take w).reverse.foldl (fun a b => 2 * a + b) 0) :: gather w n (bs.drop w)

/-- The bits of numbers of `w` bits, least significant bit first. -/
def spread (w : Nat) (ns : List Nat) : List Nat := ns.flatMap (fun n => (List.range w).map (fun k => b2n (bit n k)))

/-- A marker is seen when at least 14 of its 16 PATTERN symbols match, before error correction (R67). -/
def markerSeen (cw : List Nat) : Bool :=
  14 ≤ ((List.range 16).filter (fun i => cw.getD i 0 = if i % 2 = 0 then 0x2D4 else 0x12B)).length

/-- The octets of a marker codeword's SFCOUNT, LANE, RUNG and FRAME: message bits 160 to 455 (R66). -/
def markerOctets (cw : List Nat) : Octets := gather 8 37 ((spread 10 (cw.take 46)).drop 160)

/-- What a superframe of received levels carries: its 257 codewords after error correction, and whether the marker was seen. -/
def superframe (last : Nat) (levels : List Nat) : Bool × List Codeword :=
  let syms := gather 10 139808 (pamBits last levels)
  let cws := chunksOf 544 257 syms
  (markerSeen (cws.headD []), cws.map rsDecode)
where
  /-- A list cut into pieces of `k`, at most `n` of them. -/
  chunksOf (k : Nat) : Nat → List Nat → List (List Nat)
    | 0, _ => []
    | n + 1, l => l.take k :: chunksOf k n (l.drop k)

/-- The message of a marker codeword (R66): PATTERN, SFCOUNT, LANE, RUNG and FRAME, the rest 0. -/
def markerMessage (sfCount lane rung : Nat) (frame : Octets) : List Nat :=
  let head := (List.range 16).map (fun i => if i % 2 = 0 then 0x2D4 else 0x12B)
  let bits := spread 10 head ++ spread 8 (le 3 sfCount ++ [lane, rung] ++ slice frame 0 32)
  gather 10 514 (bits ++ List.replicate (5140 - bits.length) 0)

/-- The P of the 699,040 symbols of a superframe (R65, R66, R68): the marker codeword, then the payload octets scrambled, each codeword with
its parity, Gray-mapped and precoded. The scrambler's register after them comes with them. -/
def superframeOut (reg lastP : Nat) (marker : List Nat) (payload : Octets) : List Nat × Nat :=
  let (bits, r) := scramble reg (spread 8 payload)
  let g := rsGenerator
  let msgs := marker :: superframe.chunksOf 514 256 (gather 10 131584 bits)
  (precode lastP (grayPairs (msgs.flatMap (fun m => spread 10 (rsEncode g m)))), r)

/-- The payload octets of a superframe's data codewords with the mark of those touched by a flagged codeword, and the scrambler
register after them (R66, R67). -/
def payloadOctets (reg : Nat) (data : List Codeword) : List (Nat × Bool) × Nat :=
  let bits := data.flatMap (fun c => spread 10 (c.symbols.take 514))
  let (ds, r) := descramble reg bits
  let flags := data.flatMap (fun c => List.replicate 5140 c.bad)
  let octs := gather 8 164480 ds
  (octs.zip (flagOctets 164480 flags), r)
where
  /-- Octets any of whose bits is flagged. -/
  flagOctets : Nat → List Bool → List Bool
    | 0, _ => []
    | n + 1, fs => (fs.take 8).any id :: flagOctets n (fs.drop 8)

/-! ## Test patterns (R72) -/

/-- The taps of a pattern: PRBS7, PRBS31, PRBS13Q and PRBS31Q by their LNK_TEST codes; a loop is checked with PRBS31. -/
def prbsTaps (code : Nat) : List Nat :=
  match code with
  | 1 => [7, 6]
  | 3 => [13, 12, 2, 1]
  | _ => [31, 28]

/-- The length of a pattern's register. -/
def prbsLen (code : Nat) : Nat :=
  match code with
  | 1 => 7
  | 3 => 13
  | _ => 31

/-- The next bit of a pattern from its last bits, bit 0 of `reg` the most recent. -/
def prbsNext (code reg : Nat) : Nat := ((prbsTaps code).filter (fun k => bit reg (k - 1))).length % 2

end Sys2Proof.Machine
end

