-- ==== Sys2Proof/Machine/Codec.lean ====
section
/-!
DEFINITION. The Fleece codec (R319 to R327): block headers, stored and coded payloads, decoding and its checks, encoding, and software jobs. Which
tokens an encoder chooses is open; its payload is a constant without a body (log entry 10), and every block is verified as R325 states.
-/
namespace Sys2Proof.Machine

/-- Samples of a block (R321). -/
def blockSamples : Nat := 4096

/-- The width of a kind's main value (R323). -/
def kindWidth (kind : Nat) : Nat := match kind with | 1 => 10 | 2 => 12 | _ => 14

/-- Bytes of a stored payload (R322). -/
def storedSize (kind : Nat) : Nat := match kind with | 0 => 12288 | 1 => 5120 | 2 => 6144 | _ => 7168

/-- Samples as a stored payload (R322). -/
def storedPayload (kind : Nat) (xs : List Nat) : Octets :=
  if kind = 0 then xs.flatMap (le 3) else gather 8 (storedSize kind) (spread (kindWidth kind) xs)

/-- The samples of a stored payload. -/
def storedDecode (kind : Nat) (b : Octets) : List Nat :=
  if kind = 0 then (chunks 3 blockSamples b).map ofLE else gather (kindWidth kind) blockSamples (spread 8 b)

/-- The bytes that a block's CRC covers (R321). -/
def crcBytes (kind : Nat) (xs : List Nat) : Octets := xs.flatMap (le (if kind = 0 then 3 else 2))

/-- The CRC of uncompressed samples (R321). -/
def samplesCrc (kind : Nat) (xs : List Nat) : Nat := crc32c (crcBytes kind xs)

/-- A code read from a bit stream: how many leading ones, at most `n`, and whether a zero ended them. -/
def leadingOnes : Nat → List Nat → Nat × Bool × List Nat
  | 0, bs => (0, false, bs)
  | _ + 1, [] => (0, false, [])
  | n + 1, b :: bs =>
    if b = 0 then (0, true, bs)
    else
      let (k, z, r) := leadingOnes n bs
      (k + 1, z, r)

/-- `n` bits of a stream as a number, least significant first. -/
def takeBits (n : Nat) (bs : List Nat) : Option (Nat × List Nat) :=
  let h := bs.take n
  if h.length < n then none else some (h.foldr (fun b a => b + 2 * a) 0, bs.drop n)

/-- A Rice code with parameter `k` in a field of `w` bits (R324). -/
def takeRice (k w : Nat) (bs : List Nat) : Option (Nat × List Nat) :=
  match leadingOnes 24 bs with
  | (24, _, r) => takeBits w r
  | (q, true, r) => (takeBits k r).map (fun e => (q * 2 ^ k + e.1, e.2))
  | _ => none

/-- An exponential Golomb code of order `j` (R324). -/
def takeGolomb (j : Nat) (bs : List Nat) : Option (Nat × List Nat) :=
  match leadingOnes 13 bs with
  | (q, true, r) => (takeBits (q + j) r).map (fun e => (2 ^ (q + j) + e.1 - 2 ^ j, e.2))
  | _ => none

/-- floor(log2 n) for n > 0. -/
def floorLog2 (n : Nat) : Nat := n.log2

/-- The main value of a sample (R323). -/
def mainOf (kind x : Nat) : Nat := if kind = 0 then x / 1024 else x

/-- The prediction at sample `i` (R323); `acc` holds the samples before it, newest first. -/
def predict (kind i : Nat) (acc : List Nat) : Nat :=
  let m (k : Nat) : Nat := mainOf kind (acc.getD k 0)
  let a := m 0
  let b := m 63
  let c := m 64
  if i = 0 then 0
  else if i < 64 then a
  else if i % 64 = 0 then b
  else if Nat.max a b ≤ c then Nat.min a b
  else if c ≤ Nat.min a b then Nat.max a b
  else a + b - c

/-- The low reference at sample `i` (R323). -/
def lowRef (i : Nat) (acc : List Nat) : Nat :=
  if i = 0 then 0x3F0 else if i % 64 = 0 then acc.getD 63 0 % 1024 else acc.getD 0 0 % 1024

/-- A sample from its main value and low field. -/
def sampleOf (kind m l : Nat) : Nat := if kind = 0 then m * 1024 + l else m

/-- `n` samples of a run (R324). -/
def runSamples (kind : Nat) : Nat → Nat → List Nat → List Nat
  | 0, _, acc => acc
  | n + 1, i, acc => runSamples kind n (i + 1) (sampleOf kind (predict kind i acc) (lowRef i acc) :: acc)

/-- `n` samples of a match at distance `dist` (R324). -/
def matchSamples : Nat → Nat → List Nat → List Nat
  | 0, _, acc => acc
  | n + 1, dist, acc => matchSamples n dist (acc.getD (dist - 1) 0 :: acc)

/-- The low field of a residual token (R324). -/
def takeLow (kind i : Nat) (acc : List Nat) (bs : List Nat) : Option (Nat × List Nat) :=
  if kind ≠ 0 then some (0, bs)
  else match bs with
    | 0 :: r => some (lowRef i acc, r)
    | 1 :: 0 :: r => some (if i < 64 then 0x3F0 else acc.getD 63 0 % 1024, r)
    | 1 :: 1 :: r => takeBits 10 r
    | _ => none

/-- The tokens of a coded block (R324): at most `fuel` of them; `acc` holds the samples made, newest first, and `s` the sum behind the Rice
parameter. None when the stream is malformed. -/
def decodeTokens (kind : Nat) : Nat → Nat → List Nat → Nat → List Nat → Option (List Nat × List Nat)
  | fuel, i, acc, s, bs =>
    if i = blockSamples then some (acc.reverse, bs)
    else match fuel with
      | 0 => none
      | fuel + 1 =>
        let w := kindWidth kind
        match bs with
        | 0 :: r =>
          let k := Nat.min (floorLog2 (s / 16 + 1)) (w - 1)
          match takeRice k w r with
          | none => none
          | some (z, r) =>
            match takeLow kind i acc r with
            | none => none
            | some (l, r) =>
              let res : Int := if z % 2 = 0 then (z / 2 : Nat) else -((z + 1) / 2 : Nat)
              let m := ofSigned w ((predict kind i acc : Int) + res)
              decodeTokens kind fuel (i + 1) (sampleOf kind m l :: acc) (s + z - s / 16) r
        | 1 :: 0 :: r =>
          match takeGolomb 0 r with
          | none => none
          | some (x, r) =>
            let n := x + 1
            if blockSamples < i + n then none else decodeTokens kind fuel (i + n) (runSamples kind n i acc) s r
        | 1 :: 1 :: r =>
          match takeGolomb 2 r with
          | none => none
          | some (x, r) =>
            match takeBits 12 r with
            | none => none
            | some (y, r) =>
              let n := x + 3
              let dist := y + 1
              if blockSamples < i + n ∨ i < dist then none
              else decodeTokens kind fuel (i + n) (matchSamples n dist acc) s r
        | _ => none

/-- What decoding a block gives (R326). -/
inductive Decoded where
  | ok (kind : Nat) (xs : List Nat)
  | malformed
  | badCrc
deriving DecidableEq, Repr

/-- Length and CRC fields of a block's header (R321). -/
def blockLength (b : Octets) : Nat := leAt b 2 2
/-- The CRC field. -/
def blockCrc (b : Octets) : Nat := leAt b 4 4

/-- A block decoded and checked (R321 to R326): `b` holds the whole block and nothing after it. -/
def decodeBlock (b : Octets) : Decoded :=
  let f := octet b 0
  let kind := f % 8
  let body := b.drop 8
  if b.length < 8 ∨ 2 ≤ f / 64 ∨ 4 ≤ kind ∨ octet b 1 ≠ 0 ∨ blockLength b ≠ b.length then .malformed
  else
    let xs : Option (List Nat) :=
      if f / 64 = 0 then (if body.length = storedSize kind then some (storedDecode kind body) else none)
      else match decodeTokens kind blockSamples 0 [] 0 (spread 8 body) with
        | some (xs, rest) => if rest.length < 8 && rest.all (· == 0) then some xs else none
        | none => none
    match xs with
    | none => .malformed
    | some xs => if samplesCrc kind xs = blockCrc b then .ok kind xs else .badCrc

/-- A block's header (R321). -/
def blockHeader (mode effort kind : Nat) (xs : List Nat) (payload : Octets) : Octets :=
  [mode * 64 + effort * 8 + kind, 0] ++ le 2 (8 + payload.length) ++ le 4 (samplesCrc kind xs)

/-- A block in stored mode (R322). -/
def storedBlock (effort kind : Nat) (xs : List Nat) : Octets :=
  let p := storedPayload kind xs
  blockHeader 0 effort kind xs p ++ p

/-- The encoder's block at an effort (R319, R322): stored whenever the coded payload would be longer. -/
def encodeBlock (effort kind : Nat) (xs : List Nat) : Octets :=
  let p := Config.fleecePayload effort kind xs
  if storedSize kind < p.length then storedBlock effort kind xs else blockHeader 1 effort kind xs p ++ p

/-- Bytes rounded up to a multiple of 8. -/
def pad8 (n : Nat) : Nat := (n + 7) / 8 * 8

namespace Device

/-- A block is encoded and counted (R336). -/
def encode (d : Device) (effort kind : Nat) (xs : List Nat) : Octets × Device :=
  let b := encodeBlock effort kind xs
  let d := (d.add .FLC_ENC_SAMPLES 0 blockSamples).add .FLC_ENC_BYTES 0 b.length
  (b, d.bumpIf (decide (octet b 0 < 64)) .FLC_STORED 0)

/-- A block is decoded; a failed decode counts (R326, R336). -/
def decode (d : Device) (b : Octets) : Decoded × Device :=
  match decodeBlock b with
  | .ok k xs => (.ok k xs, d.add .FLC_DEC_SAMPLES 0 blockSamples)
  | e => (e, d.bump .FLC_READ_ERR 0)

/-- The verification of an encoded block (R325), which decodes it: its samples match; a mismatch counts. -/
def verify (d : Device) (b : Octets) (kind : Nat) (xs : List Nat) : Bool × Device :=
  if decodeBlock b = .ok kind xs then (true, d.add .FLC_DEC_SAMPLES 0 blockSamples) else (false, d.bump .FLC_VERIFY_FAILS 0)

/-- A job context. -/
def job (d : Device) (j : Nat) : FleeceJob := d.jobs.getD j {}

/-- A job context changed. -/
def modJob (d : Device) (j : Nat) (f : FleeceJob → FleeceJob) : Device := { d with jobs := modTab 4 {} d.jobs j f }

/-- The job ends in a state (R327). -/
def endJob (d : Device) (j st err : Nat) : Device := (d.set .FLC_JOB_STATE j st).set .FLC_JOB_ERROR j err

/-- A destination outside scratch (R327, R338). -/
def jobDstBad (d : Device) (j : Nat) : Bool := !d.ident.inScratch (d.num .FLC_JOB_DST j) (d.num .FLC_JOB_DST_LEN j)

/-- GO = 1 (R327): the job starts at block 0 with the settings as they stand; one of no blocks is done at once. -/
def jobStart (d : Device) (j : Nat) : Device :=
  let d := d.modJob j (fun _ =>
    { op := d.num .FLC_JOB_OP j, kind := d.num .FLC_JOB_KIND j, effort := d.num .FLC_JOB_EFFORT j, src := d.num .FLC_JOB_SRC j
      blocks := d.num .FLC_JOB_BLOCKS j, dst := d.num .FLC_JOB_DST j, dstLen := d.num .FLC_JOB_DST_LEN j, taken := 0 })
  let d := (d.set .FLC_JOB_CONSUMED j 0).set .FLC_JOB_PRODUCED j 0
  d.endJob j (if d.num .FLC_JOB_BLOCKS j = 0 then 2 else 1) 0

/-- GO = 2 (R327): the job goes on at block CONSUMED in a new destination. -/
def jobResume (d : Device) (j : Nat) : Device :=
  let d := d.modJob j (fun x => { x with dst := d.num .FLC_JOB_DST j, dstLen := d.num .FLC_JOB_DST_LEN j })
  (d.set .FLC_JOB_PRODUCED j 0).endJob j 1 0

/-- A job's output block is written when it fits, and counted once written (R327); `used` source bytes lie behind it. -/
def jobOutput (d : Device) (j used : Nat) (out : Octets) : Device :=
  let x := d.job j
  let made := d.num .FLC_JOB_PRODUCED j
  let n := pad8 out.length
  if x.dstLen < made + n then d.endJob j 3 0
  else
    let d := d.dramWrite (x.dst + made) (out ++ List.replicate (n - out.length) 0)
    let d := (d.bump .FLC_JOB_CONSUMED j).add .FLC_JOB_PRODUCED j n
    let d := d.modJob j (fun y => { y with taken := y.taken + used })
    if d.num .FLC_JOB_CONSUMED j = x.blocks then d.endJob j 2 0 else d

/-- The next block of a running job (R325 to R327): where the stack delivers its source poisoned the job stops with ERROR (R318, R326), with an error code that the manual does
not give. -/
def jobBlock (d : Device) (j : Nat) (poisoned : Bool) : Device :=
  if d.num .FLC_JOB_STATE j ≠ 1 then d
  else if poisoned then
    let (code, d) := (d.bump .MEM_ECC_UNCORR 0).fresh 256
    d.endJob j 4 code
  else
    let x := d.job j
    let at_ := x.src + x.taken
    if x.op = 0 then
      let n := storedSize x.kind
      let (src, d) := d.dramSee at_ n
      let xs := storedDecode x.kind src
      let (b, d) := (d.countRead at_ n).encode x.effort x.kind xs
      let (ok, d) := d.verify b x.kind xs
      if ok then d.jobOutput j n b else d.endJob j 4 3
    else
      let (h, d) := d.dramSee (at_ + 2) 2
      let len := ofLE h
      let (b, d) := d.dramSee at_ len
      let (r, d) := (d.countRead at_ len).decode b
      match r with
      | .ok k xs => if k = x.kind then d.jobOutput j (pad8 len) (storedBlock x.effort k xs) else d.endJob j 4 1
      | .malformed => d.endJob j 4 1
      | .badCrc => d.endJob j 4 2

end Device

/-- FLC_JOB_BLOCK_DONE (R327): the next block of a running job is written and counted. -/
def execFlcJobBlockDone (j : StackRead Bool) (s : State) : Host.Outcome State Fault Refusal :=
  run (WF.flcJobBlockDone j) s fun d => d.jobBlock j.unit j.poisoned

end Sys2Proof.Machine
end

