-- ==== Sys2Proof/Machine/Banks.lean ====
section
/-!
DEFINITION. The built-in coefficient banks of the resampler (R154, R156, R492). They follow the manual's formulas and the four steps of M47, evaluated in fixed
point far finer than its binary64, so that each rounded coefficient is the one the formula gives (log entry 3).
-/
namespace Sys2Proof.Machine

/-- One in the fixed point of this file: 96 fraction bits. -/
def fx : Int := 2 ^ 96

/-- π in that fixed point. -/
def fxPi : Int := 314159265358979323846264338327950288419716939937510 * fx / 10 ^ 50

/-- Terms of the sine series from term `t` on, with `x2` the argument's square. -/
def sinTerms (x2 : Int) : Nat → Int → Nat → Int
  | 0, _, _ => 0
  | n + 1, t, k => t + sinTerms x2 n (-(t * x2 / fx) / ((2 * k + 2) * (2 * k + 3) : Nat)) (k + 1)

/-- sin(π u) for a rational u = a / b. -/
def sinPi (a : Int) (b : Nat) : Int :=
  -- u reduced to [−1, 1)
  let r := (a + b) % (2 * b) - b
  let x := fxPi * r / b
  sinTerms (x * x / fx) 40 x 0

/-- Terms of the series of I0 in q = z²/4. -/
def besselTerms (q : Int) : Nat → Int → Nat → Int
  | 0, _, _ => 0
  | n + 1, t, m => t + besselTerms q n (t * q / fx / ((m + 1) * (m + 1) : Nat)) (m + 1)

/-- I0(6 √(1 − (x / 8)²)) for x = n / 32 (R492): z²/4 = 9 × (1 − n² / 65,536). -/
def kaiser (n : Int) : Int := besselTerms (9 * fx * (65536 - n * n) / 65536) 40 fx 0

/-- The prototype of a linear bank at x = n / 32, up to a factor that normalisation removes; the cutoff is `fc` thousandths. -/
def prototype (fc : Nat) (n : Int) : Int :=
  let s := if n = 0 then fx
    else sinPi (2 * fc * n) 32000 * fx / (fxPi * (2 * fc * n) / 32000)
  s * kaiser n / fx

/-- A phase row scaled to a sum of 16,384 and rounded, ties away from zero, with its remainder on the tap of greatest magnitude (R492). -/
def scaledRow (hs : List Int) : List Int :=
  let sum := sumI hs
  let cs := hs.map (fun h => divRoundAway (h * 16384) sum.toNat)
  let top := maxNat (cs.map Int.natAbs)
  match findIdxFrom (fun c => c.natAbs = top) 0 cs with
  | some (i, _) => modAt cs i (· + (16384 - sumI cs))
  | none => cs

/-- The row of phase φ of a linear bank (R492). -/
def linearRow (fc ph : Nat) : List Int :=
  scaledRow ((List.range 16).map (fun (k : Nat) => prototype fc (32 * ((k : Int) - 7) - (ph : Int))))

/-! ## M47 (R492): minimum phase by the real cepstrum over 8,192 points -/

/-- A complex number in the fixed point of this file. -/
structure Cx where
  re : Int := 0
  im : Int := 0

/-- The product of two. -/
def Cx.mul (a b : Cx) : Cx := { re := (a.re * b.re - a.im * b.im) / fx, im := (a.re * b.im + a.im * b.re) / fx }

/-- The 8,192nd roots of unity that a forward transform uses: e^(−2πik / 8,192) for k below 4,096. -/
def unityRoots : Array Cx :=
  ((List.range 4096).map (fun (k : Nat) => ({ re := sinPi (k + 2048 : Nat) 4096, im := -sinPi k 4096 } : Cx))).toArray

/-- The terms of a sequence at even places, and those at odd places. -/
def unzipTwo : List Cx → List Cx × List Cx
  | a :: b :: t => let (e, o) := unzipTwo t; (a :: e, b :: o)
  | t => (t, [])

/-- The transform of 2^n values, halved again and again; `stride` is 8,192 / 2^n. -/
def dftGo (roots : Array Cx) : Nat → Nat → List Cx → List Cx
  | 0, _, xs => xs
  | n + 1, stride, xs =>
    let (e, o) := unzipTwo xs
    let es := dftGo roots n (2 * stride) e
    let ts := ((dftGo roots n (2 * stride) o).zipIdx).map (fun t => (roots.getD (t.2 * stride) {}).mul t.1)
    es.zipWith (fun a b => { re := a.re + b.re, im := a.im + b.im }) ts ++ es.zipWith (fun a b => { re := a.re - b.re, im := a.im - b.im }) ts

/-- DFT over 8,192 points. -/
def dft (xs : List Cx) : List Cx := dftGo unityRoots 13 1 xs

/-- IDFT over 8,192 points, through the transform of the conjugates. -/
def idft (xs : List Cx) : List Cx :=
  (dft (xs.map (fun x => { x with im := -x.im }))).map (fun x => { re := x.re / 8192, im := -x.im / 8192 })

/-- Σ u^(2i+1) / (2i + 1) from term `t` = u^(2k+1) on. -/
def atanhTerms (u2 : Int) : Nat → Int → Nat → Int
  | 0, _, _ => 0
  | n + 1, t, k => t / (2 * k + 1 : Nat) + atanhTerms u2 n (t * u2 / fx) (k + 1)

/-- ln of m / 2^96 for m from 2^96 to 2^97. -/
def lnNear (m : Int) : Int :=
  let u := (m - fx) * fx / (m + fx)
  2 * atanhTerms (u * u / fx) 40 u 0

/-- ln of n / 2^96 for n > 0; 0 for none. -/
def fxLn (n : Nat) : Int :=
  if n = 0 then 0
  else
    let e : Int := (n.log2 : Int) - 96
    let m : Int := if e < 0 then (n : Int) * 2 ^ e.natAbs else (n : Int) / 2 ^ e.natAbs
    e * lnNear (2 * fx) + lnNear m

/-- Terms of the exponential series from `t` = x^k / k! on. -/
def expTerms (x : Int) : Nat → Int → Nat → Int
  | 0, _, _ => 0
  | n + 1, t, k => t + expTerms x n (t * x / fx / (k + 1 : Nat)) (k + 1)

/-- e^z. -/
def Cx.exp (z : Cx) : Cx :=
  let ln2 := lnNear (2 * fx)
  let k := z.re / ln2
  let m := expTerms (z.re - k * ln2) 40 fx 0
  let m := if k < 0 then m / 2 ^ k.natAbs else m * 2 ^ k.natAbs
  -- the angle as a multiple of π, in the fixed point
  let a := z.im * fx / fxPi
  { re := m * sinPi (2 * a + fx) (2 * fx.toNat) / fx, im := m * sinPi a fx.toNat / fx }

/-- q of R492, step 3: from p[n] = h((n − 255) / 32), the real cepstrum folded, and back. -/
def m47Response : Array Int :=
  let p : List Cx := (List.range 8192).map (fun (n : Nat) => { re := if n < 512 then prototype 385 ((n : Int) - 255) else 0 })
  let c := idft ((dft p).map (fun z => { re := fxLn ((z.re * z.re + z.im * z.im) / fx).toNat / 2 }))
  let folded := (c.zipIdx).map (fun e => ({ re := if e.2 = 0 ∨ e.2 = 4096 then e.1.re else if e.2 < 4096 then 2 * e.1.re else 0 } : Cx))
  ((idft ((dft folded).map Cx.exp)).map Cx.re).toArray

/-- The prototype g of M47 at 32x (R492, step 4), given q: placed so that the group delay at zero frequency falls on the target. -/
def m47At (q : Array Int) (x32 : Int) : Int :=
  let qs := (List.range 512).map (fun n => q.getD n 0)
  let tau := divRound (sumI ((qs.zipIdx).map (fun e => e.2 * e.1))) (sumI qs).toNat
  let i := tau - x32
  if 0 ≤ i ∧ i ≤ 511 then q.getD i.toNat 0 else 0

/-- The row of phase φ of M47 (R492). -/
def m47Row (ph : Nat) : List Int :=
  scaledRow ((List.range 16).map (fun (k : Nat) => m47At m47Response (32 * ((k : Int) - 13) - (ph : Int))))

/-- The coefficients of phase φ of built-in bank 1 (L47), 2 (L30), 3 (L20) or 4 (M47). -/
def builtinRow (bank ph : Nat) : List Int :=
  match bank with
  | 1 => linearRow 385 ph
  | 2 => linearRow 240 ph
  | 3 => linearRow 160 ph
  | _ => m47Row ph

/-- A bank as CH_RS_BUILTIN and CH_RS_USER_COEF hold it (R157). -/
def bankOctets (rows : List (List Int)) : Octets := rows.flatMap (fun r => r.flatMap (fun c => le 2 (ofSigned 16 c)))

/-- The phase row of a user bank. -/
def userRow (coef : Octets) (ph : Nat) : List Int := (List.range 16).map (fun k => toSigned 16 (leAt coef ((ph * 16 + k) * 2) 2))

end Sys2Proof.Machine
end

