-- ==== Sys2Proof/Machine/Link.lean ====
section
/-!
DEFINITION. Links of bonded lanes and camera control: lane matching, a link's forming and falling and its state (R82, R101, R102), sending
packets under credits (R79, R83 to R88), control requests (R95 to R98), the camera's limits (R111), and the preview stride (R100).
-/
namespace Sys2Proof.Machine

/-! ## Settings -/

/-- The channel settings that a check or a message reads: a copy of the channel's objects as a function of the object. -/
abbrev View := Reg → Nat

/-- Width of a data type's samples (R81, R90). -/
def dtWidth (dt : Nat) : Nat := if dt = 0x20 then 10 else if dt = 0x22 then 14 else 12

/-- A line data type (R81). -/
def isLineDt (dt : Nat) : Bool := dt == 0x20 || dt == 0x21 || dt == 0x22 || dt == 0x28

/-- Line rate of a view in mHz (R110). -/
def View.rateMilli (v : View) : Nat := if v .CH_TRIGGER = 0 then v .CH_RATE_MHZ else 1000 * v .CH_LINE_RATE_MAX

/-- Planes of a view. -/
def View.planes (v : View) : Nat := dtPlanes (v .CH_DT)

/-- The demand of a view, times 1,000: CH_PIXELS × p × mHz (R123). -/
def View.demandMilli (v : View) : Nat := v .CH_PIXELS * v.planes * v.rateMilli

/-- Fields of CH_CAM_INFO (R96, R103): octets 4 to 24 of the GET_INFO response. -/
def camPixels (i : Octets) : Nat := leAt i 0 2
/-- PLANES. -/
def camPlanes (i : Octets) : Nat := octet i 2
/-- DARK. -/
def camDark (i : Octets) : Nat := leAt i 4 2

/-- The camera's limits (R96, R111): the first object of a view that lies outside them, in the order of R111. -/
def View.limitFault (v : View) (info : Octets) : Option Reg :=
  let w := dtWidth (v .CH_DT)
  let depthBit := if w = 10 then 0 else if w = 12 then 1 else 2
  let gmax := leAt info 18 2
  let exp := v .CH_EXPOSURE_NS
  if v .CH_PIXELS ≠ camPixels info then some .CH_PIXELS
  else if v.planes ≠ camPlanes info ∨ bit (octet info 3) depthBit = false then some .CH_DT
  else if 1000 * leAt info 6 4 < v.rateMilli then
    some (if v .CH_TRIGGER = 0 then .CH_RATE_MHZ else .CH_LINE_RATE_MAX)
  else if exp < leAt info 10 4 ∨ leAt info 14 4 < exp then some .CH_EXPOSURE_NS
  else if gmax < v .CH_GAIN0 then some .CH_GAIN0
  else if v.planes = 3 ∧ gmax < v .CH_GAIN1 then some .CH_GAIN1
  else if v.planes = 3 ∧ gmax < v .CH_GAIN2 then some .CH_GAIN2
  else none

/-- The code of CH_CAM_FAULT for a view against the camera (R115). -/
def View.camFault (v : View) (info : Octets) : Nat :=
  match v.limitFault info with
  | none => 0
  | some _ => if v .CH_PIXELS ≠ camPixels info ∨ v.planes ≠ camPlanes info then 1 else 2

/-- Arguments of SETTINGS for a view and a generation (R96): octets from 4. -/
def View.settings (v : View) (g : Nat) : Octets :=
  le 4 g ++ [v .CH_DT, v .CH_TRIGGER] ++ le 4 (v .CH_RATE_MHZ) ++ le 4 (v .CH_EXPOSURE_NS) ++ le 2 (v .CH_GAIN0)
    ++ le 2 (v .CH_GAIN1) ++ le 2 (v .CH_GAIN2) ++ [v .CH_DARK_EVERY] ++ le 2 (v .CH_STATUS_MS) ++ le 2 (v .CH_TEMP_MS)

/-- Octets of the samples of `px` pixels of `p` planes at width `w` (R90). -/
def sampleOctets (px p w : Nat) : Nat := (px * p * w + 7) / 8

/-- Credits of a packet with a payload of `n` octets (R87). -/
def packetCost (n : Nat) : Nat := (12 + n + 63) / 64

/-- Credits of `n` octets sent in segments of 8,192 (R89). -/
def lineCost (n : Nat) : Nat := n / 8192 * packetCost 8192 + (if n % 8192 = 0 then 0 else packetCost (n % 8192))

/-- Octets that R100 counts for one packet: the greater of its framed sizes at rung 1 and in flits. -/
def framedOctets (n : Nat) : Nat := Nat.max (12 + n + 2) ((12 + n + 15) / 16 * 16)

/-- Octets that R100 counts for `n` octets sent in segments. -/
def framedLine (n : Nat) : Nat := n / 8192 * framedOctets 8192 + (if n % 8192 = 0 then 0 else framedOctets (n % 8192))

/-- Payload rate of a lane at a rung, in Gb/s (R100). -/
def rungRate (r : Nat) : Nat := if r = 2 then 50 else if r = 3 then 25 else 5

/-- Ceiling of a quotient. -/
def ceilDiv (a b : Nat) : Nat := (a + b - 1) / b

/-- The preview stride m = ceil(P / (0.95 × C)) (R100), for a view, the camera's pixels and dark samples, and C in Gb/s. One dark block
follows every CH_DARK_EVERY-th line, so P counts that part of one. -/
def View.stride (v : View) (px dark c : Nat) : Nat :=
  let p := v.planes
  let w := dtWidth (v .CH_DT)
  let line := framedLine (16 + sampleOctets ((px + 1) / 2) p w)
  let every := v .CH_DARK_EVERY
  let blk := if every = 0 then 0 else framedLine (16 + sampleOctets dark p w)
  let n := if every = 0 then 1 else every
  -- P = (line + blk / n) × 8 × rate / 2 bit/s, with the rate in mHz
  ceilDiv ((line * n + blk) * 8 * v.rateMilli * 100) (n * 2000 * 95 * c * 1000000000)

namespace Device

/-- The live objects of channel `n`. -/
def liveView (d : Device) (n : Nat) : View := fun r => d.num r n

/-- The value of an object of channel `n` in a store, the default where the store lists none. -/
def storeView (d : Device) (st : Store) (n : Nat) : View := fun r => ((st.find ⟨r, n⟩).getD (d.ident.dflt r n)).toNat

/-- CH_CAM_INFO is filled. -/
def camKnown (d : Device) (n : Nat) : Bool := (d.oct .CH_CAM_INFO n).length == 21

/-- Pixels of a full line of a channel: the camera's when it is known, else CH_PIXELS. -/
def chPixels (d : Device) (n : Nat) : Nat :=
  if d.camKnown n then camPixels (d.oct .CH_CAM_INFO n) else d.num .CH_PIXELS n

/-- Dark samples per plane of a channel's camera. -/
def chDark (d : Device) (n : Nat) : Nat := if d.camKnown n then camDark (d.oct .CH_CAM_INFO n) else 0

/-! ## Credits and sending -/

/-- The device's receive window of a VC, in credits (R88, R416). -/
def window (d : Device) (k vc : Nat) : Nat :=
  if k < 16 then
    match vc with
    | 0 =>
      let v := d.liveView k
      let w := dtWidth (v .CH_DT)
      let blk := if v .CH_DARK_EVERY = 0 then 0 else lineCost (16 + sampleOctets (d.chDark k) v.planes w)
      4 * (lineCost (16 + sampleOctets (d.chPixels k) v.planes w) + blk)
    | 1 => 256
    | 2 => 128
    | _ => 1024
  else match vc with
    | 0 => 4096
    | 1 => 8192
    | 2 => 256
    | _ => 16384

/-- Reception on VC `vc` of link `k` changed. -/
def modRx (d : Device) (k vc : Nat) (f : VcRx → VcRx) : Device := d.modLink k (fun x => { x with rx := modTab 4 {} x.rx vc f })

/-- Transmission on VC `vc` of link `k` changed. -/
def modTx (d : Device) (k vc : Nat) (f : VcTx → VcTx) : Device := d.modLink k (fun x => { x with tx := modTab 4 {} x.tx vc f })

/-- Reception on VC `vc` of link `k`. -/
def rxOf (d : Device) (k vc : Nat) : VcRx := (d.link k).rx.getD vc {}

/-- Transmission on VC `vc` of link `k`. -/
def txOf (d : Device) (k vc : Nat) : VcTx := (d.link k).tx.getD vc {}

/-- A packet as sent (R79, R85): header, payload, CRC-32C over the pseudo-header, octets 0 to 5 and the payload. -/
def wirePacket (vc ctl dt count : Nat) (payload : Octets) : Octets :=
  let h := [0x5C, vc * 64 + ctl, dt, count % 256] ++ le 2 payload.length
  h ++ crcTail h ++ payload ++ le 4 (crc32c ([vc, 0, 0, 0] ++ le 4 count ++ h ++ payload))

/-- The lane that carries a link's outgoing packets (R83): the lowest-numbered usable one. -/
def txLane (d : Device) (k : Nat) : Option Nat := ((d.link k).usable.map Prod.fst).head?

/-- The payload of a packet as it leaves: a TIME_ECHO request takes T1, the local time at which its first octet leaves (R99). -/
def stampEcho (t1 : Nat) (p : TxPacket) : Octets :=
  if p.dt = 0x39 ∧ octet p.payload 2 = 0x05 then p.payload.take 4 ++ le 6 t1 else p.payload

/-- A packet leaves on the link's outgoing lane with the next count of its VC (R83, R84). -/
def transmit (d : Device) (k vc : Nat) (p : TxPacket) : Device :=
  match d.txLane k with
  | none => d
  | some l =>
    let c := (d.txOf k vc).count
    let t1 := d.now % 2 ^ 48
    let w := wirePacket vc p.ctl p.dt c (stampEcho t1 p)
    let d := if p.dt = 0x39 ∧ octet p.payload 2 = 0x05 then d.modLink k (fun x => { x with echoT1 := t1 }) else d
    let d := d.modLane l (fun x => { x with tx := { x.tx with packets := x.tx.packets ++ [w] } })
    (d.emit (.packet l w)).modTx k vc (fun t => { t with count := (c + 1) % 2 ^ 32 })

/-- The far end's credits of a class allow a cost more (R87). -/
def creditFor (d : Device) (k vc cls cost : Nat) : Bool :=
  let cr := (d.txOf k vc).cr.getD cls {}
  (d.link k).credited && toSigned 32 (ofSigned 32 ((cr.used : Int) + cost - cr.limit)) ≤ 0

/-- Whether a packet may start: the far end's credits allow it (R87), C + cost − CL as an S32 being at most 0, and the lane's transmitter is
neither asleep nor falling asleep (R75), nor sending the idle fill of a wake (R76). -/
def mayStart (d : Device) (k vc : Nat) (p : TxPacket) : Bool :=
  let asleep := match d.txLane k with
    | some l =>
      let x := (d.lane l).tx
      bit (d.num .LNK_SLEEP_STATE l) 0 || x.fill != 0 || x.nod.isSome || x.closing
    | none => true
  !asleep && d.creditFor k vc p.cls (packetCost p.payload.length)

/-- Packets waiting on a VC are sent while credits last (R87, R88); at most `n`. A packet waits only behind packets of its own class
(R414). -/
def pumpVc (k vc : Nat) : Nat → Device → Device
  | 0, d => d
  | n + 1, d =>
    match findIdxFrom (fun (e : Nat × TxPacket) => d.mayStart k vc e.2) 0 (heads (d.txOf k vc).waiting) with
    | none => d
    | some (_, (i, p)) =>
      let d := d.transmit k vc p
      let d := d.modTx k vc (fun t => { t with
        cr := modAt t.cr p.cls (fun c => { c with used := (c.used + packetCost p.payload.length) % 2 ^ 32 })
        waiting := t.waiting.eraseIdx i })
      pumpVc k vc n d
where
  /-- The first waiting packet of each class, with its place. -/
  heads (w : List TxPacket) : List (Nat × TxPacket) :=
    let pos (c : Nat) := findIdxFrom (fun (p : TxPacket) => p.cls = c) 0 w
    (pos 0).toList ++ (pos 1).toList

/-- Every VC sends what it may. -/
def pump (d : Device) (k : Nat) : Device :=
  (List.range 4).foldl (fun d vc => pumpVc k vc (d.txOf k vc).waiting.length d) d

/-- A packet is queued on a VC and sent as soon as credits allow; `urgent` puts it ahead of every packet queued there (R98). -/
def sendPacket (d : Device) (k vc : Nat) (p : TxPacket) (urgent : Bool := false) : Device :=
  if (d.link k).up = false then d else
  (d.modTx k vc (fun t => { t with waiting := if urgent then p :: t.waiting else t.waiting ++ [p] })).pump k

/-- The cumulative limits a credit update carries (R87, R414): class 0, and class 1 on fold links. -/
def creditPayload (d : Device) (k : Nat) : Octets :=
  let cls (c : Nat) := (List.range 4).flatMap (fun vc => le 4 (((d.rxOf k vc).cr.getD c {}).freed + d.window k vc))
  cls 0 ++ (if k < 16 then [] else cls 1)

/-- A credit update is sent (R87): it costs no credits, and what it advertises is the limit in force for the far end. -/
def sendCredits (d : Device) (k : Nat) : Device :=
  if (d.link k).up = false then d else
  let p := d.creditPayload k
  let d := d.transmit k 2 { dt := 0x3D, ctl := 0, cls := 0, payload := p }
  let lim (d : Device) (vc : Nat) : Device := d.modRx k vc (fun r => { r with
    cr := r.cr.map (fun c => { c with limit := (c.freed + d.window k vc) % 2 ^ 32 }) })
  let d := (List.range 4).foldl lim d
  if k < 16 then d.set .CH_CREDIT_VC0 k (d.window k 0) else d

/-- Credits of a VC are freed as their packets leave the receive window (R88). -/
def freeCredits (d : Device) (k vc cls n : Nat) : Device :=
  d.modRx k vc (fun r => { r with cr := modAt r.cr cls (fun c => { c with freed := (c.freed + n) % 2 ^ 32 }) })

/-! ## Control requests (R95 to R98) -/

/-- A request is put on the link with a new TAG (R95). -/
def startRequest (d : Device) (k : Nat) (r : Request) (urgent : Bool) : Device :=
  let tag := ((d.link k).tag + 1) % 65536
  let d := d.modLink k (fun x => { x with tag := tag, out := some { r with tag := tag, waitBusy := false } })
  d.sendPacket k 2 { dt := 0x39, ctl := 0, cls := 0, payload := le 2 tag ++ [r.op, 0] ++ r.args } urgent

/-- A request is made (R95, R98): sent when none is outstanding, else queued; ACTIVATE, and what `ahead` says, goes ahead of the others. R98
gives ACTIVATE 0.5 µs, R95 one request at a time: with another outstanding, ACTIVATE is the first to follow it (DESIGN CHOICE, log entry 54). -/
def request (d : Device) (k op : Nat) (args : Octets) (ahead : Bool := false) : Device :=
  let urgent := op = 0x03
  match (d.link k).out with
  | none => d.startRequest k { tag := 0, op := op, args := args } urgent
  | some _ => d.modLink k (fun x => { x with queue := if urgent || ahead then (op, args) :: x.queue else x.queue ++ [(op, args)] })

/-- The outstanding request ends; the next one queued is sent. -/
def endRequest (d : Device) (k : Nat) : Device :=
  let d := d.modLink k (fun x => { x with out := none })
  match (d.link k).queue with
  | [] => d
  | (op, args) :: rest =>
    (d.modLink k (fun x => { x with queue := rest })).startRequest k { tag := 0, op := op, args := args } (op = 0x03)

/-- SETTINGS of a view under a generation (R98); the generation is remembered with its data type, its exposure and its arguments. -/
def sendSettings (d : Device) (k g : Nat) (v : View) : Device :=
  (d.modLink k (fun x => { x with
    sent := (g, v .CH_DT, v .CH_EXPOSURE_NS) :: x.sent, sentArgs := (g, v.settings g) :: x.sentArgs })).request k 0x02 (v.settings g)

/-- ACTIVATE(g) (R98): sent when SETTINGS(g) has been acknowledged, else due on its acknowledgement. -/
def sendActivate (d : Device) (k g : Nat) : Device :=
  if (d.link k).ackedGen = some g then
    (d.modLink k (fun x => { x with activateDue := x.activateDue.filter (fun h => h != g) })).request k 0x03 (le 4 g)
  else d.modLink k (fun x => { x with activateDue := x.activateDue.filter (fun h => h != g) ++ [g] })

/-! ## The MODE of a camera (R82, R96, R100, R101) -/

/-- The FULL conditions of R82 bar the acknowledgement. -/
def fullReady (d : Device) (k : Nat) : Bool :=
  let ls := d.lanesOfLink k
  let us := (d.link k).usable.map Prod.fst
  ls != [] && ls.all (fun l => us.contains l && d.lstate l == LS.service) && octet (d.link k).refIdent 12 == ls.length

/-- Some lane of the mask is excluded, or LANES differs from the number of lanes in the mask (R82). -/
def mismatch (d : Device) (k : Nat) : Bool :=
  d.num .CH_LANES_EXCLUDED k != 0 || octet (d.link k).refIdent 12 != (d.lanesOfLink k).length

/-- The preview stride now (R100). -/
def strideNow (d : Device) (k : Nat) : Nat :=
  let c := (d.link k).usable.foldl (fun a e => a + rungRate e.2) 0
  (d.liveView k).stride (d.chPixels k) (d.chDark k) c

/-- MODE and STRIDE that the camera should have: STOP with the stride above 255 or in STANDBY, FULL or PREVIEW (R100, R101). -/
def modeWanted (d : Device) (k : Nat) : Nat × Nat :=
  if d.resting then (0, 0)
  else if d.fullReady k then (2, 0)
  else
    let m := d.strideNow k
    if 255 < m then (0, 0) else (1, m)

/-- CH_LINK_STATE by R82. -/
def linkStateNow (d : Device) (k : Nat) : Nat :=
  let x := d.link k
  if x.up = false then 0
  else if x.step < 6 then 1
  else if d.fullReady k && x.modeAcked = 2 then 3
  else if d.mismatch k then 4
  else 2

/-- The link state is brought up to date. -/
def refreshState (d : Device) (k : Nat) : Device := if k < 16 then d.set .CH_LINK_STATE k (d.linkStateNow k) else d

/-- MODE is sent (R96); the stride in force follows it. -/
def sendMode (d : Device) (k : Nat) (m : Nat × Nat) : Device :=
  let d := d.modLink k (fun x => { x with modeSent := m })
  d.request k 0x04 [m.1, m.2]

/-- A channel in RESTARTING enters ON once its slices are assigned and MODE has been sent, or its link is DOWN (R109). -/
def enterOn (d : Device) (k : Nat) : Device :=
  if d.num .CH_STATE k = 3 && d.num .CH_SLICES k != 0 && (!(d.link k).up || (d.link k).modeSent.1 != 3) then
    (d.set .CH_STATE k 1).calRefresh k
  else d

/-- Step 6 of R100: MODE is sent while the channel is enabled; a camera whose settings fail R111 is sent STOP in its place. -/
def bringMode (d : Device) (k : Nat) : Device :=
  if d.on .CH_ENABLE k = false || (d.link k).step < 5 then d.refreshState k
  else if d.num .CH_CAM_FAULT k ≠ 0 then ((d.sendMode k (0, 0)).enterOn k).refreshState k
  else if d.resting then d.refreshState k
  else
    let d := d.modLink k (fun x => { x with step := 6 })
    let m := d.strideNow k
    let d := (d.sendMode k (if 255 < m then (0, 0) else (1, m))).enterOn k
    -- step 7: FULL follows when its conditions are met
    (if d.fullReady k then d.sendMode k (2, 0) else d).refreshState k

/-- MODE has to be sent again though the usable lanes are the same: the FULL conditions are met or lost by a change of the mask (R100, R101). -/
def modeStale (d : Device) (k : Nat) : Bool := decide (6 ≤ (d.link k).step) && d.fullReady k != decide ((d.link k).modeSent = (2, 0))

/-- MODE follows a change of the usable lanes or their rungs (R100, R101). -/
def remode (d : Device) (k : Nat) : Device :=
  if (d.link k).step < 6 then d.refreshState k
  else
    let m := d.modeWanted k
    let d := if m = (2, 0) && (d.link k).modeSent = (2, 0) then d else d.sendMode k m
    d.refreshState k

/-! ## Forming and falling (R82, R84, R100) -/

/-- The link forms (R82, R84, R87, R93, R99, R117): counts, credits and everything remembered of the camera's lines begin anew; the device
sends its credit update. -/
def linkForm (d : Device) (k : Nat) : Device :=
  let d := d.modLink k (fun x =>
    { ({} : Link) with
      up := true, refLane := x.refLane, refIdent := x.refIdent, usable := x.usable, tag := x.tag, step := 2
      ingest := x.ingest, camFlags := x.camFlags, camLines := x.camLines, camGen := x.camGen, temps := x.temps
      farFold := x.farFold, ringOk := x.ringOk })
  let d := { d with fronts := modTab 16 {} d.fronts k (fun f => { f with lastCor := [none, none] }) }
  d.sendCredits k

/-- The link falls (R82, R99, R101, R112): the request outstanding ends, a register access reads TIMEOUT, CH_TIME_OK and CH_CAMSET_BUSY clear. -/
def linkFall (d : Device) (k : Nat) : Device :=
  let busy := match (d.link k).out with
    | some r => r.op == 0x06 || r.op == 0x07
    | none => false
  let queued := (d.link k).queue.any (fun e => e.1 == 0x06 || e.1 == 0x07)
  let d := d.modLink k (fun x => { x with
    up := false, refLane := none, refIdent := [], credited := false, out := none, queue := [], step := 0
    tx := List.replicate 4 {}, rx := List.replicate 4 {}, asm := none, dark := none, activateDue := [], fullTail := false
    ingest := x.ingest.map (fun r => { r with credits := 0 })
    modeSent := (3, 0), modeAcked := 3 })
  if k < 16 then
    let d := if busy || queued then d.set .CH_CREG_STATUS k 3 else d
    let d := (d.setOn .CH_TIME_OK k false).setOn .CH_CAMSET_BUSY k false
    let d := d.set .CH_PREVIEW_STRIDE k 0
    (d.enterOn k).refreshState k
  else d

/-- The lanes of a link judged against its reference IDENT (R82): those matched already keep their ordinals, then the others in rising
number; the first of an ordinal keeps it. Gives the matched lanes. -/
def judgeLanes (d : Device) (ref : Octets) (ls : List Nat) : List Nat :=
  let fits (l : Nat) : Bool := match (d.lane l).ident with
    | some i => i.take 13 == ref.take 13
    | none => false
  let ord (l : Nat) : Nat := octet ((d.lane l).ident.getD []) 13
  let order := ls.filter (fun l => (d.lane l).matched) ++ ls.filter (fun l => !(d.lane l).matched)
  (order.filter fits).foldl (fun acc l => if acc.any (fun m => ord m == ord l) then acc else acc ++ [l]) []

/-- LANE_MATCH (R82): the reference lane while the link is down is the lowest of the mask that has received an IDENT; every lane that has
one is matched or excluded. -/
def matchLanes (d : Device) (k : Nat) : Device :=
  let ls := d.lanesOfLink k
  let x := d.link k
  let ref := if x.up then x.refLane else ls.find? (fun l => (d.lane l).ident.isSome)
  let rid := if x.up then x.refIdent else (ref.bind (fun l => (d.lane l).ident)).getD []
  let d := d.modLink k (fun x => { x with refLane := ref, refIdent := rid })
  let ms := if ref.isSome then d.judgeLanes rid ls else []
  let mark (d : Device) (l : Nat) : Device :=
    let m := ms.contains l
    d.modLane l (fun y => { y with matched := m, excluded := y.ident.isSome && !m })
  let d := ls.foldl mark d
  if k < 16 then d.set .CH_LANES_EXCLUDED k (bitMap 32 (fun l => ls.contains l && (d.lane l).excluded)) else d

/-- The usable lanes of a link with their rungs (R82): matched, and in LOW, RELOCK or SERVICE. -/
def usableLanes (d : Device) (k : Nat) : List (Nat × Nat) :=
  ((d.lanesOfLink k).filter (fun l =>
    (d.lane l).matched && (d.lstate l == LS.low || d.lstate l == LS.relock || d.lstate l == LS.service))).map (fun l => (l, d.lrung l))

/-- A link after anything that may have changed its lanes: matching, forming, falling, its state and MODE (R82, R100, R101). -/
def relink (d : Device) (k : Nat) : Device :=
  let before := (d.link k).usable
  let d := d.matchLanes k
  let us := d.usableLanes k
  let d := d.modLink k (fun x => { x with usable := us })
  let d := if k < 16 then d.set .CH_LANES_USABLE k (bitMap 32 (fun l => us.any (fun e => e.1 == l))) else d
  if us = [] then (if (d.link k).up then (d.linkFall k).matchLanes k else d.refreshState k)
  else if (d.link k).up = false then
    let d := d.linkForm k
    d.refreshState k
  else if us ≠ before || d.modeStale k then
    -- a FULL channel that a lane leaves SERVICE from
    let tail := decide (k < 16) && d.num .CH_LINK_STATE k == 3 && (d.lanesOfLink k).any (fun l => d.lstate l != LS.service)
    let d := if tail then d.modLink k (fun x => { x with fullTail := true }) else d
    (d.remode k).pump k
  else d.refreshState k

/-- The link of a lane after a change of the lane. -/
def laneChanged (d : Device) (l : Nat) : Device :=
  match d.linkOfLane l with
  | some k => d.relink k
  | none => d

/-- A control timeout of bring-up or MODE (R97): ABORT with reason 3 on every lane of the mask, and the channel starts again from DOWN. -/
def restartLink (d : Device) (k : Nat) : Device :=
  let each (d : Device) (l : Nat) : Device := if d.lstate l = LS.off then d else (d.sendAbort l 3).toSeek l
  ((d.lanesOfLink k).foldl each d).relink k

/-- A control request has timed out (R97): by its operation. -/
def controlTimeout (d : Device) (k op : Nat) : Device :=
  let d := if k < 16 then d.bump .CH_CTRL_TIMEOUT k else d
  if op = 0x06 ∨ op = 0x07 then (d.set .CH_CREG_STATUS k 3).endRequest k
  else if op = 0x05 then
    let d := d.modLink k (fun x => { x with echoBad := x.echoBad + 1, echoGood := 0 })
    let d := if 3 ≤ (d.link k).echoBad then d.setOn .CH_TIME_OK k false else d
    d.endRequest k
  else d.restartLink k

end Device

end Sys2Proof.Machine
end

