-- ==== Sys2Proof/Machine/Lane.lean ====
section
/-!
DEFINITION. Rinar lanes: the training state machine and its limits (R58 to R61), training frames (R63, R64), superframes (R65 to R68), the
equaliser exchange (R69 to R71), loss of signal, and the hand-over of lane settings (R78).
-/
namespace Sys2Proof.Machine

/-- A link header is valid (R79) but for the binding of its DT: SYNC, HCRC, LENGTH and the reserved bits. -/
def headerForm (h : Octets) : Bool :=
  octet h 0 == 0x5C && slice h 6 2 == crcTail (h.take 6) && 1 ≤ leAt h 4 2 && leAt h 4 2 ≤ 8192 && octet h 1 % 8 == 0

/-- A data type with its VC on a kind of lane in the direction to the device (R81, R102, R415): fold links carry fold traffic and credit
updates only. -/
def dtBound (fold : Bool) (dt vc : Nat) : Bool :=
  if fold then
    (dt == 0x3D && vc == 2) || (0x40 ≤ dt && dt ≤ 0x44 && vc == 2) ||
      ((dt == 0x45 || dt == 0x46) && vc == 1) || (dt == 0x47 && vc == 0) || (0x48 ≤ dt && dt ≤ 0x4B && vc == 1) ||
      (dt == 0x4C && vc == 3) || (dt == 0x4D && vc == 1)
  else
    ((isLineDt dt || dt == 0x2F) && vc == 0) || ((dt == 0x30 || dt == 0x31) && vc == 1) ||
      ((dt == 0x38 || dt == 0x3D) && vc == 2) || (dt == 0x3F && vc == 3)

/-- A valid header (R79). -/
def headerOk (fold : Bool) (h : Octets) : Bool := headerForm h && dtBound fold (octet h 2) (octet h 1 / 64)

namespace Device

/-- TRAINING_COMPLETE (R58, R71): each end has sent RX_READY and received it in three consecutive frames or markers; TRAIN1 and RELOCK lead
to LOW, TRAIN2 to SERVICE. -/
def trainingComplete (d : Device) (l : Nat) : Device :=
  let x := d.lane l
  let st := d.lstate l
  if x.ready && 3 ≤ x.readyGot then
    if st = LS.train1 then (d.toLow l).laneChanged l
    else if st = LS.relock && x.comma then (d.toLow l).laneChanged l
    else if st = LS.train2 then (d.toService l).laneChanged l
    else d
  else d

/-- The capability check of IDENT (R58). The manual does not say what it compares: here the KIND belongs to the lane and MAX_RUNG names a
rung (DESIGN CHOICE, log entry 53). -/
def capable (l : Nat) (ident : Octets) : Bool :=
  octet ident 16 == (if l < 32 then 0 else 1) && octet ident 14 % 4 != 0

/-- The far end supports rung 2 (R63). -/
def farRung2 (ident : Octets) : Bool := octet ident 14 % 4 == 2

/-- The far end supports 2H (R63). -/
def far2H (ident : Octets) : Bool := octet ident 14 % 4 == 3 || bit (octet ident 14) 7

/-- FOLD_LINK_CHECK (R411): the FOLD_ID of a fold link's neighbour against the ring. A west neighbour has a lower FOLD_ID, or is the highest
device expected with this device as bellwether; the east neighbour is checked in the mirror image. -/
def ringFits (d : Device) (k far : Nat) : Bool :=
  let me := d.num .FLD_ID 0
  let highest := maxNat (bitsOf 8 (d.num .FLD_EXPECT 0))
  if k = 16 then far < me || (me == 0 && far == highest)
  else me < far || (far == 0 && me == highest)

/-- The check of a fold link's neighbour; a failing one counts in FLD_LINK_REFUSED. -/
def foldLinkCheck (d : Device) (l far : Nat) : Device :=
  match d.linkOfLane l with
  | some k =>
    if k < 16 then d else
    let ok := d.ringFits k far
    (d.modLink k (fun x => { x with farFold := some far, ringOk := ok })).bumpIf (!ok) .FLD_LINK_REFUSED 0
  | none => d

/-- A SLEEP frame (R63). -/
def sendSleep (d : Device) (l action dir : Nat) : Device := d.sendFrame l 0x06 [action, dir]

/-- The device's transmitter wakes, or gives up falling asleep (R76): its rung and coefficients, P(−1) = 0, idle fill of 64 µs or 12
superframes, and packets when that has been sent. -/
def txWake (d : Device) (l : Nat) : Device :=
  let x := (d.lane l).tx
  if bit (d.num .LNK_SLEEP_STATE l) 0 || x.closing then
    let d := d.set .LNK_SLEEP_STATE l (clearBit (d.num .LNK_SLEEP_STATE l) 0)
    let n := if d.lrung l ≤ 1 then 64 else 12
    let d := d.modLane l (fun y => { y with tx := { y.tx with
      fill := n, nod := none, closing := false, lastP := 0, elapsed := 4 * 699040, chars := [], left := [] } })
    d.emit (.lane l "wake")
  else if x.nod.isSome then d.modLane l (fun y => { y with tx := { y.tx with nod := none } })
  else d

/-- A rung change asked for while a direction sleeps wakes that direction first (R77): this end's transmitter, then by SLEEP WAKE the far one. -/
def wakeForChange (d : Device) (l : Nat) : Device :=
  let d := d.txWake l
  if bit (d.num .LNK_SLEEP_STATE l) 1 then d.sendSleep l 5 1 else d

/-- A valid IDENT (R58, R63): stored; with comma lock it takes a lane in SEEK to IDENT; in IDENT, capabilities are checked and STEP1 begins,
with the RUNG_REQ of the end that leads. -/
def identIn (d : Device) (l : Nat) (f : Octets) : Device :=
  let body := slice f 4 26
  let st := d.lstate l
  if st = LS.off then d
  else if st = LS.seek && (d.lane l).comma == false then d
  else
    let d := (d.setOct .LNK_FAR_ID l body).modLane l (fun x => { x with ident := some body })
    let d := d.foldLinkCheck l (octet body 17)
    let d :=
      if st = LS.seek then
        let d := d.setLane l LS.ident 0
        (d.sendFrame l 0x02 (d.ownIdent l)).modLane l (fun x => { x with identSent := true })
      else if st = LS.ident then
        if capable l body then
          let d := d.setLane l LS.step1 0
          if d.leads l then d.startChange l 1 1 else d
        else (d.sendAbort l 2).toSeek l
      else d
    d.laneChanged l

/-- A valid DISCOVER with comma lock takes a lane in SEEK to IDENT, where it sends its own IDENT (R58). -/
def discoverIn (d : Device) (l : Nat) : Device :=
  if d.lstate l = LS.seek && (d.lane l).comma then
    let d := d.setLane l LS.ident 0
    (d.sendFrame l 0x02 (d.ownIdent l)).modLane l (fun x => { x with identSent := true })
  else d

/-- A RUNG_REQ received (R61): answered with RUNG_ACK echoing COUNT, or with ABORT for a rung the device does not have; at COUNT 0 this end
switches. A direction asleep is woken first (R77). Where it crosses a request of this end, the request of the end that leads stands (log
entry 53). A lane in OFF has its receiver off (R58). -/
def rungReqIn (d : Device) (l : Nat) (f : Octets) : Device :=
  let target := octet f 4
  let count := octet f 5
  let st := d.lstate l
  let own : Bool := match (d.lane l).change with
    | some c => c.asks
    | none => false
  if st = LS.off || st = LS.seek || st = LS.test then d
  else if target = 0 ∨ 3 < target then ((d.sendAbort l 1).toSeek l).laneChanged l
  else if own && d.leads l then d
  else
    let d := d.wakeForChange l
    let d := d.modLane l (fun x => { x with
      change := some { target := target, count := count, preset := octet f 6, asks := false } })
    let d := d.sendFrame l 0x04 [target, count]
    if count = 0 then (d.rungSwitch l).laneChanged l else d

/-- A RUNG_ACK received (R61): the request is answered, and at COUNT 0 both transmitters switch. -/
def rungAckIn (d : Device) (l : Nat) (f : Octets) : Device :=
  match (d.lane l).change with
  | some c =>
    if c.asks && !c.switched && octet f 4 = c.target then
      let d := d.modLane l (fun x => { x with change := some { c with acked := true } })
      if c.sentZero then (d.rungSwitch l).laneChanged l else d
    else d
  | none => d

/-- One coefficient step (R69): the new coefficient and the tap's STATUS, within its limits and the limit of the sum of magnitudes, `rest`
being the magnitudes of the other taps. -/
def stepTap (req : Nat) (lo hi c rest : Int) : Int × Nat :=
  if req = 1 then
    if hi < c + 1 ∨ 64 < rest + (c + 1).natAbs then (c, 3) else (c + 1, 1)
  else if req = 2 then
    if c - 1 < lo ∨ 64 < rest + (c - 1).natAbs then (c, 2) else (c - 1, 1)
  else (c, 0)

/-- A far end's REQUEST applied to the device's transmitter (R69): taps from c(−2) to c(1), each seeing those before it already moved. A
three-tap transmitter ignores c(−2). -/
def applyRequest (four : Bool) (eq req : Nat) : Nat × Nat :=
  let tap (k : Nat) : Int := toSigned 8 (field eq (8 * k + 7) (8 * k))
  let lo (k : Nat) : Int := match k with | 0 => 0 | 1 => -16 | 2 => 32 | _ => -24
  let hi (k : Nat) : Int := match k with | 0 => 8 | 1 => 0 | 2 => 64 | _ => 0
  let one (acc : List Int × Nat) (k : Nat) : List Int × Nat :=
    let (cs, st) := acc
    if k = 0 && !four then acc else
    let rest : Int := sumI ((List.range 4).map (fun j => if j = k then 0 else ((cs.getD j 0).natAbs : Int)))
    let (c, s) := stepTap (field req (2 * k + 1) (2 * k)) (lo k) (hi k) (cs.getD k 0) rest
    (modAt cs k (fun _ => c), st + s * 4 ^ k)
  let (cs, st) := [0, 1, 2, 3].foldl one ([tap 0, tap 1, tap 2, tap 3], 0)
  ((List.range 4).foldl (fun a k => a + ofSigned 8 (cs.getD k 0) * 256 ^ k) 0, st)

/-- An EQ frame received (R69, R71): its request is applied to the device's transmitter once, and its STATUS answered until the request
returns to hold; the far end's coefficients and RX_READY are taken; when the far end has answered the device's request and returned to
"not updated", the next request is made. -/
def eqIn (d : Device) (l : Nat) (f : Octets) : Device :=
  let st := d.lstate l
  if st = LS.train1 || st = LS.train2 || st = LS.relock then
    let req := octet f 4
    let pre := octet f 5 % 4
    let stat := octet f 6
    let d := d.set .LNK_FAR_TX_EQ l (leAt f 10 4)
    let rdy := bit (octet f 7) 0
    let d := d.modLane l (fun x => { x with readyGot := if rdy then x.readyGot + 1 else 0 })
    -- the far end's request
    let d :=
      if st = LS.relock then d
      else if req = 0 && pre = 0 then d.modLane l (fun x => { x with eqStatus := 0 })
      else if (d.lane l).eqStatus ≠ 0 then d
      else if pre ≠ 0 then
        (d.set .LNK_TX_EQ l (presetEq pre)).modLane l (fun x => { x with eqStatus := if st = LS.train2 then 0x55 else 0x54 })
      else
        let (eq, s) := applyRequest (st = LS.train2) (d.num .LNK_TX_EQ l) req
        (d.set .LNK_TX_EQ l eq).modLane l (fun x => { x with eqStatus := s })
    -- the device's own request
    let x := d.lane l
    let d :=
      if st = LS.relock || x.eqDone then d.sendEq l
      else if !x.eqAcked && stat ≠ 0 then
        let v := d.num .LNK_CODE_VIOL l
        (d.modLane l (fun y => { y with eqAcked := true, eqReq := 0, eqPreset := 0, violMark := v, window := [] })).sendEq l
      else if x.eqAcked && stat = 0 then d.nextRequest l
      else d.sendEq l
    d.trainingComplete l
  else d

/-- An ABORT received (R61, R63): the lane goes to SEEK; reason 1 for a rung change leaves the request unanswered, with the exit that R58
gives the state, and in a state for which it gives none the change is dropped. -/
def abortIn (d : Device) (l : Nat) (f : Octets) : Device :=
  let st := d.lstate l
  if st = LS.off then d
  else if octet f 4 = 1 && st = LS.step2 then
    (((d.trainFail l).toLow l).modLane l (fun x => { x with retryWait := true })).laneChanged l
  else if octet f 4 = 1 && st = LS.step1 then ((d.trainFail l).toSeek l).laneChanged l
  else if octet f 4 = 1 && (d.lane l).change.isSome then d.modLane l (fun x => { x with change := none })
  else (d.toSeek l).laneChanged l

/-- The target rung of a step from LOW (R59); none when the lane stays in LOW. `retry` asks for 2H again after it has failed. -/
def stepTarget (d : Device) (l : Nat) (retry : Bool) : Option Nat :=
  let x := d.lane l
  match x.ident with
  | none => none
  | some i =>
    let max := d.num .LNK_RUNG_MAX l
    if max < 2 || !(farRung2 i || far2H i) then none
    else if max = 2 && farRung2 i && !x.failed2 then some 2
    else if (max = 3 || (x.failed2 && far2H i)) && (!x.failed2h || retry) then some 3
    else none

/-- STEP2 begins (R59, R61, R70): RUNG_REQ with the target and the start preset; a direction asleep is woken first (R77). -/
def startStep2 (d : Device) (l target : Nat) : Device :=
  let d := d.wakeForChange l
  ((d.set .LNK_STATE l LS.step2).startChange l target (d.startPreset l)).laneChanged l

/-- The lane's training fails with its state's failure exit (R58, R59). -/
def trainingFails (d : Device) (l : Nat) : Device :=
  let st := d.lstate l
  if st = LS.train1 then (d.failToSeek l).laneChanged l
  else if st = LS.train2 then ((((d.trainFail l).markFailed l (d.lrung l)).toRelock l)).laneChanged l
  else d

/-! ## Superframes -/

/-- RECOVER ends when marker lock is regained and the error ratio is met (R58, R71): 64 superframes, no uncorrectable codeword, at most 895
corrected symbols. -/
def windowMet (x : Lane) : Bool := x.marker && 64 ≤ x.window.length && (x.window.take 64).foldl (· + ·) 0 ≤ 895

/-- A counter of a link, where it has one: the channel's. -/
def linkBump (d : Device) (l : Nat) (r : Reg) : Device :=
  match d.linkOfLane l with
  | some k => if k < 16 then d.bump r k else d
  | none => d

/-- A flit at the receiver (R80): idle, part of a packet, or a loss of delineation. A header in form whose DT R81 does not allow is no valid
header (R79): delineation is lost at it and its packet is refused. A packet carries the time `t` of the superframe of its first octet. -/
def flitIn (l t : Nat) (d : Device) (fl : List (Nat × Bool)) : Device :=
  let x := d.lane l
  let fold := decide (32 ≤ l)
  let octs := fl.map Prod.fst
  if x.flits ≠ [] then
    let got := x.flits ++ fl
    let need := 12 + leAt (got.map Prod.fst) 4 2
    if need ≤ got.length then
      let p := got.take need
      d.modLane l (fun y => { y with
        flits := [], arrived := y.arrived ++ [(p.map Prod.fst, p.any Prod.snd, y.flitTime)] })
    else d.modLane l (fun y => { y with flits := got })
  else if octs.all (· == 0) then d
  else if headerOk fold octs then
    let need := 12 + leAt octs 4 2
    if need ≤ fl.length then
      let p := fl.take need
      d.modLane l (fun y => { y with hunting := false, arrived := y.arrived ++ [(p.map Prod.fst, p.any Prod.snd, t)] })
    else d.modLane l (fun y => { y with hunting := false, flits := fl, flitTime := t })
  else if x.hunting then d
  else
    let d := if headerForm octs then d.linkBump l .CH_PKT_REFUSED else d
    (d.modLane l (fun y => { y with hunting := true })).linkBump l .CH_PKT_HDR

/-- A list in pieces of 16, at most `n`. -/
def flitsOf : Nat → List (Nat × Bool) → List (List (Nat × Bool))
  | 0, _ => []
  | n + 1, l => l.take 16 :: flitsOf n (l.drop 16)

/-- A training frame of a marker codeword or a test row is handled by its type (R63); sleep and test frames are given as `rest`. -/
def trainingFrame (rest : Nat → Octets → Device → Device) (l : Nat) (f : Octets) (d : Device) : Device :=
  if !frameOk f then d
  else match octet f 0 with
    | 0x02 => d.identIn l f
    | 0x03 => d.rungReqIn l f
    | 0x04 => d.rungAckIn l f
    | 0x05 => d.eqIn l f
    | 0x08 => d.abortIn l f
    | _ => rest l f d

/-- A superframe of 257 codewords as levels 0 to 3 (R65 to R68). `follows` says that it begins 699,040 symbols after the one before; `sleepTest`
handles SLEEP and TEST frames. Superframes are received at rungs 2 and 2H, and an inverted pair is inverted again (R57). RX_READY counts in
consecutive markers only (R71). -/
def superframeIn (sleepTest : Nat → Octets → Device → Device) (l : Nat) (follows : Bool) (levels : List Nat) (d : Device) : Device :=
  let st := d.lstate l
  if !(st = LS.train2 || st = LS.service || st = LS.recover) then d else
  let x := d.lane l
  let levels := if d.on .LNK_RX_INVERTED l then levels.map (fun p => 3 - p) else levels
  let (seen, cws) := superframe x.lastP levels
  let lastP := levels.getLastD 0
  -- marker lock (R67)
  let run := if seen then (if follows then x.seen + 1 else 1) else 0
  let miss := if seen then 0 else x.missed + 1
  let lock := if x.marker then decide (miss < 4) else 3 ≤ run
  let d := d.modLane l (fun y => { y with seen := run, missed := miss, marker := lock, lastP := lastP })
  let d := if lock && x.wakeWait then d.modLane l (fun y => { y with wakeWait := false }) else d
  if !lock then
    let d := d.modLane l (fun y => { y with window := [], readyGot := 0 })
    if st = LS.service && x.marker then (d.toRecover l).laneChanged l else d
  else
    let corr := cws.foldl (fun a c => a + c.corrected) 0
    let bad := (cws.filter (fun c => c.bad)).length
    let d := (d.add .LNK_FEC_CORR l corr).add .LNK_FEC_UNCORR l bad
    let d := d.modLane l (fun y => { y with window := if bad = 0 then (corr :: y.window).take 64 else [] })
    let (octs, reg) := payloadOctets x.scrambler (cws.drop 1)
    let d := d.modLane l (fun y => { y with scrambler := reg })
    -- the marker FRAME (R66)
    let m := cws.headD { symbols := [], corrected := 0, bad := true }
    let frame := (markerOctets m.symbols).drop 5
    let d := if m.bad || !frameIs 0x05 frame then d.modLane l (fun y => { y with readyGot := 0 }) else d
    let d := if m.bad || octet frame 0 = 0 then d else trainingFrame sleepTest l frame d
    -- the payload flits, in SERVICE (R80)
    let d :=
      if d.lstate l = LS.service && st = LS.service then
        (flitsOf 10280 octs).foldl (fun d fl => flitIn l d.now d fl) d
      else d
    if d.lstate l = LS.service && 4 ≤ bad then (d.toRecover l).laneChanged l
    else if d.lstate l = LS.recover && windowMet (d.lane l) then (d.toService l).laneChanged l
    else d

/-- Lane settings of the live set applied at a hand-over (R58, R78): a disabled lane goes to OFF at once, an enabled one in OFF to SEEK; a
LNK_RUNG_MAX below the current rung steps the lane down, and abandons a step up that has not switched; one that is `raised` starts STEP2 from
LOW. Of a lane at rung 2 whose LNK_RUNG_MAX becomes 3, which allows rung 2H only, the rule says nothing: it changes to 2H; one at 2H whose
LNK_RUNG_MAX becomes 2 stays there (DESIGN CHOICE, log entry 53). -/
def laneHandover (raised : Bool) (d : Device) (l : Nat) : Device :=
  let st := d.lstate l
  if d.laneAllowed l = false then
    if st = LS.off then d else (d.toOff l).laneChanged l
  else if st = LS.off then (d.toSeek l).laneChanged l
  else
    let max := d.num .LNK_RUNG_MAX l
    let rung := d.lrung l
    let x := d.lane l
    if st = LS.low then
      if raised && d.leads l && !x.retryWait && x.test.isNone && x.change.isNone then
        match d.stepTarget l false with
        | some t => d.startStep2 l t
        | none => d
      else d
    else if st = LS.step2 then (if max = 1 then (d.toLow l).laneChanged l else d)
    else if x.change.isSome then d
    else if (st = LS.service ∨ st = LS.train2 ∨ st = LS.recover) ∧ 2 ≤ rung ∧ max = 1 then (d.wakeForChange l).startChange l 1 1
    else if st = LS.service ∧ rung = 2 ∧ max = 3 then (d.wakeForChange l).startChange l 3 (d.startPreset l)
    else d

end Device

/-! ## The commands -/

/-- DISCOVER_SEND (R58); without the SerDes reference the transmitter is idle (R437). -/
def execDiscoverSend (l : Nat) (s : State) : Host.Outcome State Fault Refusal :=
  run (WF.discoverSend l) s fun d => if d.lstate l = LS.seek && d.sdUp then d.sendFrame l 0x01 [] else d

/-- COMMA_LOCK_ACQUIRE (R57, R58, R62): three K28.5 at one alignment within 256 characters; `inverted` says that at rung 0 the complement of the
comma was received. -/
def execCommaLockAcquire (l : Nat) (inverted : Bool) (s : State) : Host.Outcome State Fault Refusal :=
  run (WF.commaLockAcquire l inverted) s fun d =>
    let st := d.lstate l
    let rung := d.lrung l
    if st = LS.off ∨ 1 < rung then d
    else
      let d := d.modLane l (fun x => { x with comma := true, wakeWait := false })
      let d := if rung = 0 && inverted then d.setOn .LNK_RX_INVERTED l true else d
      if st = LS.step1 && rung = 1 then (d.toTrain1 l (presetEq 1)).laneChanged l
      else d.trainingComplete l

/-- COMMA_LOCK_LOSS (R62): `errors` invalid characters and disparity errors within 1,024 characters, each counted; 16 lose the lock. -/
def execCommaLockLoss (l errors : Nat) (s : State) : Host.Outcome State Fault Refusal :=
  run (WF.commaLockLoss l errors) s fun d =>
    if d.lstate l = LS.off ∨ 1 < d.lrung l then d
    else
      let d := if 16 ≤ errors then d.modLane l (fun x => { x with comma := false }) else d
      d.add .LNK_CODE_VIOL l errors

/-- DISCOVER_RX (R58). -/
def execDiscoverRx (l : Nat) (f : Octets) (s : State) : Host.Outcome State Fault Refusal :=
  run (WF.discoverRx l f) s fun d => if frameIs 0x01 f && d.sdUp then d.discoverIn l else d

/-- IDENT_RX (R63). -/
def execIdentRx (l : Nat) (f : Octets) (s : State) : Host.Outcome State Fault Refusal :=
  run (WF.identRx l f) s fun d => if frameIs 0x02 f then d.identIn l f else d

/-- RUNG_REQ_SEND (R61): COUNT goes down by one at each repeat; COUNT 0 sent and acknowledged switches. -/
def execRungReqSend (l : Nat) (s : State) : Host.Outcome State Fault Refusal :=
  run (WF.rungReqSend l) s fun d =>
    match (d.lane l).change with
    | some c =>
      if c.asks && !c.switched then
        let n := c.count - 1
        let d := d.modLane l (fun x => { x with change := some { c with count := n, sentZero := n = 0 } })
        let d := d.sendRungReq l
        if n = 0 && c.acked then (d.rungSwitch l).laneChanged l else d
      else d
    | none => d

/-- RUNG_REQ_RX (R61). -/
def execRungReqRx (l : Nat) (f : Octets) (s : State) : Host.Outcome State Fault Refusal :=
  run (WF.rungReqRx l f) s fun d => if frameIs 0x03 f then d.rungReqIn l f else d

/-- RUNG_ACK_RX (R61). -/
def execRungAckRx (l : Nat) (f : Octets) (s : State) : Host.Outcome State Fault Refusal :=
  run (WF.rungAckRx l f) s fun d => if frameIs 0x04 f then d.rungAckIn l f else d

/-- EQ_RX (R69). -/
def execEqRx (l : Nat) (f : Octets) (s : State) : Host.Outcome State Fault Refusal :=
  run (WF.eqRx l f) s fun d => if frameIs 0x05 f then d.eqIn l f else d

/-- RX_READY_SET (R71): the receiver's conditions are met after its last answered request: at rung 1 comma lock with LNK_CODE_VIOL unchanged for
1 ms, at rungs 2 and 2H the error ratio of 64 superframes. `snr` is the receiver's estimate. -/
def execRxReadySet (l snr : Nat) (s : State) : Host.Outcome State Fault Refusal :=
  run (WF.rxReadySet l snr) s fun d =>
    let d := d.set .LNK_RX_SNR l snr
    let d := if d.lrung l = 1 then d.modLane l (fun x => { x with snr1 := snr }) else d
    let st := d.lstate l
    let x := d.lane l
    let low := x.comma && d.num .LNK_CODE_VIOL l == x.violMark
    let met := ((st = LS.train1 || st = LS.relock) && low) || (st = LS.train2 && Device.windowMet x)
    if met && x.eqAcked then
      let d := d.modLane l (fun y => { y with eqDone := true, eqReq := 0, eqPreset := 0, ready := true })
      (d.sendEq l).trainingComplete l
    else d

/-- EQ_STEP_TIMEOUT (R69). -/
def execEqStepTimeout (l : Nat) (s : State) : Host.Outcome State Fault Refusal :=
  run (WF.eqStepTimeout l) s fun d =>
    let st := d.lstate l
    let x := d.lane l
    if (st = LS.train1 || st = LS.train2) && !x.eqAcked then
      if 2 ≤ x.eqTimeouts then d.trainingFails l
      else (d.modLane l (fun y => { y with eqTimeouts := y.eqTimeouts + 1 })).sendEq l
    else d

/-- PRESET_ROTATE (R70): the order 1, 2, 3, 1. -/
def execPresetRotate (l : Nat) (s : State) : Host.Outcome State Fault Refusal :=
  run (WF.presetRotate l) s fun d =>
    let x := d.lane l
    if d.lstate l = LS.train2 && !x.marker && x.rotations < 3 then
      let p := if x.preset = 3 then 1 else x.preset + 1
      (d.modLane l (fun y => { y with preset := p, rotations := y.rotations + 1 })).set .LNK_TX_EQ l (presetEq p)
    else d

/-- IDENT_TIMEOUT (R58, R64). -/
def execIdentTimeout (l : Nat) (s : State) : Host.Outcome State Fault Refusal :=
  run (WF.identTimeout l) s fun d => if d.lstate l = LS.ident then (d.failToSeek l).laneChanged l else d

/-- RUNG_ACK_TIMEOUT (R58, R61): no RUNG_ACK within 1 ms, or no comma lock within 1 ms of the switch; of an end that follows, no RUNG_REQ. R64
sends every request that is never answered to SEEK with ABORT reason 3, R58 and R61 give STEP2 its exit to LOW: R58 is followed (DEDUCED, log
entry 53). -/
def execRungAckTimeout (l : Nat) (s : State) : Host.Outcome State Fault Refusal :=
  run (WF.rungAckTimeout l) s fun d =>
    match (d.lane l).change with
    | some c =>
      if d.lstate l = LS.step1 && (!c.acked || c.switched) then (d.failToSeek l).laneChanged l
      else if d.lstate l = LS.step2 && !c.acked then
        (((d.trainFail l).toLow l).modLane l (fun x => { x with retryWait := true })).laneChanged l
      else if !c.acked then d.modLane l (fun x => { x with change := none })
      else d
    | none => if d.lstate l = LS.step1 then (d.failToSeek l).laneChanged l else d

/-- TRAIN1_TIMEOUT (R58). -/
def execTrain1Timeout (l : Nat) (s : State) : Host.Outcome State Fault Refusal :=
  run (WF.train1Timeout l) s fun d => if d.lstate l = LS.train1 then d.trainingFails l else d

/-- STEP2_START (R59): 1 ms after entering LOW. -/
def execStep2Start (l : Nat) (s : State) : Host.Outcome State Fault Refusal :=
  run (WF.step2Start l) s fun d =>
    if d.lstate l = LS.low && d.leads l && !(d.lane l).retryWait && (d.lane l).test.isNone then
      match d.stepTarget l false with
      | some t => d.startStep2 l t
      | none =>
        if (d.lane l).failed2h then d.modLane l (fun x => { x with retryWait := true }) else d
    else d

/-- STEP2_RETRY (R59): the 10 s retry wait expires. -/
def execStep2Retry (l : Nat) (s : State) : Host.Outcome State Fault Refusal :=
  run (WF.step2Retry l) s fun d =>
    if (d.lane l).retryWait then
      let d := d.modLane l (fun x => { x with retryWait := false })
      if d.lstate l = LS.low then
        match d.stepTarget l true with
        | some t => d.startStep2 l t
        | none => d
      else d
    else d

/-- TRAIN2_TIMEOUT (R58). -/
def execTrain2Timeout (l : Nat) (s : State) : Host.Outcome State Fault Refusal :=
  run (WF.train2Timeout l) s fun d => if d.lstate l = LS.train2 then d.trainingFails l else d

/-- RECOVER_TIMEOUT (R58, R59): the RELOCK counts as a failure of the rung from which the lane fell. -/
def execRecoverTimeout (l : Nat) (s : State) : Host.Outcome State Fault Refusal :=
  run (WF.recoverTimeout l) s fun d =>
    if d.lstate l = LS.recover then (((d.trainFail l).markFailed l (d.lrung l)).toRelock l).laneChanged l else d

/-- RELOCK_TIMEOUT (R58). -/
def execRelockTimeout (l : Nat) (s : State) : Host.Outcome State Fault Refusal :=
  run (WF.relockTimeout l) s fun d => if d.lstate l = LS.relock then (d.failToSeek l).laneChanged l else d

/-- SIGNAL_DETECT_LOSS (R58, R67): de-asserted for 1 µs, or (`long`) for 1 ms. A receiver whose far transmitter is asleep expects it. -/
def execSignalDetectLoss (l : Nat) (long : Bool) (s : State) : Host.Outcome State Fault Refusal :=
  run (WF.signalDetectLoss l long) s fun d =>
    let st := d.lstate l
    if st = LS.off || bit (d.num .LNK_SLEEP_STATE l) 1 then d
    else if long then (d.toSeek l).laneChanged l
    else if st = LS.service then (d.toRecover l).laneChanged l
    else d

/-- ABORT_RX (R63). -/
def execAbortRx (l : Nat) (f : Octets) (s : State) : Host.Outcome State Fault Refusal :=
  run (WF.abortRx l f) s fun d => if frameIs 0x08 f then d.abortIn l f else d

end Sys2Proof.Machine
end

