-- ==== Sys2Proof/Machine/LaneTest.lean ====
section
/-!
DEFINITION. Lane tests and loopbacks (R72 to R74), and the sleep of a direction (R75 to R77).
-/
namespace Sys2Proof.Machine

namespace Device

/-! ## Tests (R74) -/

/-- A test code is a PRBS code that does not belong to a rung (R72, R74). -/
def prbsMisfit (code rung : Nat) : Bool := ((code == 1 || code == 2) && 2 ≤ rung) || ((code == 3 || code == 4) && rung < 2)

/-- A TEST frame (R63). -/
def sendTest (d : Device) (l code ms action : Nat) : Device := d.sendFrame l 0x07 ([code] ++ le 2 ms ++ [action])

/-- A non-zero write of LNK_TEST in LOW or SERVICE (R74): TEST REQ. -/
def testAsk (d : Device) (l code : Nat) : Device :=
  let ms := d.num .LNK_TEST_MS l
  let d := d.set .LNK_TEST l code
  let eq := d.num .LNK_TX_EQ l
  let d := d.modLane l (fun x => { x with test := some { code := code, ms := ms, far := false, running := false, saved := eq } })
  d.sendTest l code ms 1

/-- The test begins (R74): the coefficients are saved, LNK_TEST_ERR is cleared, the lane is in TEST. -/
def testRun (d : Device) (l : Nat) : Device :=
  match (d.lane l).test with
  | some t =>
    let eq := d.num .LNK_TX_EQ l
    let d := (d.set .LNK_STATE l LS.test).set .LNK_TEST_ERR l 0
    let d := d.modLane l (fun x => { x with test := some { t with running := true, saved := eq }, checker := {} })
    (d.emit (.lane l "test")).laneChanged l
  | none => d

/-- NAK or silence (R74): far-end tests do not start and LNK_TEST_ERR reads 0xFFFF_FFFF; near-end loops start all the same. -/
def testRefused (d : Device) (l : Nat) : Device :=
  match (d.lane l).test with
  | some t =>
    if t.running || t.far then d
    else if t.code = 5 || t.code = 6 then d.testRun l
    else ((d.set .LNK_TEST l 0).set .LNK_TEST_ERR l 0xFFFFFFFF).modLane l (fun x => { x with test := none })
  | none => d

/-- A TEST REQ received (R61, R74): ACK, and the test runs; NAK outside LOW and SERVICE, during a rung change, or for a pattern that does not
belong to the rung. -/
def testReqIn (d : Device) (l : Nat) (f : Octets) : Device :=
  let st := d.lstate l
  let code := octet f 4
  let ms := leAt f 5 2
  if st = LS.off then d
  else if (st = LS.low || st = LS.service) && (d.lane l).change.isNone && 1 ≤ code && code ≤ 8 && !prbsMisfit code (d.lrung l) then
    let d := d.sendTest l code ms 2
    let d := d.modLane l (fun x => { x with test := some { code := code, ms := ms, far := true, running := false, saved := 0 } })
    d.testRun l
  else d.sendTest l code ms 3

/-- A TEST frame by its ACTION (R63, R74). -/
def testIn (d : Device) (l : Nat) (f : Octets) : Device :=
  match octet f 7 with
  | 1 => d.testReqIn l f
  | 2 =>
    match (d.lane l).test with
    | some t => if t.running || t.far then d else d.testRun l
    | none => d
  | 3 => d.testRefused l
  | _ => d

/-- The duration of a test expires (R74): both ends retrain from the saved coefficients. -/
def testExpire (d : Device) (l : Nat) : Device :=
  match (d.lane l).test with
  | some t =>
    if d.lstate l = LS.test then
      let d := d.set .LNK_TEST l 0
      let d := if d.lrung l ≤ 1 then d.toTrain1 l t.saved else d.toTrain2 l (d.lrung l) 1 t.saved
      d.laneChanged l
    else d
  | none => d

/-- LNK_TEST = 0 written (R74): a running test ends at the device only and the lane goes to SEEK; a request not yet answered is withdrawn. -/
def testStop (d : Device) (l : Nat) : Device :=
  let d := d.set .LNK_TEST l 0
  if d.lstate l = LS.test then (d.toSeek l).laneChanged l
  else d.modLane l (fun x => { x with test := none })

/-- One bit at the checker while it seeks lock (R72): it seeds itself from the received bits and counts those that it predicts. -/
def seekBit (code : Nat) (c : Checker) (b : Nat) : Checker :=
  let n := prbsLen code
  let reg := (c.reg * 2 + b) % 2 ^ n
  if c.filled < n then { c with reg := reg, filled := c.filled + 1, run := 0 }
  else if prbsNext code c.reg = b then { c with reg := reg, run := c.run + 1 }
  else { c with reg := reg, run := 0 }

/-- One unit at the checker while it seeks lock: a bit at rungs 0 and 1, the two bits of a symbol at PAM4 rungs, so that lock comes at the end
of a unit, after 64 error-free bits. -/
def seekUnit (code : Nat) (c : Checker) (bs : List Nat) : Checker :=
  let c := bs.foldl (seekBit code) c
  if 64 ≤ c.run then { c with locked := true, recent := [] } else c

/-- One unit at the locked checker: a bit at rungs 0 and 1, a symbol of two bits at PAM4 rungs. The generator runs on by itself; a wrong unit
counts, and 32 wrong of any 64 re-seed. -/
def countUnit (code : Nat) (c : Checker) (bs : List Nat) : Checker × Nat :=
  let step (acc : Nat × Bool) (b : Nat) : Nat × Bool :=
    let p := prbsNext code acc.1
    ((acc.1 * 2 + p) % 2 ^ prbsLen code, acc.2 || p != b)
  let (reg, wrong) := bs.foldl step (c.reg, false)
  let recent := (wrong :: c.recent).take 64
  if 32 ≤ (recent.filter id).length then ({}, b2n wrong)
  else ({ c with reg := reg, recent := recent }, b2n wrong)

/-- Received pattern bits through the checker; `w` bits make a unit. Gives the checker and the errors counted. -/
def checkBits (code w : Nat) : Nat → List Nat → Checker → Nat → Checker × Nat
  | 0, _, c, e => (c, e)
  | n + 1, bs, c, e =>
    match bs with
    | [] => (c, e)
    | _ =>
      if c.locked then
        let (c, k) := countUnit code c (bs.take w)
        checkBits code w n (bs.drop w) c (e + k)
      else checkBits code w n (bs.drop w) (seekUnit code c (bs.take w)) e

/-- The code of a test as this end takes part in it (R73). A code names the device and the far end, whichever end asks; on a fold lane, where
both ends are devices, the end that asks is the device: what it calls its far end is this one, and its near-end loops leave this end nothing
to do (DEDUCED, log entry 53). -/
def testRole (l : Nat) (t : LaneTest) : Nat :=
  if t.far && 32 ≤ l then
    match t.code with
    | 5 => 0
    | 6 => 0
    | 7 => 8
    | 8 => 7
    | c => c
  else t.code

/-- The pattern that a running test sends and checks (R72, R73): its own, or the PRBS31 of the rung in a loop whose signal the device checks. -/
def testPattern (l : Nat) (t : LaneTest) : Option Nat :=
  let r := testRole l t
  if 1 ≤ r && r ≤ 4 then some r
  else if 5 ≤ r && r ≤ 7 then some 2
  else none

/-- The running test of a lane. -/
def runningTest (d : Device) (l : Nat) : Option LaneTest :=
  match (d.lane l).test with
  | some t => if t.running then some t else none
  | none => none

/-- Bits of received levels as the test patterns are mapped (R72): Gray-mapped pairs without a precoder. -/
def levelBits (ps : List Nat) : List Nat := ps.flatMap grayBits

/-- Pattern bits as the receiver has them from the pair (R57, R72): complemented where the pair is inverted, which at PAM4 rungs complements the
level, 3 − G, and so the earlier bit of each pair. -/
def rightBits (inverted pam : Bool) (bs : List Nat) : List Nat :=
  if !inverted then bs
  else if pam then bs.zipIdx.map (fun e => if e.2 % 2 = 0 then 1 - e.1 else e.1)
  else bs.map (fun b => 1 - b)

/-- Received pattern bits at the checker of a lane whose test it belongs to (R72); wrong bits or symbols count in LNK_TEST_ERR. -/
def checkIn (d : Device) (l : Nat) (bits : List Nat) : Device :=
  match (d.runningTest l).bind (testPattern l) with
  | some code =>
    let w := if 2 ≤ d.lrung l then 2 else 1
    let (c, e) := checkBits code w bits.length bits (d.lane l).checker 0
    (d.modLane l (fun x => { x with checker := c })).add .LNK_TEST_ERR l e
  | none => d

/-- Bits leave a lane's pins at rungs 0 and 1, complemented by LNK_TX_INVERT (R57, R62). -/
def sendBits (d : Device) (l : Nat) (bits : List Nat) : Device :=
  d.emit (.bits l (if d.on .LNK_TX_INVERT l then bits.map (fun b => 1 - b) else bits))

/-- Symbols of P leave a lane's pins at rungs 2 and 2H as the levels 2P − 3, complemented by LNK_TX_INVERT (R57, R68). -/
def sendLevels (d : Device) (l : Nat) (ps : List Nat) : Device :=
  let sign : Int := if d.on .LNK_TX_INVERT l then -1 else 1
  d.emit (.levels l (ps.map (fun (p : Nat) => sign * (2 * (p : Int) - 3))))

/-- Pattern bits leave a lane's pins (R72): raw at rungs 0 and 1, in Gray-mapped pairs without a precoder at PAM4 rungs. -/
def sendPattern (d : Device) (l : Nat) (bits : List Nat) : Device :=
  if 2 ≤ d.lrung l then d.sendLevels l (grayPairs bits) else d.sendBits l bits

/-- A signal received in a test in which the device loops the far end's (R73): it is sent again, retimed but not decoded. -/
def loopBack (d : Device) (l : Nat) (bits : List Nat) : Device :=
  match d.runningTest l with
  | some t => if testRole l t = 8 then d.sendPattern l bits else d
  | none => d

/-! ## Sleep (R75 to R77) -/

/-- The device's transmitter begins to fall asleep (R75): no new packet; what it has begun is completed, then come 20 µs of idles or two superframes
of idle fill, SLEEP NOW, and electrical idle, as the ticks of the transmitter go by. -/
def txSleep (d : Device) (l : Nat) : Device :=
  let n := if d.lrung l ≤ 1 then 20 else 2
  d.modLane l (fun x => { x with sleepReq := none, sleepAcked := false, tx := { x.tx with nod := some n } })

/-- This end asks for sleep of a direction (R75): 0 its own transmitter, 1 its receiver. -/
def askSleep (d : Device) (l dir : Nat) : Device :=
  (d.modLane l (fun x => { x with sleepReq := some (dir, 0), sleepAcked := false })).sendSleep l 1 dir

/-- Sleep is possible: LOW or SERVICE, no rung change, no test (R75; rung 0 has no sleep). -/
def maySleep (d : Device) (l : Nat) : Bool :=
  let x := d.lane l
  (d.lstate l == LS.low || d.lstate l == LS.service) && x.change.isNone && x.test.isNone

/-- More than 1 ms of traffic is queued for a lane's outgoing direction (R75). -/
def busyTx (d : Device) (l : Nat) : Bool :=
  match d.linkOfLane l with
  | some k =>
    let octs := ((d.link k).tx.flatMap (fun t => t.waiting)).foldl (fun a p => a + 12 + p.payload.length) 0
    d.txLane k = some l && rungRate (d.lrung l) * 1000000 < octs * 8
  | none => false

/-- The device lets a camera's transmitter sleep (R77): the channel is not enabled, or the device is in STANDBY. -/
def mayFarSleep (d : Device) (l : Nat) : Bool :=
  match (if l < 32 then d.chanOfLane l else none) with
  | some n => !d.on .CH_ENABLE n || d.resting
  | none => true

/-- A rung change or a test is in progress on a lane (R75). -/
def laneBusy (d : Device) (l : Nat) : Bool := (d.lane l).change.isSome || (d.lane l).test.isSome || d.lstate l == LS.step1 || d.lstate l == LS.step2

/-- A SLEEP REQ received (R61, R75, R77). DIR 0 names the far transmitter, DIR 1 the device's; after an ACK for its own, the device's transmitter
enters sleep. NAK answers more than 1 ms of traffic, a rung change or a test, and a camera that R77 keeps awake. A request of the device for the
same direction has crossed it, and the owner of the transmitter answers once: the far end its own, the device its own, which ends the device's
request too. Rung 0 has no sleep. -/
def sleepReqIn (d : Device) (l dir : Nat) : Device :=
  let asked (r : Nat) : Bool := match (d.lane l).sleepReq with
    | some (x, _) => x == r
    | none => false
  if d.lstate l = LS.off || d.lrung l = 0 then d
  else if dir = 0 then
    if asked 1 then d else d.sendSleep l (if !d.laneBusy l && d.mayFarSleep l then 2 else 3) dir
  else if !d.laneBusy l && !d.busyTx l then (d.sendSleep l 2 dir).txSleep l
  else (d.sendSleep l 3 dir).modLane l (fun x => if asked 0 then { x with sleepReq := none } else x)

/-- A SLEEP frame by its ACTION (R63, R75, R76, R77). -/
def sleepIn (d : Device) (l : Nat) (f : Octets) : Device :=
  let dir := octet f 5
  match octet f 4 with
  | 1 => d.sleepReqIn l dir
  | 2 =>
    match (d.lane l).sleepReq with
    | some (0, _) => d.txSleep l
    | some (_, _) => d.modLane l (fun x => { x with sleepReq := none, sleepAcked := true })
    | none => d
  | 3 => d.modLane l (fun x => { x with sleepReq := none })
  | 4 =>
    if d.lstate l = LS.off || d.lrung l = 0 then d
    else
      (d.set .LNK_SLEEP_STATE l (setBit (d.num .LNK_SLEEP_STATE l) 1)).modLane l (fun x => { x with sleepAcked := false })
  | 5 =>
    -- the sender's receive direction is the device's transmitter; wake wins over a request that crossed it
    let d := d.modLane l (fun x => match x.sleepReq with
      | some (r, _) => if (r = 0) = (dir = 1) then { x with sleepReq := none } else x
      | none => x)
    if dir = 1 then d.txWake l else d
  | _ => d

/-- Frames that are not of the training itself (R63). -/
def sleepTestFrame (l : Nat) (f : Octets) (d : Device) : Device :=
  match octet f 0 with
  | 0x06 => d.sleepIn l f
  | 0x07 => d.testIn l f
  | _ => d

end Device

/-- A TEST frame with an ACTION. -/
def testFrame (action : Nat) (f : Octets) : Bool := frameIs 0x07 f && octet f 7 == action

/-- A SLEEP frame with an ACTION. -/
def sleepFrame (action : Nat) (f : Octets) : Bool := frameIs 0x06 f && octet f 4 == action

/-- SUPERFRAME_RX (R67); in a test the symbols are the far end's pattern, which is checked, or sent back (R72, R73). -/
def execSuperframeRx (l : Nat) (follows : Bool) (levels : List Nat) (s : State) : Host.Outcome State Fault Refusal :=
  run (WF.superframeRx l follows levels) s fun d =>
    if d.lstate l = LS.test && 2 ≤ d.lrung l then
      let bits := Device.levelBits (if d.on .LNK_RX_INVERTED l then levels.map (fun p => 3 - p) else levels)
      (d.loopBack l bits).checkIn l bits
    else Device.superframeIn Device.sleepTestFrame l follows levels d

/-- TEST_REQ_RX (R74). -/
def execTestReqRx (l : Nat) (f : Octets) (s : State) : Host.Outcome State Fault Refusal :=
  run (WF.testReqRx l f) s fun d => if testFrame 1 f then d.testReqIn l f else d

/-- TEST_ACK_RX (R74). -/
def execTestAckRx (l : Nat) (f : Octets) (s : State) : Host.Outcome State Fault Refusal :=
  run (WF.testAckRx l f) s fun d => if testFrame 2 f then d.testIn l f else d

/-- TEST_NAK_RX (R74). -/
def execTestNakRx (l : Nat) (f : Octets) (s : State) : Host.Outcome State Fault Refusal :=
  run (WF.testNakRx l f) s fun d => if testFrame 3 f then d.testRefused l else d

/-- TEST_REQ_TIMEOUT (R74): silence for 1 ms. -/
def execTestReqTimeout (l : Nat) (s : State) : Host.Outcome State Fault Refusal :=
  run (WF.testReqTimeout l) s fun d => d.testRefused l

/-- TEST_EXPIRE (R74). -/
def execTestExpire (l : Nat) (s : State) : Host.Outcome State Fault Refusal :=
  run (WF.testExpire l) s fun d => d.testExpire l

/-- PRBS_CHECKER_LOCK (R72): received pattern bits, in their order; in a test in which the device loops the far end's signal they are sent back
(R73). -/
def execPrbsCheckerLock (l : Nat) (bits : List Nat) (s : State) : Host.Outcome State Fault Refusal :=
  run (WF.prbsCheckerLock l bits) s fun d =>
    let bits := Device.rightBits (d.on .LNK_RX_INVERTED l) (2 ≤ d.lrung l) bits
    (d.loopBack l bits).checkIn l bits

/-- SLEEP_REQ_RX (R75). -/
def execSleepReqRx (l : Nat) (f : Octets) (s : State) : Host.Outcome State Fault Refusal :=
  run (WF.sleepReqRx l f) s fun d => if sleepFrame 1 f then d.sleepReqIn l (octet f 5) else d

/-- SLEEP_ACK_RX (R75). -/
def execSleepAckRx (l : Nat) (f : Octets) (s : State) : Host.Outcome State Fault Refusal :=
  run (WF.sleepAckRx l f) s fun d => if sleepFrame 2 f then d.sleepIn l f else d

/-- SLEEP_NAK_RX (R75). -/
def execSleepNakRx (l : Nat) (f : Octets) (s : State) : Host.Outcome State Fault Refusal :=
  run (WF.sleepNakRx l f) s fun d => if sleepFrame 3 f then d.sleepIn l f else d

/-- SLEEP_NOW_RX (R75). -/
def execSleepNowRx (l : Nat) (f : Octets) (s : State) : Host.Outcome State Fault Refusal :=
  run (WF.sleepNowRx l f) s fun d => if sleepFrame 4 f then d.sleepIn l f else d

/-- SLEEP_WAKE_RX (R76). -/
def execSleepWakeRx (l : Nat) (f : Octets) (s : State) : Host.Outcome State Fault Refusal :=
  run (WF.sleepWakeRx l f) s fun d => if sleepFrame 5 f then d.sleepIn l f else d

/-- SLEEP_REQ_REPEAT (R75): an unanswered request is repeated, and lapses after eight repeats. -/
def execSleepReqRepeat (l : Nat) (s : State) : Host.Outcome State Fault Refusal :=
  run (WF.sleepReqRepeat l) s fun d =>
    match (d.lane l).sleepReq with
    | some (dir, n) =>
      if 8 ≤ n then d.modLane l (fun x => { x with sleepReq := none })
      else (d.modLane l (fun x => { x with sleepReq := some (dir, n + 1) })).sendSleep l 1 dir
    | none => d

/-- LANE_AUTO_SLEEP (R77): 1 ms without outgoing packets on a camera lane with LNK_TX_SLEEP_AUTO. The rule does not say whether REQ and ACK come
first; the device owns the transmitter and sleeps it without them (DESIGN CHOICE, log entry 53). -/
def execLaneAutoSleep (l : Nat) (s : State) : Host.Outcome State Fault Refusal :=
  run (WF.laneAutoSleep l) s fun d =>
    if l < 32 && d.on .LNK_TX_SLEEP_AUTO l && d.maySleep l && !bit (d.num .LNK_SLEEP_STATE l) 0 then d.txSleep l else d

/-- LANE_TX_WAKE (R76). -/
def execLaneTxWake (l : Nat) (s : State) : Host.Outcome State Fault Refusal :=
  run (WF.laneTxWake l) s fun d => d.txWake l

/-- SIGNAL_DETECT_RETURN (R76). -/
def execSignalDetectReturn (l : Nat) (s : State) : Host.Outcome State Fault Refusal :=
  run (WF.signalDetectReturn l) s fun d =>
    if bit (d.num .LNK_SLEEP_STATE l) 1 then
      (d.set .LNK_SLEEP_STATE l (clearBit (d.num .LNK_SLEEP_STATE l) 1)).modLane l
        (fun x => { x with wakeWait := true, comma := false, marker := false, seen := 0, missed := 0, lastP := 0 })
    else d

/-- WAKE_LOCK_TIMEOUT (R76): no lock 2 ms after the signal returned. -/
def execWakeLockTimeout (l : Nat) (s : State) : Host.Outcome State Fault Refusal :=
  run (WF.wakeLockTimeout l) s fun d =>
    let x := d.lane l
    if x.wakeWait then
      let d := d.modLane l (fun y => { y with wakeWait := false })
      if d.lrung l ≤ 1 then (d.toRelock l).laneChanged l else (d.toRecover l).laneChanged l
    else d

end Sys2Proof.Machine
end

