-- ==== Sys2Proof/Machine/Packet.lean ====
section
/-!
DEFINITION. Receiving packets: the check of a packet, its order and its release (R79 to R86), loss, credits (R87, R88), lines and their
judgement (R89 to R93), dark blocks (R92, R117), and the reports of a camera (R94).
-/
namespace Sys2Proof.Machine

namespace Device

/-- The first packet released on a VC that a step takes, and the device without it. -/
def takePacket (d : Device) (k vc : Nat) (p : Packet → Bool) : Option (Packet × Device) :=
  match findIdxFrom p 0 (d.rxOf k vc).released with
  | none => none
  | some (i, x) => some (x, d.modRx k vc (fun r => { r with released := r.released.eraseIdx i }))

/-- The same, with its credits freed (R88): every packet but VC0's lines and the credit updates, which cost none. -/
def takeFree (d : Device) (k vc : Nat) (p : Packet → Bool) : Option (Packet × Device) :=
  match d.takePacket k vc p with
  | none => none
  | some (x, d) => some (x, d.freeCredits k vc x.cls x.cost)

/-- A packet in order is released (R86): it counts in CH_PKT_RX and waits to be taken. One that failed its CRC delivers nothing: on VC0 it is
kept as a failed segment of a camera's line, elsewhere it is dropped. -/
def releaseOne (d : Device) (k vc : Nat) (p : Packet) : Device :=
  let d := if k < 16 then d.bump .CH_PKT_RX k else d
  if p.payload.isNone && (vc ≠ 0 || 16 ≤ k) then d.freeCredits k vc p.cls p.cost
  else d.modRx k vc (fun r => { r with released := r.released ++ [p] })

/-- Packets held are released in SEQ32 order from the next count expected (R86); at most `n`. -/
def releaseRun (k vc : Nat) : Nat → Device → Device
  | 0, d => d
  | n + 1, d =>
    let r := d.rxOf k vc
    match getKeyed Prod.fst r.expect r.held with
    | none => d
    | some (_, p) =>
      let d := d.modRx k vc (fun r => { r with
        expect := (r.expect + 1) % 2 ^ 32, held := dropKeyed Prod.fst r.expect r.held })
      releaseRun k vc n (d.releaseOne k vc p)

/-- A lost or failed fold packet counts in FLD_LOST (R416). -/
def foldLost (d : Device) (k : Nat) : Device := if k < 16 then d else d.bump .FLD_LOST 0

/-- A packet received on a lane (R79 to R86): the header, the binding of its DT, its SEQ32, the CRC, duplicates and the credits; a packet that
passes is held and the packets in order are released. `err` marks an octet of a flagged codeword. -/
def packetIn (d : Device) (l : Nat) (p : Octets) (err : Bool) (t : Nat) : Device :=
  match d.linkOfLane l with
  | none => d
  | some k =>
    let usable := (d.link k).usable.any (fun e => e.1 == l)
    let fold := decide (16 ≤ k)
    let count (d : Device) (r : Reg) : Device := if fold then d else d.bump r k
    if !usable then d
    else if !headerForm p then count d .CH_PKT_HDR
    else
      let vc := octet p 1 / 64
      let dt := octet p 2
      if !dtBound fold dt vc then count d .CH_PKT_REFUSED
      else
        let len := leAt p 4 2
        let body := slice p 8 len
        let r := d.rxOf k vc
        let off := toSigned 8 (ofSigned 8 ((octet p 3 : Int) - r.expect))
        let seq := ofSigned 32 ((r.expect : Int) + off)
        let good := !err && 12 + len ≤ p.length &&
          leAt p (8 + len) 4 == crc32c ([vc, 0, 0, 0] ++ le 4 seq ++ p.take 6 ++ body)
        let cls := if fold && dt ≠ 0x3D then Nat.min 1 (octet body 3) else 0
        let cost := if dt = 0x3D then 0 else packetCost len
        let cr := r.cr.getD cls {}
        if off < 0 ∨ r.held.any (fun e => e.1 == seq) then (if good then count d .CH_PKT_REFUSED else count d .CH_PKT_CRC)
        else if good && dt ≠ 0x3D && 0 < toSigned 32 (ofSigned 32 ((cr.used : Int) + cost - cr.limit)) then count d .CH_PKT_REFUSED
        else
          let d := if good then d else (count d .CH_PKT_CRC).foldLost k
          let ctl := octet p 1
          let q : Packet :=
            { dt := dt, first := bit ctl 5, last := bit ctl 4, bin := bit ctl 3, cls := cls, cost := cost, time := t
              payload := if good then some body else none }
          let d := d.modRx k vc (fun r => { r with
            held := r.held ++ [(seq, q)]
            cr := modAt r.cr cls (fun c => { c with used := (c.used + cost) % 2 ^ 32 }) })
          releaseRun k vc (d.rxOf k vc).held.length d

/-! ## Lines (R89 to R93, R99) -/

/-- Signed difference of two counter values modulo 2^48. -/
def diff48 (a b : Nat) : Int := toSigned 48 (ofSigned 48 ((a : Int) - b))

/-- A time modulo 2^48 as total ns near the present. -/
def near (d : Device) (t48 : Nat) : Nat := ofSigned 64 ((d.now : Int) - diff48 (d.now % 2 ^ 48) t48)

/-- TRIG in device time (R99): O interpolated linearly in camera time between the two most recent echoes; while CH_TIME_OK is clear, the
receive time of the FIRST segment less the one-way delay. -/
def trigTime (d : Device) (n trig recv : Nat) : Nat :=
  let x := d.link n
  if d.on .CH_TIME_OK n then
    match x.echoes with
    | e1 :: e2 :: _ =>
      let span := diff48 e1.cam e2.cam
      let o := (e1.offset : Int) + (if span = 0 then 0 else diff48 e1.offset e2.offset * diff48 trig e1.cam / span)
      d.near (ofSigned 48 ((trig : Int) + o))
    | e1 :: _ => d.near (ofSigned 48 ((trig : Int) + e1.offset))
    | [] => recv
  else ofSigned 64 ((recv : Int) - x.delay)

/-- A line joins the ingest line buffer. -/
def ingestLine (d : Device) (n : Nat) (r : RawLine) : Device := d.modLink n (fun x => { x with ingest := x.ingest ++ [r] })

/-- Change what the judge remembers of a BIN value. -/
def modHist (d : Device) (n : Nat) (bin : Bool) (f : LineHistory → LineHistory) : Device :=
  d.modLink n (fun x => { x with hist := modTab 2 {} x.hist (b2n bin) f })

/-- The expected step of line numbers (R93): 1 at full resolution, 2m in preview. -/
def lineStep (d : Device) (n : Nat) (bin : Bool) : Nat := if bin then 2 * Nat.max 1 (d.num .CH_PREVIEW_STRIDE n) else 1

/-- The time from the last good line to line number `+diff` (R93): the difference in line numbers times the period measured over the last good
lines, or the nominal one. Where the quotient is no whole number of ns, which neighbour it takes is free. -/
def gapTime (d : Device) (n : Nat) (h : LineHistory) (diff : Int) : Int × Device :=
  let (num, den) : Int × Int :=
    match h.recent, h.recent.getLast? with
    | (l1, t1) :: _ :: _, some (l0, t0) => (diff * ((t1 : Int) - t0), serialDiff 32 l1 l0)
    | _, _ => (diff * 1000000000000, ((d.liveView n).rateMilli : Int))
  if den = 0 then (0, d)
  else if num % den = 0 then (num / den, d)
  else
    let (x, d) := d.fresh 2
    (num / den + x, d)

/-- A damaged line (R93): counted, and replaced by the last good line of its BIN value, or by zero samples, marked blind. -/
def damagedLine (d : Device) (n line : Nat) (bin restart : Bool) (dt credits : Nat) : Device :=
  let h := (d.link n).hist.getD (b2n bin) {}
  let d := d.bump .CH_LINES_DAMAGED n
  match h.good with
  | some (gen, gl, trig, temp) =>
    let (g, d) := d.gapTime n h (serialDiff 32 line gl)
    d.ingestLine n
      { gen := gen, line := line, trig := ofSigned 64 (trig + g), temp := temp, dt := dt, bin := bin, blind := true
        restart := restart, zeros := false, credits := credits, samples := [] }
  | none =>
    d.ingestLine n
      { gen := (d.fronts.getD n {}).camGen, line := line, trig := d.now, temp := 0x8000, dt := dt, bin := bin, blind := true
        restart := restart, zeros := true, credits := credits, samples := [] }

/-- The samples of packed octets (R90). -/
def unpackSamples (w n : Nat) (bs : Octets) : List Nat := gather w n (spread 8 bs)

/-- LINE_JUDGE (R93): a joined line, or one with a count declared lost, becomes accepted, damaged, a duplicate or a restart, after the damaged
lines of the numbers missing before it; a line whose BIN value the link state does not accept is discarded (R82), but for full lines that
still arrive after a lane of a FULL channel has left SERVICE, until the camera has acknowledged MODE (R101). The number of a line whose FIRST
segment is lost is not in what arrived: it is taken to be the one expected, and 0 where no line came before (DESIGN CHOICE, log entry 54). -/
def judge (d : Device) (n : Nat) (a : Assembly) : Device :=
  let st := d.num .CH_LINK_STATE n
  let accepts := if a.bin then st = 2 ∨ st = 4 else st = 3 ∨ ((st = 2 ∨ st = 4) ∧ (d.link n).fullTail)
  if !decide accepts then d.freeCredits n 0 0 a.credits
  else
    let x := d.link n
    let h := x.hist.getD (b2n a.bin) {}
    let exp := d.lineStep n a.bin
    let prev := h.lastLine.getD 0
    let line := if a.headless then (prev + (if h.lastLine.isSome then exp else 0)) % 2 ^ 32 else leAt a.octets 4 4
    let first := h.lastLine.isNone
    let relaxed := x.lastBin ≠ some a.bin ∨ x.afterStop
    let step := serialDiff 32 line prev
    if !first && decide (step ≤ 0) && decide (-65536 ≤ step) then
      (d.bump .CH_LINES_DUP n).freeCredits n 0 0 a.credits
    else
      let forward := decide (0 < step)
      let asExpected := first || step = exp || (decide relaxed && forward) || (decide ((exp : Int) < step) && decide (step ≤ 65536))
      let restart := !asExpected
      let d := if restart then d.bump .CH_LINE_RESTARTS n else d
      let missing :=
        if !first && asExpected && !decide relaxed && decide ((exp : Int) < step) then
          (List.range ((step.toNat - 1) / exp)).map (fun i => (prev + (i + 1) * exp) % 2 ^ 32)
        else []
      let d := missing.foldl (fun d m => d.damagedLine n m a.bin false a.dt 0) d
      let px := if a.bin then (d.chPixels n + 1) / 2 else d.chPixels n
      let count := px * dtPlanes a.dt
      let w := dtWidth a.dt
      let gen := leAt a.octets 0 4
      let bad := a.damaged || a.octets.length ≠ 16 + sampleOctets px (dtPlanes a.dt) w ||
        !((d.link n).sent.any (fun e => e.1 == gen && e.2.1 == a.dt))
      let d := d.modLink n (fun y => { y with lastBin := some a.bin, afterStop := false, lineDt := a.dt })
      let d :=
        if bad then d.damagedLine n line a.bin restart a.dt a.credits
        else
          let trig := d.trigTime n (leAt a.octets 8 6) a.time
          let temp := leAt a.octets 14 2
          let d := d.modHist n a.bin (fun y => { y with
            good := some (gen, line, trig, temp), recent := ((line, trig) :: y.recent).take 64 })
          d.ingestLine n
            { gen := gen, line := line, trig := trig, temp := temp, dt := a.dt, bin := a.bin, blind := false
              restart := restart, zeros := false, credits := a.credits, samples := unpackSamples w count (a.octets.drop 16) }
      d.modHist n a.bin (fun y => { y with lastLine := some line })

/-- A count on VC0 was declared lost while a line was being joined: the line is judged as damaged, and the rest of it is skipped (R93). -/
def lostInLine (d : Device) (n : Nat) : Device :=
  match (d.link n).asm with
  | some a =>
    if a.skip then d
    else
      let d := d.modLink n (fun x => { x with asm := some { a with skip := true, credits := 0 } })
      d.judge n { a with damaged := true }
  | none => d

/-- An unfinished line gives way to a new FIRST segment. -/
def closeLine (d : Device) (n : Nat) : Device :=
  match (d.link n).asm with
  | some a =>
    let d := d.modLink n (fun x => { x with asm := none })
    if a.skip then d.freeCredits n 0 0 a.credits else d.judge n { a with damaged := true }
  | none => d

/-- A released line segment is joined to its line (R89); at LAST the line is judged. -/
def segmentIn (d : Device) (n : Nat) (p : Packet) : Device :=
  let fail := p.payload.isNone
  let octs := p.payload.getD []
  let d := if p.first then d.closeLine n else d
  let a : Assembly := match (d.link n).asm with
    | some a => { a with octets := a.octets ++ octs, damaged := a.damaged || fail, credits := a.credits + p.cost }
    | none =>
      { dt := p.dt, bin := p.bin, octets := octs, damaged := fail || !p.first, headless := fail || !p.first
        credits := p.cost, time := p.time }
  if p.last then
    let d := d.modLink n (fun x => { x with asm := none })
    if a.skip then d.freeCredits n 0 0 a.credits else d.judge n a
  else d.modLink n (fun x => { x with asm := some a })

/-- Counts declared lost at the head of VC0's released packets are dealt with (R93); at most `k`. -/
def drainLost (n : Nat) : Nat → Device → Device
  | 0, d => d
  | k + 1, d =>
    match (d.rxOf n 0).released with
    | p :: rest =>
      if p.dt = 0 then drainLost n k ((d.modRx n 0 (fun r => { r with released := rest })).lostInLine n) else d
    | [] => d

/-! ## Dark blocks (R92, R117) -/

/-- BLACK_LEVEL_UPDATE (R117) of one plane from the sum of its D dark samples: the first block since the link formed and the first of a new GEN
set the level, others filter it. -/
def blackUpdate (w dn shift gen : Nat) (old : Option (Nat × Nat)) (sum : Nat) : Option (Nat × Nat) :=
  let m := (sum * 2 ^ (24 - w) + dn / 2) / dn
  match old with
  | some (b, g) =>
    if g = gen then some (((b : Int) + ((m : Int) - b) / 2 ^ shift).toNat, gen) else some (m, gen)
  | none => some (m, gen)

/-- The sums of the planes of a dark block's samples, in plane order (R90, R92). -/
def planeSums (p : Nat) (xs : List Nat) : List Nat :=
  (List.range p).map (fun q => ((xs.zipIdx).filter (fun e => e.2 % p == q)).foldl (fun a e => a + e.1) 0)

/-- A whole dark block that passed its CRC (R92, R117). -/
def darkBlock (d : Device) (n : Nat) (octs : Octets) : Device :=
  let dt := (d.link n).lineDt
  let w := dtWidth dt
  let p := dtPlanes dt
  let dn := d.chDark n
  if dn = 0 ∨ octs.length ≠ 16 + sampleOctets dn p w then d
  else
    let gen := leAt octs 0 4
    let sums := planeSums p (unpackSamples w (dn * p) (octs.drop 16))
    let k := d.num .CH_BLACK_SHIFT n
    d.modLink n (fun x => { x with
      black := (List.range 3).map (fun q =>
        if q < p then blackUpdate w dn k gen (x.black.getD q none) (sums.getD q 0) else x.black.getD q none) })

/-- A dark-block packet (R92): joined to its block; LAST completes it. -/
def darkIn (d : Device) (n : Nat) (p : Packet) : Device :=
  let d := d.freeCredits n 0 0 p.cost
  let fail := p.payload.isNone
  let octs := p.payload.getD []
  let a : Assembly := match (if p.first then none else (d.link n).dark) with
    | some a => { a with octets := a.octets ++ octs, damaged := a.damaged || fail }
    | none => { dt := 0x2F, bin := p.bin, octets := octs, damaged := fail || !p.first }
  if p.last then
    let d := d.modLink n (fun x => { x with dark := none })
    if a.damaged then d else d.darkBlock n a.octets
  else d.modLink n (fun x => { x with dark := some a })

end Device

/-! ## The commands -/

/-- PACKET_RX (R79): a packet framed at rung 1, given as its octets and the local time of the first; or the oldest packet delineated in the
superframes of a lane. -/
def execPacketRx (l : Nat) (direct : Option (List Nat × Nat)) (s : State) : Host.Outcome State Fault Refusal :=
  run (WF.packetRx l direct) s fun d =>
    match direct with
    | some (p, t) => if d.lrung l = 1 then d.packetIn l p false t else d
    | none =>
      match (d.lane l).arrived with
      | [] => d
      | (p, e, t) :: rest => (d.modLane l (fun x => { x with arrived := rest })).packetIn l p e t

/-- PACKET_LOSS_DECLARE (R86): the next count is declared lost while higher ones are held. Its credit cost is unknown to the receiver, and the
rules do not say that it is freed: it is neither counted nor freed (DESIGN CHOICE, log entry 54). -/
def execPacketLossDeclare (k vc : Nat) (s : State) : Host.Outcome State Fault Refusal :=
  run (WF.packetLossDeclare k vc) s fun d =>
    let r := d.rxOf k vc
    if r.held = [] then d
    else
      let d := if k < 16 then d.bump .CH_PKT_LOST k else d.foldLost k
      let lost : Packet :=
        { dt := 0, first := false, last := false, bin := false, cls := 0, cost := 0, time := 0, payload := none }
      let d := d.modRx k vc (fun r => { r with
        expect := (r.expect + 1) % 2 ^ 32
        released := if vc = 0 && k < 16 then r.released ++ [lost] else r.released })
      let d := if k < 16 ∧ vc = 0 then Device.drainLost k 1 d else d
      Device.releaseRun k vc r.held.length d

/-- LINE_SEGMENT_RX (R89). -/
def execLineSegmentRx (n : Nat) (s : State) : Host.Outcome State Fault Refusal :=
  run (WF.lineSegmentRx n) s fun d =>
    let d := Device.drainLost n (d.rxOf n 0).released.length d
    match d.takePacket n 0 (fun p => isLineDt p.dt) with
    | some (p, d) => d.segmentIn n p
    | none => d

/-- DARK_BLOCK_RX (R92). -/
def execDarkBlockRx (n : Nat) (s : State) : Host.Outcome State Fault Refusal :=
  run (WF.darkBlockRx n) s fun d =>
    match d.takePacket n 0 (fun p => p.dt == 0x2F) with
    | some (p, d) => d.darkIn n p
    | none => d

/-- CAMERA_STATUS_RX (R94). -/
def execCameraStatusRx (n : Nat) (s : State) : Host.Outcome State Fault Refusal :=
  run (WF.cameraStatusRx n) s fun d =>
    match d.takeFree n 1 (fun p => p.dt == 0x30) with
    | some (p, d) =>
      let b := p.payload.getD []
      (d.set .CH_CAM_DROPS n (leAt b 4 4)).modLink n
        (fun x => { x with camFlags := leAt b 0 4, camLines := leAt b 8 4, camGen := leAt b 12 4 })
    | none => d

/-- TEMPERATURE_RX (R94). -/
def execTemperatureRx (n : Nat) (s : State) : Host.Outcome State Fault Refusal :=
  run (WF.temperatureRx n) s fun d =>
    match d.takeFree n 1 (fun p => p.dt == 0x31) with
    | some (p, d) =>
      let b := p.payload.getD []
      d.modLink n (fun x => { x with temps := gather 16 (b.length / 2) (spread 8 b) })
    | none => d

/-- CREDIT_UPDATE_RX (R87, R100, R414): the cumulative limits rise; the first update of a camera begins its enumeration. -/
def execCreditUpdateRx (k : Nat) (s : State) : Host.Outcome State Fault Refusal :=
  run (WF.creditUpdateRx k) s fun d =>
    match d.takePacket k 2 (fun p => p.dt == 0x3D) with
    | some (p, d) =>
      let b := p.payload.getD []
      let raise (vc c : Nat) (cr : Credit) : Credit :=
        let cl := leAt b (16 * c + 4 * vc) 4
        if 16 * c + 4 * vc + 4 ≤ b.length ∧ 0 < serialDiff 32 cl cr.limit then { cr with limit := cl } else cr
      let d := (List.range 4).foldl (fun d vc =>
        d.modTx k vc (fun t => { t with cr := modAt (modAt t.cr 0 (raise vc 0)) 1 (raise vc 1) })) d
      let first := !(d.link k).credited
      let d := d.modLink k (fun x => { x with credited := true })
      let d := if first && k < 16 then d.set .CH_CREDIT_FAR_VC2 k (leAt b 8 4) else d
      let d := d.pump k
      if k < 16 && first && (d.link k).step = 2 then
        (d.modLink k (fun x => { x with step := 3 })).request k 0x01 []
      else d
    | none => d

/-- TEST_PACKET_RX (R81): counted on release, and discarded. -/
def execTestPacketRx (k : Nat) (s : State) : Host.Outcome State Fault Refusal :=
  run (WF.testPacketRx k) s fun d =>
    match d.takeFree k 3 (fun p => p.dt == 0x3F) with
    | some (_, d) => d
    | none => d

/-- CREDIT_UPDATE_SEND (R87). -/
def execCreditUpdateSend (k : Nat) (s : State) : Host.Outcome State Fault Refusal :=
  run (WF.creditUpdateSend k) s fun d => d.sendCredits k

end Sys2Proof.Machine
end

