-- ==== Sys2Proof/Machine/Camera.lean ====
section
/-!
DEFINITION. Camera control: responses and their status (R95 to R98), bringing a camera into service (R100, R111, R113), TIME_ECHO (R99) and the
camera's registers (R104).
-/
namespace Sys2Proof.Machine

namespace Device

/-- The response to the request outstanding with operation `op` (R95): the first one released, with its status. One whose TAG is not that of the
request is dropped. -/
def takeResponse (d : Device) (n op : Nat) : Option (Request × Packet × Octets) × Device :=
  match d.takeFree n 2 (fun p => p.dt == 0x38 && octet (p.payload.getD []) 2 == op) with
  | none => (none, d)
  | some (p, d) =>
    let b := p.payload.getD []
    match (d.link n).out with
    | some r => if r.op = op && r.tag = leAt b 0 2 && !r.waitBusy then (some (r, p, b), d) else (none, d)
    | none => (none, d)

/-- A BUSY answer (R97): the same request goes again 1 ms later; the tenth counts as a timeout. -/
def busyAnswer (d : Device) (n : Nat) (r : Request) : Device :=
  if 9 ≤ r.busies then d.controlTimeout n r.op
  else d.modLink n (fun x => { x with out := some { r with busies := r.busies + 1, waitBusy := true } })

/-- A response by its STATUS (R97): 0x00 is done; 0x01 and 0x02 count as a timeout; 0x03 is BUSY; 0x04 and 0x05 belong to one operation each; any
other is no answer. -/
def answered (d : Device) (n op : Nat) (done : Device → Request → Packet → Octets → Device)
    (other : Nat → Device → Request → Device) : Device :=
  match d.takeResponse n op with
  | (none, d) => d
  | (some (r, p, b), d) =>
    match octet b 3 with
    | 0 => done d r p b
    | 1 => d.controlTimeout n op
    | 2 => d.controlTimeout n op
    | 3 => d.busyAnswer n r
    | st => other st d r

/-- Step 4 of R100 with the check of R111: a set that fits the camera is sent under the live generation, which becomes the camera generation
(R113); one that does not sets CH_CAM_FAULT, and the camera is sent MODE STOP in place of step 6. -/
def settingsStep (d : Device) (n : Nat) : Device :=
  let v := d.liveView n
  let f := v.camFault (d.oct .CH_CAM_INFO n)
  let d := d.set .CH_CAM_FAULT n f
  if f = 0 then
    let g := d.num .CH_GEN_LIVE n
    let d := d.modFront n (fun x => { x with camGen := g })
    let d := d.modLink n (fun x => { x with step := 4, activateDue := [g] })
    d.sendSettings n g v
  else (d.modLink n (fun x => { x with step := 5 })).bringMode n

/-- The device time of an echo's ends made an offset (R99): O, its camera time and the one-way delay. -/
def echoOf (t1 c2 c3 t4 : Nat) : Echo × Int :=
  let a := ofSigned 48 ((t1 : Int) - c2)
  let b := ofSigned 48 ((t4 : Int) - c3)
  let o := ofSigned 48 ((a : Int) + diff48 b a / 2)
  let cam := ofSigned 48 ((c2 : Int) + diff48 c3 c2 / 2)
  ({ cam := cam, offset := o }, (diff48 t4 t1 - diff48 c3 c2) / 2)

/-- The residual of an echo against the two before it (R99); none with fewer. -/
def echoResid (es : List Echo) (e : Echo) : Option Int :=
  match es with
  | e1 :: e2 :: _ =>
    let span := diff48 e1.cam e2.cam
    if span = 0 then none
    else
      let pred := (e1.offset : Int) + diff48 e1.offset e2.offset * diff48 e.cam e1.cam / span
      some (diff48 e.offset (ofSigned 48 pred))
  | _ => none

/-- A TIME_ECHO answered (R99): the new offset and residual, and CH_TIME_OK. -/
def echoDone (d : Device) (n : Nat) (t4 : Nat) (b : Octets) : Device :=
  let x := d.link n
  let (e, delay) := echoOf x.echoT1 (leAt b 4 6) (leAt b 10 6) (t4 % 2 ^ 48)
  let res := echoResid x.echoes e
  let bad := match res with
    | some r => decide (1000 < r.natAbs)
    | none => false
  let good := if bad then 0 else if res.isSome then x.echoGood + 1 else x.echoGood
  let d := d.modLink n (fun y => { y with
    echoes := (e :: y.echoes).take 2, echoBad := 0, echoGood := good
    delay := if bad then y.delay else delay.toNat })
  let d := d.set .CH_TIME_OFFSET n e.offset
  let d := match res with
    | some r => d.setI .CH_TIME_RESID n (clampI (-2147483648) 2147483647 r)
    | none => d
  if bad then d.setOn .CH_TIME_OK n false
  else if 2 ≤ good then d.setOn .CH_TIME_OK n true
  else d

/-- A write of CH_CREG_GO (R104): REG_READ (1) or REG_WRITE (2) with the address, length and data given. -/
def cregGo (d : Device) (n v : Nat) : Device :=
  let len := d.num .CH_CREG_LEN n
  let head := le 4 (d.num .CH_CREG_ADDR n) ++ [len]
  let d := d.set .CH_CREG_STATUS n 1
  -- a channel whose link is down has no camera to ask: the request ends at once (R101)
  if (d.link n).up = false then d.set .CH_CREG_STATUS n 3
  else if v = 1 then d.request n 0x06 head
  else d.request n 0x07 (head ++ slice (d.oct .CH_CREG_DATA n) 0 len)

/-- The end of a register access that the camera refused (R97). -/
def cregRefused (n st : Nat) (d : Device) : Device :=
  if st = 5 then ((d.set .CH_CREG_STATUS n 4).set .CH_CREG_CAMCODE n st).endRequest n else d

end Device

/-- FIRST_CREDIT_TIMEOUT (R100): step 2 counts as a timeout under R97, and the channel starts again. -/
def execFirstCreditTimeout (n : Nat) (s : State) : Host.Outcome State Fault Refusal :=
  run (WF.firstCreditTimeout n) s fun d => if (d.link n).up && !(d.link n).credited then d.controlTimeout n 0x01 else d

/-- CONTROL_RETRANSMIT (R95): the request again with the same TAG, up to three times; then a timeout. -/
def execControlRetransmit (n : Nat) (s : State) : Host.Outcome State Fault Refusal :=
  run (WF.controlRetransmit n) s fun d =>
    match (d.link n).out with
    | some r =>
      if r.waitBusy then d
      else if 3 ≤ r.retries then d.controlTimeout n r.op
      else
        let d := d.modLink n (fun x => { x with out := some { r with retries := r.retries + 1 } })
        (d.bump .CH_CTRL_RETRY n).sendPacket n 2
          { dt := 0x39, ctl := 0, cls := 0, payload := le 2 r.tag ++ [r.op, 0] ++ r.args } (r.op = 0x03)
    | none => d

/-- CONTROL_BUSY_RETRY (R97): 1 ms after a BUSY answer, the same request with a new TAG. -/
def execControlBusyRetry (n : Nat) (s : State) : Host.Outcome State Fault Refusal :=
  run (WF.controlBusyRetry n) s fun d =>
    match (d.link n).out with
    | some r => if r.waitBusy then d.startRequest n { r with retries := 0 } (r.op = 0x03) else d
    | none => d

/-- GET_INFO_DONE (R100): CH_CAM_INFO and CH_CAM_ID are filled, and SETTINGS follows. -/
def execGetInfoDone (n : Nat) (s : State) : Host.Outcome State Fault Refusal :=
  run (WF.getInfoDone n) s fun d =>
    d.answered n 0x01 (fun d _ _ b =>
      let d := (d.setOct .CH_CAM_INFO n (slice b 4 21)).setOct .CH_CAM_ID n (slice (d.link n).refIdent 0 18)
      let d := (d.endRequest n).sendCredits n
      d.settingsStep n) (fun _ d _ => d)

/-- SETTINGS_DONE (R98): the acknowledgement lets ACTIVATE follow when it is due. -/
def execSettingsDone (n : Nat) (s : State) : Host.Outcome State Fault Refusal :=
  run (WF.settingsDone n) s fun d =>
    d.answered n 0x02 (fun d r _ _ =>
      let g := leAt r.args 0 4
      let d := d.modLink n (fun x => { x with ackedGen := some g })
      let d := if (d.link n).activateDue.contains g then d.sendActivate n g else d
      d.endRequest n) (fun _ d _ => d)

/-- ACTIVATE_DONE (R98, R100): bring-up goes on to TIME_ECHO and MODE; status 0x04 sends SETTINGS for that GEN again, with the values it was sent
with, then ACTIVATE, ahead of what is queued (R97). -/
def execActivateDone (n : Nat) (s : State) : Host.Outcome State Fault Refusal :=
  run (WF.activateDone n) s fun d =>
    d.answered n 0x03 (fun d _ _ _ =>
      let d := d.endRequest n
      if (d.link n).step = 4 then (d.modLink n (fun x => { x with step := 5 })).bringMode n else d)
      (fun st d r =>
        if st = 4 then
          let g := leAt r.args 0 4
          let args := match (d.link n).sentArgs.find? (fun e => e.1 == g) with
            | some (_, a) => a
            | none => (d.liveView n).settings g
          let d := d.modLink n (fun x => { x with ackedGen := none, activateDue := g :: x.activateDue.filter (fun h => h != g) })
          (d.request n 0x02 args true).endRequest n
        else d)

/-- MODE_DONE (R100): an acknowledged MODE FULL makes the channel FULL; PREVIEW puts its stride in force; STOP lets the next line take any forward
step (R93). -/
def execModeDone (n : Nat) (s : State) : Host.Outcome State Fault Refusal :=
  run (WF.modeDone n) s fun d =>
    d.answered n 0x04 (fun d r _ _ =>
      let m := octet r.args 0
      let d := d.modLink n (fun x => { x with modeAcked := m, afterStop := x.afterStop || m == 0, fullTail := false })
      let d := d.set .CH_PREVIEW_STRIDE n (if m = 1 then octet r.args 1 else 0)
      (d.endRequest n).refreshState n) (fun _ d _ => d)

/-- TIME_ECHO_SEND (R99): every 1 ms from step 5 of R100; T1 is put in when the request leaves. -/
def execTimeEchoSend (n : Nat) (s : State) : Host.Outcome State Fault Refusal :=
  run (WF.timeEchoSend n) s fun d =>
    let x := d.link n
    let busy := (match x.out with | some r => r.op == 0x05 | none => false) || x.queue.any (fun e => e.1 == 0x05)
    if x.up && 5 ≤ x.step && !busy then
      d.request n 0x05 (le 6 0)
    else d

/-- TIME_ECHO_DONE (R99): T4 is the arrival of the response. -/
def execTimeEchoDone (n : Nat) (s : State) : Host.Outcome State Fault Refusal :=
  run (WF.timeEchoDone n) s fun d =>
    d.answered n 0x05 (fun d _ p b => (d.echoDone n p.time b).endRequest n) (fun _ d _ => d)

/-- REG_READ_DONE (R104). -/
def execRegReadDone (n : Nat) (s : State) : Host.Outcome State Fault Refusal :=
  run (WF.regReadDone n) s fun d =>
    d.answered n 0x06 (fun d r _ b =>
      ((d.setOct .CH_CREG_DATA n (slice b 4 (octet r.args 4))).set .CH_CREG_STATUS n 2).endRequest n)
      (fun st d _ => d.cregRefused n st)

/-- REG_WRITE_DONE (R104). -/
def execRegWriteDone (n : Nat) (s : State) : Host.Outcome State Fault Refusal :=
  run (WF.regWriteDone n) s fun d =>
    d.answered n 0x07 (fun d _ _ _ => (d.set .CH_CREG_STATUS n 2).endRequest n) (fun st d _ => d.cregRefused n st)

end Sys2Proof.Machine
end

