-- ==== Sys2Proof/Machine/Front.lean ====
section
/-!
DEFINITION. The channel front end (R107 to R126, R491): the correction arithmetic, raw taps, statistics, the settings generation of a line, and
the assignment of slices.
-/
namespace Sys2Proof.Machine

/-- The sample that marks a value resting on a saturated raw sample (R116). -/
abbrev satMark : Nat := 0xFFFFFF

/-- The greatest other sample (R116). -/
abbrev satMax : Nat := 0xFFFFFE

/-- Offset O_q[p] (R118). -/
def Tables.off (t : Tables) (q p : Nat) : Int := ((getKeyed Prod.fst (q * 32768 + p) t.offs).map Prod.snd).getD 0

/-- Gain G_q[p], Q2.14 (R121). -/
def Tables.gain (t : Tables) (q p : Nat) : Nat := ((getKeyed Prod.fst (q * 32768 + p) t.gains).map Prod.snd).getD 0x4000

/-- An offset written: 0 is never listed. -/
def Tables.putOff (t : Tables) (q p : Nat) (v : Int) : Tables :=
  let k := q * 32768 + p
  { t with offs := if v = 0 then dropKeyed Prod.fst k t.offs else putKeyed Prod.fst (k, v) t.offs }

/-- A gain written: 0x4000 is never listed. -/
def Tables.putGain (t : Tables) (q p v : Nat) : Tables :=
  let k := q * 32768 + p
  { t with gains := if v = 0x4000 then dropKeyed Prod.fst k t.gains else putKeyed Prod.fst (k, v) t.gains }

/-- Offsets from BASE onward, two octets each (R118). -/
def Tables.writeOffs (t : Tables) (q base : Nat) (b : Octets) : Tables :=
  ((chunks 2 (b.length / 2) b).zipIdx).foldl (fun t e => t.putOff q (base + e.2) (toSigned 16 (ofLE e.1))) t

/-- Gains from BASE onward, two octets each (R118). -/
def Tables.writeGains (t : Tables) (q base : Nat) (b : Octets) : Tables :=
  ((chunks 2 (b.length / 2) b).zipIdx).foldl (fun t e => t.putGain q (base + e.2) (ofLE e.1)) t

/-- Fields of a map entry (the second R116): code, plane, reserved bits, pixel. -/
def dpmCode (e : Nat) : Nat := field e 31 30
/-- PLANE. -/
def dpmPlane (e : Nat) : Nat := field e 29 28
/-- PIXEL. -/
def dpmPixel (e : Nat) : Nat := field e 14 0
/-- The sort key of a map entry. -/
def dpmKey (e : Nat) : Nat := dpmPlane e * 32768 + dpmPixel e

/-- A map is consistent with a pixel count (R116): planes 0 to 2, reserved bits 0, pixels below CH_PIXELS, keys strictly rising, at most 8,192
entries. -/
def dpmOk (pixels : Nat) (m : List Nat) : Bool :=
  m.length ≤ 8192 && m.all (fun e => dpmPlane e ≤ 2 && field e 27 15 == 0 && dpmPixel e < pixels) &&
    (m.zip (m.drop 1)).all (fun e => dpmKey e.1 < dpmKey e.2)

/-! ## Correction arithmetic (R116 to R122) -/

/-- What correction needs of a set: the applied black levels, the tables and the two switches. -/
structure FrontSet where
  black : List Nat
  tables : Tables
  dpc : Bool
  shade : Bool

/-- A plane after each point of R120: x, y1, y2, y3; and the samples clamped at 0. -/
structure PlanePoints where
  x : List Nat
  y1 : List Nat
  y2 : List Nat
  y3 : List Nat
  clips : Nat
  sats : Nat

/-- The offset of a pixel, of two pixels averaged on preview lines (R118, R122). -/
def FrontSet.offOf (f : FrontSet) (bin : Bool) (px q i : Nat) : Int :=
  if bin then
    if 2 * i + 1 < px then (f.tables.off q (2 * i) + f.tables.off q (2 * i + 1)) / 2 else f.tables.off q (2 * i)
  else f.tables.off q i

/-- The gain of a pixel (R121, R122). -/
def FrontSet.gainOf (f : FrontSet) (bin : Bool) (px q i : Nat) : Nat :=
  if bin then
    if 2 * i + 1 < px then (f.tables.gain q (2 * i) + f.tables.gain q (2 * i + 1) + 1) / 2 else f.tables.gain q (2 * i)
  else f.tables.gain q i

/-- Sample after black level and offset (R117, R118): `none` in the second place when it was not clamped. -/
def blackSample (x b : Nat) (o : Int) : Nat × Bool :=
  let y : Int := (x : Int) - b - o
  if y < 0 then (0, true) else (Nat.min y.toNat satMax, false)

/-- Replacement of a defective pixel (R119); `y1` carries the saturation mark of its samples. -/
def dpcSample (y1 : List Nat) (p code : Nat) : Nat :=
  let n := y1.length
  let own := y1.getD p 0
  if code = 0 ∨ n < 2 then own
  else
    let l := y1.getD (p - 1) 0
    let r := y1.getD (p + 1) 0
    let pick (a : Nat) : Nat := a
    let both := if l = satMark ∨ r = satMark then satMark else (l + r + 1) / 2
    if p = 0 then (if code = 3 then pick r else pick (y1.getD 1 0))
    else if p = n - 1 then pick l
    else match code with
      | 1 => both
      | 2 => pick l
      | _ => pick r

/-- Shading gain (R121): the mark of a saturated sample stays. -/
def shadeSample (y2 g : Nat) : Nat := if y2 = satMark then satMark else Nat.min ((y2 * g + 8192) / 16384) satMax

/-- One plane of a line corrected (R116 to R122). -/
def correctPlane (f : FrontSet) (bin : Bool) (px w q : Nat) (raw : List Nat) : PlanePoints :=
  let b := f.black.getD q 0
  let x := raw.map (fun r => r * 2 ^ (24 - w))
  let ys := (raw.zipIdx).map (fun e =>
    let (y, c) := blackSample (e.1 * 2 ^ (24 - w)) b (f.offOf bin px q e.2)
    if e.1 = 2 ^ w - 1 then (satMark, false) else (y, c))
  let y1 := ys.map Prod.fst
  let map := if f.dpc && !bin then f.tables.dpm.filter (fun e => dpmPlane e = q) else []
  let y2 := if map = [] then y1
    else (y1.zipIdx).map (fun e => match map.find? (fun m => dpmPixel m = e.2) with
      | some m => dpcSample y1 e.2 (dpmCode m)
      | none => e.1)
  let y3 := if f.shade then (y2.zipIdx).map (fun e => shadeSample e.1 (f.gainOf bin px q e.2)) else y2
  { x := x, y1 := y1, y2 := y2, y3 := y3
    clips := (ys.filter Prod.snd).length, sats := (raw.filter (· = 2 ^ w - 1)).length }

/-- The samples of a plane of an interleaved line (R90). -/
def planeOf (p q : Nat) (xs : List Nat) : List Nat := ((xs.zipIdx).filter (fun e => e.2 % p == q)).map Prod.fst

/-- Planes interleaved again, pixel by pixel. -/
def interleave (ps : List (List Nat)) : List Nat :=
  match ps with
  | [a] => a
  | _ => (List.range (ps.headD []).length).flatMap (fun i => ps.map (fun p => p.getD i 0))

/-! ## Raw taps (R120 to R122) -/

/-- A tap's sample in its format (R121): the value at its point, with the width of the raw samples. -/
def tapSample (fmt point w v : Nat) : Nat :=
  if fmt = 1 then
    if point = 0 then v / 2 ^ (24 - w) * 2 ^ (14 - w) else Nat.min ((v + 512) / 1024) 0x3FFF
  else v

/-- The octets of a tap's samples (R121): packed raw, two octets, or three. -/
def tapOctets (fmt point w : Nat) (vs : List Nat) : Octets :=
  if fmt = 0 then gather 8 ((vs.length * w + 7) / 8) (spread w (vs.map (· / 2 ^ (24 - w))))
  else if fmt = 1 then vs.flatMap (fun v => le 2 (tapSample 1 point w v))
  else vs.flatMap (le 3)

/-! ## Slices (R123) -/

/-- Datapath slices of every part (R2). -/
def totalSlices : Nat := 16

/-- Samples per second of one slice, times 1,000 (R123). -/
def sliceMilli : Nat := 5000000000000

/-- What the assignment answers (R123). -/
inductive Assigned where
  | ok (p : SlicePlan)
  | busy
  | refused
deriving DecidableEq, Repr

namespace Device

/-- The pending set of a scope. -/
def pendOf (d : Device) (sc : Scope) : Option PendingSet := d.pend.find? (fun p => decide (p.scope = sc))

/-- The demand of a channel that an assignment counts, times 1,000: of its accepted set where one is pending, else of the live one. -/
def demandOf (d : Device) (n : Nat) : Nat :=
  match d.pendOf (.channel n) with
  | some p => (d.storeView p.values n).demandMilli
  | none => (d.liveView n).demandMilli

/-- The channel that shares a channel's slice, an accepted share counted, and one that an accepted commit ends not; 0xFF if none. -/
def partnerOf (d : Device) (n : Nat) : Nat :=
  match (d.front n).plan with
  | some p => p.partner
  | none =>
    match (List.range 16).find? (fun m => (match (d.front m).plan with | some p => p.partner == n | none => false)) with
    | some m => m
    | none =>
      let p := d.num .CH_SLICE_PARTNER n
      match (d.front p).plan with
      | some q => if p < 16 && q.leaves == n then 0xFF else p
      | none => p

/-- Slices that no channel holds, none drains and no accepted commit has taken (R123). -/
def freeSlices (d : Device) : Nat :=
  let held := (List.range 16).foldl (fun a n =>
    let p := d.num .CH_SLICE_PARTNER n
    a + (if p < n then 0 else d.num .CH_SLICES n)) 0
  let taken := d.fronts.foldl (fun a f => a + f.drainSlices + (match f.plan with | some p => p.take | none => 0)) 0
  totalSlices - (held + taken)

/-- Slices that drain (R109, R123): those released at a hand-over. -/
def drainingSlices (d : Device) : Nat := d.fronts.foldl (fun a f => a + f.drainSlices) 0

/-- SLICE_ASSIGN (R123) for a commit of channel `c` whose staged set has a demand of `t` (times 1,000) and needs `need` slices. -/
def assign (d : Device) (c t need : Nat) : Assigned :=
  let p := d.partnerOf c
  let own := d.num .CH_SLICES c
  if p < 16 ∧ need = 1 ∧ t + d.demandOf p ≤ sliceMilli then .ok { slices := 1, partner := p }
  else
    let leaves := if p < 16 then p else 0xFF
    let held := if p < 16 then 0 else own
    if need < held then .ok { slices := need, drain := held - need, leaves := leaves }
    else
      let sharer := (List.range 16).find? (fun q =>
        q != c && d.num .CH_SLICES q == 1 && d.partnerOf q == 0xFF && d.on .CH_ENABLE q && d.num .CH_STATE q != 2 &&
          (match (d.front q).plan with | some pl => pl.slices == 1 | none => true) &&
          decide (d.demandOf q + t ≤ sliceMilli))
      match (if need = 1 ∧ held = 0 then sharer else none) with
      | some q => .ok { slices := 1, partner := q, leaves := leaves }
      | none =>
        let more := need - held
        if more ≤ d.freeSlices then .ok { slices := need, take := more, leaves := leaves }
        else if more ≤ d.freeSlices + d.drainingSlices then .busy
        else .refused

/-- Slices that a view needs (R123): ceil(T / 5 × 10^9) when enabled. -/
def slicesNeeded (v : View) : Nat := if v .CH_ENABLE = 0 then 0 else ceilDiv v.demandMilli sliceMilli

/-- A share ends or begins (R124): no line of either has been taken since. -/
def shareAnew (d : Device) (a b : Nat) : Device := { d with sliceLast := d.sliceLast.filter (fun e => e.1 != Nat.min a b) }

/-- A channel's share ends at the hand-over of its partner's commit (R123): it keeps the slice alone, and an accepted commit of its own that
counts on the share takes the slice instead. -/
def shareEnds (d : Device) (n m : Nat) : Device :=
  let d := (d.set .CH_SLICE_PARTNER m 0xFF).shareAnew n m
  let alone := d.num .CH_SLICES m == 0
  d.modFront m (fun f => { f with plan := f.plan.map (fun p =>
    if p.partner == n then { p with partner := 0xFF, take := if alone then 1 else p.take } else p) })

/-- The plan of an accepted commit takes effect at its hand-over (R123): shares begin and end, slices taken are held, released ones drain. -/
def applyPlan (d : Device) (n : Nat) : Device :=
  match (d.front n).plan with
  | none => d
  | some p =>
    let d := if p.leaves < 16 then d.shareEnds n p.leaves else d
    let d := if p.partner < 16 && d.num .CH_SLICE_PARTNER n != p.partner then d.shareAnew n p.partner else d
    let d := (d.set .CH_SLICES n p.slices).set .CH_SLICE_PARTNER n p.partner
    let d := if p.partner < 16 then d.set .CH_SLICE_PARTNER p.partner n else d
    d.modFront n (fun f => { f with plan := none, drainSlices := f.drainSlices + p.drain })

/-! ## The line through the front end -/

/-- The black levels applied to a line of channel `n` under a set's objects (R117). -/
def blackApplied (d : Device) (n : Nat) (v : View) : List Nat :=
  (List.range 3).map (fun q =>
    if v .CH_BLACK_EN = 0 then v .CH_BLACK_MANUAL
    else match (d.link n).black.getD q none with
      | some (b, _) => b
      | none => v .CH_BLACK_MANUAL)

/-- The front-correction set of a line (R112, R113): the live one for the camera generation, the one before the hand-over for the generation that
preceded a change in flight; any other line is corrected with the live one and counted. Gives the objects, the tables, and the generation. -/
def frontSetOf (d : Device) (n gen : Nat) : (View × Tables × Nat) × Bool :=
  let f := d.front n
  let live := (d.liveView n, f.live, d.num .CH_GEN_LIVE n)
  if gen = f.camGen then (live, false)
  else if d.on .CH_CAMSET_BUSY n && gen == f.prevGen then
    match f.prevFront with
    | some (g, t, st) => ((d.storeView st n, t, g), false)
    | none => (live, true)
  else (live, true)

/-- The statistics windows of a line (R114): a newer GEN moves the current window to the previous one and opens a new one. -/
def rotateStats (d : Device) (n gen : Nat) : Device :=
  if 0 < serialDiff 32 gen (d.num .CH_STAT_GEN n) then
    let d := (d.set .CH_STATP_GEN n (d.num .CH_STAT_GEN n)).set .CH_STATP_LINES n (d.num .CH_STAT_LINES n)
    let d := (d.set .CH_STATP_BLIND n (d.num .CH_STAT_BLIND n)).set .CH_STATP_SAT n (d.num .CH_STAT_SAT n)
    let d := d.set .CH_STATP_CLIP n (d.num .CH_STAT_CLIP n)
    let d := ((d.set .CH_STAT_GEN n gen).set .CH_STAT_LINES n 0).set .CH_STAT_BLIND n 0
    (d.set .CH_STAT_SAT n 0).set .CH_STAT_CLIP n 0
  else d

/-- TAP_LINE (R120 to R122): one tap and one line; `pts` are the planes at its point. -/
def tapLine (d : Device) (n t : Nat) (c : CorLine) (w : Nat) (pts : List PlanePoints) : Device :=
  let i := 4 * n + t
  let cnt := (d.front n).tapCount.getD t 0
  let d := d.modFront n (fun f => { f with tapCount := modAt f.tapCount t (· + 1) })
  if !d.on .CH_TAP_ENABLE i || cnt % Nat.max 1 (d.num .CH_TAP_EVERY i) ≠ 0 || (c.blind && !d.on .CH_TAP_BLIND i) then d
  else
    let point := d.num .CH_TAP_POINT i
    let fmt := d.num .CH_TAP_FORMAT i
    let planes := if c.blind then c.planes
      else pts.map (fun p => match point with | 0 => p.x | 1 => p.y1 | 2 => p.y2 | _ => p.y3)
    let px := (planes.headD []).length
    let half (x : Nat) : Nat := if c.bin then x / 2 else x
    let first := Nat.min (half (d.num .CH_TAP_FIRST i)) px
    let wid := half (d.num .CH_TAP_WIDTH i)
    let wid := if d.num .CH_TAP_WIDTH i = 0 then px - first else Nat.min wid (px - first)
    let cut := planes.map (fun p => (p.drop first).take wid)
    let vs := interleave cut
    let body := tapOctets fmt point w vs
    let sat := pts.any (fun p => p.sats ≠ 0) || c.planes.any (fun p => p.any (· == satMark))
    let head := [0x01, t * 64 + n, w * 16 + point, b2n c.blind + 2 * b2n c.bin + 4 * b2n sat] ++ le 4 c.gen ++ le 4 c.line
      ++ le 6 (c.trig / 1000000000) ++ le 4 (c.trig % 1000000000) ++ le 2 first ++ le 2 wid ++ [planes.length, fmt]
      ++ le 4 body.length
    let (d, ok) := d.offerItem (d.num .CH_TAP_QUEUE i) 3 (head ++ body)
    if ok then d.bump .CH_TAP_LINES i else d.bump .CH_TAP_DROPS i

/-- The geometry that a line entering the front end of channel `n` carries (R179, R198). -/
def geoNow (d : Device) (n : Nat) : Geo :=
  { a0 := d.int .CH_STI_A0 n, a1 := d.int .CH_STI_A1 n, a2 := d.int .CH_STI_A2 n, a3 := d.int .CH_STI_A3 n
    first := d.num .CH_STI_FIRST n, last := Nat.min (d.num .CH_STI_LAST n) (d.chPixels n - 1), pitch := d.num .CH_RS_PITCH n }

/-- A line through the front end (R113 to R122, R491): its correction, statistics and taps. Gives the corrected line. -/
def correctLine (d : Device) (n : Nat) (r : RawLine) : CorLine × Device :=
  let d := (d.set .CH_CAM_GEN_SEEN n r.gen).rotateStats n r.gen
  let d := (d.bump .CH_STAT_LINES n).bumpIf r.blind .CH_STAT_BLIND n
  let d := if d.on .CH_CAMSET_BUSY n && r.gen == (d.front n).camGen && (d.pendOf (.channel n)).isNone
    then d.setOn .CH_CAMSET_BUSY n false else d
  let p := dtPlanes r.dt
  let w := dtWidth r.dt
  let full := d.chPixels n
  let px := if r.bin then (full + 1) / 2 else full
  if r.blind then
    let zero := List.replicate (d.liveView n).planes (List.replicate px 0)
    let planes := match (if r.zeros then none else (d.front n).lastCor.getD (b2n r.bin) none) with
      | some c => c.planes
      | none => zero
    let c : CorLine := { gen := r.gen, line := r.line, trig := r.trig, temp := r.temp, bin := r.bin, blind := true, restart := r.restart, planes := planes
                         geo := d.geoNow n, seq := d.num .CH_CAL_SEQ n }
    (c, (List.range 4).foldl (fun d t => d.tapLine n t c w []) d)
  else
    let ((v, tabs, g), stale) := d.frontSetOf n r.gen
    let d := (d.bumpIf stale .CH_GEN_STALE n).set .CH_FRONT_GEN n g
    let black := d.blackApplied n v
    let d := ((d.set .CH_BLACK0 n (black.getD 0 0)).set .CH_BLACK1 n (if p = 3 then black.getD 1 0 else 0)).set .CH_BLACK2 n
      (if p = 3 then black.getD 2 0 else 0)
    let fs : FrontSet := { black := black, tables := tabs, dpc := v .CH_DPC_EN ≠ 0, shade := v .CH_SHADE_EN ≠ 0 }
    let pts := (List.range p).map (fun q => correctPlane fs r.bin full w q (planeOf p q r.samples))
    let d := (d.add .CH_STAT_SAT n (pts.foldl (fun a x => a + x.sats) 0)).add .CH_STAT_CLIP n (pts.foldl (fun a x => a + x.clips) 0)
    let c : CorLine := { gen := r.gen, line := r.line, trig := r.trig, temp := r.temp, bin := r.bin, blind := false, restart := r.restart, planes := pts.map (fun x => x.y3)
                         geo := d.geoNow n, seq := d.num .CH_CAL_SEQ n }
    let d := d.modFront n (fun f => { f with lastCor := modTab 2 none f.lastCor (b2n r.bin) (fun _ => some c) })
    (c, (List.range 4).foldl (fun d t => d.tapLine n t c w pts) d)

end Device

/-- CAMSET_BUSY_TIMEOUT (R112): 10 ms have passed since the hand-over. -/
def execCamsetBusyTimeout (n : Nat) (s : State) : Host.Outcome State Fault Refusal :=
  run (WF.camsetBusyTimeout n) s fun d => d.setOn .CH_CAMSET_BUSY n false

/-- SLICE_DRAIN_DONE (R123): the last sample processed on the released slices has left the compare; they are FREE. -/
def execSliceDrainDone (n : Nat) (s : State) : Host.Outcome State Fault Refusal :=
  run (WF.sliceDrainDone n) s fun d => d.modFront n (fun f => { f with drainSlices := 0 })

end Sys2Proof.Machine
end

