-- ==== Sys2Proof/Machine/Position.lean ====
section
/-!
DEFINITION. Web position (R127 to R147): decoding, illegal transitions and failure, the active source, the counter, readings, direction and speed, Z,
and encoder emulation. Quotients whose rounding the manual leaves open are rounded down (log entry 8).
-/
namespace Sys2Proof.Machine

/-- The place of a quadrature state (A × 2 + B) in the forward sequence 00, 10, 11, 01 (R129). -/
def quadPhase (c : Nat) : Nat := match c with | 0 => 0 | 2 => 1 | 3 => 2 | _ => 3

/-- The place of a Hall code (U × 4 + V × 2 + W) in the forward sequence 001, 011, 010, 110, 100, 101; none for 000 and 111 (R130). -/
def hallPhase (c : Nat) : Option Nat :=
  match c with | 1 => some 0 | 3 => some 1 | 2 => some 2 | 6 => some 3 | 4 => some 4 | 5 => some 5 | _ => none

/-- What a change of a source's levels is (R129 to R131). -/
inductive Transition where
  | none
  | resync
  | legal (forward : Bool)
  | illegal
deriving DecidableEq, Repr

/-- The transition of source `s` from code `a` to code `b`. -/
def transition (s a b : Nat) : Transition :=
  if a = b then .none
  else if s < 2 then
    match (quadPhase b + 4 - quadPhase a) % 4 with
    | 1 => .legal true
    | 3 => .legal false
    | _ => .illegal
  else
    match hallPhase a, hallPhase b with
    | some x, some y =>
      match (y + 6 - x) % 6 with
      | 1 => .legal true
      | 5 => .legal false
      | _ => .illegal
    | Option.none, some _ => .resync
    | _, Option.none => .illegal

namespace Device

/-- Source `s`. -/
def source (d : Device) (s : Nat) : Source := d.pos.srcs.getD s {}

/-- Source `s` changed. -/
def modSource (d : Device) (s : Nat) (f : Source → Source) : Device :=
  { d with pos := { d.pos with srcs := modTab 3 {} d.pos.srcs s f } }

/-- The position interface changed. -/
def modPos (d : Device) (f : Pos → Pos) : Device := { d with pos := f d.pos }

/-- A source named in an object is configured and not FAILED. -/
def usableSource (d : Device) (s : Nat) : Bool := s < 3 && d.num .POS_ENC_STATE s != 2

/-- The counter's quality as readings carry it (R136): 0 MEASURED, 1 COASTED, 2 HELD. -/
def readQuality (d : Device) : Nat :=
  match d.num .POS_QUALITY 0 with
  | 1 => 0
  | 2 => 0
  | 3 => 1
  | _ => 2

/-- POS_QUALITY changes at time `t`; readings of that time and after carry its quality (R136). -/
def setQuality (d : Device) (q t : Nat) : Device :=
  let d := d.set .POS_QUALITY 0 q
  d.modPos (fun x => { x with quals := ((t, d.readQuality) :: x.quals.filter (fun e => e.1 < t)).take 64 })

/-- The quality of a reading at an earlier time (R149). -/
def qualityAt (d : Device) (t : Nat) : Nat := ((d.pos.quals.find? (fun e => e.1 ≤ t)).map Prod.snd).getD 2

/-- The backup is made active (R140): the event FAILOVER. -/
def backupEvent (d : Device) (backup : Bool) : Device := if backup then d.pulse 0x004 else d

/-- The interface picks its source when it has none and one is configured: the primary, or the backup (R132, R143). -/
def ensureActive (d : Device) : Device :=
  let p := d.num .POS_SRC_PRIMARY 0
  let b := d.num .POS_SRC_BACKUP 0
  if d.num .POS_QUALITY 0 = 0 then
    if d.usableSource p then (d.modPos (fun x => { x with active := some p })).setQuality 1 0
    else if d.usableSource b then ((d.modPos (fun x => { x with active := some b })).setQuality 2 d.now).backupEvent true
    else d
  else d

/-- The step of the active source, Q16.16 µm; 0 with none. -/
def stepNow (d : Device) : Nat :=
  match d.pos.active with
  | some s => d.num .POS_ENC_STEP s
  | none => 0

/-- Distance at a speed, a quotient of Q48.16 µm over ns, in a time. -/
def travel (num : Int) (den dt : Nat) : Nat := if den = 0 then 0 else num.natAbs * dt / den

/-- The counter moved along or against the direction. -/
def along (d : Device) (p n : Nat) : Nat :=
  if d.num .POS_DIR 0 = 0 then (p + n) % 2 ^ 64 else ofSigned 64 ((p : Int) - n)

/-- P(t) of R136 for a time at or after the last legal count once the active source has failed: as before the failure up to t_f, coasting from there on. -/
def coastAt (d : Device) (t : Nat) : Nat :=
  let x := d.pos
  match x.counts with
  | c :: _ =>
    if t < x.coastT then d.along c.p (Nat.min (travel x.coastNum x.coastDen (t - c.t)) x.coastStep)
    else d.along x.coastP (travel x.coastNum x.coastDen (t - x.coastT))
  | [] => d.along x.coastP (travel x.coastNum x.coastDen (t - x.coastT))

/-- P(t) of R136 without the fold's offset, for a time at or after the last legal count. -/
def posAt (d : Device) (t : Nat) : Nat :=
  match d.num .POS_QUALITY 0 with
  | 3 => d.coastAt t
  | 4 => if t < d.pos.lostT then d.coastAt t else d.num .POS_POSITION 0
  | 0 => d.num .POS_POSITION 0
  | _ => d.along (d.num .POS_POSITION 0) (Nat.min (travel d.pos.vNum d.pos.vDen (t - d.num .POS_TIME 0)) d.stepNow)

/-- The position offset in force (R421): FLD_POS_OFFSET, but until the member joins the one before it. -/
def offsetNow (d : Device) : Nat := d.fold.held.getD (d.num .FLD_POS_OFFSET 0)

/-- A reading as the resampler, stitcher, registration and records use it (R421): P(t) plus the offset in force. -/
def reading (d : Device) (t : Nat) : Nat := (d.posAt t + d.offsetNow) % 2 ^ 64

/-- The position of an earlier time from the retained counts (R149): interpolated between the two that bracket it; R136 after
the last; none before the oldest. With it the quality of the reading of that time (R136). -/
def readingPast (d : Device) (t : Nat) : Option (Nat × Nat) :=
  let off (p : Nat) : Nat := (p + d.offsetNow) % 2 ^ 64
  match d.pos.counts with
  | [] => some (d.reading t, d.qualityAt t)
  | c :: _ => if c.t ≤ t then some (d.reading t, d.qualityAt t) else (go off d.pos.counts).map (fun p => (p, d.qualityAt t))
where
  /-- The first pair of neighbours that brackets the time. -/
  go (off : Nat → Nat) : List Count → Option Nat
    | b :: a :: rest =>
      if a.t ≤ t then
        let dp : Int := toSigned 64 (ofSigned 64 ((b.p : Int) - a.p))
        let p := if b.t = a.t then a.p else ofSigned 64 ((a.p : Int) + dp * (t - a.t) / (b.t - a.t))
        some (off p)
      else go off (a :: rest)
    | _ => none

/-- v in µm/s, truncated. -/
def speedOf (num : Int) (den : Nat) : Int := if den = 0 then 0 else divTrunc (num * 1000000000) (65536 * den)

/-- POS_SPEED now (R138): the smaller in magnitude of v and step over the time since the last count; v alone while it is held. -/
def speedNow (d : Device) : Int :=
  let v := speedOf d.pos.vNum d.pos.vDen
  let dt := d.now - d.pos.boundAt
  if d.num .POS_QUALITY 0 = 3 || d.pos.hold != 0 || dt = 0 then v
  else
    let b : Int := (d.stepNow * 1000000000 / (65536 * dt) : Nat)
    if b < v.natAbs then (if v < 0 then -b else b) else v

/-! ## Emulation (R141 to R143) -/

/-- Emulation output `e`. -/
def emu (d : Device) (e : Nat) : Emu := d.emus.getD e {}

/-- Emulation output `e` changed. -/
def modEmu (d : Device) (e : Nat) (f : Emu → Emu) : Device := { d with emus := modTab 4 {} d.emus e f }

/-- A count emitted at its computed time (R142): it waits for the pins, or is dropped when 65,535 counts wait already. -/
def emuEmit (e : Nat) (fwd : Bool) (t : Nat) (d : Device) : Device :=
  if 65535 ≤ (d.emu e).backlog.length then (d.bump .POS_EMU_DROPS e).pulse 0x00F
  else
    let d := d.modEmu e (fun x => { x with backlog := x.backlog ++ [(fwd, t)] })
    d.set .POS_EMU_BACKLOG e (d.emu e).backlog.length

/-- `n` counts emitted at one time. -/
def emuEmits (e : Nat) (fwd : Bool) (t : Nat) : Nat → Device → Device
  | 0, d => d
  | n + 1, d => emuEmits e fwd t n (emuEmit e fwd t d)

/-- A scheduled emission that is due by `t` is made (R143). -/
def emuDue (d : Device) (e t : Nat) : Device :=
  match (d.emu e).sched with
  | some ts =>
    if ts ≤ t then
      let d := emuEmit e true ts d
      d.modEmu e (fun x => { x with a := x.a - d.num .POS_EMU_M e, sched := none })
    else d
  | none => d

/-- A count of an emulation output's source (R141); `dt` is the interval between its last two counts. An output that is not enabled is held low and
follows nothing. -/
def emuCount (e : Nat) (fwd : Bool) (t : Nat) (dt : Option Nat) (d : Device) : Device :=
  if !d.on .POS_EMU_ENABLE e then d
  else
    let d := (d.emuDue e t).modEmu e (fun x => { x with sched := none })
    let n : Int := d.num .POS_EMU_N e
    let m : Int := d.num .POS_EMU_M e
    let a := (d.emu e).a
    if fwd then
      let a := a + n
      let k := if a < m then 0 else (a / m).toNat
      let d := emuEmits e true t k d
      let a := a - k * m
      let sched := match dt with
        | some i => if d.on .POS_EMU_INTERP e && decide (m < a + n) then some (t + ((i : Int) * (m - a) / n).toNat) else none
        | none => none
      d.modEmu e (fun x => { x with a := a, sched := sched })
    else
      let a := a - n
      if d.num .POS_EMU_REVERSE e = 0 then
        let k := if -m < a then 0 else ((-a) / m).toNat
        let d := emuEmits e false t k d
        d.modEmu e (fun x => { x with a := a + k * m })
      else d.modEmu e (fun x => { x with a := if a < -2147483648 then -2147483648 else a })

/-- The outputs that follow source `src` (3: the counter) take a count. -/
def emuSource (d : Device) (src : Nat) (fwd : Bool) (t : Nat) (dt : Option Nat) : Device :=
  ((List.range 4).filter (fun e => d.num .POS_EMU_SOURCE e = src)).foldl (fun d e => emuCount e fwd t dt d) d

/-- The interval of the newest two stamps. -/
def lastInterval (ts : List Nat) : Option Nat :=
  match ts with
  | a :: b :: _ => some (a - b)
  | _ => none

/-! ## Counts (R135 to R138) -/

/-- The index of the count j of the speed window (R138): the oldest usable one within POS_SPEED_WIN_US whose distance is a multiple of 4 or 6. -/
def windowIndex (cs : List Count) (usable mult win t : Nat) : Nat :=
  let ok (i : Nat) : Bool := i % mult == 0 && i != 0 && (match cs[i]? with
    | some c => decide (t - c.t ≤ win)
    | none => false)
  match ((List.range (Nat.min usable cs.length)).filter ok).getLast? with
  | some i => i
  | none => 1

/-- v from the newest count and count `i` before it. -/
def speedFrom (d : Device) (i : Nat) : Device :=
  match d.pos.counts.head?, d.pos.counts[i]? with
  | some k, some j =>
    if k.t = j.t then d
    else d.modPos (fun x => { x with vNum := toSigned 64 (ofSigned 64 ((k.p : Int) - j.p)), vDen := k.t - j.t })
  | _, _ => d

/-- The counter stands at `p` from time `t`: a retained count. -/
def pushCount (d : Device) (p t usable : Nat) : Device :=
  let d := (d.set .POS_POSITION 0 p).set .POS_TIME 0 t
  d.modPos (fun x => { x with
    counts := ({ p := p, t := t } :: x.counts).take 4096, usable := Nat.min usable 4096, boundAt := t })

/-- A legal count in a direction (R137): one opposite to POS_DIR turns it. -/
def turn (d : Device) (fwd : Bool) : Bool × Device :=
  let turned := fwd != (d.num .POS_DIR 0 == 0)
  (turned, if turned then ((d.set .POS_DIR 0 (b2n (!fwd))).bump .POS_DIR_CHANGES 0).pulse 0x006 else d)

/-- A legal count of the active source (R135, R137, R138). -/
def activeCount (d : Device) (s : Nat) (fwd : Bool) (t : Nat) : Device :=
  let step := d.num .POS_ENC_STEP s
  let p := d.num .POS_POSITION 0
  let p' := if fwd then (p + step) % 2 ^ 64 else ofSigned 64 ((p : Int) - step)
  let (turned, d) := d.turn fwd
  let d := d.pushCount p' t (if turned then 2 else d.pos.usable + 1)
  let stopped := d.on .POS_STOPPED 0
  let d := d.setOn .POS_STOPPED 0 false
  let d :=
    if 2 ≤ d.pos.hold then d.modPos (fun x => { x with hold := x.hold - 1 })
    else
      let d := d.modPos (fun x => { x with hold := 0 })
      let i := if turned || stopped then 1
        else windowIndex d.pos.counts d.pos.usable (if s = 2 then 6 else 4) (1000 * d.num .POS_SPEED_WIN_US 0) t
      d.speedFrom i
  let d := d.modPos (fun x => { x with stamps := (t :: x.stamps).take 2 })
  (d.emuSource 3 fwd t (lastInterval d.pos.stamps)).settle

/-- A source becomes active at a legal count of its own (R133, R134, R137, R138): the counter does not move; after coasting it continues from its coasted value. -/
def activate (d : Device) (s : Nat) (fwd : Bool) (t : Nat) : Device :=
  let coasting := d.num .POS_QUALITY 0 = 3 ∨ d.num .POS_QUALITY 0 = 4
  let p := if coasting then d.posAt t else d.num .POS_POSITION 0
  let prim := d.num .POS_SRC_PRIMARY 0 = s
  let (_, d) := d.turn fwd
  let d := (d.setQuality (if prim then 1 else 2) t).backupEvent (!prim)
  let d := d.modPos (fun x => { x with active := some s, await := if prim then [] else x.await.filter (· ≠ s), hold := 1 })
  (d.pushCount p t 1).setOn .POS_STOPPED 0 false

/-- The outputs that follow the counter emit nothing while it coasts or is LOST (R141): what was scheduled for them is cancelled. -/
def emuCancel (d : Device) : Device :=
  ((List.range 4).filter (fun e => d.num .POS_EMU_SOURCE e = 3)).foldl (fun d e => d.modEmu e (fun x => { x with sched := none })) d

/-- The active source is gone: its backup takes over, or nothing is left and the interface coasts (R132, R134, R136). -/
def sourceGone (d : Device) (t : Nat) : Device :=
  let b := d.num .POS_SRC_BACKUP 0
  if d.usableSource b && d.pos.active ≠ some b then
    let d := (d.bump .POS_FAILOVERS 0).setQuality 2 t
    (d.modPos (fun x => { x with active := some b, usable := 0, hold := 2 })).backupEvent true
  else
    let p := d.posAt t
    let step := d.stepNow
    let d := d.setQuality 3 t
    (d.modPos (fun x => { x with active := none, coastP := p, coastT := t, coastNum := x.vNum, coastDen := x.vDen, coastStep := step, usable := 0 })).emuCancel

/-- A source is FAILED (R132). -/
def failSource (d : Device) (s t : Nat) : Device :=
  let d := d.set .POS_ENC_STATE s 2
  if d.pos.active = some s then d.sourceGone t else d

/-- A legal transition of source `s`. -/
def legalCount (d : Device) (s : Nat) (fwd : Bool) (t : Nat) : Device :=
  let fwd := fwd != d.on .POS_ENC_INVERT s
  let d := d.setI .POS_ENC_RAW s ((d.num .POS_ENC_RAW s : Int) + if fwd then 1 else -1)
  let d := d.modSource s (fun x => { x with run := 0, stamps := (t :: x.stamps).take 2 })
  let d := if d.num .POS_ENC_STATE s = 1 then d.set .POS_ENC_STATE s 0 else d
  let d := d.emuSource s fwd t (lastInterval (d.source s).stamps)
  if d.pos.active = some s then d.activeCount s fwd t
  else if d.pos.await.contains s && d.usableSource s then (d.activate s fwd t).settle
  else d

/-- An illegal transition of source `s` (R131, R132, R138). -/
def illegalCount (d : Device) (s t : Nat) : Device :=
  let d := (d.bump .POS_ERR s).pulse (0x001 + s)
  let d := d.modSource s (fun x => { x with run := x.run + 1 })
  let d := if d.pos.active = some s then d.modPos (fun x => { x with boundAt := t }) else d
  if d.num .POS_ENC_STATE s = 2 then d
  else if 4 ≤ (d.source s).run then d.failSource s t
  else d.set .POS_ENC_STATE s 1

/-- Accepted levels of source `s` at a stamp (R128, R129): the first are taken as the decoder's state. -/
def positionEdge (d : Device) (s code t : Nat) : Device :=
  let d := d.ensureActive
  let old := (d.source s).code
  let d := d.modSource s (fun x => { x with code := some code })
  match old with
  | none => d
  | some a =>
    match transition s a code with
    | .none => d
    | .resync => d
    | .legal f => d.legalCount s f t
    | .illegal => d.illegalCount s t

/-- POS_REARM (R133, R134): a FAILED source is OK again; it becomes active at its first legal count if it is the primary, or if nothing is. -/
def rearm (d : Device) (s : Nat) : Device :=
  if d.num .POS_ENC_STATE s = 2 then
    let d := (d.set .POS_ENC_STATE s 0).modSource s (fun x => { x with run := 0, zRaw := none })
    let prim := d.num .POS_SRC_PRIMARY 0 = s
    let back := d.num .POS_SRC_BACKUP 0 = s
    if prim ∨ (back ∧ d.pos.active = none) then d.modPos (fun x => { x with await := s :: x.await.filter (· ≠ s) })
    else d
  else d

/-- A hand-over that changes POS_SRC_PRIMARY or POS_SRC_BACKUP re-evaluates the active source (R134, R135, R143): the counter keeps its value, a coasted one where it
coasts. -/
def sourcesChanged (d : Device) : Device :=
  let p := d.num .POS_SRC_PRIMARY 0
  let b := d.num .POS_SRC_BACKUP 0
  let coasting := d.num .POS_QUALITY 0 = 3 ∨ d.num .POS_QUALITY 0 = 4
  if 3 ≤ p ∧ 3 ≤ b then
    let d := if coasting then d.set .POS_POSITION 0 (d.posAt d.now) else d
    ((d.modPos (fun x => { x with active := none, await := [], vNum := 0, vDen := 0 })).setQuality 0 d.now).emuCancel
  else
    let usable := ([p, b].filter d.usableSource)
    if coasting then d.modPos (fun x => { x with await := usable })
    else match usable with
      | s :: _ =>
        let was := d.pos.active
        let d := (d.setQuality (if s = p then 1 else 2) d.now).modPos (fun x => { x with await := [] })
        if was = some s then d
        else (d.modPos (fun x => { x with active := some s, usable := 0, hold := if x.active.isNone then 0 else 2 })).backupEvent (s ≠ p)
      | [] => d.sourceGone d.now

/-- What the pins of an output show after a count at time `t` (R142, R147): one quadrature step in the direction emitted, or a pulse on A with the direction on B; Z stays
high for the pulse, or for one quadrature period. Nothing while the output is held low. -/
def emuShow (d : Device) (e : Nat) (fwd z : Bool) (t : Nat) : Device :=
  if !d.on .POS_EMU_ENABLE e then d.modEmu e (fun x => { x with phase := 0, pulseEnd := 0, reverse := false, zLeft := 0 })
  else if d.num .POS_EMU_FORM e = 0 then d.modEmu e (fun x => { x with phase := (x.phase + (if fwd then 1 else 3)) % 4, zLeft := if z then 4 else x.zLeft - 1 })
  else d.modEmu e (fun x => { x with pulseEnd := t + d.num .POS_EMU_PULSE_NS e, reverse := !fwd, zLeft := b2n z })

/-- Emulation objects at a hand-over (R143): a change of the source sets a to 0, one of N or M rescales it. An output that is not enabled is held low, and one that
changes its form starts low. `was` is the device before. -/
def emuHandover (d was : Device) (e : Nat) : Device :=
  let (oldM, m) := (was.num .POS_EMU_M e, d.num .POS_EMU_M e)
  let d := if d.on .POS_EMU_ENABLE e && d.num .POS_EMU_FORM e = was.num .POS_EMU_FORM e then d
    else d.modEmu e (fun x => { x with phase := 0, pulseEnd := 0, reverse := false, zLeft := 0 })
  if d.num .POS_EMU_SOURCE e ≠ was.num .POS_EMU_SOURCE e then d.modEmu e (fun x => { x with a := 0, sched := none })
  else if m ≠ oldM ∨ d.num .POS_EMU_N e ≠ was.num .POS_EMU_N e then
    d.modEmu e (fun x => { x with a := if oldM = 0 then x.a else divTrunc (x.a * m) oldM, sched := none })
  else d

end Device

/-- POSITION_EDGE (R129): accepted levels of source `s` (quadrature A × 2 + B, Hall U × 4 + V × 2 + W), stamped `t`. -/
def execPositionEdge (src code t : Nat) (s : State) : Host.Outcome State Fault Refusal :=
  run (WF.positionEdge src code t) s fun d => d.positionEdge src code t

/-- ENC_FAILSAFE_DETECT (R132): an open or shorted A or B pair for 10 µs. -/
def execEncFailsafeDetect (src : Nat) (s : State) : Host.Outcome State Fault Refusal :=
  run (WF.encFailsafeDetect src) s fun d =>
    let d := d.ensureActive
    if d.num .POS_ENC_STATE src = 2 then d else d.failSource src d.now

/-- COAST_END (R134): the counter stops at its coasted value, the speed is 0, LOST is raised; POS_TIME stays that of the last count (R146). -/
def execCoastEnd (s : State) : Host.Outcome State Fault Refusal :=
  run true s fun d =>
    if d.num .POS_QUALITY 0 = 3 then
      let t := d.pos.coastT + 1000000 * d.num .POS_COAST_MS 0
      let p := d.posAt t
      let d := (d.set .POS_POSITION 0 p).setQuality 4 t
      (d.modPos (fun x => { x with vNum := 0, vDen := 0, lostT := t })).pulse 0x005
    else d

/-- SPEED_STOP (R138): POS_STOP_MS without a transition. While the interface coasts its speed is held (R134). -/
def execSpeedStop (s : State) : Host.Outcome State Fault Refusal :=
  run true s fun d =>
    if d.on .POS_STOPPED 0 || d.num .POS_QUALITY 0 = 3 then d
    else (((d.modPos (fun x => { x with vNum := 0, vDen := 0 })).setOn .POS_STOPPED 0 true).pulse 0x007).settle

/-- INDEX_PULSE (R139): an accepted rising edge of Z of source `src`, stamped `t`. -/
def execIndexPulse (src t : Nat) (s : State) : Host.Outcome State Fault Refusal :=
  run (WF.indexPulse src t) s fun d =>
    let mode := d.num .POS_ENC_Z_MODE src
    if mode = 0 then d
    else
      let raw := d.num .POS_ENC_RAW src
      let bad := mode = 2 && (match (d.source src).zRaw with
        | some r => ofSigned 32 ((raw : Int) - r) != d.num .POS_ENC_Z_COUNTS src
        | none => false)
      let d := ((d.set .POS_Z_POS src (d.posAt t)).set .POS_Z_TIME src t).bump .POS_Z_COUNT src
      let d := d.modSource src (fun x => { x with zRaw := some raw })
      let d := d.pulse (0x008 + src)
      if bad then (d.bump .POS_Z_ERR src).pulse 0x00A else d

/-- EMU_SCHEDULED_EMIT (R141). -/
def execEmuScheduledEmit (e : Nat) (s : State) : Host.Outcome State Fault Refusal :=
  run (WF.emuScheduledEmit e) s fun d =>
    match (d.emu e).sched with
    | some t => d.emuDue e t
    | none => d

/-- EMU_PIN_EMIT (R142): the oldest count waiting reaches the pins. -/
def execEmuPinEmit (e : Nat) (s : State) : Host.Outcome State Fault Refusal :=
  run (WF.emuPinEmit e) s fun d =>
    match (d.emu e).backlog with
    | [] => d
    | (fwd, _) :: rest =>
      let every := d.num .POS_EMU_Z_EVERY e
      let n := (d.emu e).zCount + b2n fwd
      let z := fwd && every != 0 && every ≤ n
      let d := (d.modEmu e (fun x => { x with backlog := rest, zCount := if z then 0 else n })).emuShow e fwd z d.now
      let d := (d.set .POS_EMU_BACKLOG e rest.length).bump .POS_EMU_OUT e
      let d := if d.on .POS_EMU_ENABLE e then d.emit (.emu e fwd z) else d
      d.pulse (0x00B + e)

end Sys2Proof.Machine
end

