-- ==== Sys2Proof/Machine/Resample.lean ====
section
/-!
DEFINITION. The down-web resampler (R148 to R169): line positions and the history, targets on the grid, the polyphase filter, blind and saturated lines,
bank choice, overspeed, restarts, the DC-blocking stage and the grid switch.
-/
namespace Sys2Proof.Machine

/-- Where a target lies in a history (R151): the place of line i, f before the carry of φ, the phase, and the place after it. -/
structure Bracket where
  i : Nat
  f : Nat
  iPhase : Nat
  phase : Nat
deriving DecidableEq, Repr

/-- The bracket of target `z` (R151): P_i ≤ z < P_i+1. None when the history does not reach past it or begins after it. -/
def bracketGo (z : Int) : Nat → List InLine → Option Bracket
  | k, a :: b :: rest =>
    if a.p ≤ z ∧ z < b.p then
      let f := (divRound (256 * (z - a.p)) (b.p - a.p).toNat).toNat
      let (i, f) := if f = 256 then (k + 1, 0) else (k, f)
      let ph := (f + 4) / 8
      some { i := i, f := f, iPhase := if ph = 32 then i + 1 else i, phase := if ph = 32 then 0 else ph }
    else bracketGo z (k + 1) (b :: rest)
  | _, _ => none

/-- The bracket of a target in a history, oldest line first. -/
def bracketOf (z : Int) (h : List InLine) : Option Bracket := bracketGo z 0 h

/-- Lines of a window before line i (R152): 7 in the linear-phase window, 13 in the minimum-phase window. -/
def windowBack (minPhase : Bool) : Nat := if minPhase then 13 else 7

/-- The window of a bracket (R152), when the history holds all of it. -/
def windowOf (minPhase : Bool) (b : Bracket) (h : List InLine) : Option (List InLine) :=
  let back := windowBack minPhase
  if b.iPhase < back then none
  else
    let w := (h.drop (b.iPhase - back)).take 16
    if w.length = 16 then some w else none

/-- One output sample (R152, R153): the taps on 16 input samples. Gives the sample and whether it was clamped at 0. -/
def filterSample (cs : List Int) (xs : List Nat) : Nat × Bool :=
  let ps := cs.zip xs
  if ps.any (fun e => e.2 = satMark && 2048 ≤ e.1.natAbs) then (satMark, false)
  else
    let acc := sumI (ps.map (fun e => e.1 * (if e.2 = satMark then satMax else e.2 : Nat)))
    let y := (acc + 8192) / 16384
    if y < 0 then (0, true) else (Nat.min y.toNat satMax, false)

/-- A plane of an output line (R152): each pixel filtered independently. -/
def filterPlane (cs : List Int) (w : List InLine) (q : Nat) : List (Nat × Bool) :=
  let cols := w.map (fun l => l.planes.getD q [])
  (List.range (cols.headD []).length).map (fun px => filterSample cs (cols.map (fun c => c.getD px 0)))

/-- The alias limit η_a of a built-in bank, in 1/100 (R154). -/
def aliasLimit (bank : Nat) : Nat := match bank with | 2 => 167 | 3 => 250 | _ => 106

/-- The AUTO choice (R155): narrower while η exceeds the limit of the bank in use, else wider while η is below the wider bank's limit less 0.05;
η in Q16.16. At most two steps lie between the three banks. -/
def autoBank (eta : Nat) : Nat → Nat → Nat
  | 0, b => b
  | n + 1, b =>
    if b < 3 ∧ aliasLimit b * 65536 < 100 * eta then autoBank eta n (b + 1)
    else if 1 < b ∧ 100 * eta < (aliasLimit (b - 1) - 5) * 65536 then autoBank eta n (b - 1)
    else b

/-- The DC-blocking stage on one sample (R165): the output, the new profile value, and whether the output was clamped at 0. -/
def dcBlock (shift level gate : Nat) (frozen : Bool) (y m : Nat) : Nat × Nat × Bool :=
  if y = satMark then (y, m, false)
  else
    let dd : Int := (y : Int) - (m / 256 : Nat)
    let o : Int := dd + level
    let out : Nat := if o < 0 then 0 else Nat.min o.toNat satMax
    let m' := if !frozen && (gate == 0 || decide (dd.natAbs ≤ gate)) then
      ofSigned 32 ((m : Int) + (((y * 256 : Nat) : Int) - m) / 2 ^ shift) else m
    (out, m', decide (o < 0))

namespace Device

/-- The resampler of channel `n`. -/
def rsOf (d : Device) (n : Nat) : Resampler := d.rs.getD n {}

/-- The resampler of channel `n` changed. -/
def modRs (d : Device) (n : Nat) (f : Resampler → Resampler) : Device := { d with rs := modTab 16 {} d.rs n f }

/-- The pitch of a channel's grid in Q48.16 µm (R148, R162): Λ, or 2Λ for preview lines. -/
def pitch (d : Device) (n : Nat) (bin : Bool) : Int := (d.num .CH_RS_PITCH n : Int) * (if bin then 2 else 1)

/-- D × Λ + o_q (R148, R162): plane offsets count for data type 0x28 alone. -/
def planeShift (d : Device) (n q : Nat) : Int :=
  let delay : Int := (d.num .CH_PH_DELAY n * d.num .CH_RS_PITCH n / 256 : Nat)
  let o : Int := if d.num .CH_DT n = 0x28 then (match q with | 1 => d.int .CH_PH_PLANE1 n | 2 => d.int .CH_PH_PLANE2 n | _ => 0) else 0
  delay + o

/-- The channel uses the minimum-phase window (R152, R154, R157). -/
def minPhase (d : Device) (n : Nat) : Bool :=
  match d.num .CH_RS_FILTER n with
  | 4 => true
  | 5 => d.num .CH_RS_USER_KIND n = 1
  | _ => false

/-- The coefficients of a phase of a bank of channel `n`. -/
def bankRow (d : Device) (n bank ph : Nat) : List Int :=
  if bank = 5 then userRow (d.oct .CH_RS_USER_COEF n) ph else builtinRow bank ph

/-- RESAMPLER_HISTORY_CLEAR (R161, R165): the history, the measure of η and the profile's seed; with no line emitted yet the next target is found anew. -/
def clearHistory (d : Device) (n : Nat) : Device :=
  d.modRs n (fun x => { x with hist := [], entered := 0, places := [], profile := none, next := if x.last.isNone then none else x.next })

/-- The channel enters RESTARTING (R158, R161): no target, no blind gap. -/
def restartResampler (d : Device) (n : Nat) : Device :=
  (d.clearHistory n).modRs n (fun x => { x with last := none, next := none, balance := 0 })

/-- The first point of the grid from `origin` with pitch `l` that is at or after `y` (or after it, when `strict`): j and y. -/
def gridPoint (origin l y : Int) (strict : Bool) : Int × Int :=
  let k := -((origin - y) / l)           -- ceiling of (y − origin) / l
  let k := if strict ∧ origin + k * l = y then k + 1 else k
  (k, origin + k * l)

/-- The first grid point whose windows are complete (R161), as the history stands: for every plane the place of its phase, which the carry of φ may put on the line
after the target's bracket, lies the window's lead into the history. -/
def firstTarget (d : Device) (n : Nat) : Option (Nat × Int) :=
  let x := d.rsOf n
  let back := windowBack (d.minPhase n)
  match x.hist[back - 1]?, x.hist[back]? with
  | some k, some l =>
    let thr := k.p + -((-(503 * (l.p - k.p))) / 512)     -- from here on φ carries to line `back` (R151)
    let least := (List.range (d.planesOf n)).foldl (fun a q => let s := thr - d.planeShift n q; if a < s then s else a) (thr - d.planeShift n 0)
    let (j, y) := gridPoint x.origin (d.pitch n x.bin) least false
    some (ofSigned 32 j, y)
  | _, _ => none

/-- The next target on a grid with origin `g` and pitch `l` after the last y emitted (R162, R164, R169); none when no line has been emitted. -/
def targetAfterLast (x : Resampler) (g l : Int) : Option (Nat × Int) :=
  x.last.map (fun e => let (j, y) := gridPoint g l e.2 true; (ofSigned 32 j, y))

/-- POS_GRID_ORIGIN follows a pending origin once every enabled channel has switched to it (R169). -/
def gridSettle (d : Device) : Device :=
  match d.gridPend with
  | none => d
  | some g =>
    if (List.range 16).any (fun m => d.on .CH_ENABLE m && (d.rsOf m).pending.isSome) then d
    else { d with gridPend := none, gridPast := toSigned 64 (d.num .POS_GRID_ORIGIN 0) :: d.gridPast }.set .POS_GRID_ORIGIN 0 (ofSigned 64 g)

/-- A channel takes its pending origin at once, which a disabled one does (R169). -/
def takeOrigin (d : Device) (n : Nat) : Device :=
  (d.modRs n (fun x => { x with origin := x.pending.getD x.origin, pending := none })).gridSettle

/-- GRID_SWITCH (R169): the channel takes the pending origin once its next target would reach it, or at the first point of the new grid after its last line. Before its
first line it takes the first point of the new grid whose windows are complete. -/
def gridSwitch (d : Device) (n : Nat) : Device :=
  let x := d.rsOf n
  match x.pending, x.next with
  | some g, some (_, y) =>
    let l := d.pitch n x.bin
    let switched : Option (Option (Nat × Int)) := match x.last with
      | some (_, ly) => if g ≤ ly then some (targetAfterLast x g l) else if g ≤ y then some (some (0, g)) else none
      | none =>
        if g ≤ y then
          some (match (d.modRs n (fun z => { z with origin := g })).firstTarget n with
            | some (j, y') => some (if y' < g then (0, g) else (j, y'))
            | none => none)
        else none
    match switched with
    | none => d
    | some t => (d.modRs n (fun z => { z with origin := g, pending := none, next := t })).gridSettle
  | _, _ => d

/-- A new pending origin (R168, R169): for every enabled channel; a disabled one takes it at once. -/
def setGrid (d : Device) (g : Int) : Device :=
  let d := { d with gridPend := some g }
  ((List.range 16).foldl (fun d n =>
    if d.on .CH_ENABLE n then d.modRs n (fun x => { x with pending := some g })
    else d.modRs n (fun x => { x with origin := g, pending := none })) d).gridSettle

/-- η of a target at place `p` (in 1/256 of an input line) after the places before it (R155), in Q16.16. -/
def etaOf (pl spacing : Int) (places : List Nat) (p : Nat) : Nat :=
  match (places.take 63).getLast? with
  | some p0 => (p - p0) * 256 / (places.take 63).length
  | none => if spacing ≤ 0 then 0 else (pl * 65536 / spacing).toNat

/-- The profile of a channel is frozen for an output line (R166). -/
def dcFrozen (d : Device) (n q : Nat) (blind : Bool) : Bool :=
  let hold := d.num .CH_DCB_HOLD_LINE n
  d.on .CH_DCB_EN n && (d.on .CH_DCB_FREEZE n || (hold < 64 && (d.evt.lines.getD hold {}).level) || blind || q ≠ 0)

/-- The DC-blocking stage on an output line (R165, R166): seeding, freezing, the profile. -/
def dcStage (d : Device) (n : Nat) (planes : List (List Nat)) (q : Nat) (bin : Bool) : List (List Nat) × Device :=
  if !d.on .CH_DCB_EN n || bin then (planes, d)
  else
    let level := d.num .CH_DCB_LEVEL n
    match (d.rsOf n).profile with
    | none =>
      let d := d.modRs n (fun x => { x with profile := some (planes.map (fun p => p.map (· * 256))) })
      (planes.map (fun p => p.map (fun _ => level)), d)
    | some m =>
      let res := (planes.zip m).map (fun e => (e.1.zip e.2).map (fun s =>
        dcBlock (d.num .CH_DCB_SHIFT n) level (d.num .CH_DCB_GATE n) (d.dcFrozen n q false) s.1 s.2))
      let clips := res.foldl (fun a r => a + (r.filter (fun s => s.2.2)).length) 0
      let d := d.modRs n (fun x => { x with profile := some (res.map (fun r => r.map (fun s => s.2.1))) })
      (res.map (fun r => r.map Prod.fst), d.add .CH_RS_CLIP n clips)

/-- The position quality of an output line: after a slip it is COASTED at best until the next repeat boundary (R423). -/
def slipped (d : Device) (q : Nat) : Nat := if d.fold.slip then Nat.max q 1 else q

/-- An output line leaves for the stitcher with the grid it was targeted on: the channel's objects and counters follow it, and the next target is one pitch on. -/
def emitLine (d : Device) (n : Nat) (o : OutLine) : OutLine × Device :=
  let x := d.rsOf n
  let o := { o with grid := x.origin, geo := { o.geo with pitch := d.num .CH_RS_PITCH n } }
  let d := ((d.bump .CH_RS_OUT n).set .CH_RS_LINE n o.j).setOn .CH_DCB_FROZEN n (d.dcFrozen n o.q o.blind)
  let d := (d.set .CH_RS_Y n (ofSigned 64 o.y)).set .CH_RS_QUALITY n o.q
  let d := d.modRs n (fun z => { z with last := some (o.j, o.y), next := some ((o.j + 1) % 2 ^ 32, o.y + d.pitch n x.bin) })
  (o, d)

/-- The samples of the last non-blind output line (R153); zero samples before the first, as R93 has for lines. -/
def lastGood (d : Device) (n : Nat) (bin : Bool) : List (List Nat) :=
  match (d.rsOf n).good.getD (b2n bin) none with
  | some g => g
  | none =>
    let px := if bin then (d.chPixels n + 1) / 2 else d.chPixels n
    List.replicate (d.planesOf n) (List.replicate px 0)

/-- A blind output line at a target (R153, R158, R161). -/
def blindLine (d : Device) (n j : Nat) (y : Int) (t q : Nat) (src : Option InLine) : OutLine × Device :=
  let bin := (d.rsOf n).bin
  d.emitLine n
    { j := j, y := y, t := t, q := q, blind := true, bin := bin
      gen := (src.map InLine.gen).getD (d.num .CH_CAM_GEN_SEEN n), line := (src.map InLine.line).getD 0
      temp := (src.map InLine.temp).getD 0x8000, planes := d.lastGood n bin
      geo := (src.map InLine.geo).getD (d.geoNow n), seq := (src.map InLine.seq).getD 0 }

/-- The time and quality of a target from a plane's bracket (R151); of the oldest line when the target lies before it (R161). -/
def targetTime (h : List InLine) (b : Option Bracket) : Nat × Nat × Option InLine :=
  match b with
  | some k =>
    match h[k.i]?, h[k.i + 1]? with
    | some a, some c => (a.t + k.f * (c.t - a.t) / 256, Nat.max a.q c.q, some a)
    | some a, none => (a.t, a.q, some a)
    | none, _ => (0, 0, none)
  | none => match h with
    | a :: _ => (a.t, a.q, some a)
    | [] => (0, 0, none)

/-- One target made an output line when its windows are complete (R152, R153, R155, R158, R161); none when it must wait for more lines. A target that no later line can
complete, because it lies before the first one with complete windows, is blind (R161; log entry 51). -/
def makeTarget (d : Device) (n j : Nat) (y : Int) : Option (OutLine × Device) :=
  let x := d.rsOf n
  let h := x.hist
  let zs := (List.range (d.planesOf n)).map (fun q => y + d.planeShift n q)
  let mp := d.minPhase n
  let newest := (h.getLast?.map InLine.p).getD 0
  let brs := zs.map (fun z => bracketOf z h)
  let wins := brs.map (fun b => b.bind (fun k => windowOf mp k h))
  let (t, _, src) := targetTime h (brs.headD none)
  let q := d.slipped (brs.foldl (fun a b => let (_, qq, _) := targetTime h b; Nat.max a qq) 0)
  let early := match d.firstTarget n with | some (_, fy) => decide (y < fy) | none => false
  if h = [] || zs.any (fun z => decide (newest ≤ z)) then none
  else match brs.headD none, wins.all Option.isSome with
  | some b0, true =>
      let place := (x.entered - h.length + b0.i) * 256 + b0.f
      let spacing : Int := match h[b0.i]?, h[b0.i + 1]? with
        | some a, some c => c.p - a.p
        | _, _ => 0
      let eta := etaOf (d.pitch n x.bin) spacing x.places place
      let fil := d.num .CH_RS_FILTER n
      let bank := if fil = 0 then autoBank eta 2 (if 1 ≤ x.bank ∧ x.bank ≤ 3 then x.bank else 1) else fil
      let rows := brs.map (fun b => d.bankRow n bank ((b.map Bracket.phase).getD 0))
      let blind := (rows.zip wins).any (fun e => (e.1.zip (e.2.getD [])).any (fun s => s.2.blind && 2048 ≤ s.1.natAbs))
      let d := (d.set .CH_RS_RATIO n (Nat.min eta (2 ^ 32 - 1))).modRs n (fun z => { z with places := (place :: z.places).take 64, bank := bank })
      let d := d.set .CH_RS_BANK n bank
      if blind then some (d.blindLine n j y t q src)
      else if x.balance = 0 then
        some ((d.bump .CH_RS_OVERSPEED n).blindLine n j y t q src)
      else
        let d := d.modRs n (fun z => { z with balance := z.balance - 1 })
        let d := d.bumpIf (decide (bank ≤ 4) && decide (aliasLimit bank * 65536 < 100 * eta)) .CH_RS_ALIAS n
        let outs := ((rows.zip wins).zipIdx).map (fun e => filterPlane e.1.1 (e.1.2.getD []) e.2)
        let clips := outs.foldl (fun a p => a + (p.filter Prod.snd).length) 0
        let d := d.add .CH_RS_CLIP n clips
        let (planes, d) := d.dcStage n (outs.map (fun p => p.map Prod.fst)) q x.bin
        let d := d.modRs n (fun z => { z with good := modTab 2 none z.good (b2n x.bin) (fun _ => some planes) })
        some (d.emitLine n
          { j := j, y := y, t := t, q := q, blind := false, bin := x.bin, gen := (src.map InLine.gen).getD 0
            line := (src.map InLine.line).getD 0, temp := (src.map InLine.temp).getD 0, planes := planes
            geo := (src.map InLine.geo).getD (d.geoNow n), seq := (src.map InLine.seq).getD 0 })
  | _, _ => if early then some (d.blindLine n j y t q src) else none

/-- Targets that have become due are emitted in order (R151); at most `k`. Gives the lines, oldest first. -/
def emitTargets (n : Nat) : Nat → Device → List OutLine → List OutLine × Device
  | 0, d, acc => (acc.reverse, d)
  | k + 1, d, acc =>
    let d := match (d.rsOf n).next with
      | some _ => d
      | none => d.modRs n (fun x => { x with next := d.firstTarget n })
    let d := d.gridSwitch n
    match (d.rsOf n).next with
    | none => (acc.reverse, d)
    | some (j, y) =>
      match d.makeTarget n j y with
      | none => (acc.reverse, d)
      | some (o, d) => emitTargets n k d (o :: acc)

/-- Lines of the history that no later target needs are let go: those more than a window before the bracket of the next target's least plane. -/
def pruneHistory (d : Device) (n : Nat) : Device :=
  let x := d.rsOf n
  match x.next with
  | none => d
  | some (_, y) =>
    let z := (List.range (d.planesOf n)).foldl (fun a q => let s := y + d.planeShift n q; if s < a then s else a) (y + d.planeShift n 0)
    let before := (x.hist.filter (fun l => decide (l.p ≤ z))).length
    d.modRs n (fun r => { r with hist := r.hist.drop (before - 16) })

/-- Targets that one input line can bring due: those up to its position, and a window of slack. -/
def dueBound (d : Device) (n : Nat) : Nat :=
  let x := d.rsOf n
  match x.hist.getLast?, x.hist.head? with
  | some b, some a =>
    let from_ := match x.last with | some (_, y) => (if y < a.p then y else a.p) | none => a.p
    ((b.p - from_) / d.pitch n x.bin).toNat + 2
  | _, _ => 1

/-- A corrected line enters the resampler (R149, R150, R158, R161): its position from the retained counts at t_mid, the history, and the output
lines it completes. A change of the BIN value puts the targets on the grid of the new pitch (R162). -/
def resampleLine (d : Device) (n : Nat) (c : CorLine) (exposure : Nat) : List OutLine × Device :=
  let turned := c.bin != (d.rsOf n).bin
  let d := if c.restart || turned then d.clearHistory n else d
  let d := if turned then d.modRs n (fun x => { x with bin := c.bin, next := targetAfterLast x x.origin (d.pitch n c.bin) }) else d
  let tmid := c.trig + exposure / 2
  let newest := (d.rsOf n).hist.getLast?
  match d.readingPast tmid with
  | none => ([], d.bump .CH_RS_NONADV n)
  | some (p, q) =>
    let p := toSigned 64 p
    let adv := match newest with | some l => decide (l.p < p) | none => true
    if !adv then ([], d.bump .CH_RS_NONADV n)
    else
      let l : InLine := { p := p, t := tmid, q := q, idx := (d.rsOf n).entered, gen := c.gen, line := c.line, temp := c.temp
                          blind := c.blind, planes := c.planes, geo := c.geo, seq := c.seq }
      let d := d.modRs n (fun x => { x with hist := x.hist ++ [l], entered := x.entered + 1, balance := Nat.min (x.balance + 1) 2 })
      let (os, d) := emitTargets n (d.dueBound n) d []
      (os, d.pruneHistory n)

/-- Resampler objects of the live set at a channel hand-over (R164): a change of the pitch restarts the grid after the last y. -/
def rsHandover (d : Device) (n oldPitch : Nat) : Device :=
  if d.num .CH_RS_PITCH n = oldPitch then d
  else d.modRs n (fun r => { r with next := targetAfterLast r r.origin (d.pitch n r.bin) })

end Device

end Sys2Proof.Machine
end

