-- ==== Sys2Proof/Machine/FoldBase.lean ====
section
/-!
DEFINITION. Fold packets (R411, R414 to R416): the fold header, the choice of a way round the ring, sending, and the contents of the messages that the
inspection path sends. The field sizes of the contents are a choice of the model (log entry 11): numbers little-endian, in the order R415 lists them.
-/
namespace Sys2Proof.Machine

/-- The west and east links. -/
abbrev westLink : Nat := 16
/-- The east link. -/
abbrev eastLink : Nat := 17

namespace Device

/-- FOLD_ID of the device (R5). -/
def foldId (d : Device) : Nat := d.ident.foldId % 8

/-- The fold's state beside its objects changed. -/
def modFold (d : Device) (f : Fold → Fold) : Device := { d with fold := f d.fold }

/-- The device is the bellwether of a fold or alone (R417). -/
def bellwether (d : Device) : Bool := d.foldId == 0

/-- The device belongs to a fold (R417): FORMED or MEMBER, or ISOLATED from one. -/
def inFold (d : Device) : Bool := [2, 3, 4].contains (d.num .FLD_STATE 0)

/-- The devices of the ring in ascending FOLD_ID (R411): those expected or joined, the device itself among them. -/
def ringIds (d : Device) : List Nat :=
  bitsOf 8 (d.num .FLD_EXPECT 0 ||| d.num .FLD_MEMBERS 0 ||| 2 ^ d.foldId)

/-- Links from the device to `dst` going east (R411): places round the ring. -/
def eastHops (d : Device) (dst : Nat) : Nat :=
  let r := d.ringIds
  let i := r.findIdx (· = d.foldId)
  let j := r.findIdx (· = dst)
  (j + r.length - i) % Nat.max 1 r.length

/-- A fold link carries packets (R411). -/
def foldUp (d : Device) (k : Nat) : Bool := (d.link k).up && (d.link k).ringOk

/-- The link a message to `dst` leaves on (R414): the shorter way, east on a tie; the other way when that link is down. -/
def foldWay (d : Device) (dst : Nat) : Option Nat :=
  let e := d.eastHops dst
  let first := if e ≤ d.ringIds.length - e then eastLink else westLink
  let other := if first = eastLink then westLink else eastLink
  if d.foldUp first then some first else if d.foldUp other then some other else none

/-- The fold header (R414). -/
def foldHeader (dst src hops cls mseq : Nat) : Octets := [dst, src, hops, cls] ++ le 4 mseq

/-- The next MSEQ of a VC (R414). -/
def nextMseq (d : Device) (vc : Nat) : Nat × Device :=
  (d.fold.mseq.getD vc 0, d.modFold (fun f => { f with mseq := modTab 4 0 f.mseq vc (fun m => (m + 1) % 2 ^ 32) }))

/-- A message with a given MSEQ leaves in class 0 (R414); with no way to go it is lost (R416). -/
def foldSendAs (d : Device) (dst dt vc mseq : Nat) (body : Octets) : Device :=
  let p (k : Nat) (d : Device) : Device :=
    if d.foldUp k then d.sendPacket k vc { dt := dt, ctl := 0, cls := 0, payload := foldHeader dst d.foldId 0 0 mseq ++ body }
    else d.bump .FLD_LOST 0
  if dst = 0xFF then p westLink (p eastLink d)
  else match d.foldWay dst with
    | some k => p k d
    | none => d.bump .FLD_LOST 0

/-- A message leaves. -/
def foldSend (d : Device) (dst dt vc : Nat) (body : Octets) : Device :=
  let (m, d) := d.nextMseq vc
  d.foldSendAs dst dt vc m body

/-- Three copies of a message leave (R415); they carry one MSEQ (R414). -/
def foldSend3 (d : Device) (dst dt vc : Nat) (body : Octets) : Device :=
  let (m, d) := d.nextMseq vc
  ((d.foldSendAs dst dt vc m body).foldSendAs dst dt vc m body).foldSendAs dst dt vc m body

/-- A request on VC2 leaves and waits for its answer (R416). -/
def foldAsk (d : Device) (dst dt : Nat) (body : Octets) : Device :=
  let (m, d) := d.nextMseq 2
  let d := d.modFold (fun f => { f with reqs := f.reqs.filter (fun r => r.dt ≠ dt) ++ [{ dst := dst, dt := dt, mseq := m, body := body }] })
  d.foldSendAs dst dt 2 m body

/-- A member's egress queue with QUE_PEER 2 sends its items to the bellwether (R426); one that finds no way is lost and counted (R416), and an
ISOLATED member drops them (R419). At most `n` items. -/
def foldDrainN (q : Nat) : Nat → Device → Device
  | 0, d => d
  | n + 1, d =>
    match (d.ring q).items with
    | [] => d
    | it :: _ =>
      match d.num .FLD_STATE 0 with
      | 3 => foldDrainN q n (let sent := (d.takeItem q).foldSend 0 0x4C 3 (it.wire q); if (d.foldWay 0).isNone then sent.countDrop q else sent)
      | 4 => foldDrainN q n ((d.takeItem q).countDrop q)
      | _ => d

/-- The items of a queue go where R426 sends them. -/
def foldDrain (d : Device) (q : Nat) : Device :=
  if d.foldId != 0 && d.num .QUE_STATE q != 0 && (d.ring q).peer = 2 && (d.ring q).dir = 0 then foldDrainN q (d.ring q).items.length d else d

/-- An item is placed in an egress queue, and sent on at once to the bellwether where the queue's peer is the fold. -/
def foldPlace (d : Device) (q kind : Nat) (payload : Octets) : Device := (d.placeItem q kind payload).foldDrain q

/-- REPEAT_SEND (R415): k, Y_k and e of an accepted or predicted Y, from a bellwether with a fold. -/
def repeatSend (d : Device) (k y : Nat) (e : Int) : Device :=
  if d.bellwether && d.inFold then d.foldSend3 0xFF 0x45 1 (le 4 k ++ le 8 y ++ le 4 (ofSigned 32 e)) else d

/-- GRID_SEND (R415): the pending origin. -/
def gridSend (d : Device) (g : Nat) : Device :=
  if d.bellwether && d.inFold then d.foldSend3 0xFF 0x46 1 (le 8 g) else d

end Device

end Sys2Proof.Machine
end

