-- ==== Sys2Proof/Machine/HeftBase.lean ====
section
/-!
DEFINITION. The heft word, the layout of a heft in its paddock, reading words, extents, paddock states, generations and digests (R201 to R210).
-/
namespace Sys2Proof.Machine

/-- The word that padding and absent blocks read as (R206). -/
abbrev padWord : Nat := 0x3F0
/-- E of a word (R201). -/
def wordE (w : Nat) : Nat := field w 23 10
/-- TOL. -/
def wordTol (w : Nat) : Nat := field w 9 4
/-- CONF. -/
def wordConf (w : Nat) : Bool := bit w 3
/-- DIE. -/
def wordDie (w : Nat) : Bool := bit w 2
/-- EDGE. -/
def wordEdge (w : Nat) : Bool := bit w 1
/-- VAR. -/
def wordVar (w : Nat) : Bool := bit w 0

/-- A word from its fields (R201). -/
def mkWord (e tol : Nat) (conf die edge var : Bool) : Nat :=
  (e % 16384) * 1024 + (tol % 64) * 16 + b2n conf * 8 + b2n die * 4 + b2n edge * 2 + b2n var

/-- T(c) in Q14.10 (R202); code 63 is unlimited, 2^31 − 1 where R213 computes with it. -/
def tolOf (c : Nat) : Nat :=
  if 63 ≤ c then 2 ^ 31 - 1 else (match c % 4 with | 0 => 256 | 1 => 304 | 2 => 362 | _ => 431) * 2 ^ (c / 4)

/-- The seal of a word (R214). -/
def sealWord (confMax w : Nat) : Nat :=
  let v := wordVar w && wordConf w
  mkWord (wordE w) (wordTol w) (!v && wordTol w != 63 && wordTol w ≤ confMax) (wordDie w) (wordEdge w) v

/-- Block columns of a layer (R205). -/
def Layer.bcols (l : Layer) : Nat := (l.cols + 63) / 64
/-- Block rows. -/
def Layer.brows (l : Layer) : Nat := (l.lines + 63) / 64
/-- Blocks of a layer. -/
def Layer.blocks (l : Layer) : Nat := l.bcols * l.brows * l.planes
/-- Learning tile columns. -/
def Layer.tcols (l : Layer) : Nat := (l.cols + 255) / 256
/-- Learning tile rows. -/
def Layer.trows (l : Layer) : Nat := (l.lines + 255) / 256
/-- Learning tiles of a layer. -/
def Layer.tiles (l : Layer) : Nat := l.tcols * l.trows * l.planes
/-- Words of a layer, padding excluded (R207). -/
def Layer.words (l : Layer) : Nat := l.cols * l.lines * l.planes

/-- Words of a heft (R207). -/
def heftWords (ls : List Layer) : Nat := ls.foldl (fun a l => a + l.words) 0
/-- Blocks of a heft. -/
def heftBlocks (ls : List Layer) : Nat := ls.foldl (fun a l => a + l.blocks) 0
/-- Tiles of a heft (R215). -/
def heftTiles (ls : List Layer) : Nat := ls.foldl (fun a l => a + l.tiles) 0

/-- Most words of a heft (R207). -/
def Identity.maxWords (id : Identity) : Nat := if id.part = .vlx1208c then 6000000000 else 12000000000

/-- A heft is within R207 and R215. -/
def Identity.heftFits (id : Identity) (ls : List Layer) : Bool := heftWords ls ≤ id.maxWords && heftTiles ls ≤ 262144

/-- The layer of a set. -/
def layerIn (ls : List Layer) (set : Nat) : Option Layer := ls.find? (fun l => l.set = set)

/-- A block lies in the layers of a heft. -/
def blockIn (ls : List Layer) (b : BlockAt) : Bool :=
  match layerIn ls b.set with
  | some l => b.plane < l.planes && b.br < l.brows && b.bc < l.bcols
  | none => false

/-- The place of a block in the directory (R208). -/
def dirIndex (ls : List Layer) (b : BlockAt) : Nat :=
  match layerIn ls b.set with
  | some l => heftBlocks (ls.filter (fun m => m.set < b.set)) + (b.plane * l.brows + b.br) * l.bcols + b.bc
  | none => 0

/-- The place of a tile among the tiles of a heft. -/
def tileIndex (ls : List Layer) (set plane tr tc : Nat) : Nat :=
  match layerIn ls set with
  | some l => heftTiles (ls.filter (fun m => m.set < set)) + (plane * l.trows + tr) * l.tcols + tc
  | none => 0

/-- Every block of a heft in directory order. -/
def allBlocks (ls : List Layer) : List BlockAt :=
  ls.flatMap (fun l => (List.range l.planes).flatMap (fun p => (List.range l.brows).flatMap (fun r =>
    (List.range l.bcols).map (fun c => { set := l.set, plane := p, br := r, bc := c }))))

/-- Word `i` of a block is padding (R205): beyond the layer's columns or lines. -/
def isPadding (l : Layer) (b : BlockAt) (i : Nat) : Bool := l.cols ≤ 64 * b.bc + i % 64 || l.lines ≤ 64 * b.br + i / 64

/-- The first gap of `n` bytes at or after `a` between extents in rising order. -/
def firstGap (n : Nat) : Nat → List (Nat × Nat) → Nat
  | a, [] => a
  | a, (o, l) :: t => if a + n ≤ o then a else firstGap n (Nat.max a (o + l)) t

namespace Device

/-- The hefts beside their objects changed. -/
def modHeft (d : Device) (f : Heft → Heft) : Device := { d with heft := f d.heft }

/-- A heft that only lines of earlier repeats read (R226): numbers from 2 on name them where a paddock is named. -/
def oldHeft (d : Device) (k : Nat) : Option OldHeft := if 2 ≤ k then d.heft.old[k - 2]? else none

/-- The layers of a paddock, or of an old heft. -/
def layersOf (d : Device) (k : Nat) : List Layer :=
  match d.oldHeft k with
  | some o => o.layers
  | none => d.heft.layers.getD k []

/-- The running paddock (R209). -/
def runPad (d : Device) : Nat := if d.num .HFT_PD_ROLE 0 = 0 then 0 else 1

/-- The standby paddock (R209). -/
def standby (d : Device) : Nat := 1 - d.runPad

/-- State of a paddock (R209). -/
def padState (d : Device) (k : Nat) : Nat := d.num .HFT_PD_STATE k

/-- Address of a block's directory entry (R208). -/
def dirAddr (d : Device) (k : Nat) (b : BlockAt) : Nat := d.ident.paddockBase k + 4096 + 8 * dirIndex (d.layersOf k) b

/-- A block's directory entry (R208): offset and length, none when it is not present. -/
def dirEntry (d : Device) (k : Nat) (b : BlockAt) : Option (Nat × Nat) :=
  let e := ofLE (d.dramPeek (d.dirAddr k b) 8)
  if bit e 63 then some (field e 33 0, field e 62 48) else none

/-- A block's directory entry is written. -/
def setDir (d : Device) (k : Nat) (b : BlockAt) (off len : Nat) : Device :=
  d.dramWrite (d.dirAddr k b) (le 8 (2 ^ 63 + len * 2 ^ 48 + off))

/-- The bytes of a block's extent; none when it is not present. -/
def blockBytes (d : Device) (k : Nat) (b : BlockAt) : Option Octets :=
  match d.oldHeft k with
  | some o => (o.blocks.find? (fun e => e.1 = b)).map Prod.snd
  | none => (d.dirEntry k b).map (fun e => d.dramPeek (d.ident.paddockBase k + e.1) e.2)

/-- A block was left unsealed in a heft in force (R217). -/
def leftUnsealed (d : Device) (k : Nat) (b : BlockAt) : Bool :=
  match d.oldHeft k with
  | some o => o.unsealed.contains b
  | none => d.heft.unsealed.contains (k, b)

/-- The words of a block as it reads (R206, R217, R326): a block left unsealed in a heft in force reads with CONF = 0. -/
def blockWords (d : Device) (k : Nat) (b : BlockAt) : List Nat :=
  match (d.blockBytes k b).map decodeBlock with
  | some (.ok 0 xs) => if d.leftUnsealed k b then xs.map (fun w => if wordConf w then w - 8 else w) else xs
  | _ => List.replicate blockSamples padWord

/-- The words of a block as the compare reads it (R318): one whose last read was poisoned reads as a block that is not present. -/
def readWords (d : Device) (k : Nat) (b : BlockAt) : List Nat :=
  if d.heft.poisoned.contains (k, b) then List.replicate blockSamples padWord else d.blockWords k b

/-- The 64 lines of a block row of a plane, each across the layer. -/
def bandOf (d : Device) (k : Nat) (l : Layer) (plane br : Nat) : List (List Nat) :=
  let bs := (List.range l.bcols).map (fun c => chunks 64 64 (d.readWords k { set := l.set, plane := plane, br := br, bc := c }))
  (List.range 64).map (fun r => (bs.flatMap (fun rows => rows.getD r [])).take l.cols)

/-- Lines `a` to `b` of a plane of a layer: line and its words. -/
def heftLines (d : Device) (k : Nat) (l : Layer) (plane a b : Nat) : List (Nat × List Nat) :=
  let b := Nat.min b (l.lines - 1)
  ((List.range (b / 64 + 1 - a / 64)).flatMap (fun i =>
    let br := a / 64 + i
    ((d.bandOf k l plane br).zipIdx).map (fun e => (64 * br + e.2, e.1)))).filter (fun e => a ≤ e.1 && e.1 ≤ b)

/-- Extents in use in a paddock (R208), in rising order: those of its directory and of the writes in flight. -/
def extents (d : Device) (k : Nat) : List (Nat × Nat) :=
  let a := (allBlocks (d.layersOf k)).filterMap (d.dirEntry k)
  let w := (d.heft.writes.filter (fun x => x.pad = k)).map (fun x => (x.off, x.bytes.length))
  sortBy Prod.fst (a ++ w)

/-- An extent for `n` bytes: the lowest gap of the pool that holds them (log entry 12); none when there is none (R216). -/
def freshExtent (d : Device) (k n : Nat) : Option Nat :=
  let start := pad8 (4096 + 8 * heftBlocks (d.layersOf k))
  let a := firstGap (pad8 n) start ((d.extents k).map (fun e => (e.1, pad8 e.2)))
  if a + pad8 n ≤ d.ident.paddockSize k then some a else none

/-- HFT_PD_BYTES follows the paddock's contents (R230). -/
def refreshBytes (d : Device) (k : Nat) : Device :=
  let ls := d.layersOf k
  if ls = [] then d.set .HFT_PD_BYTES k 0
  else d.set .HFT_PD_BYTES k ((d.extents k).foldl (fun a e => a + pad8 e.2) (4096 + 8 * heftBlocks ls))

/-- The HFT_RUN_COLS, HFT_RUN_LINES and HFT_SB_COLS of every set follow the paddocks (R232). -/
def refreshCols (d : Device) : Device :=
  (List.range 8).foldl (fun d s =>
    let r := layerIn (d.layersOf d.runPad) s
    let b := layerIn (d.layersOf d.standby) s
    ((d.set .HFT_RUN_COLS s ((r.map Layer.cols).getD 0)).set .HFT_RUN_LINES s ((r.map Layer.lines).getD 0)).set .HFT_SB_COLS s
      ((b.map Layer.cols).getD 0)) d

/-- The HEFT entry of the journal (R374): new state, job and digest of a paddock. -/
def journalHeft (d : Device) (k : Nat) : Device :=
  d.journalDevice 0x06 ⟨.HFT_PD_STATE, k⟩ 11 (d.num .HFT_PD_GEN k)
    ([d.padState k] ++ le 4 (d.num .HFT_PD_JOB k) ++ slice (d.oct .HFT_PD_DIGEST k) 0 32)

/-- The descriptor of a paddock (R208): state, job, generation, origin, digest and the layer table, in that order (log entry 11). -/
def descriptor (d : Device) (k : Nat) : Octets :=
  let digest := d.oct .HFT_PD_DIGEST k
  let layer (l : Layer) : Octets := [l.set] ++ le 4 l.cols ++ le 4 l.lines ++ [l.planes]
  let b := [d.padState k] ++ le 4 (d.num .HFT_PD_JOB k) ++ le 4 (d.num .HFT_PD_GEN k) ++ [d.num .HFT_PD_ORIGIN k]
    ++ slice (digest ++ List.replicate 32 0) 0 32 ++ [(d.layersOf k).length] ++ (d.layersOf k).flatMap layer
  b ++ List.replicate (123 - b.length) 0

/-- The descriptor follows what is known of the paddock. -/
def refreshDescriptor (d : Device) (k : Nat) : Device := d.dramWrite (d.ident.paddockBase k) (d.descriptor k)

/-- What was put in force for repeat `k`, as recorded (R226): the newest record at or before it. -/
def forceRecord (d : Device) (k : Nat) : Option InForce := d.heft.force.find? (fun f => decide (serialDiff 32 f.k k ≤ 0))

/-- Lines still to be compared read the heft of a generation (R226): those of a set whose repeat in the compare, or whose buffered lines, had it in force. -/
def stillRead (d : Device) (gen : Nat) : Bool :=
  let of_ (k : Nat) : Bool := (d.forceRecord k).any (fun f => f.heftGen = gen)
  gen != 0 && d.stitch.any (fun x => x.k.any of_ || x.buf.any (fun l => (d.rep.starts.find? (fun s => decide (s.y ≤ l.y))).any (fun s => of_ s.k)))

/-- A heft about to be cleared is kept for the lines that are still to be compared with it (R226). -/
def keepOld (d : Device) (k : Nat) : Device :=
  let gen := d.num .HFT_PD_GEN k
  if d.padState k = 3 && d.stillRead gen then
    let o : OldHeft := { pad := k, gen := gen, layers := d.layersOf k
                         blocks := (allBlocks (d.layersOf k)).filterMap (fun b => (d.blockBytes k b).map (fun x => (b, x)))
                         unsealed := (d.heft.unsealed.filter (fun u => u.1 = k)).map Prod.snd }
    d.modHeft (fun h => { h with old := o :: h.old })
  else d

/-- Old hefts that no line reads any more are let go (R226). -/
def releaseOld (d : Device) : Device :=
  if d.heft.old = [] then d else d.modHeft (fun h => { h with old := h.old.filter (fun o => d.stillRead o.gen) })

/-- The directory of a paddock for its layers is cleared (R208); it lies within the paddock. -/
def clearDir (d : Device) (k : Nat) : Device :=
  d.dramClear (d.ident.paddockBase k + 4096) (Nat.min (8 * heftBlocks (d.layersOf k)) (d.ident.paddockSize k - 4096))

/-- A paddock takes the layers of a new heft, its directory clear (R208, R220). -/
def setLayers (d : Device) (k : Nat) (ls : List Layer) : Device :=
  (d.modHeft (fun h => { h with layers := modTab 2 [] h.layers k (fun _ => ls) })).clearDir k

/-- A paddock is cleared (R208): its directory and everything known of its heft; words being learned for it are discarded. -/
def clearPad (d : Device) (k : Nat) : Device :=
  let d := (d.keepOld k).clearDir k
  let d := (((d.set .HFT_PD_GEN k 0).set .HFT_PD_ORIGIN k 0).setOct .HFT_PD_DIGEST k []).set .HFT_PD_SAMPLES k 0
  let d := d.set .HFT_PD_CONF_PPM k 0
  let d := d.modHeft (fun h => { h with
    layers := modTab 2 [] h.layers k (fun _ => [])
    writes := h.writes.filter (fun w => w.pad ≠ k)
    rebuilds := h.rebuilds.filter (fun w => w.pad ≠ k)
    runs := h.runs.filter (fun w => w.pad ≠ k)
    unsealed := h.unsealed.filter (fun u => u.1 ≠ k) })
  (d.refreshBytes k).refreshCols

/-- A paddock takes a state for a job, its descriptor follows, and the change is journaled (R208 to R210). -/
def setPad (d : Device) (k st job : Nat) : Device :=
  (((d.set .HFT_PD_STATE k st).set .HFT_PD_JOB k job).refreshDescriptor k).journalHeft k

/-- A paddock becomes EMPTY. -/
def emptyPad (d : Device) (k : Nat) : Device := (d.clearPad k).setPad k 0 0

/-- Whether a run of tile holds a block that has not been written. -/
def unwritten (x : TileRun) (b : BlockAt) : Bool :=
  x.set == b.set && x.plane == b.plane && x.tr == b.br / 4 && x.tc == b.bc / 4 && !bit x.written (4 * (b.br % 4) + b.bc % 4)

/-- The words of a block with every write of it taken as made (R217): those of its newest write in flight, or as they stand. -/
def finalWords (d : Device) (k : Nat) (b : BlockAt) : List Nat :=
  match d.heft.writes.reverse.find? (fun w => decide (w.pad = k ∧ w.block = b)) with
  | some w => w.words
  | none => d.blockWords k b

/-- The digest of a heft (R210). -/
def heftDigest (d : Device) (k : Nat) : Octets :=
  sha256 ((allBlocks (d.layersOf k)).flatMap (fun b => le 4 (samplesCrc 0 (d.finalWords k b))))

/-- Words with CONF = 1 per million (R230), rounded down. -/
def confPpm (d : Device) (k : Nat) : Nat :=
  let ls := d.layersOf k
  let n := (allBlocks ls).foldl (fun a b => a + ((d.finalWords k b).filter wordConf).length) 0
  n * 1000000 / Nat.max 1 (heftWords ls)

/-- The next heft generation (R210), kept in MRAM (R376). -/
def nextHeftGen (d : Device) : Nat × Device :=
  let g := (d.ctr.heftGen + 1) % 2 ^ 32
  let g := if g = 0 then 1 else g
  (g, { d with ctr := { d.ctr with heftGen := g, slot := (d.ctr.slot + 1) % 64, seq := (d.ctr.seq + 1) % 2 ^ 32 } })

/-- A heft becomes VALID (R210): generation, digest, origin. -/
def heftValid (d : Device) (k origin : Nat) : Device :=
  let (g, d) := d.nextHeftGen
  let d := ((d.set .HFT_PD_GEN k g).set .HFT_PD_ORIGIN k origin).setOct .HFT_PD_DIGEST k (d.heftDigest k)
  let d := (d.set .HFT_PD_SAMPLES k (heftWords (d.layersOf k))).set .HFT_PD_CONF_PPM k (d.confPpm k)
  d.setPad k 3 (d.num .HFT_PD_JOB k)

/-- Members of a set in the live set (R177), in ascending order. -/
def members (d : Device) (s : Nat) : List Nat := (List.range 16).filter (fun n => d.num .CH_STI_SET n = s)

/-- Members of a set that are ON. -/
def onMembers (d : Device) (s : Nat) : List Nat := (d.members s).filter (fun n => d.num .CH_STATE n = 1)

/-- The pitch Λ of a set, Q16.16 µm (R177). -/
def setPitch (d : Device) (s : Nat) : Nat :=
  match d.members s with
  | n :: _ => d.num .CH_RS_PITCH n
  | [] => 0

/-- The planes of a set. -/
def setPlanes (d : Device) (s : Nat) : Nat :=
  match d.members s with
  | n :: _ => d.planesOf n
  | [] => 0

/-- The layers of a learned heft (R204). -/
def learnLayers (d : Device) : List Layer :=
  (List.range 8).filterMap (fun s =>
    if d.members s = [] then none
    else some { set := s, cols := d.num .STI_SET_WIDTH s, lines := d.num .HFT_SET_LINES s, planes := d.setPlanes s })

end Device

end Sys2Proof.Machine
end

