-- ==== Sys2Proof/Machine/Repeat.lean ====
section
/-!
DEFINITION. Repeats (R185 to R188, R424): their starts from marks, prediction and REPEAT messages, the stretch, and the repeat and heft line of a stitched
line.
-/
namespace Sys2Proof.Machine

/-- One million. -/
abbrev ppm : Int := 1000000

/-- A length scaled by 1 + e × 10^−6, rounded down (log entry 8). -/
def stretched (len e : Int) : Int := len * (ppm + e) / ppm

namespace Device

/-- The repeats changed. -/
def modRep (d : Device) (f : Repeats → Repeats) : Device := { d with rep := f d.rep }

/-- L_rep (R186), Q48.16 µm: H × Λ of the repeat set's layer in the running heft, in the heft being learned during HEFTING (R225), and HFT_SET_LINES when
neither has one (log entry 13). -/
def lRep (d : Device) : Int :=
  let s := d.num .STI_REPEAT_SET 0
  let pad := if d.num .DEV_STATE 0 = 1 then d.standby else d.runPad
  let h := match layerIn (d.layersOf pad) s with
    | some l => l.lines
    | none => d.num .HFT_SET_LINES s
  (h * d.setPitch s : Nat)

/-- The repeats come from the bellwether (R424): on every device with another FOLD_ID than 0, joined or not (R417, log entry 31). -/
def followsRepeats (d : Device) : Bool := d.ident.foldId % 8 != 0

/-- The stretch in force for the next start when no start precedes it. -/
def stretchNow (d : Device) : Int :=
  if d.num .STI_MARK_SRC 0 = 0 && !d.followsRepeats then d.int .STI_STRETCH_FIXED_PPM 0
  else match d.rep.starts with
    | s :: _ => s.e
    | [] => d.int .STI_STRETCH_PPM 0

/-- The index of the start after the last one: the repeat after STI_REPEAT when there is none (log entry 13). -/
def nextK (d : Device) : Nat :=
  match d.rep.starts with
  | s :: _ => (s.k + 1) % 2 ^ 32
  | [] => (d.num .STI_REPEAT 0 + 1) % 2 ^ 32

/-- A repeat starts (R186): its start is kept and told to the fold. -/
def startRepeat (d : Device) (k : Nat) (y e : Int) : Device :=
  (d.modRep (fun r => { r with starts := ({ k := k, y := y, e := e } :: r.starts).take 1024 })).repeatSend k (ofSigned 64 y) e

/-- The next Y predicted from the last start (R186). -/
def predictedY (d : Device) : Option Int := d.rep.starts.head?.map (fun s => s.y + stretched d.lRep s.e)

/-- A repeat begun without a mark (R186). -/
def missMark (d : Device) : Device :=
  match d.rep.starts with
  | s :: _ => (d.startRepeat d.nextK (s.y + stretched d.lRep s.e) s.e).bump .STI_MARKS_MISSED 0
  | [] => d

/-- Whether `y` lies past the window of the next mark (R186), by exact arithmetic. -/
def pastWindow (d : Device) (y : Int) : Bool :=
  match d.rep.starts with
  | s :: _ => decide (d.lRep * (ppm + s.e) * (ppm + d.num .STI_MARK_WIN_PPM 0) < (y - s.y) * ppm * ppm)
  | [] => false

/-- Misses that a mark at `y` proves: at most `n`. -/
def missesBefore (y : Int) : Nat → Device → Device
  | 0, d => d
  | n + 1, d => if 0 < d.lRep && d.pastWindow y then missesBefore y n d.missMark else d

/-- e after an accepted mark (R187). -/
def stretchAfter (d : Device) (e : Int) (len : Int) : Int :=
  let lr := d.lRep
  if lr ≤ 0 then e
  else
    let em := divRoundAway ((len - lr) * ppm) lr.toNat
    if em.natAbs ≤ d.num .STI_STRETCH_MAX_PPM 0 then e + (em - e) / 2 ^ d.num .STI_STRETCH_SHIFT 0 else e

/-- REPEAT_MARK (R186, R187): an accepted edge of the named input at time `t`. -/
def repeatMark (d : Device) (t : Nat) : Device :=
  if d.followsRepeats then d else
  let y := toSigned 64 (d.reading t) + d.int .STI_MARK_DIST 0 * 256
  if !d.rep.opened || d.rep.starts = [] then
    let d := (d.startRepeat d.nextK y d.stretchNow).modRep (fun r => { r with opened := true })
    d.set .STI_REPEAT_Y 0 (ofSigned 64 y)
  else
    let span := match d.rep.starts with
      | s :: _ => ((y - s.y) / (if d.lRep ≤ 0 then 1 else d.lRep)).toNat + 1
      | [] => 0
    let d := missesBefore y (Nat.min span 1024) d
    match d.rep.starts with
    | [] => d
    | s :: _ =>
      let lr := d.lRep
      if (y - s.y) * ppm * ppm < lr * (ppm + s.e) * (ppm - d.num .STI_MARK_WIN_PPM 0) then d.bump .STI_MARKS_EXTRA 0
      else d.startRepeat d.nextK y (d.stretchAfter s.e (y - s.y))

/-- Starts that a line at `y` brings with no mark: at most `n` of them. Without marks each is L_rep after the last; a member predicts those that no REPEAT
gave, and counts them (R424). -/
def predictTo (y : Int) : Nat → Device → Device
  | 0, d => d
  | n + 1, d =>
    match d.rep.starts with
    | [] => d
    | s :: _ =>
      let e := if d.followsRepeats then s.e else d.int .STI_STRETCH_FIXED_PPM 0
      let y' := s.y + stretched d.lRep e
      if y' ≤ s.y ∨ y < y' then d
      else
        let d := d.startRepeat d.nextK y' e
        let d := if d.followsRepeats then (d.bump .FLD_REPEAT_MISS 0).bump .STI_MARKS_MISSED 0 else d
        predictTo y n d

/-- The starts that a line at `y` brings (R186, R424). -/
def startsFor (d : Device) (y : Int) : Device :=
  let free := d.num .STI_MARK_SRC 0 = 0 && !d.followsRepeats
  let d := if free && d.rep.starts = [] then d.startRepeat d.nextK (toSigned 64 (d.num .POS_GRID_ORIGIN 0)) (d.int .STI_STRETCH_FIXED_PPM 0) else d
  if free || d.followsRepeats then
    let span := match d.rep.starts with
      | s :: _ => ((y - s.y) / (if d.lRep ≤ 0 then 1 else d.lRep)).toNat + 2
      | [] => 0
    predictTo y (Nat.min span 1024) d
  else d

/-- The start of the repeat that a line at `y` belongs to (R185): the newest one at or before it. -/
def startOf (d : Device) (y : Int) : Option RepeatStart := d.rep.starts.find? (fun s => decide (s.y ≤ y))

/-- The start of repeat `k`, when it is still known. -/
def startAt (d : Device) (k : Nat) : Option RepeatStart := d.rep.starts.find? (fun s => s.k = k)

end Device

/-- w of a line (R188): its distance into its repeat, Q48.16 µm, truncated. -/
def webDistance (s : RepeatStart) (y : Int) : Int := (y - s.y) * ppm / (ppm + s.e)

/-- v_0 of a line in sixteenths of a heft line (R188): w truncated in Q48.16 µm, divided by the pitch and rounded to the nearest sixteenth, ties up. -/
def heftLine16 (s : RepeatStart) (y : Int) (pitch : Nat) : Int :=
  divRound (16 * webDistance s y) (Nat.max 1 pitch)

/-- MARK_MISSED (R186): no mark by the end of the window; the next Y is predicted. A device that takes no marks, or has no repeat open, misses none. -/
def execMarkMissed (s : State) : Host.Outcome State Fault Refusal :=
  run true s fun d => if d.num .STI_MARK_SRC 0 ≠ 0 && !d.followsRepeats && d.rep.opened then d.missMark else d

end Sys2Proof.Machine
end

