-- ==== Sys2Proof/Machine/Stitch.lean ====
section
/-!
DEFINITION. The stitcher (R177 to R184): the cross-web map, coverage, cubic convolution, blending, late members, overlap agreement and trims.
-/
namespace Sys2Proof.Machine

/-- x(p) in 1/256 µm (R179): exact, then rounded ties away from zero; `trim` is τ. -/
def Geo.x (g : Geo) (trim : Int) (p : Nat) : Int :=
  divRoundAway ((g.a0 + trim) * 2 ^ 48 + g.a1 * 2 ^ 32 * p + g.a2 * 2 ^ 16 * p ^ 2 + g.a3 * p ^ 3) (2 ^ 48)

/-- Where a member covers a grid sample (R180): the sample, its pixel p and fraction f, and whether pixel p + 1 lies nearer to it than p. -/
structure CoverAt where
  s : Nat
  p : Nat
  f : Nat
  up : Bool

/-- The grid samples of one pixel interval (R180). Coordinates in 2^−16 µm: `x0` of sample 0, `l` the pitch, `a` and `b` the interval's ends; samples
from the end x(p) on, the end x(p + 1) left to the next interval. -/
def coverInterval (x0 l a b : Int) (w p first last : Nat) : List CoverAt :=
  if l ≤ 0 ∨ a = b then [] else
  let lo := if a < b then -((x0 - a) / l) else (b - x0) / l + 1
  let hi := if a < b then -((x0 - b) / l) - 1 else (a - x0) / l
  let lo := if lo < 0 then 0 else lo
  let hi := if (w : Int) - 1 < hi then (w : Int) - 1 else hi
  ((List.range (hi + 1 - lo).toNat).map (fun i =>
    let s := lo.toNat + i
    let xs := x0 + s * l
    let dist := if a < b then xs - a else a - xs
    let f := (divRound (64 * dist) (b - a).natAbs).toNat
    if f = 64 then { s := s, p := p + 1, f := 0, up := false }
    else { s := s, p := p, f := f, up := decide (((b - a).natAbs : Int) < 2 * dist) } : Nat → CoverAt)).filter
      (fun c => first + 1 ≤ c.p && c.p + 2 ≤ last)

/-- A member's coverage of a set of width `w` (R180), in rising s. Preview lines have pixels two wide and a pitch of 2Λ (log entry 14). -/
def coverage (g : Geo) (trim x0 : Int) (w : Nat) (bin : Bool) : List CoverAt :=
  let m := if bin then 2 else 1
  let first := (g.first + m - 1) / m
  let last := g.last / m
  let xs := ((List.range (last + 1 - first)).map (fun i => g.x trim (m * (first + i)) * 256)).toArray
  let cs := (List.range (last - first)).flatMap (fun i =>
    coverInterval (x0 * 256) (g.pitch * m : Nat) (xs.getD i 0) (xs.getD (i + 1) 0) w (first + i) first last)
  match cs.head?, cs.getLast? with
  | some a, some b => if b.s < a.s then cs.reverse else cs
  | _, _ => cs

/-- The cubic-convolution weights of fraction f, Q2.14 (R180): w₋₁, w₀, w₁, w₂. -/
def cubicWeights (f : Nat) : List Int :=
  let f : Int := f
  let a := divRoundAway (-f ^ 3 + 128 * f ^ 2 - 4096 * f) 32
  let c := divRoundAway (-3 * f ^ 3 + 256 * f ^ 2 + 4096 * f) 32
  let e := divRoundAway (f ^ 3 - 64 * f ^ 2) 32
  [a, 16384 - a - c - e, c, e]

/-- A contribution (R180). -/
def contribution (row : Array Nat) (p f : Nat) : Nat :=
  let ws := cubicWeights f
  let xs := (List.range 4).map (fun k => row.getD (p + k - 1) 0)
  let ps := ws.zip xs
  if ps.any (fun e => e.2 = satMark && 2048 ≤ e.1.natAbs) then satMark
  else
    let acc := sumI (ps.map (fun e => e.1 * (if e.2 = satMark then satMax else e.2 : Nat)))
    (clampI 0 satMax ((acc + 8192) / 16384)).toNat

/-- w_R at zone sample b of a zone of Z samples (R181). -/
def blendWeight (b z : Nat) : Nat := ((b + 1) * 256 + (z + 1) / 2) / (z + 1)

/-- Two contributions blended with w_R (R181): value and blind. -/
def blend (wr : Nat) (l r : Nat × Bool) : Nat × Bool :=
  match l.2, r.2 with
  | true, false => (r.1, false)
  | false, true => (l.1, false)
  | _, _ =>
    let wl := 256 - wr
    if (l.1 = satMark ∧ 32 ≤ wl) ∨ (r.1 = satMark ∧ 32 ≤ wr) then (satMark, l.2)
    else ((wl * Nat.min l.1 satMax + wr * Nat.min r.1 satMax + 128) / 256, l.2)

/-- One member's part in a stitched line: channel, coverage, whether its line is blind, its rows, and the line it comes from. -/
structure Piece where
  ch : Nat
  cover : List CoverAt
  blind : Bool
  rows : List (Array Nat)
  line : OutLine

/-- First and last sample a part covers. -/
def Piece.span (x : Piece) : Nat × Nat := ((x.cover.head?.map CoverAt.s).getD 0, (x.cover.getLast?.map CoverAt.s).getD 0)

/-- Parts in the order of R181: by where coverage begins, then where it ends, then channel. -/
def orderParts (ps : List Piece) : List Piece :=
  sortBy (fun x => (x.span.1 * 262144 + x.span.2) * 16 + x.ch) (ps.filter (fun x => !x.cover.isEmpty))

/-- A coverage spread over all samples from `s` on. -/
def dense (s : Nat) : Nat → List CoverAt → List (Option CoverAt)
  | 0, _ => []
  | n + 1, [] => none :: dense (s + 1) n []
  | n + 1, c :: cs => if c.s = s then some c :: dense (s + 1) n cs else none :: dense (s + 1) n (c :: cs)

/-- The overlap of two parts in order (R181): first sample and width. -/
def overlapOf (l r : Piece) : Option (Nat × Nat) :=
  let a := Nat.max l.span.1 r.span.1
  let b := Nat.min l.span.2 r.span.2
  if a ≤ b then some (a, b + 1 - a) else none

/-- w_R at sample s of the overlap of two parts (R181): 0 left of the blend zone, 256 right of it. -/
def overlapWeight (bw : Nat) (l r : Piece) (s : Nat) : Nat :=
  match overlapOf l r with
  | none => 0
  | some (a, n) =>
    let z := Nat.min bw n
    let start := a + (n - z) / 2
    if s < start then 0 else if start + z ≤ s then 256 else blendWeight (s - start) z

/-- The parts that cover each sample, left before right. -/
def layout (w : Nat) (ps : List Piece) : List (List (Piece × CoverAt)) :=
  let cols := ps.map (fun x => (x, dense 0 w x.cover))
  cols.foldr (fun e acc => (acc.zip e.2).map (fun z => match z.2 with | some c => (e.1, c) :: z.1 | none => z.1)) (List.replicate w [])

/-- A part's contribution to a plane at a sample. -/
def Piece.at_ (x : Piece) (c : CoverAt) (q : Nat) : Nat × Bool :=
  match x.rows[q]? with
  | some r => (contribution r c.p c.f, x.blind)
  | none => (0, true)

/-- A stitched sample of a plane (R180, R181). -/
def stitchSample (bw q : Nat) (s : Nat) (cs : List (Piece × CoverAt)) : Nat × Bool :=
  match cs with
  | [] => (0, true)
  | [(x, c)] => x.at_ c q
  | (x, c) :: (y, e) :: _ => blend (overlapWeight bw x y s) (x.at_ c q) (y.at_ e q)

/-- The part and pixel whose value calibration tests at a sample (R285): the one with the larger weight, L when equal; the pixel nearest to x_s, the lower of two equally near
(log entry 50). -/
def testedPixel (bw s : Nat) (cs : List (Piece × CoverAt)) : Option (Piece × Nat) :=
  let near (x : Piece) (c : CoverAt) := some (x, if c.up then c.p + 1 else c.p)
  match cs with
  | [] => none
  | [(x, c)] => near x c
  | (x, c) :: (y, e) :: _ => if 128 < overlapWeight bw x y s then near y e else near x c

/-- g(s) = v(s + 1) − v(s − 1) of a part's contribution to a plane (R182), from sample `a` on for `n` samples; 0 where the part does not give both. -/
def Piece.gradients (x : Piece) (plane a n : Nat) : List Int :=
  let vals := ((dense (a - 1) (n + 2) (x.cover.filter (fun c => a ≤ c.s + 1))).map (fun o => o.map (fun c => (x.at_ c plane).1))).toArray
  let at_ (i : Nat) : Option Nat := vals.getD i none
  let off := a - (a - 1)
  (List.range n).map (fun i =>
    match (if i + off = 0 then none else at_ (i + off - 1)), at_ (i + off + 1) with
    | some l, some r => (r : Int) - l
    | _, _ => 0)

/-- C(λ) (R182): Σ g_L(s) × g_R(s + λ) over an overlap; `gr` begins eight samples before `gl`, or `short` samples less where the line begins. -/
def lagSum (gl gr : List Int) (short : Nat) (lag : Int) : Int :=
  let k : Int := 8 - short + lag
  if k < 0 then sumI ((gl.drop k.natAbs).zipWith (· * ·) gr) else sumI (gl.zipWith (· * ·) (gr.drop k.toNat))

/-- The peak of C and its parabola, in 1/16 sample (R182): ties of the peak go to the lowest lag; none at the edge of the search. -/
def overlapPeak (cs : List Int) : Option Int :=
  match findIdxFrom (fun c => cs.all (· ≤ c)) 0 cs with
  | none => none
  | some (i, c0) =>
    if i = 0 ∨ i + 1 = cs.length then none
    else
      let a := cs.getD (i - 1) 0
      let b := cs.getD (i + 1) 0
      some (16 * ((i : Int) - 8) + parabola16 a c0 b)
where
  /-- The refinement of a peak in 1/16, to the nearest, ties up. -/
  parabola16 (a c b : Int) : Int :=
    let den := 2 * (2 * c - a - b)
    if den ≤ 0 then 0 else divRound (16 * (b - a)) den.toNat

namespace Device

/-- A set. -/
def st (d : Device) (s : Nat) : Stitch := d.stitch.getD s {}

/-- A set changed. -/
def modSt (d : Device) (s : Nat) (f : Stitch → Stitch) : Device := { d with stitch := modTab 8 {} d.stitch s f }

/-- A set stitches preview lines while the last output line of any ON member is one (log entry 14). -/
def setBin (d : Device) (s : Nat) : Bool :=
  (d.onMembers s).any (fun n => ((getKeyed Prod.fst n (d.st s).last).map (fun e => e.2.bin)).getD false)

/-- An output line lies on the grid that a set stitches now: the same origin, pitch and resolution. -/
def onGrid (d : Device) (s : Nat) (o : OutLine) : Bool :=
  let x := d.st s
  o.grid == x.grid && o.geo.pitch == x.pitch && o.bin == x.bin

/-- An output line reaches the stitcher of its set (R178): later than the current j of its own grid, it is discarded; a line of another grid, whose numbers
begin anew (R162, R169), waits until the set takes that grid up; one of another resolution than the set's contributes nothing. It is the member's last output
line in every case. -/
def toStitcher (d : Device) (n : Nat) (o : OutLine) : Device :=
  let s := d.num .CH_STI_SET n
  if 8 ≤ s then d
  else
    let late := d.onGrid s o && (match (d.st s).next with
      | some j => decide (serialDiff 32 o.j j < 0)
      | none => false)
    let d := d.modSt s (fun x => { x with last := putKeyed Prod.fst (n, o) x.last })
    if late || o.bin != d.setBin s then d else d.modSt s (fun x => { x with waiting := x.waiting ++ [(n, o)] })

/-- The part of a member's line (R179, R180). -/
def partOf (d : Device) (s n : Nat) (o : OutLine) (blind : Bool) : Piece :=
  let m := if o.bin then 2 else 1
  { ch := n, cover := coverage o.geo (d.int .CH_STI_TRIM n) (d.int .STI_SET_X0 s) (d.num .STI_SET_WIDTH s / m) o.bin
    blind := blind || o.blind, rows := o.planes.map List.toArray, line := o }

/-- The least line number among lines. -/
def leastJ : List (Nat × OutLine) → Option Nat
  | [] => none
  | (_, o) :: t => some (t.foldl (fun j e => if serialDiff 32 e.2.j j < 0 then e.2.j else j) o.j)

/-- The ON members whose lines a set waits for: those whose last output line has the set's resolution, or that have none yet. -/
def awaited (d : Device) (s : Nat) : List Nat :=
  (d.onMembers s).filter (fun n => ((getKeyed Prod.fst n (d.st s).last).map (fun e => e.2.bin == (d.st s).bin)).getD true)

/-- A member has gone on to another grid: a line of it waits that does not lie on the present one. -/
def goneOn (d : Device) (s n : Nat) : Bool := (d.st s).waiting.any (fun e => e.1 = n && !d.onGrid s e.2)

/-- A set takes up the grid of the lines that wait, that of the oldest (R178), when none waits on the present one and every member awaited has gone on to
another, or one of them 64 lines on. -/
def takeGrid (d : Device) (s : Nat) : Device :=
  let x := d.st s
  match x.waiting with
  | [] => d
  | (_, o) :: _ =>
    let far := (d.onMembers s).any (fun n => decide (64 ≤ (x.waiting.filter (fun e => e.1 = n)).length))
    if x.waiting.any (fun e => d.onGrid s e.2) || !(x.next.isNone || far || (d.awaited s).all (d.goneOn s)) then d
    else d.modSt s (fun x => { x with grid := o.grid, pitch := o.geo.pitch, bin := o.bin, next := none })

/-- The current j of a set: the one after the last stitched line, or the least that waits when there is none, or when every member awaited has gone beyond it. -/
def currentJ (d : Device) (s : Nat) : Option Nat :=
  let here := (d.st s).waiting.filter (fun e => d.onGrid s e.2)
  match (d.st s).next, leastJ here with
  | some j, some k => if (d.awaited s).all (fun n => here.any (fun e => e.1 = n)) && decide (0 < serialDiff 32 k j) then some k else some j
  | some j, none => some j
  | none, k => k

/-- What is known of line j of a set (R178): the lines that have arrived, the members awaited that are late (another has delivered line j + 64, or they have gone
on to another grid), and whether the stitched line can be made. -/
def lineReady (d : Device) (s j : Nat) : List (Nat × OutLine) × List Nat × Bool :=
  let here := (d.st s).waiting.filter (fun e => d.onGrid s e.2)
  let have_ := here.filter (fun e => e.2.j = j)
  let missing := (d.awaited s).filter (fun n => !have_.any (fun e => e.1 = n))
  let beyond (n : Nat) : Bool := here.any (fun e => e.1 ≠ n && decide (64 ≤ serialDiff 32 e.2.j j))
  let late := missing.filter (fun n => beyond n || d.goneOn s n)
  (sortBy Prod.fst have_, late, late.length == missing.length && !here.isEmpty)

/-- The calibration values of a stitched line (R285, R286). -/
def calValues (d : Device) (s j : Nat) (lay : List (List (Piece × CoverAt))) : List CalPix :=
  let bw := d.num .STI_SET_BLEND_W s
  let tested := (d.members s).filter (fun n => d.on .CH_CAL_EN n && j % Nat.max 1 (if d.calRuns n then d.calPar n .CH_CAL_LINE_STEP else d.num .CH_CAL_LINE_STEP n) = 0)
  if tested = [] then []
  else (lay.zipIdx).filterMap (fun e =>
    match testedPixel bw e.2 e.1 with
    | some (x, p) =>
      if tested.contains x.ch && !x.blind && !x.line.bin then
        some { s := e.2, ch := x.ch, px := p, seq := x.line.seq, gen := x.line.gen, vals := x.rows.map (fun r => r.getD p 0) }
      else none
    | none => none)

/-- The overlaps among parts in order (R181): left, right, first sample and width. -/
def overlapsOf : List Piece → List (Piece × Piece × Nat × Nat)
  | [] => []
  | l :: ps => ps.filterMap (fun r => (overlapOf l r).map (fun o => (l, r, o))) ++ overlapsOf ps

/-- Overlap agreement of a stitched line (R182): the sums of each overlap whose two contributions are non-blind on a MEASURED line. -/
def overlapLine (d : Device) (s q : Nat) (ps : List Piece) : Device :=
  if !d.on .STI_SET_TRIM_EN s || q ≠ 0 then d else
  let plane := Nat.min (d.num .STI_REG_PLANE s) (d.setPlanes s - 1)
  (overlapsOf ps).foldl (fun d e =>
    let (l, r, a, n) := e
    if l.blind || r.blind then d else
    let gl := l.gradients plane a n
    let gr := r.gradients plane (a - 8) (n + 8 + Nat.min a 8)
    if sumI (gl.map (fun g => g * g)) / 2 ^ 20 < 2 ^ 20 then d
    else d.modSt s (fun x =>
      let old := (x.overlaps.find? (fun o => o.left = l.ch ∧ o.right = r.ch)).getD { left := l.ch, right := r.ch }
      let new := { old with lines := old.lines + 1, sums := (old.sums.zipIdx).map (fun c => c.1 + lagSum gl gr (8 - Nat.min a 8) ((c.2 : Int) - 8)) }
      { x with overlaps := x.overlaps.filter (fun o => ¬(o.left = l.ch ∧ o.right = r.ch)) ++ [new] })) d

/-- The stitched line j of a set is made (R178 to R182): it enters the registration delay buffer. -/
def makeStitched (d : Device) (s j : Nat) (have_ : List (Nat × OutLine)) (late : List Nat) : Device :=
  let x := d.st s
  let bin := x.bin
  let copies := (late.filterMap (fun n => getKeyed Prod.fst n x.last)).filter (fun e => e.2.bin == bin)
  let parts := orderParts (have_.map (fun e => d.partOf s e.1 e.2 false) ++ copies.map (fun e => d.partOf s e.1 e.2 true))
  let w := d.num .STI_SET_WIDTH s / (if bin then 2 else 1)
  let lay := layout w parts
  let bw := d.num .STI_SET_BLEND_W s
  let cols := (List.range (d.setPlanes s)).map (fun q => (lay.zipIdx).map (fun e => stitchSample bw q e.2 e.1))
  let blind := match cols with | c :: _ => c.map Prod.snd | [] => List.replicate w true
  let t := match have_, x.made with
    | (_, o) :: _, _ => o.t
    | [], a :: b :: _ => a + (a - b)
    | [], _ => match copies with | (_, o) :: _ => o.t | [] => d.now
  let used := have_.map Prod.snd ++ copies.map Prod.snd
  let y := match have_ with
    | (_, o) :: _ => o.y
    | [] => match copies with | (_, o) :: _ => o.y + serialDiff 32 j o.j * (d.setPitch s * (if bin then 2 else 1) : Nat) | [] => 0
  let q := used.foldl (fun a o => Nat.max a o.q) 0
  let cal := if bin then [] else d.calValues s j lay
  let line : StLine := { j := j, y := y, t := t, q := q, bin := bin, planes := cols.map (fun c => c.map Prod.fst), blind := blind, cal := cal }
  let d := (d.members s).foldl (fun d n =>
    let l := late.contains n
    (d.bumpIf l .CH_STI_LATE n).set .CH_STI_FLAGS n (putBit (d.num .CH_STI_FLAGS n) 1 l)) d
  let d := d.overlapLine s q parts
  d.modSt s (fun x => { x with
    next := some ((j + 1) % 2 ^ 32), made := (t :: x.made).take 2, buf := x.buf ++ [line]
    waiting := x.waiting.filter (fun e => !d.onGrid s e.2 || decide (0 < serialDiff 32 e.2.j j)) })

/-! ## Trims (R182 to R184) -/

/-- δ of the overlaps whose left member is `n` (R182): each that has gathered STI_REFINE_LINES lines is measured, published, and its sums cleared. -/
def overlapMeasure (d : Device) (n : Nat) : Device :=
  let s := d.num .CH_STI_SET n
  ((d.st s).overlaps.filter (fun o => o.left = n && d.num .STI_REFINE_LINES 0 ≤ o.lines)).foldl (fun d o =>
    let put (del : Option Int) (d : Device) : Device := d.modSt s (fun x => { x with
      overlaps := x.overlaps.map (fun p => if p.left = o.left ∧ p.right = o.right then
        { p with sums := List.replicate 17 0, lines := 0, delta := del } else p) })
    match overlapPeak o.sums with
    | some del => (put (some del) d).setI .CH_STI_OVL_OFFSET n del
    | none => put o.delta d) d

/-- The overlaps of a set by the live geometry of its ON members, as pairs of channels (R181, R183; log entry 14). -/
def liveOverlaps (d : Device) (s : Nat) : List (Nat × Nat) :=
  let part (n : Nat) : Piece :=
    { ch := n, cover := coverage (d.geoNow n) (d.int .CH_STI_TRIM n) (d.int .STI_SET_X0 s) (d.num .STI_SET_WIDTH s) false
      blind := true, rows := [], line := { j := 0, y := 0, t := 0, q := 0, blind := true, bin := false, gen := 0, line := 0, temp := 0, planes := [] } }
  (overlapsOf (orderParts ((d.onMembers s).map part))).map (fun e => (e.1.ch, e.2.1.ch))

/-- The reference member of a set (R183). -/
def refMember (d : Device) (s : Nat) : Option Nat :=
  let r := d.num .STI_SET_REF s
  if (d.members s).contains r then some r else (d.members s).head?

/-- D_c of the members that the overlaps join to the reference, going out from it (R183): positive means a larger s. -/
def driftFrom (ovs : List Overlap) : Nat → List (Nat × Int) → List (Nat × Int)
  | 0, known => known
  | n + 1, known =>
    let more := ovs.filterMap (fun o =>
      let dl := o.delta.getD 0
      match getKeyed Prod.fst o.left known, getKeyed Prod.fst o.right known with
      | some (_, a), none => some (o.right, a + dl)
      | none, some (_, a) => some (o.left, a - dl)
      | _, _ => none)
    driftFrom ovs n (known ++ more)

/-- The trim of a channel once the updates that wait have taken effect (R183). -/
def trimToCome (d : Device) (s n : Nat) : Int :=
  ((getKeyed Prod.fst n (d.st s).trims.reverse).map Prod.snd).getD (d.int .CH_STI_TRIM n)

/-- New trims once every overlap of the set has given a δ (R183); they wait for the set's next repeat boundary, behind those of an earlier update. -/
def trimUpdate (d : Device) (s : Nat) : Device :=
  let ovs := (d.st s).overlaps
  let given (p : Nat × Nat) : Bool := ovs.any (fun o => o.left = p.1 && o.right = p.2 && o.delta.isSome)
  match d.refMember s with
  | none => d
  | some r =>
    let pairs := d.liveOverlaps s
    if pairs = [] || !pairs.all given then d
    else
      let pitch : Int := d.setPitch s
      let step : Int := d.num .STI_TRIM_STEP 0
      let lim : Int := (d.num .STI_TRIM_MAX 0 * 256 : Nat)
      let drifts := (driftFrom (ovs.filter (fun o => pairs.contains (o.left, o.right))) 16 [(r, 0)]).filter (fun e => e.1 ≠ r && decide (4 < e.2.natAbs))
      let new := drifts.map (fun e => (e.1, d.trimToCome s e.1 - clampI (-step) step (e.2 * pitch / 4096)))
      let (ok, past) := (new.filter (fun e => decide (e.2.natAbs ≤ lim.toNat)), new.filter (fun e => decide (lim.toNat < e.2.natAbs)))
      let d := past.foldl (fun d e => d.set .CH_STI_FLAGS e.1 (setBit (d.num .CH_STI_FLAGS e.1) 0)) d
      d.modSt s (fun x => { x with trims := x.trims ++ ok, overlaps := x.overlaps.map (fun o => { o with delta := none }) })

/-- TRIM_UPDATE (R183, R375): the trims that wait take effect together and are journaled; those that find no journal slot wait for the next boundary. -/
def applyTrims (d : Device) (s : Nat) : Device :=
  let ts := (d.st s).trims
  if ts = [] || !d.deviceRoom ts.length then d
  else
    let d := d.modSt s (fun x => { x with trims := [] })
    ts.foldl (fun d e =>
      (d.setI .CH_STI_TRIM e.1 e.2).journalDevice 0x08 ⟨.CH_STI_TRIM, e.1⟩ 7 (d.num .STI_REPEAT 0) (le 4 (ofSigned 32 e.2))) d

/-- A hand-over that changes the geometry of channel `n` (R184): its trim and the sums of its overlaps are cleared, a waiting trim of it is dropped, and
TRIM_LIMIT clears. -/
def geometryChanged (d : Device) (n : Nat) : Device :=
  let d := (d.setI .CH_STI_TRIM n 0).set .CH_STI_FLAGS n (clearBit (d.num .CH_STI_FLAGS n) 0)
  { d with stitch := d.stitch.map (fun x => { x with
      trims := x.trims.filter (fun t => t.1 ≠ n)
      overlaps := x.overlaps.filter (fun o => o.left ≠ n ∧ o.right ≠ n) }) }

end Device

/-- OVERLAP_MEASURE (R182, R183): the overlap whose left member is channel `n` has gathered STI_REFINE_LINES lines. -/
def execOverlapMeasure (n : Nat) (s : State) : Host.Outcome State Fault Refusal :=
  run (WF.overlapMeasure n) s fun d => (d.overlapMeasure n).trimUpdate (d.num .CH_STI_SET n)

end Sys2Proof.Machine
end

