-- ==== Sys2Proof/Machine/Register.lean ====
section
/-!
DEFINITION. Registration (R189 to R196): tile rows, anchors, coarse and fine correlation, the smoothed field and its states, and the displacement of a
sample. NCC is held in 1/65,536, truncated; peaks that tie go to the first lag (log entry 15).
-/
namespace Sys2Proof.Machine

/-- Floor of the square root of a number below 2^240. -/
def isqrtBig (n : Nat) : Nat := isqrtGo n 120 0

/-- Zero-mean normalised correlation of two lists of one length, in 1/65,536 (R191). -/
def ncc (xs ys : List Nat) : Int :=
  let n : Int := xs.length
  let sx : Int := (xs.foldl (· + ·) 0 : Nat)
  let sy : Int := (ys.foldl (· + ·) 0 : Nat)
  let sxx : Int := ((xs.map (fun x => x * x)).foldl (· + ·) 0 : Nat)
  let syy : Int := ((ys.map (fun x => x * x)).foldl (· + ·) 0 : Nat)
  let sxy : Int := ((xs.zipWith (· * ·) ys).foldl (· + ·) 0 : Nat)
  let vx := n * sxx - sx * sx
  let vy := n * syy - sy * sy
  let r := isqrtBig (vx * vy).toNat
  if r = 0 then 0 else divTrunc ((n * sxy - sx * sy) * 65536) r

/-- A part of a heft plane held for reading: its first line and its lines. -/
structure Patch where
  v0 : Nat
  rows : Array (Array Nat)

/-- E of the word at (u, v) of a patch; 0 where there is none (R206). -/
def Patch.e (x : Patch) (u v : Int) : Nat :=
  if u < 0 ∨ v < (x.v0 : Int) then 0
  else match x.rows[(v - x.v0).toNat]? with
    | some r => match r[u.toNat]? with
      | some w => wordE w
      | none => 0
    | none => 0

/-- E at the resolution of the lines: the mean of 2 × 2 words for preview lines. -/
def Patch.at_ (x : Patch) (bin : Bool) (u v : Int) : Nat :=
  if bin then (x.e (2 * u) (2 * v) + x.e (2 * u + 1) (2 * v) + x.e (2 * u) (2 * v + 1) + x.e (2 * u + 1) (2 * v + 1)) / 4 else x.e u v

/-- The mean of an 8 × 8 block of words: sample (a, b) of the anchor band (R190). -/
def Patch.band (x : Patch) (a b : Int) : Nat :=
  ((List.range 8).foldl (fun s (i : Nat) => s + (List.range 8).foldl (fun t (k : Nat) => t + x.e (8 * a + (k : Int)) (8 * b + (i : Int))) 0) 0) / 64

/-- What one tile column of a row gave (R191): whether it is an anchor, and its results in 1/16 sample. -/
structure TileResult where
  anchor : Bool
  dx : Option Int
  dy : Option Int

/-- The greatest of a list of lags and values, the first on a tie. -/
def bestLag (l : List ((Int × Int) × Int)) : (Int × Int) × Int :=
  match l with
  | [] => ((0, 0), 0)
  | x :: xs => xs.foldl (fun a b => if a.2 < b.2 then b else a) x

/-- The decimated rows of the anchor band (R190): 2 mm ahead of the tile's rows and 2 mm behind them, at pitch `l` (Q16.16 µm). -/
def bandRows (l : Nat) : Int := ceilDiv (2000 * 65536) (Nat.max 1 (8 * l))

/-- The lags of a search of radius `r`. -/
def lagGrid (r : Nat) : List (Int × Int) :=
  (List.range (2 * r + 1)).flatMap (fun (y : Nat) => (List.range (2 * r + 1)).map (fun (x : Nat) => ((x : Int) - r, (y : Int) - r)))

/-- The value at a lag; 0 where the search has none. -/
def lagValue (l : List ((Int × Int) × Int)) (x y : Int) : Int := ((l.find? (fun e => decide (e.1 = (x, y)))).map Prod.snd).getD 0

/-- The structure of the two axes of a tile (R190): whether the mean of the squared decimated gradient over its 320 × 128 samples reaches `amin`, in 14-bit
units. (`a0`, `b0`) is the tile's first decimated sample in the band, at its predicted place. -/
def structured (h : Patch) (na nb amin : Nat) (a0 b0 : Int) : Bool × Bool :=
  let sq (f : Int → Int → Int) : Nat :=
    ((List.range nb).foldl (fun t (b : Nat) => t + (List.range na).foldl (fun u (a : Nat) => u + (f (a0 + a) (b0 + b)).natAbs ^ 2) 0) 0) / (na * nb)
  (decide (amin ≤ sq (fun a b => (h.band (a + 1) b : Int) - h.band (a - 1) b)), decide (amin ≤ sq (fun a b => (h.band a (b + 1) : Int) - h.band a (b - 1))))

/-- A lag lies on the edge of a search: a lag beside it along either axis is not searched. -/
def onEdge (l : List ((Int × Int) × Int)) (x y : Int) (alongX : Bool) : Bool :=
  let has (p : Int × Int) : Bool := l.any (fun e => decide (e.1 = p))
  if alongX then !has (x - 1, y) || !has (x + 1, y) else !has (x, y - 1) || !has (x, y + 1)

/-- One tile (R190, R191, R196). `img` are the row's lines of the plane from line 0 on; `c` the tile column; `vb` the heft line of line 0, `frac` what v_0 of
line 0 lies below it, in 1/16; `band` the rows of the anchor band on either side; `px`, `py` the predicted displacement in 1/16 sample. The coarse window is
lines 0 to 95, or up to the last complete decimated line of a shorter row. An axis whose fine peak lies on its edge takes 8 × the coarse result
(log entry 15). -/
def tileMeasure (h : Patch) (img : Array (Array Nat)) (bin : Bool) (rd amin nmin c : Nat) (band vb frac px py : Int) : TileResult :=
  let dec := if bin then 4 else 8
  let na := 320 / dec
  let nb := Nat.min (96 / dec) (img.size / dec)
  let imgAt (i s : Nat) : Nat := (img.getD i #[]).getD s 0
  let dimg := (List.range nb).flatMap (fun b =>
    (List.range na).map (fun a => (List.range dec).foldl (fun t i =>
      t + (List.range dec).foldl (fun u k => u + imgAt (dec * b + i) (320 * c + dec * a + k)) 0) 0))
  let bv := divRound vb dec
  let qx := divRound px (16 * dec)
  let qy := divRound py (16 * dec)
  let heftAt (lx ly : Int) : List Nat := (List.range nb).flatMap (fun (b : Nat) => (List.range na).map (fun (a : Nat) => h.band ((na * c + a : Nat) + lx) (bv + b + ly)))
  let (sx, sy) := structured h na (128 / dec) amin ((na * c : Nat) + qx) (bv + qy)
  if !sx && !sy then { anchor := false, dx := none, dy := none }
  else
    let inBand (y : Int) : Bool := decide (-band ≤ qy + y ∧ qy + y + nb ≤ (128 / dec : Nat) + band)
    let coarse := ((lagGrid rd).filter (fun l => inBand l.2)).map (fun l => (l, ncc dimg (heftAt (qx + l.1) (qy + l.2))))
    let ((cx, cy), peak) := bestLag coarse
    let ox : Int := dec * (qx + cx)
    let oy : Int := dec * (bv + qy + cy) - vb
    let rows := (List.range 64).filter (fun k => 32 + k < img.size)
    let fimg := rows.flatMap (fun k => (List.range 64).map (fun i => imgAt (32 + k) (320 * c + 128 + i)))
    let fheft (lx ly : Int) : List Nat := rows.flatMap (fun k => (List.range 64).map (fun i =>
      h.at_ bin ((320 * c + 128 + i : Nat) + ox + lx) (vb + (32 + k : Nat) + oy + ly)))
    let fine := (lagGrid 5).map (fun l => (l, ncc fimg (fheft l.1 l.2)))
    let ((fx, fy), fp) := bestLag fine
    let strong := decide ((nmin : Int) ≤ peak)
    let par := overlapPeak.parabola16
    let axis (alongX : Bool) : Int :=
      if onEdge fine fx fy alongX then 0
      else if alongX then 16 * fx + par (lagValue fine (fx - 1) fy) fp (lagValue fine (fx + 1) fy)
      else 16 * fy + par (lagValue fine fx (fy - 1)) fp (lagValue fine fx (fy + 1))
    { anchor := true
      dx := if sx && strong && !onEdge coarse cx cy true then some (16 * ox + axis true) else none
      dy := if sy && strong && !onEdge coarse cx cy false then some (16 * oy + frac + axis false) else none }

/-- The smoothed value at column c (R192): weights 1, 2, 4, 2, 1 over the valid results within c ± 2, to 1/16, ties up; none without one. -/
def smoothAt (ms : List (Option Int)) (c : Nat) : Option Int :=
  let ws : List (Nat × Int) := ((ms.zipIdx).filterMap (fun e =>
    let dist := if e.2 ≤ c then c - e.2 else e.2 - c
    match e.1 with
    | some m => if dist ≤ 2 then some (if dist = 0 then 4 else if dist = 1 then 2 else 1, m) else none
    | none => none))
  let w := ws.foldl (fun a e => a + e.1) 0
  if w = 0 then none else some (divRound (sumI (ws.map (fun e => e.1 * e.2))) w)

/-- One axis of the field of a row (R192): value and whether it is HELD, which a tile without a result near it is in LOCKED; `prev` is the row before. -/
def fieldAxis (locked : Bool) (rate : Int) (ms : List (Option Int)) (prev : List Int) : List (Int × Bool) :=
  let sm := (List.range ms.length).map (smoothAt ms)
  let vals := sm.filterMap id
  let mean : Option Int := if vals = [] then none else some (divRound (sumI vals) vals.length)
  (sm.zipIdx).map (fun e =>
    let p := prev.getD e.2 0
    match e.1 with
    | some v => if locked then (p + clampI (-rate) rate (v - p), false) else (v, false)
    | none => if locked then (p, true) else (mean.getD p, false))

/-- The displacement of a sample (R193): interpolated between tile centres and between rows, to 1/16, ties up, with the worst quality of the tiles used. -/
def fieldAt (row prev : Array (Int × Int × Nat)) (l s : Nat) : Int × Int × Nat :=
  let n := row.size
  let c := (s - 160) / 320
  let c := Nat.min c (n - 1)
  let c2 := if s < 160 then c else Nat.min (c + 1) (n - 1)
  let t : Int := if s < 160 then 0 else ((s - 160) % 320 : Nat)
  let pick (a : Array (Int × Int × Nat)) (k : Nat) : Int × Int × Nat := a.getD k (0, 0, 2)
  let along (a : Array (Int × Int × Nat)) (f : Int × Int × Nat → Int) : Int := 320 * f (pick a c) + t * (f (pick a c2) - f (pick a c))
  let prev := if prev.size = 0 then row else prev
  let val (f : Int × Int × Nat → Int) : Int :=
    if 64 ≤ l then divRound (along row f) 320
    else divRound (128 * along prev f + (l + 64 : Nat) * (along row f - along prev f)) 40960
  let q (a : Array (Int × Int × Nat)) : Nat := Nat.max (pick a c).2.2 (if t = 0 then 0 else (pick a c2).2.2)
  (val (fun e => e.1), val (fun e => e.2.1), if 64 ≤ l then q row else Nat.max (q row) (q prev))

namespace Device

/-- Where a VALID heft named by paddock and generation is read (R226): its paddock, or the old heft kept for it. -/
def refPad (d : Device) (p gen : Nat) : Nat :=
  if gen = 0 ∨ (d.padState p = 3 ∧ d.num .HFT_PD_GEN p = gen) then p
  else match findIdxFrom (fun o : OldHeft => o.gen = gen) 0 d.heft.old with
    | some (i, _) => 2 + i
    | none => p

/-- What is in force for repeat `k` (R226), its heft named where it is read now. -/
def forceAt (d : Device) (k : Nat) : Option InForce :=
  (d.forceRecord k).map (fun f => { f with mode := match f.mode with
    | .heft p => .heft (d.refPad p f.heftGen)
    | .resident p => .resident (d.refPad p f.heftGen)
    | m => m })

/-- The paddock that registration of a repeat reads (R189, R212): the reference of its compare, from the second learning repeat on; none when no heft is
resident. -/
def regPad (d : Device) (k : Nat) : Option Nat :=
  match (d.forceAt k).map InForce.mode with
  | some (.heft p) => some p
  | some (.resident p) => some p
  | some (.learn p) => some p
  | some (.seed p) => some p
  | _ => none

/-- A set enters ACQUIRE with a predicted displacement of 0 (R192); with registration off, no members, or no heft resident in its repeat, it is IDLE. -/
def enterAcquire (d : Device) (s : Nat) : Device :=
  let resident := ((d.st s).k.bind d.regPad).isSome
  let d := d.modSt s (fun x => { x with zeroPred := true, loss := 0, cache := none })
  d.set .STI_REG_STATE s (if d.on .STI_REG_EN s && d.members s != [] && resident then 1 else 0)

/-- A set's reference changes from line `j` on (R192): it enters ACQUIRE, and what has been measured of lines from there on against the reference before counts for
nothing. -/
def changeReference (d : Device) (s j : Nat) : Device :=
  let d := d.modSt s (fun x =>
    let ahead := x.rows.filter (fun r => r.since.isNone && decide (0 ≤ serialDiff 25 r.r (j / 128)))
    { x with rows := (ahead.map (fun r => ({ r with since := some j, cols := r.cols.map (fun _ => (0, 0, 2)) } : RegRow)) ++ x.rows).take 1024 })
  d.enterAcquire s

/-- A block is read through the codec (R21, R318, R326): its bytes and samples are counted; one that is poisoned, or fails its decode, counts as a failed decode; one that is
not present is not read. -/
def readBlock (d : Device) (pad : Nat) (b : BlockAt) : Device :=
  let at_ : Option (Nat × Nat) := match d.oldHeft pad with
    | some o => (o.blocks.find? (fun e => e.1 = b)).map (fun e => (d.ident.paddockBase o.pad, e.2.length))
    | none => (d.dirEntry pad b).map (fun e => (d.ident.paddockBase pad + e.1, e.2))
  match at_ with
  | none => d
  | some (a, n) =>
    let bad := d.heft.bad.contains b
    let good := match (d.blockBytes pad b).map decodeBlock with | some (.ok 0 _) => !bad | _ => false
    let d := (d.countRead a n).bumpIf bad .MEM_ECC_UNCORR 0
    let d := if good then d.add .FLC_DEC_SAMPLES 0 blockSamples else d.bump .FLC_READ_ERR 0
    d.modHeft (fun h => { h with
      readBytes := (h.readBytes.1 + 3 * blockSamples, h.readBytes.2 + n)
      poisoned := (if bad then [(pad, b)] else []) ++ h.poisoned.filter (· ≠ (pad, b)) })

/-- The heft lines of a plane that lie from `a` to `b`, as a patch. -/
def patch (d : Device) (pad : Nat) (l : Layer) (plane : Nat) (a b : Int) : Patch :=
  let a := a.toNat
  let rows := if l.lines ≤ a ∨ b < 0 then [] else d.heftLines pad l plane a b.toNat
  { v0 := a, rows := (rows.map (fun e => e.2.toArray)).toArray }

/-- The block columns and block rows that the field of a tile row makes tile column `c` use (R195): first and last of each. `v16` is v_0 of line 0 in 1/16,
`m` the words per sample. -/
def tileBlocksUsed (row prev : Array (Int × Int × Nat)) (v16 : Int) (w m c : Nat) : (Int × Int) × (Int × Int) :=
  let ps := [0, 64, 127].flatMap (fun l => [320 * c, 320 * c + 160, Nat.min (320 * c + 319) (w - 1)].map (fun s =>
    let (dx, dy, _) := fieldAt row prev l s
    (m * (16 * (s : Int) + dx), m * (v16 + 16 * l + dy))))
  let span (xs : List Int) : Int × Int :=
    let h := xs.headD 0
    (xs.foldl (fun a x => if x < a then x else a) h / 1024, (xs.foldl (fun a x => if a < x then x else a) h + 15) / 1024)
  (span (ps.map Prod.fst), span (ps.map Prod.snd))

/-- The extra heft blocks that a tile row reads are read and counted (R195): of each tile column, the block columns beyond six of the rows it is the first to
use, and the block rows behind those that the row before used, which miss the row cache (log entry 15). -/
def rereads (d : Device) (s pad : Nat) (lay : Layer) (k : Nat) (used : List ((Int × Int) × (Int × Int))) : Device :=
  let before : List (Int × Int) := match (d.st s).cache with
    | some (k', rs) => if k' = k then rs else []
    | none => []
  let upTo (a b : Int) : List Int := (List.range (b + 1 - a).toNat).map (fun (i : Nat) => a + (i : Int))
  let extra : List (Int × Int) := (used.zipIdx).flatMap (fun e =>
    let ((c0, c1), (r0, r1)) := e.1
    let (missed, fresh) := match before[e.2]? with
      | some (p0, p1) => (upTo r0 (if p0 - 1 < r1 then p0 - 1 else r1), upTo (if r0 < p1 + 1 then p1 + 1 else r0) r1)
      | none => ([], upTo r0 r1)
    let six := if c1 < c0 + 5 then c1 else c0 + 5
    missed.flatMap (fun r => (upTo c0 six).map (fun c => (r, c))) ++ (missed ++ fresh).flatMap (fun r => (upTo (c0 + 6) c1).map (fun c => (r, c))))
  let inside := extra.filter (fun x => 0 ≤ x.1 && x.1 < (lay.brows : Int) && 0 ≤ x.2 && x.2 < (lay.bcols : Int))
  let d := (List.range lay.planes).foldl (fun d q => inside.foldl (fun d x =>
    d.readBlock pad { set := s, plane := q, br := x.1.toNat, bc := x.2.toNat }) d) d
  (d.add .STI_HEFT_REREAD s (lay.planes * inside.length)).modSt s (fun x => { x with cache := some (k, used.map Prod.snd) })

/-- The field of row `r` of a set is measured from the row's lines that the buffer holds (R191, R192, R196). -/
def measureRow (d : Device) (s r : Nat) : Device :=
  let x := d.st s
  let lines := x.buf.filter (fun l => l.j / 128 == r)
  let w := d.num .STI_SET_WIDTH s / (if x.bin then 2 else 1)
  let ncol := Nat.max 1 ((w + 319) / 320)
  let prevRow := x.rows.head?
  match lines.head?, lines.head?.bind (fun l => d.startOf l.y) with
  | some l0, some st =>
    match (d.regPad st.k).bind (fun p => (layerIn (d.layersOf p) s).map (fun l => (p, l))) with
    | none => d.set .STI_REG_STATE s 0
    | some (pad, lay) =>
      if !d.on .STI_REG_EN s then d.set .STI_REG_STATE s 0
      else if lines.length < 48 then
        match prevRow with
        | some p => d.modSt s (fun x => { x with rows := ({ p with r := r, since := none } :: x.rows).take 1024 })
        | none => d
      else
        let plane := Nat.min (d.num .STI_REG_PLANE s) (lay.planes - 1)
        let m := if x.bin then 2 else 1
        let v16 := heftLine16 st l0.y (d.setPitch s * m)
        let vb := divRound v16 16
        let band := bandRows (d.setPitch s)
        let rd := Nat.min band.toNat 32
        let margin : Int := 8 * rd + 16 + (prevRow.map (fun p => maxNat (p.cols.map (fun c => c.2.1.natAbs)))).getD 0 / 16
        let h := d.patch pad lay plane (m * (vb - margin)) (m * (vb + 128 + margin))
        let img := (lines.map (fun l => (l.planes.getD (Nat.min plane (l.planes.length - 1)) []).toArray)).toArray
        let pcol (c : Nat) : Int × Int × Nat := if x.zeroPred then (0, 0, 2) else (prevRow.map (fun p => p.cols.getD c (0, 0, 2))).getD (0, 0, 2)
        let res := (List.range ncol).map (fun c =>
          tileMeasure h img x.bin rd (d.num .STI_ANCHOR_MIN 0) (d.num .STI_NCC_MIN 0) c band vb (16 * vb - v16) (pcol c).1 (pcol c).2.1)
        let anchors := (res.filter TileResult.anchor).length
        let both := (res.filter (fun t => t.dx.isSome && t.dy.isSome)).length
        let any := res.any (fun t => t.dx.isSome || t.dy.isSome)
        let locked := d.num .STI_REG_STATE s = 2
        let rate : Int := d.num .STI_RATE 0
        let fx := fieldAxis locked rate (res.map TileResult.dx) ((prevRow.map (fun p => p.cols.map (fun c => c.1))).getD [])
        let fy := fieldAxis locked rate (res.map TileResult.dy) ((prevRow.map (fun p => p.cols.map (fun c => c.2.1))).getD [])
        let locks := !locked && 0 < anchors && d.num .STI_ACQ_MIN 0 * anchors ≤ 100 * both
        let loss := if any then 0 else x.loss + 1
        let falls := locked && d.num .STI_LOSS_ROWS 0 ≤ loss
        let qual (hx hy : Bool) : Nat := if !locked && !locks then 2 else if hx || hy then 1 else 0
        let cols := (fx.zip fy).map (fun e => (e.1.1, e.2.1, qual e.1.2 e.2.2))
        let d := (d.set .STI_REG_VALID s both).setI .STI_REG_DX s (divRound (sumI (cols.map (fun c => c.1))) ncol)
        let d := d.setI .STI_REG_DY s (divRound (sumI (cols.map (fun c => c.2.1))) ncol)
        let before := ((prevRow.map RegRow.cols).getD cols).toArray
        let d := d.rereads s pad lay st.k ((List.range ncol).map (tileBlocksUsed cols.toArray before v16 w m))
        let d := d.modSt s (fun x => { x with rows := ({ r := r, cols := cols } :: x.rows).take 1024, loss := loss, zeroPred := false })
        if falls then d.enterAcquire s else d.set .STI_REG_STATE s (if locked || locks then 2 else 1)
  | _, _ => d

/-- The columns of the field of a row as it holds for line `j`; none where it has none. -/
def rowCols (d : Device) (s r j : Nat) : Array (Int × Int × Nat) :=
  match (d.st s).rows.find? (fun x => x.r = r && x.since.all (fun k => decide (0 ≤ serialDiff 32 j k))) with
  | some x => x.cols.toArray
  | none => #[]

/-- The displacement and quality of a sample of line `j` (R193). Without registration, or before a row is measured, dx = dy = 0; that is MEASURED where
registration does not run, UNREGISTERED where it does. -/
def displacement (d : Device) (s j : Nat) (i : Nat) : Int × Int × Nat :=
  let row := d.rowCols s (j / 128) j
  if row.size = 0 then (0, 0, if d.num .STI_REG_STATE s = 0 then 0 else 2)
  else fieldAt row (d.rowCols s ((j / 128 + 2 ^ 25 - 1) % 2 ^ 25) j) (j % 128) i

/-- Line 95 of a tile row has arrived with line `j` (R191): it is line 95, or a later one of a row whose line 95 never came. `last` is the line before. -/
def rowDue (j : Nat) (last : Option StLine) : Bool :=
  j % 128 = 95 || (95 < j % 128 && (match last with | some l => l.j / 128 != j / 128 || l.j % 128 < 95 | none => true))

end Device

/-- STITCH_LINE (R178, R191): once every ON member's line j has arrived, or has been judged late, the stitched line is made; at line 95 of a tile row the
row's field is measured. -/
def execStitchLine (set : Nat) (s : State) : Host.Outcome State Fault Refusal :=
  run (WF.stitchLine set) s fun d =>
    let d := d.takeGrid set
    match d.currentJ set with
    | none => d
    | some j =>
      let (have_, late, ready) := d.lineReady set j
      if !ready then d
      else
        let due := Device.rowDue j (d.st set).buf.getLast?
        let d := d.makeStitched set j have_ late
        if due then
          let d := match (d.st set).buf.getLast? with
            | some l => if d.followsRepeats then d else d.startsFor l.y
            | none => d
          d.measureRow set (j / 128)
        else d

end Sys2Proof.Machine
end

