-- ==== Sys2Proof/Machine/Learn.lean ====
section
/-!
DEFINITION. Learning in place, the write path of learned tiles, and artwork loads (R211 to R223): the update of one word, the blocks being rebuilt, which tiles a
repeat learns, writing and verifying blocks, completion, and load items.
-/
namespace Sys2Proof.Machine

/-- The parameters of R229. -/
structure LearnRule where
  edgeMin : Nat
  tolFloor : Nat
  tolGain : Nat
  outGain : Nat
  outMin : Nat
  shiftMax : Nat

/-- need(a) of R213. -/
def needCode (gain a : Nat) : Nat := ((List.range 63).find? (fun c => decide (gain * a ≤ tolOf c * 16))).getD 62

/-- The update of one word (R213): `x` the sample, `gx` and `gy` its gradients, `n` the learning count of its tile. -/
def learnWord (p : LearnRule) (w x : Nat) (gx gy : Int) (n : Nat) : Nat :=
  let edge := wordEdge w || decide (p.edgeMin ≤ gx.natAbs) || decide (p.edgeMin ≤ gy.natAbs)
  if n = 0 || wordTol w = 63 then
    mkWord (Nat.min ((x + 512) / 1024) 16383) p.tolFloor (wordConf w) (wordDie w) edge (wordVar w)
  else
    let dd : Int := (x : Int) - (wordE w * 1024 : Nat)
    let lim := Nat.max (tolOf (wordTol w) * p.outGain / 16) p.outMin
    let out := decide (lim < dd.natAbs)
    if out && !wordVar w then mkWord (wordE w) (wordTol w) (wordConf w) (wordDie w) edge true
    else
      let sh := Nat.min (n + 1).log2 p.shiftMax
      let ef : Int := (wordE w * 1024 : Nat) + (dd + 2 ^ (sh - 1)) / 2 ^ sh
      mkWord (clampI 0 16383 ((ef + 512) / 1024)).toNat (Nat.max (wordTol w) (needCode p.tolGain dd.natAbs)) (wordConf w || out) (wordDie w) edge (wordVar w)

/-- A sample that learning uses (R212): plane, word, value and gradients. -/
structure LearnSample where
  plane : Nat
  u : Nat
  v : Nat
  x : Nat
  gx : Int
  gy : Int

/-- Blocks of a tile (R205). -/
def tileBlocks (l : Layer) (x : TileRun) : List BlockAt :=
  (List.range 16).filterMap (fun i =>
    let b : BlockAt := { set := x.set, plane := x.plane, br := 4 * x.tr + i / 4, bc := 4 * x.tc + i % 4 }
    if b.br < l.brows ∧ b.bc < l.bcols then some b else none)

/-- Words of a tile, padding excluded. -/
def tileWords (l : Layer) (x : TileRun) : Nat := Nat.min 256 (l.cols - 256 * x.tc) * Nat.min 256 (l.lines - 256 * x.tr)

/-- At least half of a tile's words have been updated (R215). -/
def tileReached (l : Layer) (x : TileRun) : Bool := tileWords l x ≤ 2 * x.updated

/-- The place of a block among the sixteen of its tile. -/
def blockBit (b : BlockAt) : Nat := 4 * (b.br % 4) + b.bc % 4

namespace Device

/-- The learning parameters in force. -/
def learnRule (d : Device) : LearnRule :=
  { edgeMin := d.num .HFT_EDGE_MIN 0, tolFloor := d.num .HFT_TOL_FLOOR 0, tolGain := d.num .HFT_TOL_GAIN 0, outGain := d.num .HFT_OUT_GAIN 0
    outMin := d.num .HFT_OUT_MIN 0, shiftMax := d.num .HFT_SHIFT_MAX 0 }

/-- Learning count of a tile (R215). -/
def tileCount (d : Device) (pad set plane tr tc : Nat) : Nat :=
  ((getKeyed Prod.fst (tileIndex (d.layersOf pad) set plane tr tc) d.heft.counts).map Prod.snd).getD 0

/-- A tile whose writes of an earlier repeat are all made and only wait to be verified, at least half of it reached (R215). -/
def tilePending (d : Device) (pad : Nat) (l : Layer) (p r c : Nat) : Option TileRun :=
  d.heft.runs.find? (fun x => x.pad == pad && x.set == l.set && x.plane == p && x.tr == r && x.tc == c && !x.failed && tileReached l x)

/-- The count of a tile before the repeat that begins (R213, R215), one whose writes are made but not all verified counted with it. -/
def tileBefore (d : Device) (pad : Nat) (l : Layer) (p r c : Nat) : Nat :=
  d.tileCount pad l.set p r c + (if (d.tilePending pad l p r c).isSome then 1 else 0)

/-- A tile's sealing write has been made (R214). -/
def tileSealed (d : Device) (pad : Nat) (l : Layer) (p r c : Nat) : Bool :=
  d.heft.sealed.contains (tileIndex (d.layersOf pad) l.set p r c) || (d.tilePending pad l p r c).any TileRun.seals

/-- The tiles that learning repeat `rep` writes (R23, R215, R227): those short of HFT_LEARN_REPEATS or not yet sealed, and when throttled every other one
(log entry 16). The write that brings a count to HFT_LEARN_REPEATS or beyond seals. -/
def scheduleTiles (d : Device) (pad rep : Nat) (throttled : Bool) : List TileRun :=
  let n := d.num .HFT_LEARN_REPEATS 0
  (d.layersOf pad).flatMap (fun l => (List.range l.planes).flatMap (fun p => (List.range l.trows).flatMap (fun r => (List.range l.tcols).filterMap (fun c =>
    let before := d.tileBefore pad l p r c
    if (before < n ∨ d.tileSealed pad l p r c = false) ∧ (throttled = false ∨ (r + c + rep) % 2 = 0) then
      some { rep := rep, pad := pad, set := l.set, plane := p, tr := r, tc := c, seals := decide (n ≤ before + 1) }
    else none))))

/-- The learning count that samples of repeat `rep` find (R213): writes of earlier repeats that are not yet verified are counted. -/
def tileCountIn (d : Device) (pad : Nat) (l : Layer) (rep p r c : Nat) : Nat :=
  d.tileCount pad l.set p r c + (d.heft.runs.filter (fun x =>
    x.pad == pad && x.set == l.set && x.plane == p && x.tr == r && x.tc == c && x.rep != rep && !x.failed && tileReached l x)).length

/-- The words that a block is rebuilt from (R212): those of a rebuild of an earlier repeat that waits to be written, of a write in flight, or as they stand. -/
def learnedWords (d : Device) (pad : Nat) (b : BlockAt) : List Nat :=
  match d.heft.rebuilds.reverse.find? (fun r => decide (r.pad = pad ∧ r.block = b)) with
  | some r => r.words
  | none => d.finalWords pad b

/-- One sample updates the word nearest to it, once in a repeat (R212, R213, R219). -/
def learnOne (rep pad set : Nat) (seed : Bool) (d : Device) (x : LearnSample) : Device :=
  match layerIn (d.layersOf pad) set with
  | none => d
  | some l =>
    let b : BlockAt := { set := set, plane := x.plane, br := x.v / 64, bc := x.u / 64 }
    let mine (t : TileRun) : Bool :=
      t.rep == rep && t.pad == pad && t.set == set && t.plane == x.plane && t.tr == b.br / 4 && t.tc == b.bc / 4
    if l.cols ≤ x.u ∨ l.lines ≤ x.v ∨ l.planes ≤ x.plane ∨ (!seed && !d.heft.runs.any mine) then d
    else
      let same (r : Rebuild) : Bool := r.rep == rep && r.pad == pad && r.seed == seed && r.block == b
      let i := 64 * (x.v % 64) + x.u % 64
      let r := (d.heft.rebuilds.find? same).getD
        { rep := rep, pad := pad, block := b, n := if seed then 0 else d.tileCountIn pad l rep x.plane (b.br / 4) (b.bc / 4)
          words := d.learnedWords pad b, touched := List.replicate blockSamples false, seed := seed }
      if r.touched.getD i false then d
      else
        let r := { r with words := modAt r.words i (fun w => learnWord d.learnRule w x.x x.gx x.gy r.n), touched := modAt r.touched i (fun _ => true) }
        d.modHeft (fun h => { h with
          rebuilds := h.rebuilds.filter (fun e => !same e) ++ [r]
          runs := if seed then h.runs else h.runs.map (fun t => if mine t then { t with updated := t.updated + 1 } else t) })

/-- The words of the down-web lines that the compare of a set has certainly left (R189, R215): beyond the capture range of ±2 mm behind its last line. -/
def leftBehind (d : Device) (set v : Nat) : Bool :=
  match (d.st set).prev with
  | none => false
  | some l =>
    match d.startOf l.y with
    | none => false
    | some s => decide (((v : Int) * d.setPitch set + 2000 * 65536) * 16 < heftLine16 s l.y (d.setPitch set) * d.setPitch set)

/-- The learning repeat in which the set's compare is (R217). -/
def learningAt (d : Device) (set : Nat) : Option Nat := ((d.st set).k.bind d.forceAt).bind InForce.learning

/-- No later sample of the tile's repeat can reach it (R215). -/
def tilePassed (d : Device) (x : TileRun) : Bool := d.learningAt x.set != some x.rep || d.leftBehind x.set (256 * x.tr + 255)

/-- HFT_TILES_DONE (R228): the tiles whose count has reached HFT_LEARN_REPEATS. -/
def refreshDone (d : Device) : Device :=
  d.set .HFT_TILES_DONE 0 (d.heft.counts.filter (fun e => d.num .HFT_LEARN_REPEATS 0 ≤ e.2)).length

/-- A tile whose blocks are all finished (R215): its count advances, or it fell short; it is done with. -/
def finishTile (d : Device) (x : TileRun) (l : Layer) : Device :=
  if (tileBlocks l x).all (fun b => bit x.done (blockBit b)) then
    let d := d.modHeft (fun h => { h with runs := h.runs.filter (fun t => t ≠ x) })
    if d.heft.learnPad ≠ x.pad then d
    else
      let reached := tileReached l x
      let d := d.bumpIf (!reached) .HFT_TILE_MISSES 0
      if x.failed || !reached then d
      else
        let n := d.tileCount x.pad x.set x.plane x.tr x.tc + 1
        let i := tileIndex (d.layersOf x.pad) x.set x.plane x.tr x.tc
        (d.modHeft (fun h => { h with
          counts := putKeyed Prod.fst (i, n) h.counts
          sealed := (if x.seals then [i] else []) ++ h.sealed.filter (· ≠ i) })).refreshDone
  else d

/-- A block of a tile is finished. -/
def finishBlock (d : Device) (pad rep : Nat) (b : BlockAt) (failed : Bool) : Device :=
  let mine (t : TileRun) : Bool := t.rep == rep && t.pad == pad && t.set == b.set && t.plane == b.plane && t.tr == b.br / 4 && t.tc == b.bc / 4
  let d := d.modHeft (fun h => { h with runs := h.runs.map (fun t =>
    if mine t then { t with done := setBit t.done (blockBit b), written := setBit t.written (blockBit b), failed := t.failed || failed } else t) })
  match d.heft.runs.find? mine, layerIn (d.layersOf pad) b.set with
  | some x, some l => d.finishTile x l
  | _, _ => d

/-- A block's words are compressed and written into a fresh extent (R215, R216); says whether there was room. -/
def writeBlock (d : Device) (w : BlockWrite) (effort : Nat) : Device × Bool :=
  let (bytes, d) := d.encode effort 0 w.words
  match d.freshExtent w.pad bytes.length with
  | none => (d, false)
  | some off =>
    let d := d.dramWrite (d.ident.paddockBase w.pad + off) bytes
    ((d.modHeft (fun h => { h with writes := h.writes ++ [{ w with off := off, bytes := bytes }] })).refreshBytes w.pad, true)

/-- HEFT_BLOCK_WRITE (R215, R219): a block that no later sample of its repeat can reach. -/
def blockWrite (d : Device) (b : BlockAt) : Device :=
  let rebuiltBy (seed : Bool) (rep pad : Nat) (r : Rebuild) : Bool := r.seed == seed && r.rep == rep && r.pad == pad && r.block == b
  match d.heft.runs.find? (fun x => unwritten x b && d.tilePassed x) with
  | some x =>
    match layerIn (d.layersOf x.pad) b.set with
    | none => d
    | some l =>
      if !blockIn (d.layersOf x.pad) b then d
      else
        let words := ((d.heft.rebuilds.find? (rebuiltBy false x.rep x.pad)).map Rebuild.words).getD (d.finalWords x.pad b)
        let seals := x.seals && tileReached l x && !x.failed
        let words := if seals then words.map (sealWord (d.num .HFT_CONF_MAX 0)) else words
        let words := (words.zipIdx).map (fun e => if isPadding l b e.2 then padWord else e.1)
        let (d, room) := d.writeBlock { rep := x.rep, block := b, pad := x.pad, off := 0, bytes := [], words := words, seals := seals }
          (if seals then d.num .HFT_SEAL_EFFORT 0 else d.num .HFT_LEARN_EFFORT 0)
        let d := d.modHeft (fun h => { h with
          rebuilds := h.rebuilds.filter (fun r => !rebuiltBy false x.rep x.pad r)
          runs := h.runs.map (fun t => if t = x then { t with written := setBit t.written (blockBit b) } else t) })
        if room then d else (d.bump .HFT_NOSPACE 0).finishBlock x.pad x.rep b true
  | none =>
    match d.heft.rebuilds.find? (fun r => r.seed && r.block == b) with
    | none => d
    | some r =>
      if r.rep == d.heft.seedRep && !d.leftBehind b.set (64 * b.br + 63) then d
      else
        let (d, room) := d.writeBlock { rep := r.rep, block := b, pad := r.pad, off := 0, bytes := [], words := r.words, seals := false, seed := true }
          (d.num .HFT_LEARN_EFFORT 0)
        let d := d.modHeft (fun h => { h with rebuilds := h.rebuilds.filter (fun e => !rebuiltBy true r.rep r.pad e) })
        d.bumpIf (!room) .HFT_NOSPACE 0

/-- HEFT_BLOCK_VERIFIED (R215, R217): the block just written is decompressed and compared; `ok` says that the stack returned it as it was written. -/
def blockVerified (d : Device) (b : BlockAt) (ok : Bool) : Device :=
  match d.heft.writes.find? (fun w => w.block == b) with
  | none => d
  | some w =>
    let drop (d : Device) : Device := d.modHeft (fun h => { h with writes := h.writes.filter (fun x => x ≠ w) })
    let (same, d) := d.verify (d.dramPeek (d.ident.paddockBase w.pad + w.off) w.bytes.length) 0 w.words
    if ok && same then
      let d := d.bumpIf (w.load && (d.dirEntry w.pad b).isNone) .HFT_LOAD_BLOCKS 0
      let d := ((drop d).setDir w.pad b w.off w.bytes.length).refreshBytes w.pad
      if w.load || w.seed then d else d.finishBlock w.pad w.rep b false
    else
      let d := d.bumpIf same .FLC_VERIFY_FAILS 0
      if !w.retried then
        let d := d.dramWrite (d.ident.paddockBase w.pad + w.off) w.bytes
        d.modHeft (fun h => { h with writes := h.writes.map (fun x => if x = w then { x with retried := true } else x) })
      else
        let d := ((drop d).refreshBytes w.pad).raiseFault .hftVerify
        let d := d.bumpIf w.seals .HFT_SEAL_FAILS 0
        if w.load || w.seed then d
        else if d.padState w.pad = 3 then
          let d := (d.modHeft (fun h => { h with unsealed := h.unsealed ++ [(w.pad, b)] })).finishBlock w.pad w.rep b true
          d.set .HFT_PD_CONF_PPM w.pad (d.confPpm w.pad)
        else d.finishBlock w.pad w.rep b true

/-- Learning starts in the standby for a job (R219, R224): every count 0; a mask for that job is kept, anything else is cleared. `seeding`: preview lines set
its words until LAMBING ends. -/
def startLearning (d : Device) (job : Nat) (seeding : Bool) : Device :=
  let k := d.standby
  let masked := d.padState k = 4 && d.num .HFT_PD_JOB k = job
  let ls := d.learnLayers
  let d := if masked then d.modHeft (fun h => { h with layers := modTab 2 [] h.layers k (fun _ => ls) }) else (d.clearPad k).setLayers k ls
  let d := d.modHeft (fun h => { h with
    counts := [], sealed := [], learnPad := k, learnRep := none, seedRep := 0, seeding := seeding,
    rebuilds := h.rebuilds.filter (fun r => r.pad ≠ k), runs := h.runs.filter (fun r => r.pad ≠ k) })
  let d := ((d.set .HFT_TILES_TOTAL 0 (heftTiles ls)).set .HFT_TILES_DONE 0 0).set .HFT_PD_SAMPLES k (heftWords ls)
  ((d.setPad k 2 job).refreshBytes k).refreshCols

/-- Learning under way is abandoned (R224, R227). -/
def abandonLearning (d : Device) : Device :=
  if d.padState d.standby = 2 then
    ((d.emptyPad d.standby).modHeft (fun h => { h with counts := [], sealed := [], learnRep := none, seedRep := 0, seeding := false })).refreshDone
  else d

/-- The writes that no later sample of the ended repeat can reach, and that have not been made yet, are made (R215): all of a paddock. -/
def writeRest (d : Device) (k : Nat) : Device :=
  ((d.heft.runs.filter (fun x => x.pad = k && d.tilePassed x)).flatMap (fun x =>
    match layerIn (d.layersOf k) x.set with
    | some l => (tileBlocks l x).filter (unwritten x)
    | none => [])).foldl blockWrite d

/-- Every tile's final scheduled write has been made (R217). -/
def learningComplete (d : Device) : Bool :=
  let k := d.standby
  let n := d.num .HFT_LEARN_REPEATS 0
  let made (l : Layer) (p r c : Nat) : Bool :=
    let cnt := d.tileCount k l.set p r c
    (n ≤ cnt && d.heft.sealed.contains (tileIndex (d.layersOf k) l.set p r c))
      || (d.tilePending k l p r c).any (fun x => x.seals && n ≤ cnt + 1 && (tileBlocks l x).all (fun b => bit x.written (blockBit b)))
  d.padState k == 2 && (d.layersOf k).all (fun l => (List.range l.planes).all (fun p => (List.range l.trows).all (fun r =>
    (List.range l.tcols).all (made l p r))))

/-- The roles of the paddocks are exchanged (R209). -/
def swapRoles (d : Device) : Device :=
  let a := d.num .HFT_PD_ROLE 0
  ((d.set .HFT_PD_ROLE 0 (1 - a)).set .HFT_PD_ROLE 1 a).refreshCols

/-! ## Artwork loads (R220 to R223) -/

/-- The layers of the next load; none when a set names only some of its counts, or no set is named (R220). -/
def loadLayers (d : Device) : Option (List Layer) :=
  let of_ (s : Nat) : Layer := { set := s, cols := d.num .HFT_LOAD_COLS s, lines := d.num .HFT_LOAD_LINES s, planes := d.num .HFT_LOAD_PLANES s }
  let ls := (List.range 8).map of_
  let full (l : Layer) : Bool := l.cols != 0 && l.lines != 0 && l.planes != 0
  let none_ (l : Layer) : Bool := l.cols == 0 && l.lines == 0 && l.planes == 0
  if ls.all (fun l => full l || none_ l) && ls.any full then some (ls.filter full) else none

/-- A device commit that changes HFT_JOB_ID is pending. -/
def jobPending (d : Device) : Bool :=
  match d.pend.find? (fun p => decide (p.scope = .device)) with
  | some p => ((p.values.find ⟨.HFT_JOB_ID, 0⟩).getD (.num 0)).toNat != d.num .HFT_JOB_ID 0
  | none => false

/-- HFT_LOAD_BEGIN (R220): its abort code, 0 when the load opens. -/
def loadBegin (d : Device) (job : Nat) : Nat × Device :=
  let k := d.standby
  if d.padState k = 1 || d.padState k = 2 || d.jobPending then (0x06, d)
  else match d.loadLayers with
    | none => (0x04, d)
    | some ls =>
      if !d.ident.heftFits ls then (0x09, d)
      else
        let d := ((d.clearPad k).setLayers k ls).modHeft (fun h => { h with loadMask := none, loadFull := false })
        let d := ((d.set .HFT_LOAD_BLOCKS 0 0).set .HFT_PD_SAMPLES k (heftWords ls)).setPad k 1 job
        (0, (d.refreshBytes k).refreshCols)

/-- HFT_LOAD_END (R223): its abort code, 0 when the load closes. -/
def loadEnd (d : Device) (job : Nat) : Nat × Device :=
  let k := d.standby
  if d.padState k ≠ 1 then (if d.heft.loadFull then 0x09 else 0x06, d)
  else if d.num .HFT_PD_JOB k ≠ job then (0x04, d)
  else if d.heft.loadMask = some true then (0, d.setPad k 4 job)
  else
    let missing := ((allBlocks (d.layersOf k)).filter (fun b => (d.dirEntry k b).isNone)).length
    if missing = 0 then (0, d.heftValid k 2) else (0x05, d.set .HFT_LOAD_MISSING 0 missing)

/-- HFT_LOAD_ABORT (R220). -/
def loadAbort (d : Device) : Device := if d.padState d.standby = 1 then d.emptyPad d.standby else d

/-- A load item is refused (R222). -/
def refuseItem (d : Device) : Device := d.bump .HFT_LOAD_REFUSED 0

/-- A load item that finds no room fails the load (R222). -/
def loadFails (d : Device) : Device := (d.emptyPad d.standby).modHeft (fun h => { h with loadFull := true })

/-- A load item of the standby's job, header checked, is stored (R222): `fmt` its form. -/
def storeItem (d : Device) (k : Nat) (l : Layer) (b : BlockAt) (fmt : Nat) (p : Octets) : Device :=
  let words : Option (List Nat) :=
    if fmt = 0 then (if p.length = 12288 then some ((chunks 3 blockSamples p).map ofLE) else none)
    else if fmt = 1 then (match decodeBlock p with | .ok 0 xs => if p.length ≤ 12296 then some xs else none | _ => none)
    else if p.length = 4096 && p.all (fun m => (m % 256) &&& 0xFA == 0) then
      some (p.map (fun m => mkWord 0 63 (bit m 0) (bit m 2) false (bit m 0)))
    else none
  match words with
  | none => d.refuseItem
  | some xs =>
    let ys := (xs.zipIdx).map (fun e => if isPadding l b e.2 then padWord else e.1)
    let d := d.modHeft (fun h => { h with loadMask := some (fmt == 2), writes := h.writes.filter (fun w => ¬(w.pad = k ∧ w.block = b)) })
    if fmt = 1 ∧ ys = xs then
      match d.freshExtent k p.length with
      | none => d.loadFails
      | some off =>
        let d := d.bumpIf (d.dirEntry k b).isNone .HFT_LOAD_BLOCKS 0
        (((d.dramWrite (d.ident.paddockBase k + off) p).setDir k b off p.length).add .FLC_DEC_SAMPLES 0 blockSamples).refreshBytes k
    else
      let (d, room) := d.writeBlock { rep := 0, block := b, pad := k, off := 0, bytes := [], words := ys, seals := false, load := true } (d.num .HFT_SEAL_EFFORT 0)
      if room then d else d.loadFails

/-- A load item (R221, R222): header and payload. -/
def loadItem (d : Device) (it : Octets) : Device :=
  let k := d.standby
  let fmt := octet it 1
  let b : BlockAt := { set := octet it 2, plane := octet it 3, br := leAt it 12 4, bc := leAt it 8 4 }
  let p := it.drop 32
  let good := 32 ≤ it.length && octet it 0 == 1 && fmt ≤ 2 && leAt it 4 4 == d.num .HFT_PD_JOB k && leAt it 24 8 == 0 && leAt it 16 4 == p.length
    && crc32c p == leAt it 20 4
  let kind := match d.heft.loadMask with | some m => m == (fmt == 2) | none => true
  match layerIn (d.layersOf k) b.set with
  | some l => if d.padState k = 1 && good && kind && blockIn (d.layersOf k) b then d.storeItem k l b fmt p else d.refuseItem
  | none => d.refuseItem

end Device

/-- HEFT_BLOCK_WRITE (R215). -/
def execHeftBlockWrite (set plane br bc : Nat) (s : State) : Host.Outcome State Fault Refusal :=
  run (WF.heftBlockWrite set plane br bc) s fun d => d.blockWrite { set := set, plane := plane, br := br, bc := bc }

/-- HEFT_BLOCK_VERIFIED (R215). -/
def execHeftBlockVerified (set plane br bc : Nat) (ok : Bool) (s : State) : Host.Outcome State Fault Refusal :=
  run (WF.heftBlockVerified set plane br bc ok) s fun d => d.blockVerified { set := set, plane := plane, br := br, bc := bc } ok

/-- HEFT_LOAD_ITEM (R221, R222): the oldest item of the load queue is taken. -/
def execHeftLoadItem (s : State) : Host.Outcome State Fault Refusal :=
  run true s fun d =>
    let q := d.num .HFT_LOAD_QUEUE 0
    match (d.ring q).items with
    | it :: _ => if q < 4096 && (d.ring q).dir = 1 then (d.takeItem q).loadItem it.payload else d
    | [] => d

end Sys2Proof.Machine
end

