-- ==== Sys2Proof/Machine/Segment.lean ====
section
/-!
DEFINITION. Streaming segmentation (R238 to R254): runs, pens and their merging, closing and splitting, the supply of pens, and regions across devices: fragments,
EDGE, LINK, WATERMARK and ALIAS, and the components of the bellwether.
-/
namespace Sys2Proof.Machine

/-- General pens (R246). -/
abbrev generalPens : Nat := 262128

/-- The last line of a pen. -/
def Pen.last (p : Pen) : Nat := (p.jfirst + p.height) % 2 ^ 32

/-- Signed distance of two line numbers. -/
def lineDiff (a b : Nat) : Int := serialDiff 32 a b

/-- The fields of an absorbed pen combined into the survivor (R241). -/
def Pen.merge (a b : Pen) : Pen :=
  let first := if lineDiff b.jfirst a.jfirst < 0 then b else a
  let last := if 0 < lineDiff b.last a.last then b else a
  let pa := (a.jfirst + a.peakDj) % 2 ^ 32
  let pb := (b.jfirst + b.peakDj) % 2 ^ 32
  let top := if a.peak < b.peak then b
    else if b.peak < a.peak then a
    else if lineDiff pb pa < 0 then b
    else if lineDiff pa pb < 0 then a
    else if b.peakS < a.peakS then b else a
  { a with
    smin := Nat.min a.smin b.smin, smax := Nat.max a.smax b.smax
    jfirst := first.jfirst, height := (lineDiff last.last first.jfirst).toNat % 65536
    area := Nat.min (a.area + b.area) 16777215, sum := Nat.min (a.sum + b.sum) 16777215
    peak := top.peak, peakS := top.peakS, peakDj := (lineDiff ((top.jfirst + top.peakDj) % 2 ^ 32) first.jfirst).toNat % 65536
    peakDx := top.peakDx, peakDy := top.peakDy, cls := top.cls
    pol := a.pol ||| b.pol, planes := a.planes ||| b.planes, hflags := a.hflags ||| b.hflags, qual := a.qual ||| b.qual, flags := a.flags ||| b.flags
    tag := match a.tag with | some t => some t | none => b.tag
    y := first.y, t := first.t, k := first.k, w := first.w, heft := first.heft, c0 := first.c0, c1 := last.c1 }

/-- A displacement as a pen holds it: S14, saturating (R244). -/
def s14 (x : Int) : Int := clampI (-8192) 8191 x

/-- A pen of one real sample of a line (R245); `c0` and `c1` are C before and at the line. -/
def penOfSample (set : Nat) (l : CmpLine) (c0 c1 s : Nat) : Px → Option Pen
  | .flag n pol planes hf cls held sat dx dy =>
    let m := if l.res = 0 then 1 else 2
    some { idx := 0, set := set, smin := m * s, smax := m * s + (m - 1), jfirst := l.j, height := 0, area := 1, peak := n, peakS := m * s, peakDj := 0
           peakDx := s14 dx, peakDy := s14 dy, sum := n / 16, pol := pol, planes := planes, hflags := hf, cls := cls, blind := 0
           qual := b2n l.coasted * 2 + b2n held, flags := b2n sat, y := l.y, t := l.t, k := l.k, w := l.w, heft := l.heft, c0 := c0, c1 := c1, res := l.res }
  | _ => none

/-- The pen of a run's real samples (R245); none where every sample is carried. -/
def penOfRun (set : Nat) (l : CmpLine) (c0 c1 : Nat) (r : Nat × Nat) : Option Pen :=
  (((l.px.drop r.1).take (r.2 + 1 - r.1)).zipIdx).foldl (fun acc e =>
    match acc, penOfSample set l c0 c1 (r.1 + e.2) e.1 with
    | none, p => p
    | some a, none => some a
    | some a, some p => some (a.merge p)) none

/-- The membership of each sample of a line (R239): how long it has been carried, 0 for a flagged one. -/
def carryLine (bridge : Nat) (first : Bool) (prev : List (Option Nat)) (px : List Px) : List (Option Nat) :=
  (px.zipIdx).map (fun e => match e.1 with
    | .flag .. => some 0
    | .blind => match prev.getD e.2 none with
      | some c => if !first && c < bridge then some (c + 1) else none
      | none => none
    | .clear => none)

/-- The runs of a line (R238): maximal groups of flagged or carried samples, first and last. -/
def runsOf (cs : List (Option Nat)) : List (Nat × Nat) :=
  ((cs.zipIdx).foldl (fun acc e => match e.1 with
    | none => acc
    | some _ => match acc with
      | (a, b) :: t => if b + 1 = e.2 then (a, e.2) :: t else (e.2, e.2) :: acc
      | [] => [(e.2, e.2)]) []).reverse

/-- A run of the previous line on the grid of the next (R238): pairs and samples convert; preview lines touch only preview lines. -/
def regrid (prevRes res : Nat) (r : Run) : Option Run :=
  if prevRes = res then some r
  else if prevRes = 1 ∧ res = 0 then some { r with s0 := 2 * r.s0, s1 := 2 * r.s1 + 1 }
  else if prevRes = 0 ∧ res = 1 then some { r with s0 := r.s0 / 2, s1 := r.s1 / 2 }
  else none

/-- The 32 bytes of a pen in the layout of R244, least significant first; `state` its STATE. -/
def Pen.bytes (p : Pen) (state : Nat) : Octets :=
  let fs : List (Nat × Nat) := [(p.flags, 5), (p.qual, 2), (p.blind, 8), (p.cls, 3), (p.hflags, 3), (p.planes, 3), (p.pol, 2), (p.sum, 24),
    (ofSigned 14 p.peakDy, 14), (ofSigned 14 p.peakDx, 14), (p.peakDj, 16), (p.peakS, 17), (p.peak, 16), (p.area, 24), (p.height, 16), (p.jfirst, 32),
    (p.smax, 17), (p.smin, 17), (p.idx, 18), (state, 2), (p.set, 3)]
  le 32 (fs.foldr (fun f a => f.1 % 2 ^ f.2 + a * 2 ^ f.2) 0)

/-- The down-web pitch of a resolution's lines (R162, R238). -/
def resPitch (pitch res : Nat) : Nat := if res = 2 then 2 * pitch else pitch

/-- A pen from its 32 bytes and what a FRAG adds (R251, R415); `v` is v_0 in 1/65,536 line (log entry 31). -/
def penOfBytes (b : Octets) (x0 : Int) (pitch t k : Nat) (v : Int) : Pen :=
  let n := ofLE (slice b 0 32)
  let cls := field n 17 15
  let res := if cls = 6 then 1 else if cls = 7 then 2 else 0
  { idx := 262144, set := field n 255 253, smin := field n 232 216, smax := field n 215 199, jfirst := field n 198 167, height := field n 166 151
    area := field n 150 127, peak := field n 126 111, peakS := field n 110 94, peakDj := field n 93 78, peakDx := toSigned 14 (field n 77 64)
    peakDy := toSigned 14 (field n 63 50), sum := field n 49 26, pol := field n 25 24, planes := field n 23 21, hflags := field n 20 18, cls := cls
    blind := field n 14 7, qual := field n 6 5, flags := field n 4 0, y := 0, t := t, k := k, w := divRound (v * resPitch pitch res) 65536, heft := true, c0 := 0, c1 := 0
    res := res, x0 := x0, pitch := pitch }

namespace Device

/-- Segmentation changed. -/
def modPens (d : Device) (f : Pens → Pens) : Device := { d with seg := f d.seg }

/-- Segmentation of a set. -/
def segOf (d : Device) (s : Nat) : Segment := d.seg.sets.getD s {}

/-- Segmentation of a set changed. -/
def modSeg (d : Device) (s : Nat) (f : Segment → Segment) : Device := d.modPens (fun p => { p with sets := modTab 8 {} p.sets s f })

/-- Sets with members (R246). -/
def setsUsed (d : Device) : List Nat := (List.range 8).filter (fun s => d.members s ≠ [])

/-- Pens not FREE (R248, R257): the open ones, those absorbed on the line being labelled, and those waiting for the classifier. -/
def penHeld (d : Device) : Nat := d.seg.pens.length + d.seg.absorbed.length + (d.seg.closed.filter (fun c => c.1.idx < 262144)).length

/-- PEN_OPEN, its peak, and the open pens of each set follow (R257, R258). -/
def countPens (d : Device) : Device :=
  let held := d.penHeld
  let d := (d.set .PEN_OPEN 0 held).peak .PEN_OPEN_PEAK 0 held
  (List.range 8).foldl (fun d s =>
    let mine := d.seg.pens.filter (fun p => p.set = s)
    (d.set .PEN_SET_OPEN s mine.length).setOn .PEN_SET_OVF s (mine.any (fun p => generalPens ≤ p.idx))) d

/-! ## Components at the bellwether (R252, R253) -/

/-- The pens of a component combined (R252). -/
def joinFrags (fs : List (Nat × Pen)) : Option Pen :=
  let base := fs.foldl (fun a f => if f.2.x0 < a then f.2.x0 else a) ((fs.head?.map (fun f => f.2.x0)).getD 0)
  let moved := fs.map (fun f =>
    let p := f.2
    let sh := ((p.x0 - base) * 256 / (Nat.max 1 p.pitch : Nat)).toNat
    { p with x0 := base, smin := p.smin + sh, smax := p.smax + sh, peakS := p.peakS + sh })
  let blind := maxNat (moved.map Pen.blind)
  match moved with
  | [] => none
  | p :: t =>
    let lead := t.foldl (fun a q => if lineDiff q.jfirst a.jfirst < 0 then q else a) p
    let rest := moved.erase lead
    let j := rest.foldl Pen.merge lead
    some { j with set := lead.set, blind := blind, flags := j.flags - (j.flags &&& 0x6) }

/-- Every pass to the own classifier (R252, R253). -/
def passPen (d : Device) (p : Pen) (isPart : Bool) : Device :=
  (d.modPens (fun x => { x with closed := x.closed ++ [(p, true, isPart)] })).bumpIf isPart .PEN_PARTIAL 0

/-- PEN_XDEV_OPEN follows. -/
def countComps (d : Device) : Device := d.set .PEN_XDEV_OPEN 0 d.seg.comps.length

/-- A component is passed on from the fragments it holds; the FRAGs of its other tags may still come. -/
def passComp (d : Device) (c : Component) (isPart : Bool) : Device :=
  let d := d.modPens (fun x => { x with comps := x.comps.filter (fun e => e ≠ c), passed := x.passed ++ c.tags.filter (fun t => !c.frags.any (fun f => f.1 = t)) })
  (match joinFrags c.frags with
  | some p => d.passPen p isPart
  | none => d).countComps

/-- The WATERMARK of an edge has reached a line (R252). -/
def marked (d : Device) (east set line : Nat) : Bool := d.seg.marks.any (fun m => m.1 = east && m.2.1 = set && decide (0 ≤ lineDiff m.2.2 line))

/-- The device east of one in the ring. -/
def eastOf (d : Device) (i : Nat) : Nat := ((d.ringIds.filter (fun j => i < j)).head?).getD 0

/-- The device west of one in the ring. -/
def westOf (d : Device) (i : Nat) : Nat := ((d.ringIds.filter (fun j => j < i)).getLast?).getD 0

/-- A component is complete (R252). -/
def compDone (d : Device) (c : Component) : Bool :=
  let last := c.frags.foldl (fun a f => if 0 < lineDiff f.2.last a then f.2.last else a) ((c.frags.head?.map (fun f => f.2.last)).getD 0)
  let next := (last + 1) % 2 ^ 32
  !c.byTimeout && c.frags ≠ [] && c.tags.all (fun t => c.frags.any (fun f => f.1 = t)) && c.frags.all (fun f =>
    let dev := f.1 / 2 ^ 29
    (!bit f.2.flags 2 || d.marked dev f.2.set next) && (!bit f.2.flags 1 || d.marked (d.eastOf dev) f.2.set next))

/-- Components that have become complete are passed on. -/
def passDone (d : Device) : Device := (d.seg.comps.filter d.compDone).foldl (fun d c => d.passComp c false) d

/-- A component awaits the WATERMARK of an edge that is no longer shared (R430), one of its devices not being a member. -/
def awaitsGone (d : Device) (c : Component) : Bool :=
  let shared (w e : Nat) : Bool := bit d.fold.shown w && bit d.fold.shown e
  c.frags.any (fun f =>
    let dev := f.1 / 2 ^ 29
    let next := (f.2.last + 1) % 2 ^ 32
    (bit f.2.flags 2 && !d.marked dev f.2.set next && !shared (d.westOf dev) dev)
      || (bit f.2.flags 1 && !d.marked (d.eastOf dev) f.2.set next && !shared dev (d.eastOf dev)))

/-- Components that await no more than such an edge can give complete at once, marked partial (R430). -/
def passGone (d : Device) : Device := (d.seg.comps.filter d.awaitsGone).foldl (fun d c => d.passComp c true) d

/-- The component of a tag. -/
def compOf (d : Device) (t : Nat) : Option Component := d.seg.comps.find? (fun c => c.tags.contains t || c.dead.contains t)

/-- Two tags are of one region (R252): `dead` when the first was absorbed by an ALIAS. A pair that needs a new component of a full table is lost (log entry 56). -/
def joinTags (d : Device) (a b : Nat) (dead : Bool) : Device :=
  if (d.compOf a).isNone && (d.compOf b).isNone && decide (16384 ≤ d.seg.comps.length) then d else
  let ca := (d.compOf a).getD { tags := [a], frags := [] }
  let cb := (d.compOf b).getD { tags := [b], frags := [] }
  let tags := (ca.tags ++ cb.tags).eraseDups
  let gone := (ca.dead ++ cb.dead ++ (if dead then [a] else [])).eraseDups
  let c : Component :=
    { tags := tags.filter (fun t => !gone.contains t), dead := gone, frags := if ca = cb then ca.frags else ca.frags ++ cb.frags
      firstAt := match ca.firstAt, cb.firstAt with | some x, some y => some (Nat.min x y) | some x, none => some x | none, y => y
      byTimeout := ca.byTimeout || cb.byTimeout }
  (d.modPens (fun x => { x with comps := x.comps.filter (fun e => e ≠ ca ∧ e ≠ cb) ++ [c] })).countComps

/-- A LINK at the bellwether. -/
def linkIn (d : Device) (w e : Nat) : Device := (d.joinTags w e false).passDone

/-- An ALIAS at the bellwether. -/
def aliasIn (d : Device) (absorbed survivor : Nat) : Device := (d.joinTags absorbed survivor true).passDone

/-- A WATERMARK at the bellwether. -/
def watermarkIn (d : Device) (east set line : Nat) : Device :=
  (d.modPens (fun x => { x with marks := x.marks.filter (fun m => ¬(m.1 = east ∧ m.2.1 = set)) ++ [(east, set, line)] })).passDone

/-- A FRAG at the bellwether (R252, R253). -/
def fragIn (d : Device) (tag : Nat) (p : Pen) : Device :=
  let alone (d : Device) : Device :=
    match joinFrags [(tag, p)] with
    | some q => d.passPen q true
    | none => d
  if d.seg.passed.contains tag then alone (d.modPens (fun x => { x with passed := x.passed.filter (· ≠ tag) }))
  else
    let add (c : Component) : Component :=
      { c with frags := c.frags ++ [(tag, p)], firstAt := match c.firstAt with | some t => some t | none => some d.tick }
    match d.compOf tag with
    | some c => ((d.modPens (fun x => { x with comps := x.comps.map (fun e => if e = c then add e else e) })).countComps).passDone.passGone
    | none =>
      if 16384 ≤ d.seg.comps.length then alone d
      else ((d.modPens (fun x => { x with comps := x.comps ++ [add { tags := [tag], frags := [] }] })).countComps).passDone.passGone

/-- Every incomplete component that holds a tag of a device completes at once (R419, R430); no FRAG of that device's tags comes any more. -/
def passOfDevice (d : Device) (dev : Nat) : Device :=
  ((d.seg.comps.filter (fun c => (c.tags ++ c.dead).any (fun t => t / 2 ^ 29 = dev))).foldl (fun d c => d.passComp c true) d).modPens
    (fun x => { x with passed := x.passed.filter (fun t => t / 2 ^ 29 ≠ dev) })

/-! ## Fragments and edges of this device (R250, R251) -/

/-- West and east edges of a set that are shared (R250): as PEN_SET_EDGE marks them, while the device is FORMED or a MEMBER and the neighbour is joined (R429). -/
def sharedEdges (d : Device) (s : Nat) : Bool × Bool :=
  let e := d.num .PEN_SET_EDGE s
  let ok := d.num .FLD_STATE 0 = 2 || d.num .FLD_STATE 0 = 3
  let joined (i : Nat) : Bool := i != d.foldId && bit d.fold.shown i
  (ok && bit e 0 && joined (d.westOf d.foldId), ok && bit e 1 && joined (d.eastOf d.foldId))

/-- The next fragment tag (R250). -/
def nextTag (d : Device) : Nat × Device :=
  let n := (d.fold.tag + 1) % 2 ^ 29
  let n := if n = 0 then 1 else n
  (d.foldId * 2 ^ 29 + n, d.modFold (fun f => { f with tag := n }))

/-- A message to the bellwether of R251 on VC1: handled at once when the device is the bellwether. -/
def tellBell (d : Device) (dt : Nat) (body : Octets) (own : Device → Device) : Device :=
  if d.bellwether then own d else d.foldSend 0 dt 1 body

/-- ALIAS_SEND (R250, R251): two BORDER pens have merged. -/
def sendAlias (d : Device) (absorbed survivor : Nat) : Device :=
  d.tellBell 0x4A (le 4 absorbed ++ le 4 survivor) (fun d => d.aliasIn absorbed survivor)

/-- FRAG_SEND (R251, R415): a closed BORDER pen. -/
def sendFrag (d : Device) (tag : Nat) (p : Pen) : Device :=
  let d := d.bump .PEN_FRAGMENTS 0
  let x0 := d.num .STI_SET_X0 p.set
  let pitch := d.setPitch p.set
  d.tellBell 0x4B (le 4 tag ++ p.bytes 3 ++ le 4 x0 ++ le 4 pitch ++ le 8 p.t ++ le 4 p.k ++ le 8 (ofSigned 64 (divRound (65536 * p.w) (Nat.max 1 (resPitch pitch p.res)))))
    (fun d => d.fragIn tag { p with idx := 262144, x0 := d.int .STI_SET_X0 p.set, pitch := pitch })

/-- A root closes (R242): to the bellwether as a fragment, or to the classifier. -/
def closePen (d : Device) (p : Pen) : Device :=
  let p := { p with blind := Nat.min ((p.c1 + 2 ^ 32 - p.c0) % 2 ^ 32) 255 }
  let d := (d.modPens (fun x => { x with pens := x.pens.filter (fun q => ¬(q.set = p.set ∧ q.idx = p.idx)) })).bump .PEN_CLOSED 0
  let border := bit p.flags 2 || bit p.flags 1
  match p.tag with
  | some t =>
    if border && (d.num .FLD_STATE 0 = 2 || d.num .FLD_STATE 0 = 3) then d.sendFrag t p
    else d.modPens (fun x => { x with closed := x.closed ++ [(p, false, border)] })
  | none => d.modPens (fun x => { x with closed := x.closed ++ [(p, false, border)] })

/-! ## The supply of pens (R246, R247) -/

/-- The general pen that a set takes, and whether it is of the set's reserve; none when it may take none (R246). What a set holds of its reserve above a lowered
PEN_RESERVE is not yet shared (R254). -/
def takePen (d : Device) (s : Nat) : Option (Nat × Bool) :=
  let busy := (d.seg.pens ++ d.seg.absorbed ++ d.seg.closed.map Prod.fst).filter (fun p => p.idx < generalPens)
  let r := d.num .PEN_RESERVE 0
  let ownOf (x : Nat) : Nat := (busy.filter (fun p => p.own && p.set = x)).length
  let shared := generalPens - ((List.range 8).map (fun x => Nat.max (ownOf x) (if d.members x = [] then 0 else r))).foldl (· + ·) 0
  let free := (List.range (busy.length + 1)).find? (fun i => busy.all (fun p => p.idx ≠ i))
  match free with
  | none => none
  | some i =>
    if generalPens ≤ i then none
    else if (busy.filter (fun p => !p.own)).length < shared then some (i, false)
    else if ownOf s < r then some (i, true)
    else none

/-- The slices that a set's members hold (R123, R247): one that two of them share counts once. -/
def setSlices (d : Device) (s : Nat) : Nat :=
  let ms := d.members s
  (ms.filter (fun n => !(ms.contains (d.num .CH_SLICE_PARTNER n) && decide (d.num .CH_SLICE_PARTNER n < n)))).foldl (fun a n => a + d.num .CH_SLICES n) 0

/-- The overflow pens of a set (R247): how the sixteen are allotted. -/
def overflowPens (d : Device) (s : Nat) : List Nat :=
  let sets := d.setsUsed
  let want := d.setSlices
  let rounds := (List.range 16).flatMap (fun r => sets.filter (fun x => r = 0 || r < want x))
  (((rounds.take 16).zipIdx).filter (fun e => e.1 = s)).map (fun e => generalPens + e.2)

/-- The overflow pen of the strip that holds sample `smp` (R247). -/
def overflowPen (d : Device) (s smp : Nat) : Nat :=
  let ps := d.overflowPens s
  let w := Nat.max 1 (d.num .STI_SET_WIDTH s)
  ps.getD (Nat.min (smp * ps.length / w) (ps.length - 1)) (generalPens + s)

/-! ## Labelling (R238 to R243) -/

/-- What labelling of a line keeps as it goes: pens absorbed on this line with their survivors; the groups of pens that runs connect and that hold a split pen, each
with the split ones and its successor; and the runs so far, one of a group without a successor yet as `waitingRun` of the group. -/
structure LabelWork where
  moved : List (Nat × Nat) := []
  groups : List (List Nat × List Nat × Option Nat) := []
  runs : List Run := []

/-- The pen of a run that waits for its group's successor (R243): beyond every pen. -/
def waitingRun (g : Nat) : Nat := 524288 + g

/-- The root of a pen within a line. -/
def LabelWork.root (w : LabelWork) : Nat → Nat → Nat
  | 0, i => i
  | n + 1, i => match getKeyed Prod.fst i w.moved with
    | some (_, j) => LabelWork.root w n j
    | none => i

/-- The pen that a labelled run belongs to once its line is labelled. -/
def LabelWork.final (w : LabelWork) (i : Nat) : Nat :=
  if i < 524288 then w.root 64 i else w.root 64 (((w.groups[i - 524288]?).bind (fun g => g.2.2)).getD i)

/-- The pens of the previous line's runs that a run touches (R238). -/
def touchedBy (prev : List Run) (r : Nat × Nat) : List Nat := ((prev.filter (fun p => r.1 ≤ p.s1 + 1 && p.s0 ≤ r.2 + 1)).map Run.pen).eraseDups

/-- The pens of the previous line that the runs of a line connect (R243). -/
def connected (prev : List Run) (rs : List (Nat × Nat)) : List (List Nat) :=
  rs.foldl (fun gs r =>
    let t := touchedBy prev r
    if t = [] then gs
    else ((t ++ (gs.filter (fun g => g.any t.contains)).flatMap id).eraseDups) :: gs.filter (fun g => !g.any t.contains)) []

/-- The open pen of a set with an index. -/
def penAt (d : Device) (s i : Nat) : Option Pen := d.seg.pens.find? (fun p => p.set = s && p.idx = i)

/-- An open pen takes a new value. -/
def putPen (d : Device) (p : Pen) : Device :=
  d.modPens (fun x => { x with pens := if x.pens.any (fun q => q.set = p.set && q.idx = p.idx) then x.pens.map (fun q => if q.set = p.set && q.idx = p.idx then p else q) else x.pens ++ [p] })

/-- Pen `b` of a set merges into pen `a` (R241, R250, R254); it is released at the end of the line (R248). -/
def mergePens (d : Device) (s a b : Nat) : Device :=
  match d.penAt s a, d.penAt s b with
  | some p, some q =>
    let d := (d.modPens (fun x => { x with pens := x.pens.filter (fun e => ¬(e.set = s ∧ e.idx = b)), absorbed := x.absorbed ++ [q] })).putPen (p.merge q)
    let d := d.bump .PEN_MERGES 0
    match p.tag, q.tag with
    | some t, some u => d.sendAlias u t
    | _, _ => d
  | _, _ => d

/-- A run on a shared edge makes its pen BORDER and gives it a tag (R245, R250). -/
def markBorder (d : Device) (s i : Nat) (w e : Bool) : Device :=
  match d.penAt s i with
  | none => d
  | some p =>
    let p := { p with flags := p.flags ||| (b2n w * 4 + b2n e * 2) }
    if (w || e) && p.tag.isNone then
      let (t, d) := d.nextTag
      d.putPen { p with tag := some t }
    else d.putPen p

/-- A new run opens a pen, or joins its strip's overflow pen (R246, R247): the pen it belongs to. -/
def openPen (d : Device) (s : Nat) (p : Pen) (continued : Bool) (work : LabelWork) : Nat × Device :=
  let fl := p.flags ||| (b2n continued * 8)
  match d.takePen s with
  | some (i, own) =>
    let d := d.putPen { p with idx := i, own := own, flags := fl }
    (i, d.peak .PEN_OPEN_PEAK 0 d.penHeld)
  | none =>
    let i := work.root 64 (d.overflowPen s p.smin)
    let d := ((d.bump .PEN_OVF_RUNS 0).bump .PEN_SET_OVF_RUNS s).pulse 0x013
    let q := { p with idx := i, flags := fl ||| 16 }
    let d := d.putPen (match d.penAt s i with
      | some o => o.merge q
      | none => q)
    (i, d.peak .PEN_OPEN_PEAK 0 d.penHeld)

/-- Pens of a set merge into pen `i` on this line. -/
def absorbAll (s i : Nat) (js : List Nat) (acc : LabelWork × Device) : LabelWork × Device :=
  js.foldl (fun a j => if j = i then a else ({ a.1 with moved := a.1.moved ++ [(j, i)] }, a.2.mergePens s i j)) acc

/-- The survivor of a merge (R240): lowest JFIRST, then lowest index. -/
def survivor (d : Device) (s : Nat) (is : List Nat) : Nat :=
  is.foldl (fun a j => match d.penAt s a, d.penAt s j with
    | some p, some q => if lineDiff q.jfirst p.jfirst < 0 ∨ (q.jfirst = p.jfirst ∧ q.idx < p.idx) then j else a
    | _, _ => a) (is.headD 0)

/-- One run is labelled (R240, R243). A run with only carried samples adds nothing and opens nothing. -/
def labelRun (s : Nat) (l : CmpLine) (prev : List Run) (c0 c1 n : Nat) (shared : Bool × Bool) (acc : LabelWork × Device) (r : Nat × Nat) : LabelWork × Device :=
  let (w, d) := acc
  let touched := touchedBy prev r
  let mini := penOfRun s l c0 c1 r
  let finish (i : Nat) (acc : LabelWork × Device) : LabelWork × Device :=
    ({ acc.1 with runs := acc.1.runs ++ [{ s0 := r.1, s1 := r.2, pen := i }] }, acc.2.markBorder s i (shared.1 && r.1 = 0) (shared.2 && r.2 + 1 = n))
  let joinTo (i : Nat) (acc : LabelWork × Device) : LabelWork × Device :=
    finish i (acc.1, match acc.2.penAt s i, mini with
      | some p, some m => acc.2.putPen (p.merge m)
      | _, _ => acc.2)
  match (w.groups.zipIdx).find? (fun g => g.1.1.any touched.contains) with
  | some ((pens, split, succ), g) =>
    (match succ with
    | some i => joinTo (w.root 64 i) (w, d)
    | none =>
      if touched.all (fun i => !split.contains i) then
        let own := (touched.map (w.root 64)).eraseDups
        let best := d.survivor s own
        joinTo best (absorbAll s best own (w, d))
      else match mini with
        | none => finish (waitingRun g) (w, d)
        | some m =>
          let (i, d) := d.openPen s m true w
          let w := { w with groups := w.groups.set g (pens, split, some i) }
          finish i (absorbAll s i ((pens.filter (fun p => !split.contains p)).map (w.root 64)).eraseDups (w, d)))
  | none =>
    let own := (touched.map (w.root 64)).eraseDups
    if own = [] then
      match mini with
      | none => (w, d)
      | some m =>
        let (i, d) := d.openPen s m false w
        finish i (w, d)
    else
      let best := d.survivor s own
      joinTo best (absorbAll s best own (w, d))

/-- The entries of a shared edge go to the neighbour across it (R251). -/
def sendEdge (d : Device) (s : Nat) (west : Bool) (es : List EdgeEntry) : Device :=
  match es with
  | [] => d
  | e :: _ =>
    let body := [s] ++ le 4 e.j ++ le 4 (bitMap 32 (fun i => match es[i]? with | some x => x.blind | none => false))
      ++ ((List.range 32).flatMap (fun i => le 4 ((es[i]?.map EdgeEntry.tag).getD 0)))
    d.foldSend (if west then d.westOf d.foldId else d.eastOf d.foldId) 0x47 0 body

/-- LINKs between the entries of column 0 and the neighbour's (R251). -/
def sendLinks (d : Device) (own peer : List EdgeEntry) : Device :=
  own.foldl (fun d e =>
    if e.tag = 0 then d
    else ((peer.filter (fun p => p.tag ≠ 0 && (lineDiff e.j p.j).natAbs ≤ 1)).map EdgeEntry.tag).eraseDups.foldl
      (fun d t => d.tellBell 0x48 (le 4 t ++ le 4 e.tag) (fun d => d.linkIn t e.tag)) d) d

/-- Of the entries of a set's west edge, those that a later one can still lie next to (R251), and the last of each side: `own` newest first, `peer` in order. -/
def needed (x : Segment) : Segment :=
  let keep (until_ : Option Nat) (e : EdgeEntry) : Bool := match until_ with | some j => decide (-1 ≤ lineDiff e.j j) | none => true
  let (o, p) := (x.own.head?.map EdgeEntry.j, x.peer.getLast?.map EdgeEntry.j)
  { x with own := x.own.take 1 ++ (x.own.drop 1).filter (keep p), peer := (x.peer.dropLast).filter (keep o) ++ x.peer.getLast?.toList }

/-- The edges of a labelled line (R251): entries gathered, sent every 32 lines, and at the east device linked. -/
def edgeLine (d : Device) (s : Nat) (l : CmpLine) (shared : Bool × Bool) : Device :=
  let x := d.segOf s
  let n := l.px.length
  let tagAt (i : Nat) : Nat :=
    match x.runs.find? (fun r => r.s0 ≤ i && i ≤ r.s1) with
    | some r => ((d.penAt s r.pen).bind Pen.tag).getD 0
    | none => 0
  let entry (i : Nat) : EdgeEntry := { j := l.j, blind := l.px.getD i .clear = .blind, tag := tagAt i }
  let side (on : Bool) (west : Bool) (i : Nat) (get : Segment → List EdgeEntry) (put : Segment → List EdgeEntry → Segment) (d : Device) : Device :=
    if !on then d.modSeg s (fun x => put x [])
    else
      let es := get (d.segOf s) ++ [entry i]
      if 32 ≤ es.length then (d.sendEdge s west es).modSeg s (fun x => put x []) else d.modSeg s (fun x => put x es)
  let d := side shared.1 true 0 Segment.west (fun x e => { x with west := e }) d
  let d := side shared.2 false (n - 1) Segment.east (fun x e => { x with east := e }) d
  if shared.1 then (d.sendLinks [entry 0] (d.segOf s).peer).modSeg s (fun x => needed { x with own := entry 0 :: x.own })
  else d.modSeg s (fun x => { x with own := [], peer := [] })

/-- The open pens of a set that a line splits (R243): all of them at the first line of a repeat, else those that a real sample of the line would give more than
PEN_MAX_LINES lines. -/
def splitPens (d : Device) (s : Nat) (l : CmpLine) (prev : List Run) (rs : List (Nat × Nat)) : List Pen :=
  let grows (i : Nat) : Bool := rs.any (fun r => (touchedBy prev r).contains i && (penOfRun s l 0 0 r).isSome)
  (d.seg.pens.filter (fun p => p.set = s)).filter (fun p => l.first || (decide ((d.num .PEN_MAX_LINES 0 : Int) < lineDiff l.j p.jfirst + 1) && grows p.idx))

/-- One stitched line is labelled (R238 to R243, R254): while the compare may not flag, nothing is carried. -/
def labelLine (d : Device) (s : Nat) (l : CmpLine) : Device :=
  let x := d.segOf s
  let c0 := d.num .PEN_SET_BLIND s
  let d := d.bumpIf l.blind .PEN_SET_BLIND s
  let c1 := d.num .PEN_SET_BLIND s
  let cs := carryLine (d.num .PEN_BLIND_BRIDGE 0) (l.first || !l.en) (if x.res = l.res then x.carry else []) l.px
  let prev := x.runs.filterMap (regrid x.res l.res)
  let rs := runsOf cs
  let due := d.splitPens s l prev rs
  let cut := due.map Pen.idx
  let d := due.foldl (fun d p => (d.closePen p).bump .PEN_SPLITS 0) d
  let shared := d.sharedEdges s
  let work : LabelWork := { groups := ((connected prev rs).filter (fun g => g.any cut.contains)).map (fun g => (g, g.filter cut.contains, none)) }
  let (w, d) := rs.foldl (labelRun s l prev c0 c1 l.px.length shared) (work, d)
  let runs := w.runs.map (fun r => { r with pen := w.final r.pen })
  let d := d.modPens (fun x => { x with absorbed := [] })
  let kept := (cs.zipIdx).map (fun e => if runs.any (fun r => r.s0 ≤ e.2 && e.2 ≤ r.s1) then e.1 else none)
  let gone := (d.seg.pens.filter (fun p => p.set = s)).filter (fun p => !runs.any (fun r => r.pen = p.idx))
  let d := gone.foldl (fun d p => d.closePen p) d
  let d := d.modSeg s (fun x => { x with res := l.res, runs := runs, carry := kept })
  (d.edgeLine s l shared).countPens

/-- The open pens of a set close after its last flushed line (R248), and its edges send what they hold (R251). -/
def closeSet (d : Device) (s : Nat) : Device :=
  let d := (d.seg.pens.filter (fun p => p.set = s)).foldl (fun d p => d.closePen p) d
  let x := d.segOf s
  let d := (d.sendEdge s true x.west).sendEdge s false x.east
  (d.modSeg s (fun x => { x with runs := [], carry := [], west := [], east := [] })).countPens

/-- The line up to which every LINK has been sent once an EDGE that ends with line `e` has been processed (R251): own lines up to one before it, and those labelled but the
last; before a line is labelled, none that the EDGE or a later one could lie next to (log entry 56). -/
def linkedTo (own : Option Nat) (first e : Nat) : Nat :=
  match own with
  | some o => ((if lineDiff o e < 0 then o else e) + 2 ^ 32 - 1) % 2 ^ 32
  | none => (first + 2 ^ 32 - 2) % 2 ^ 32

/-- EDGE at the east device (R251, R416): links, lost lines, and the WATERMARK. -/
def edgeIn (d : Device) (s first : Nat) (es : List EdgeEntry) : Device :=
  let x := d.segOf s
  let lastPeer := x.peer.getLast?.map EdgeEntry.j
  let lost : Option (Nat × Nat) := match lastPeer with
    | some p => if 1 < lineDiff first p then some ((p + 1) % 2 ^ 32, (first + 2 ^ 32 - 1) % 2 ^ 32) else none
    | none => none
  let d := (d.sendLinks x.own es).modSeg s (fun x => needed { x with peer := x.peer ++ es })
  match es.getLast? with
  | some e =>
    let line := linkedTo ((x.own.head?).map EdgeEntry.j) first e.j
    let (a, b) := lost.getD (0, 0)
    let me := d.foldId
    d.tellBell 0x49 ([s] ++ le 4 line ++ [b2n lost.isSome] ++ le 4 a ++ le 4 b) (fun d => d.watermarkIn me s line)
  | none => d

end Device

end Sys2Proof.Machine
end

