-- ==== Sys2Proof/Machine/Raddle.lean ====
section
/-!
DEFINITION. Raddle records, snippets, the history ring, tally blocks and reject scheduling (R259 to R279).
-/
namespace Sys2Proof.Machine

/-- One micrometre in the Q48.16 of positions. -/
abbrev um : Int := 65536

/-- Octets of total ns as SEC and NS (R262, R271). -/
def secNs (t : Nat) : Octets := le 6 (t / 1000000000) ++ le 4 (t % 1000000000)

/-- The record flags that come from the pen (R264). -/
def penFlags (p : Pen) (cross isPart : Bool) : Nat :=
  b2n isPart * 4096 + b2n cross * 2048 + field p.flags 4 4 * 1024 + field p.flags 3 3 * 512 + field p.flags 0 0 * 256 + field p.qual 1 1 * 128
    + field p.qual 0 0 * 64 + field p.hflags 2 2 * 32 + field p.hflags 1 1 * 16 + field p.hflags 0 0 * 8

/-- The mean excess of a pen (R260). -/
def meanExcess (p : Pen) : Nat := if p.area = 0 then 0 else p.sum * 16 / p.area

/-- What matching gives a pen (R260): rule number or 0xFF, class, severity, action, stations. -/
structure Verdict where
  rule : Nat
  cls : Nat
  sev : Nat
  action : Nat
  reject : Nat

/-- The octets of a tally block before its signature (R271). -/
def Tally.bytes (t : Tally) (dev boot : Nat) (fw prev : Octets) : Octets :=
  le 2 1 ++ [dev % 8, t.close % 4] ++ le 4 boot ++ le 4 t.tseq ++ le 4 t.rseqFirst ++ le 2 t.records.length ++ le 2 0 ++ le 4 t.k
    ++ le 6 t.openSec ++ le 4 t.openNs ++ le 6 t.closeSec ++ le 4 t.closeNs ++ le 4 t.devGen ++ le 4 t.heftGen ++ le 4 t.jseq ++ slice t.jhead 0 32
    ++ slice fw 0 32 ++ slice prev 0 32 ++ sha256 (t.records.flatMap id) ++ t.sev.flatMap (le 4) ++ t.counts.flatMap (le 4)
    ++ t.sets.flatMap (fun s => le 4 s.1 ++ le 4 s.2) ++ t.chans.flatMap (fun c => c.flatMap (le 4))

/-- A camera line of generation `g` counted in a channel's slots (R270). -/
def countGen (c : List Nat) (g : Nat) : List Nat :=
  match c with
  | [g0, n0, g1, n1, m] =>
    if n0 = 0 ∨ g = g0 then [g, n0 + 1, g1, n1, m]
    else if n1 = 0 ∨ g = g1 then [g0, n0, g, n1 + 1, m]
    else [g0, n0, g, 1, m + n1]
  | c => c

/-- Pixels of a window (R266): from the last whose x lies at or below the west edge to the first at or above the east edge, within the valid ones; `xs` are the x of the
valid pixels from `first` on. -/
def windowPixels (xs : List Int) (first : Nat) (west east : Int) : Option (Nat × Nat) :=
  match xs.head?, xs.getLast? with
  | some a, some b =>
    let lo := if a < b then a else b
    let hi := if a < b then b else a
    if hi < west ∨ east < lo then none
    else
      let n := xs.length
      let below := if a < b then (xs.filter (fun x => decide (x ≤ west))).length else n - (xs.filter (fun x => decide (x ≤ west))).length
      let above := if a < b then (xs.filter (fun x => decide (x < east))).length else n - (xs.filter (fun x => decide (x < east))).length
      let (i, j) := if a < b then (below - 1, Nat.min above (n - 1)) else (above - 1, Nat.min below (n - 1))
      some (first + Nat.min i j, Nat.max i j - Nat.min i j + 1)
  | _, _ => none

/-- A list cut or extended with a fill to `n` entries. -/
def fitTo {α : Type} (fill : α) (n : Nat) (l : List α) : List α := l.take n ++ List.replicate (n - l.length) fill

/-- A pulse's start: the earliest of its parts that are predicted, those that only extend it apart (R277). -/
def Pulse.start (p : Pulse) : Option Nat :=
  match (p.parts.filter (fun x => !x.tail)).filterMap PulsePart.start with
  | [] => none
  | x :: xs => some (xs.foldl Nat.min x)

/-- A pulse's end as predicted: the latest of its parts (R277). -/
def Pulse.stop (p : Pulse) : Nat := maxNat (p.parts.map (fun x => (x.start.getD 0) + x.width))

namespace Device

/-- Records and rejects changed. -/
def modRdl (d : Device) (f : Raddle → Raddle) : Device := { d with rdl := f d.rdl }

/-- The open block changed. -/
def modTally (d : Device) (f : Tally → Tally) : Device := d.modRdl (fun r => { r with tally := f r.tally })

/-- One of the block's COUNTS advances (R271). -/
def countIn (d : Device) (i n : Nat) : Device := d.modTally (fun t => { t with counts := modAt t.counts i (· + n) })

/-- Queues of RDL_DEST, each once (R259). -/
def destQueues (d : Device) : List Nat := (((List.range 8).map (d.num .RDL_DEST)).filter (· < 4096)).eraseDups

/-! ## Tally blocks -/

/-- RDL_TALLY_BACKLOG and the storm follow the closed blocks (R273, R274). -/
def followBacklog (d : Device) : Device :=
  let n := d.rdl.signing.length
  let d := d.set .RDL_TALLY_BACKLOG 0 n
  if 48 ≤ n && !d.on .RDL_STORM 0 then ((d.setOn .RDL_STORM 0 true).modRdl (fun r => { r with stormTold := false })).settle
  else if n < 16 && d.on .RDL_STORM 0 then (d.setOn .RDL_STORM 0 false).settle
  else d

/-- The open block closes and the next one opens for repeat `k` (R269, R271): `why` are the bits of CLOSE. A repeat start in the cycle in which a 256th record has closed
the block closes no second one: that block has both bits (R279). -/
def closeTally (d : Device) (why k : Nat) : Device :=
  let now (x : Tally) : Bool := x.closeSec = d.clk.sec && x.closeNs = d.clk.ns
  let opening : Tally := { tseq := d.rdl.tally.tseq, rseqFirst := d.num .RDL_RSEQ 0, k := k, heftGen := ((d.forceAt k).map InForce.gen).getD 0
                           openSec := d.clk.sec, openNs := d.clk.ns }
  match d.rdl.signing.getLast? with
  | some x =>
    if why = 2 && x.close = 1 && now x && d.rdl.tally.records = [] then
      d.modRdl (fun r => { r with signing := r.signing.dropLast ++ [{ x with close := 3 }], tally := opening })
    else closeOne d
  | none => closeOne d
where
  /-- The open block closes and the next one opens. -/
  closeOne (d : Device) : Device :=
  let t := { d.rdl.tally with close := why, closeSec := d.clk.sec, closeNs := d.clk.ns, devGen := d.num .DEV_GEN_LIVE 0, jseq := d.jrn.head, jhead := d.jrn.headHash }
  let next : Tally := { tseq := (t.tseq + 1) % 2 ^ 32, rseqFirst := d.num .RDL_RSEQ 0, k := k, heftGen := ((d.forceAt k).map InForce.gen).getD 0
                        openSec := d.clk.sec, openNs := d.clk.ns }
  let d := (d.modRdl (fun r => { r with signing := r.signing ++ [t], tally := next })).set .RDL_TSEQ 0 next.tseq
  d.followBacklog

/-- A labelled line counts in the block (R269); the first of a device repeat closes it first (R12). -/
def tallyLine (d : Device) (s : Nat) (l : CmpLine) : Device :=
  let d := if l.first && s = d.num .STI_REPEAT_SET 0 then d.closeTally 2 l.k else d
  d.modTally (fun t => { t with sets := modTab 8 (0, 0) t.sets s (fun c => (c.1 + 1, c.2 + b2n l.blind)) })

/-- A camera line enters the front end while the block is open (R270). -/
def tallyCamera (d : Device) (n g : Nat) : Device := d.modTally (fun t => { t with chans := modAt t.chans n (fun c => countGen c g) })

/-- The firmware measurement latched by the boot ROM. -/
def fwMeasurement (d : Device) : Octets := d.fwMeas.getD (List.replicate 32 0)

/-- The next closed block is signed and placed on every queue of RDL_DEST (R271 to R273); with the key region failed its SIG is zero (R368). A
block whose journal head is not durable yet waits (R375). -/
def signTally (d : Device) : Device :=
  match d.rdl.signing with
  | [] => d
  | t :: rest =>
    if d.jrn.buf.any (fun e => decide (serialDiff 32 e.jseq t.jseq ≤ 0)) then d else
    let b := t.bytes d.foldId d.ctr.boot d.fwMeasurement d.rdl.prev
    let sig := if d.keyOk then Ecdsa.signWith (Config.privateKey d.ident.serial) b else List.replicate 64 0
    let blk := b ++ sig
    let d := (d.modRdl (fun r => { r with signing := rest, prev := sha256 blk })).bumpIf d.keyOk .TRU_SIGNED 0
    (d.destQueues.foldl (fun d q => d.foldPlace q 2 blk) d).followBacklog

/-! ## Classification -/

/-- The pitch of a pen's lines, Q16.16 µm. -/
def linePitch (d : Device) (p : Pen) : Nat := (if p.idx = 262144 then p.pitch else d.setPitch p.set) * (if p.res = 2 then 2 else 1)

/-- The sample pitch Λ that a pen's sample numbers count in. -/
def samplePitch (d : Device) (p : Pen) : Nat := if p.idx = 262144 then p.pitch else d.setPitch p.set

/-- X0 of a pen's samples, Q24.8 µm. -/
def penX0 (d : Device) (p : Pen) : Int := if p.idx = 262144 then p.x0 else d.int .STI_SET_X0 p.set

/-- A rule's conditions hold (R260, R261). -/
def ruleHolds (d : Device) (r : Nat) (p : Pen) (flags : Nat) : Bool :=
  let z (reg : Reg) (ok : Nat → Bool) : Bool := let v := d.num reg r; v == 0 || ok v
  d.on .RDL_R_EN r && z .RDL_R_SETS (fun v => bit v p.set) && z .RDL_R_CLASSES (fun v => bit v p.cls) && z .RDL_R_POL (fun v => (v &&& p.pol) != 0)
    && z .RDL_R_AREA_MIN (· ≤ p.area) && z .RDL_R_AREA_MAX (p.area ≤ ·) && z .RDL_R_PEAK_MIN (· ≤ p.peak) && z .RDL_R_MEAN_MIN (· ≤ meanExcess p)
    && z .RDL_R_WIDTH_MIN (fun v => v * 65536 ≤ (p.smax + 1 - p.smin) * d.samplePitch p)
    && z .RDL_R_LEN_MIN (fun v => v * 65536 ≤ (p.height + 1) * d.linePitch p)
    && z .RDL_R_FLAGS_REQ (fun v => (v &&& flags) == v) && z .RDL_R_FLAGS_NOT (fun v => (v &&& flags) == 0)

/-- Step 1 of R259: the matched rule, or the default. -/
def matchRule (d : Device) (p : Pen) (flags : Nat) : Verdict :=
  match (List.range 32).find? (fun r => d.ruleHolds r p flags) with
  | some r => { rule := r, cls := d.num .RDL_R_CLASS r, sev := d.num .RDL_R_SEV r, action := d.num .RDL_R_ACTION r, reject := d.num .RDL_R_REJECT r }
  | none => { rule := 0xFF, cls := d.num .RDL_DEF_CLASS 0, sev := d.num .RDL_DEF_SEV 0, action := d.num .RDL_DEF_ACTION 0, reject := 0 }

/-- Web y of line JFIRST, unrounded, Q48.16 µm (R263). Of a joined pen, G0 is that of the device's grid origins which puts JFIRST nearest to its place in its repeat
(log entry 31). -/
def penY (d : Device) (p : Pen) : Int :=
  if p.idx ≠ 262144 then p.y
  else
    let span : Int := (p.jfirst * d.linePitch p : Nat)
    let g0 := toSigned 64 (d.num .POS_GRID_ORIGIN 0)
    let near : Int := match d.startAt p.k with
      | some r => r.y + stretched p.w r.e
      | none => g0 + span
    span + (d.gridPend.toList ++ d.gridPast).foldl (fun a g => if (g + span - near).natAbs < (a + span - near).natAbs then g else a) g0

/-- dx and dy of a record, 1/16 sample of full resolution (R263, R265). -/
def penShift (d : Device) (p : Pen) : Int × Int :=
  if p.idx = 262144 then (p.peakDx, p.peakDy)
  else if !p.heft then (0, 0)
  else
    let m := if p.res = 2 then 2 else 1
    let (dx, dy, _) := d.displacement p.set p.jfirst (p.smin / m)
    (m * dx, m * dy)

/-- A record's 64 bytes (R262). -/
def recordBytes (d : Device) (p : Pen) (v : Verdict) (rseq tseq flags snip : Nat) : Octets :=
  let l : Int := d.samplePitch p
  let x (s : Nat) : Nat := ofSigned 32 (divRoundAway (d.penX0 p * 256 + s * l) 65536)
  let (dx, dy) := d.penShift p
  le 4 rseq ++ le 4 tseq ++ [v.cls, v.sev, (p.set % 8) * 32 + (p.res % 4) * 8 + d.foldId, (2 ^ ((((d.members p.set).head?).map (d.num .CH_MODALITY)).getD 0)) % 256]
    ++ le 2 flags ++ [p.blind % 256, (p.cls % 8) * 32 + (p.planes % 8) * 4 + p.pol % 4] ++ le 4 (x p.smin) ++ le 4 (x p.smax)
    ++ le 6 (ofSigned 48 (divRoundAway (d.penY p) 65536)) ++ le 2 p.height ++ le 4 p.k
    ++ le 4 (ofSigned 32 (divRoundAway ((16 * p.smin + dx) * l) (16 * 65536))) ++ le 4 (ofSigned 32 (divRoundAway (16 * p.w + dy * l) (16 * 65536)))
    ++ secNs p.t ++ le 3 p.area ++ le 2 p.peak ++ [v.rule] ++ le 4 snip

/-! ## The history ring and snippets -/

/-- First byte of the history ring. -/
def ringBase (d : Device) : Nat := d.ident.paddockBase 2

/-- The demand is beyond R22's table, in which the ring takes at most 120 GB/s and all four terms 652 GB/s: only then may a ring write find no DRAM entry (R314). -/
def ringStarved (d : Device) : Bool :=
  let rate := (List.range 16).foldl (fun a n => if d.num .CH_STATE n = 1 then a + d.num .CH_SAMPLE_RATE n else a) 0
  decide (80000000000 < rate) || decide (652 < d.num .DEV_DRAM_DEMAND 0)

/-- A raw line enters the history ring (R307): its 32-byte header has no layout in the manual, so its bytes are free; the ring is off while the stack has failed (R316).
A write that finds no entry is dropped and its line marked absent (R314); whether one does is free (log entry 39). -/
def ringWrite (d : Device) (ch gen line w : Nat) (bin : Bool) (pos : Option Int) (planes : List (List Nat)) (octets : Octets) : Device :=
  if d.num .MEM_STATE 0 ≠ 2 then d
  else
    let n := (32 + octets.length + 63) / 64 * 64
    let size := d.ident.paddockSize 2
    let wraps := size < d.rdl.ringAt + n
    let a := if wraps then 0 else d.rdl.ringAt
    let (full, d) := if d.ringStarved then d.fresh 2 else (0, d)
    let drop := full = 1
    let hdr := slice ((Config.freeOctets d.freeCtr).map (· % 256)) 0 32
    let d := ({ d with freeCtr := d.freeCtr + 1 }.dramWrite (d.ringBase + a) (if drop then hdr else hdr ++ octets)).bumpIf drop .MEM_RING_DROPS 0
    let e : RingLine := { at_ := a, bytes := n, ch := ch, gen := gen, line := line, bin := bin, pos := pos, w := w, planes := if drop then [] else planes, absent := drop }
    let hit (x : RingLine) : Bool := x.at_ < a + n && a < x.at_ + x.bytes
    d.modRdl (fun r => { r with
      ring := r.ring.filter (fun x => !hit x) ++ [e], ringAt := a + n, wrapped := r.wrapped || wraps
      gone := r.gone ++ (r.ring.filter hit).filterMap (fun x => x.pos.map (fun p => (x.ch, x.bin, p))) })

/-- The ring lines that a part of a snippet holds (R266). -/
def partLines (d : Device) (bin : Bool) (x : SnipPart) : List RingLine :=
  d.rdl.ring.filter (fun l => l.ch = x.ch && l.bin == bin && !l.absent && (match l.pos with | some p => decide (x.y0 ≤ p ∧ p ≤ x.y1) | none => false))

/-- The last line a part needs has entered the ring: a line at or past its end has, or the channel is no longer ON and brings none. -/
def partWhole (d : Device) (x : SnipPart) : Bool :=
  d.num .CH_STATE x.ch ≠ 1 || d.rdl.ring.any (fun l => l.ch = x.ch && (match l.pos with | some p => decide (x.y1 ≤ p) | none => false))

/-- Some lines of a part have already been overwritten, or are absent (R267, R314). -/
def partLost (d : Device) (bin : Bool) (x : SnipPart) : Bool :=
  let needs (p : Int) : Bool := decide (x.y0 ≤ p ∧ p ≤ x.y1)
  d.rdl.gone.any (fun g => g.1 = x.ch && g.2.1 == bin && needs g.2.2) ||
    d.rdl.ring.any (fun l => l.ch = x.ch && l.bin == bin && l.absent && (match l.pos with | some p => needs p | none => false))

/-- Units of the snippet store. -/
def storeUnits (d : Device) : Nat := d.ident.paddockSize 3 / 64

/-- Units a snippet may need: those of its lines so far, and room for those still to come (log entry 18). -/
def snipUnits (d : Device) (bin : Bool) (parts : List SnipPart) (lines : Nat) : Nat :=
  let bytes := parts.foldl (fun a x =>
    let n := (d.partLines bin x).length + (if d.partWhole x then 0 else 2 * lines + 64)
    a + 20 + d.planesOf x.ch * ((n + 63) / 64) * ((x.pixels + 63) / 64) * (8 + 7168)) 32
  (bytes + 63) / 64

/-- The window of a snippet (R266, R267): first and last sample, first line and last line as offsets from JFIRST, and whether it was cut. -/
def snipWindow (d : Device) (p : Pen) : Int × Int × Int × Int × Bool :=
  let m : Int := d.num .RDL_SNIP_MARGIN 0
  let w : Int := d.num .STI_SET_WIDTH p.set
  -- Of a joined pen, samples count from its own X0: the set begins at sample `o` of them.
  let o : Int := if p.idx = 262144 then divRound ((d.int .STI_SET_X0 p.set - p.x0) * 256) (Nat.max 1 (d.samplePitch p)) else 0
  let (s0, s1) : Int × Int := (max o (p.smin - m), min (o + w - 1) (p.smax + m))
  let (j0, j1) : Int × Int := (-m, p.height + m)
  let cut (a b c : Int) (n : Nat) : Int × Int × Bool :=
    if (n : Int) < b - a + 1 then
      let a' := clampI a (b - n + 1) (c - (n / 2 : Nat))
      (a', a' + n - 1, true)
    else (a, b, false)
  let (s0, s1, t1) := cut s0 s1 p.peakS (d.num .RDL_SNIP_MAX_W 0)
  let (j0, j1, t2) := cut j0 j1 p.peakDj (d.num .RDL_SNIP_MAX_H 0)
  (s0, s1, j0, j1, t1 || t2)

/-- SNIPPET_ALLOC (R266 to R268): the handle and the SNIP flags of a record whose action has SNIP. -/
def snipAlloc (d : Device) (p : Pen) (rseq tseq : Nat) : (Nat × Nat) × Device :=
  let (s0, s1, j0, j1, cut) := d.snipWindow p
  let l : Int := d.samplePitch p
  let (west, east) := (d.penX0 p * 256 + s0 * l, d.penX0 p * 256 + s1 * l)
  let y (j : Int) : Int := d.penY p + j * (d.linePitch p : Nat)
  let bin := p.res == 2
  let parts := (if s1 < s0 then [] else d.members p.set).filterMap (fun n =>
    let g := d.geoNow n
    let xs := (List.range (g.last + 1 - g.first)).map (fun i => g.x (d.int .CH_STI_TRIM n) (g.first + i) * 256)
    (windowPixels xs g.first west east).map (fun e => ({ ch := n, y0 := y j0, y1 := y j1, first := e.1, pixels := e.2 } : SnipPart)))
  let lost := parts.any (d.partLost bin)
  let gone := parts.all (fun x => d.partWhole x && d.partLines bin x = [])
  let fl := b2n cut * 4 + b2n lost * 2
  if gone || d.num .MEM_STATE 0 ≠ 2 then ((0, fl ||| 2), (d.bump .RDL_SNIP_LOST 0).bumpIf cut .RDL_SNIP_TRUNC 0)
  else
    let n := Nat.min (d.snipUnits bin parts (j1 - j0 + 1).toNat) d.storeUnits
    let at_ := d.rdl.unit
    let ends := at_ + n
    let handle := (d.rdl.epoch % 128) * 2 ^ 25 + at_ % 2 ^ 25
    let hit (x : Snippet) : Bool := x.state != 3 &&
      ((x.unit < ends && at_ < x.unit + x.units) || (x.unit < ends - d.storeUnits) || (d.storeUnits < x.unit + x.units && at_ < x.unit + x.units - d.storeUnits))
    let wraps := d.storeUnits ≤ ends
    let ep := (d.rdl.epoch + b2n wraps) % 128
    let s : Snippet := { handle := handle, unit := at_, units := n, rseq := rseq, tseq := tseq, parts := parts, state := 1, bin := bin }
    let d := d.modRdl (fun r => { r with
      snips := r.snips.map (fun x => if hit x then { x with state := 3 } else x) ++ [s]
      unit := if wraps then ends - d.storeUnits else ends, epoch := if ep = 0 then 1 else ep })
    ((handle, fl), d.bumpIf cut .RDL_SNIP_TRUNC 0)

/-- A block of a snippet (R325): one that fails its verification is written in stored mode. -/
def snipBlock (d : Device) (kind : Nat) (xs : List Nat) : Octets × Device :=
  let (b, d) := d.encode 0 kind xs
  let (ok, d) := d.verify b kind xs
  if ok then (b, d) else (storedBlock 0 kind xs, d.bump .FLC_STORED 0)

/-- The section of one channel (R268), without the lines that the stack delivers poisoned (R318); the samples beyond its lines and pixels are free. -/
def snipSection (d : Device) (bin : Bool) (poisoned : List Nat) (x : SnipPart) : Octets × Device :=
  let hit := (d.partLines bin x).filter (fun l => poisoned.contains l.at_)
  let d := d.add .MEM_ECC_UNCORR 0 hit.length
  let ls := (d.partLines bin x).filter (fun l => !poisoned.contains l.at_)
  let w := (ls.head?.map RingLine.w).getD 12
  let (fill, d) := d.fresh (2 ^ w)
  let first := if bin then x.first / 2 else x.first
  let px := if bin then (x.first + x.pixels - 1) / 2 + 1 - first else x.pixels
  let planes := d.planesOf x.ch
  let kind := if w = 10 then 1 else if w = 12 then 2 else 3
  let (brows, bcols) := ((ls.length + 63) / 64, (px + 63) / 64)
  let (bs, d) := (List.range planes).foldl (fun acc q =>
    (List.range (brows * bcols)).foldl (fun acc i =>
      let (o, d) := acc
      let rows := (List.range 64).map (fun r => match ls[64 * (i / bcols) + r]? with
        | some l => fitTo fill 64 ((((l.planes.getD q []).drop first).take px |>.drop (64 * (i % bcols))).take 64)
        | none => List.replicate 64 fill)
      let (b, d) := d.snipBlock kind (rows.flatMap id)
      (o ++ b, d)) acc) (([] : Octets), d)
  let (g, ln) := match ls with | l :: _ => (l.gen, l.line) | [] => (0, 0)
  ([x.ch, planes, w, 0] ++ le 4 g ++ le 4 ln ++ le 2 ls.length ++ le 2 first ++ le 2 px ++ [0, 0] ++ bs, d)

/-- A snippet's bytes in the store, which runs round at its end (R280). -/
def storeWrite (d : Device) (unit : Nat) (b : Octets) : Device :=
  let base := d.ident.paddockBase 3
  let room := d.ident.paddockSize 3 - 64 * unit
  (d.dramWrite (base + 64 * unit) (b.take room)).dramWrite base (b.drop room)

/-- SNIPPET_WRITE (R266, R268): a snippet whose last line has entered the ring is written. Where its lines have outgrown the units reserved for it, it overwrites those after
them (log entry 18). -/
def snipWrite (d : Device) (handle : Nat) (poisoned : List Nat) : Device :=
  match d.rdl.snips.find? (fun x => x.handle = handle && x.state = 1) with
  | none => d
  | some x =>
    if !x.parts.all d.partWhole then d
    else
      let (b, d) := x.parts.foldl (fun acc p =>
        let (o, d) := acc
        let (s, d) := d.snipSection x.bin poisoned p
        (o ++ s, d)) (([] : Octets), d)
      let b := b.take (64 * d.storeUnits - 32)
      let used := (b.length + 32 + 63) / 64
      let hit (y : Snippet) : Bool := x.units < used && y != x && y.state != 3 &&
        ((y.unit < x.unit + used && x.unit + x.units < y.unit + y.units) || y.unit + d.storeUnits < x.unit + used)
      let d := d.modRdl (fun r => { r with snips := r.snips.map (fun y => if hit y then { y with state := 3 } else y) })
      let all := le 4 x.rseq ++ le 4 x.tseq ++ [x.parts.length, 0, 0, 0] ++ le 4 b.length ++ le 4 (crc32c b) ++ List.replicate 12 0 ++ b
      let d := d.storeWrite x.unit all
      (d.modRdl (fun r => { r with snips := r.snips.map (fun y => if y = x then { y with state := 2, len := all.length } else y) })).bump .RDL_SNIP_MADE 0

/-- The snippet selected for reading (R280). -/
def snipSel (d : Device) : Option Snippet :=
  let h := d.num .RDL_SNIP_SEL 0
  if h = 0 then none else d.rdl.snips.reverse.find? (fun x => x.handle = h)

/-- Address of the selected snippet. -/
def snipAddr (d : Device) : Nat := (d.snipSel.map (fun x => d.ident.paddockBase 3 + 64 * x.unit)).getD 0

/-- Bytes of the selected snippet, when READY and no longer than 65,536. -/
def snipData (d : Device) : Octets :=
  match d.snipSel with
  | some x =>
    if x.state = 2 ∧ x.len ≤ 65536 then
      let room := d.ident.paddockSize 3 - 64 * x.unit
      d.dramPeek (d.ident.paddockBase 3 + 64 * x.unit) (Nat.min x.len room) ++ d.dramPeek (d.ident.paddockBase 3) (x.len - room)
    else []
  | none => []

/-! ## Reject scheduling (R275 to R279) -/

/-- The start of a pulse at position `y` (R276), total ns, as it is predicted now; none while the web does not move forward or the position is LOST. -/
def predict (d : Device) (y : Int) (lead : Nat) : Option Int :=
  let v := d.speedNow
  if v ≤ 0 || d.num .POS_QUALITY 0 = 4 then none
  else some ((d.now : Int) + (y - toSigned 64 (d.reading d.now)) * 1000000000 / (65536 * v) - (lead * 1000 : Nat))

/-- The width of a part (R276), ns. -/
def partWidth (d : Device) (x : PulsePart) : Nat :=
  let v := d.speedNow
  let pass := if v ≤ 0 then 0 else (x.len * 1000000000 / (65536 * v)).toNat
  Nat.max (x.least * 1000) (pass + x.extend * 1000)

/-- A part predicted again. -/
def rePart (d : Device) (x : PulsePart) : PulsePart :=
  match d.predict x.y x.lead with
  | some t => { x with start := some t.toNat, width := d.partWidth x }
  | none => { x with start := none }

/-- RDL_ST_PENDING follows (R281). -/
def countPulses (d : Device) : Device :=
  (List.range 8).foldl (fun d s =>
    d.set .RDL_ST_PENDING s ((d.rdl.pulses.filter (fun p => p.ends.isNone && p.parts.any (fun x => x.station = s))).length)) d

/-- Two pulses of one output overlap or lie less than 1 µs apart (R277). -/
def nearPulse (a b : Pulse) : Bool :=
  let far (p : Pulse) : Nat := match p.ends with | some e => e | none => p.stop
  a.out == b.out && (match a.start, b.start with
    | some x, some y => x < far b + 1000 && y < far a + 1000
    | _, _ => false)

/-- A pulse joins the list under a number of its own, which its list keeps apart from an equal pulse by. -/
def listPulse (d : Device) (p : Pulse) : Device := d.modRdl (fun r => { r with pulses := r.pulses ++ [{ p with id := r.pulseId }], pulseId := r.pulseId + 1 })

/-- A listed pulse takes a new value, or leaves. -/
def putPulse (d : Device) (id : Nat) (f : Pulse → Option Pulse) : Device :=
  d.modRdl (fun r => { r with pulses := r.pulses.filterMap (fun q => if q.id = id then f q else some q) })

/-- A pulse merges into a listed one (R277): the merge counts for each station concerned. -/
def mergeInto (d : Device) (into p : Pulse) : Device :=
  let d := d.putPulse into.id (fun q => some { q with
    parts := q.parts ++ p.parts, fixed := q.fixed || p.fixed, ends := q.ends.map (fun e => Nat.max e p.stop) })
  ((into.parts ++ p.parts).map PulsePart.station).eraseDups.foldl (fun d s => d.bump .RDL_ST_MERGED s) d

/-- The first pair of pulses that R277 makes one: the second has not started. -/
def nearPair (ps : List Pulse) : Option (Pulse × Pulse) :=
  ps.findSome? (fun a => (ps.find? (fun b => a.id != b.id && b.ends.isNone && (a.ends.isSome || a.id < b.id) && nearPulse a b)).map (fun b => (a, b)))

/-- Pulses merge until no two of an output overlap or lie less than 1 µs apart (R277). -/
def mergeNear : Nat → Device → Device
  | 0, d => d
  | n + 1, d => match nearPair d.rdl.pulses with
    | some (a, b) => mergeNear n ((d.putPulse b.id (fun _ => none)).mergeInto a b)
    | none => d

/-- Every pair merges. -/
def mergeAll (d : Device) : Device := mergeNear d.rdl.pulses.length d

/-- A pulse joins the list, and merges with those it overlaps; when its station's list is full, the pending pulse that ends last is extended to its end (R277). -/
def addPulse (d : Device) (p : Pulse) : Device :=
  let s := (p.parts.head?.map PulsePart.station).getD 0
  let mine := d.rdl.pulses.filter (fun q => q.ends.isNone && q.parts.any (fun x => x.station = s))
  (match mine with
  | q :: t =>
    if mine.length < 1024 then d.listPulse p
    else
      let last := t.foldl (fun (a b : Pulse) => if a.stop < b.stop then b else a) q
      d.mergeInto last { p with parts := p.parts.map (fun (x : PulsePart) => ({ x with tail := true } : PulsePart)) }
  | [] => d.listPulse p).mergeAll

/-- The level of an output in a pulse and at rest (R394). -/
def ttLevel (d : Device) (out : Nat) (active : Bool) : Bool := active != (d.num .TIM_TT_POL out != 0)

/-- A pulse starts (R276, R397): the pin, the event TT_FIRE, and the counts. -/
def startPulse (d : Device) (p : Pulse) : Device :=
  let t := Nat.max (p.start.getD d.now) d.now
  let ends := maxNat (p.parts.map (fun x => Nat.max (x.start.getD t) t + d.partWidth x))
  let d := d.putPulse p.id (fun q => some { q with fixed := true, ends := some ends })
  let d := (d.emit (.pin ("TT_OUT" ++ toString p.out) (d.ttLevel p.out true) t)).bump .TIM_TT_FIRED p.out
  let d := ((p.parts.map PulsePart.station).eraseDups).foldl (fun d s => d.bump .RDL_ST_FIRED s) d
  ((d.pulse (0x020 + p.out)).settle).countPulses

/-- A start is less than 100 µs away (R276). -/
def closeBy (d : Device) (p : Pulse) : Bool := match p.start with | some t => decide (t < d.now + 100000) | none => false

/-- A pulse that is late starts at once (R278), or extends the pulse in progress on its output. -/
def startLate (d : Device) (p : Pulse) : Device :=
  let p : Pulse := { p with parts := p.parts.map (fun x => { x with start := x.start.map (Nat.max d.now) }), fixed := true }
  match d.rdl.pulses.find? (fun q => q.out = p.out && q.ends.isSome) with
  | some q => (d.mergeInto q p).mergeAll
  | none =>
    let d := d.listPulse p
    match d.rdl.pulses.getLast? with
    | some q => (d.startPulse q).mergeAll
    | none => d

/-- The stations of a record or a counted pen are armed (R13, R276, R278): whether any was, and whether one is late. -/
def armStations (d : Device) (p : Pen) (mask : Nat) : (Bool × Bool) × Device :=
  let ss := (bitsOf 8 mask).filter (fun s => d.on .RDL_ST_EN s)
  ss.foldl (fun acc s =>
    let ((_, late), d) := acc
    let rep := d.num .RDL_ST_MODE s = 1
    let begun := d.startAt p.k
    let y0 := if rep then (begun.map RepeatStart.y).getD (d.penY p) else d.penY p
    let len := if rep then stretched d.lRep ((begun.map RepeatStart.e).getD 0) else ((p.height + 1) * d.linePitch p : Nat)
    let x := d.rePart { station := s, y := y0 + (d.num .RDL_ST_DIST s : Int) * um, len := len, lead := d.num .RDL_ST_LEAD_US s
                        least := d.num .RDL_ST_PULSE_MIN_US s, extend := d.num .RDL_ST_EXTEND_US s }
    let passed := match d.predict x.y x.lead with | some t => decide (t < (d.now : Int)) | none => false
    let d := d.countIn 3 1
    let d := if passed then
        ((d.bump .RDL_ST_LATE s).countIn 4 1).startLate { out := d.num .RDL_ST_OUT s, parts := [x] }
      else
        let pl : Pulse := { out := d.num .RDL_ST_OUT s, parts := [x] }
        d.addPulse { pl with fixed := d.closeBy pl }
    ((true, late || passed), d.countPulses)) ((false, false), d)

/-- The pulses of a station are predicted again (R276), and those less than 100 µs away become fixed. -/
def repredict (d : Device) (s : Nat) : Device :=
  let due (p : Pulse) : Bool := p.ends.isNone && !p.fixed && p.parts.any (fun x => x.station = s)
  let d := d.modRdl (fun r => { r with pulses := r.pulses.map (fun p =>
    if due p then
      let p := { p with parts := p.parts.map d.rePart }
      { p with fixed := d.closeBy p }
    else p) })
  d.mergeAll.countPulses

/-- A station's pending pulses that have not started are cancelled (R279). -/
def cancelStation (d : Device) (s : Nat) : Device :=
  (d.modRdl (fun r => { r with pulses := (r.pulses.map (fun p =>
    if p.ends.isNone then { p with parts := p.parts.filter (fun x => x.station ≠ s) } else p)).filter (fun p => p.parts ≠ []) })).countPulses

/-! ## The classifier (R259) -/

/-- One closed pen is classified (R259). -/
def classify (d : Device) (p : Pen) (cross isPart : Bool) : Device :=
  let base := penFlags p cross isPart
  let storm := d.on .RDL_STORM 0
  let v := d.matchRule p (base ||| b2n (storm && !d.rdl.stormTold) * 8192)
  let d := d.bumpIf (decide (v.rule < 32)) .RDL_R_HITS v.rule
  if !bit v.action 0 || !d.on .RDL_EN 0 then ((d.countIn 0 1).bump .RDL_SUPPRESSED 0 |>.armStations p v.reject).2
  else if d.on .RDL_STORM 0 && d.rdl.stormTold then ((d.countIn 1 1).bump .RDL_STORM_PENS 0 |>.armStations p v.reject).2
  else
    let d := if storm then d.modRdl (fun r => { r with stormTold := true }) else d
    let rseq := d.num .RDL_RSEQ 0
    let tseq := d.rdl.tally.tseq
    let d := (d.bump .RDL_RSEQ 0).bump .RDL_RECORDS 0
    let ((snip, sfl), d) := if bit v.action 1 then d.snipAlloc p rseq tseq else ((0, 0), d)
    let ((armed, late), d) := d.armStations p v.reject
    let flags := base ||| (b2n storm * 8192) ||| sfl ||| (b2n armed * 16384) ||| (b2n late * 32768)
    let rec_ := d.recordBytes p v rseq tseq flags snip
    let d := (d.modTally (fun t => { t with records := t.records ++ [rec_], sev := modAt t.sev v.sev (· + 1) })).countIn 2 (b2n isPart)
    let d := (d.destQueues.foldl (fun d q => d.foldPlace q 1 rec_) d).pulse 0x015
    let d := d.settle
    if d.rdl.tally.records.length = 256 then d.closeTally 1 d.rdl.tally.k else d

end Device

/-- PEN_CLASSIFY (R259): the classifier takes the oldest closed pen, which is then free (R248). -/
def execPenClassify (s : State) : Host.Outcome State Fault Refusal :=
  run true s fun d =>
    match d.seg.closed with
    | [] => d
    | (p, cross, isPart) :: rest => ((d.modPens (fun x => { x with closed := rest })).countPens).classify p cross isPart

/-- SNIPPET_WRITE (R266): `poisoned` are the places in the ring of the lines that the stack delivers poisoned (R318). -/
def execSnippetWrite (handle : StackRead (List Nat)) (s : State) : Host.Outcome State Fault Refusal :=
  run (WF.snippetWrite handle) s fun d => d.snipWrite handle.unit handle.poisoned

/-- TALLY_BLOCK_SIGNED (R273). -/
def execTallyBlockSigned (s : State) : Host.Outcome State Fault Refusal := run true s Device.signTally

/-- REJECT_REPREDICT (R276). -/
def execRejectRepredict (station : Nat) (s : State) : Host.Outcome State Fault Refusal :=
  run (WF.rejectRepredict station) s fun d => d.repredict station

/-- REJECT_PULSE_START (R276, R277): the first pulse of an output that waits with a predicted start starts; one that has come to overlap the pulse in progress has become
part of it. -/
def execRejectPulseStart (out : Nat) (s : State) : Host.Outcome State Fault Refusal :=
  run (WF.rejectPulseStart out) s fun d =>
    let d := d.mergeAll.countPulses
    match d.rdl.pulses.filter (fun p => p.out = out && p.ends.isNone && p.start.isSome) with
    | [] => d
    | p :: t => d.startPulse (t.foldl (fun a b => if (b.start.getD 0) < (a.start.getD 0) then b else a) p)

/-- REJECT_PULSE_END (R276): the pulse in progress ends at its width. -/
def execRejectPulseEnd (out : Nat) (s : State) : Host.Outcome State Fault Refusal :=
  run (WF.rejectPulseEnd out) s fun d =>
    let d := d.mergeAll.countPulses
    match d.rdl.pulses.find? (fun p => p.out = out && p.ends.isSome) with
    | none => d
    | some p =>
      let d := d.putPulse p.id (fun _ => none)
      (d.emit (.pin ("TT_OUT" ++ toString out) (d.ttLevel out false) (p.ends.getD d.now))).countPulses

/-- COMPONENT_TIMEOUT (R253): a component still incomplete PEN_XDEV_TIMEOUT_MS after its first FRAG is passed on from what it holds. -/
def execComponentTimeout (tag : Nat) (s : State) : Host.Outcome State Fault Refusal :=
  run (WF.componentTimeout tag) s fun d =>
    match d.compOf tag with
    | some c => if c.frags = [] then d else d.passComp c true
    | none => d

/-- LABEL_LINE (R238, R248): the next compared line of a set is labelled and counted in the tally block. -/
def execLabelLine (set : Nat) (s : State) : Host.Outcome State Fault Refusal :=
  run (WF.labelLine set) s fun d =>
    match (d.segOf set).queue with
    | [] => d
    | l :: rest =>
      let d := d.modSeg set (fun x => { x with queue := rest })
      let d := (d.labelLine set l).tallyLine set l
      if (d.st set).flushing && (d.st set).buf = [] && rest = [] then d.closeSet set else d

end Sys2Proof.Machine
end

