-- ==== Sys2Proof/Machine/Calib.lean ====
section
/-!
DEFINITION. Live calibration (R282 to R299): the cycle and its triggers, the accumulators, building bounded tables, applying them, anchors, seeding and defective
pixels.
-/
namespace Sys2Proof.Machine

/-- The entry of a key in a sparse table of integers, and a table with an entry changed; `z` is what is not listed. -/
def sparseGet {α : Type} (z : α) (k : Nat) (l : List (Nat × α)) : α := ((getKeyed Prod.fst k l).map Prod.snd).getD z

/-- A sparse table with one entry changed. -/
def sparsePut {α : Type} [DecidableEq α] (z : α) (k : Nat) (v : α) (l : List (Nat × α)) : List (Nat × α) :=
  if v = z then dropKeyed Prod.fst k l else putKeyed Prod.fst (k, v) l

/-- A tested sample placed in its entry (R287, R288): `dd` in 1/16 count, `ec` in counts. -/
def CalAcc.add (a : CalAcc) (dd : Int) (ec : Nat) (flagged : Bool) (limit lowMax highMin : Nat) : CalAcc :=
  if 16 * limit < dd.natAbs then (if a.nx < 1023 then { a with nx := a.nx + 1 } else a)
  else if flagged then a
  else if ec ≤ lowMax then (if a.nl < 2047 then { a with nl := a.nl + 1, sel := a.sel + ec, sdl := a.sdl + dd } else a)
  else if highMin ≤ ec then (if a.nh < 2047 then { a with nh := a.nh + 1, seh := a.seh + ec, sdh := a.sdh + dd } else a)
  else a

/-- The bounds of R290. -/
structure CalBounds where
  nMin : Nat
  spreadMin : Nat
  gainStep : Nat
  gainSpan : Nat
  offStep : Nat
  offSpan : Nat

/-- What the build of one entry gives (R290): offset, gain, no data, step-limited, span-limited. -/
structure CalEntry where
  o : Int
  g : Nat
  noData : Bool := false
  step : Bool := false
  span : Bool := false

/-- The target and bounded values of one entry (R290); `free` is the quotient by a live gain of 0, which the manual does not give (log entry 50). -/
def calEntry (b : CalBounds) (seed : Bool) (free : Int) (a : CalAcc) (o : Int) (g : Nat) (oa : Int) (ga : Nat) : CalEntry :=
  if a.nh < b.nMin then { o := o, g := g, noData := true }
  else
    let eh := divRoundAway (a.seh * 16 : Nat) a.nh
    let yh := eh + divRoundAway a.sdh a.nh
    let gainOnly := divRoundAway (yh * 2 ^ 20) eh.toNat
    let (al, beta) : Int × Int :=
      if b.nMin ≤ a.nl then
        let el := divRoundAway (a.sel * 16 : Nat) a.nl
        let yl := el + divRoundAway a.sdl a.nl
        if (b.spreadMin * 16 : Nat) ≤ eh - el then
          let al := divRoundAway ((yh - yl) * 2 ^ 20) (eh - el).toNat
          (al, yl - divRoundAway (al * el) (2 ^ 20))
        else (gainOnly, 0)
      else (gainOnly, 0)
    if al ≤ 0 then { o := o, g := g, noData := true }
    else
      let gt := divRoundAway ((g : Int) * 2 ^ 20) al.toNat
      let ot := o + if g = 0 then free else divRoundAway (beta * 2 ^ 20) g
      let gs : Int := (g * b.gainStep / 65536 : Nat)
      let gsp : Int := (ga * b.gainSpan / 65536 : Nat)
      let (g1, o1) := if seed then (gt, ot) else (clampI (g - gs) (g + gs) gt, clampI (o - b.offStep) (o + b.offStep) ot)
      let (g2, o2) := if seed then (g1, o1) else (clampI (ga - gsp) (ga + gsp) g1, clampI (oa - b.offSpan) (oa + b.offSpan) o1)
      { o := clampI (-32768) 32767 o2, g := (clampI 0 65535 g2).toNat, step := decide (g1 ≠ gt ∨ o1 ≠ ot), span := decide (g2 ≠ g1 ∨ o2 ≠ o1) }

/-- The 256 candidates kept (R295): those with the largest N_X / N, lowest key first on a tie, in map order. -/
def topCands (as : List CalAcc) : List CalAcc :=
  let n (a : CalAcc) : Nat := a.nl + a.nh + a.nx
  let before (a b : CalAcc) : Bool := b.nx * n a < a.nx * n b || (b.nx * n a = a.nx * n b && a.key ≤ b.key)
  sortBy CalAcc.key (as.filter (fun a => (as.filter (fun b => !before a b)).length < 256))

/-- The map entry of a candidate (R295): code 1. -/
def candEntry (key : Nat) : Nat := 2 ^ 30 + (key / 32768) * 2 ^ 28 + key % 32768

namespace Device

/-- A line enters the front end (R284, R285): CAL_TEMP_TRIGGER, and the cycle restarted by a newer generation, with a held trigger's T_REF where one is held. -/
def calCamera (d : Device) (n gen temp : Nat) (blind : Bool) : Device :=
  let valid := !blind && temp != 0x8000
  let d := if valid then d.modCal n (fun c => { c with temp := some temp }) else d
  let d := if d.calRuns n && 0 < serialDiff 32 gen (d.num .CH_CAL_GEN n) then
      let d := d.bump .CH_CAL_DISCARDS n
      (if d.on .CH_CAL_PENDING n then d.calHeld n else d.calStart n none (d.calOf n).chain).set .CH_CAL_GEN n gen
    else d
  let ref := d.num .CH_CAL_T_REF n
  let delta := if d.calRuns n then d.calPar n .CH_CAL_TEMP_DELTA else d.num .CH_CAL_TEMP_DELTA n
  let moved := decide (delta < (toSigned 16 temp - toSigned 16 ref).natAbs)
  let hot := valid && (if ref = 0x8000 then d.num .CH_CAL_STATE n == 1 else moved)
  if hot && !(d.on .CH_CAL_PENDING n) then d.calTrigger n else d

/-- The accumulators at a boundary (R283): a repeat that did not contribute leaves them as they were. -/
def calKeep (d : Device) (n : Nat) (contrib : Bool) : Device :=
  d.modCal n (fun c => if contrib then { c with kept := c.accs } else { c with accs := c.kept })

/-- CAL_ACCUMULATE_START and CAL_BUILD_START at a boundary of the channel's set (R283, R291): `contrib` whether the repeat that ends was compared at full
resolution throughout against a heft in force. Says whether a build is unfinished; while it is, accumulation goes on (R20; log entry 50). -/
def calBoundary (d : Device) (n : Nat) (contrib : Bool) : Bool × Device :=
  match d.num .CH_CAL_STATE n with
  | 2 => (false, ((d.set .CH_CAL_STATE n 3).calClear n).modCal n (fun c => { c with seq0 := d.num .CH_CAL_SEQ n }))
  | 3 =>
    let d := d.calKeep n contrib
    let d := d.bumpIf contrib .CH_CAL_DONE_REPEATS n
    (false, if contrib && d.calPar n .CH_CAL_REPEATS ≤ d.num .CH_CAL_DONE_REPEATS n then d.set .CH_CAL_STATE n 4 else d)
  | 4 => (true, (d.calKeep n contrib).modCal n (fun c => { c with late := true }))
  | _ => (false, d)

/-- Samples are gathered for the channel (R283, R20): in ACCUMULATE, and while a build has been put off. -/
def calGathers (d : Device) (n : Nat) : Bool :=
  d.num .CH_CAL_STATE n = 3 || (d.num .CH_CAL_STATE n = 4 && (d.calOf n).late)

/-- A tested pixel value (R286, R287) gathers in its entry. -/
def calSample (d : Device) (n key : Nat) (y e : Nat) (flagged : Bool) : Device :=
  let dd : Int := ((y + 32) / 64 : Nat) - ((e + 8) / 16 : Nat)
  let ec := (e + 128) / 256
  let lim := d.calPar n .CH_CAL_DPX_LIMIT
  let (lo, hi) := (d.calPar n .CH_CAL_LOW_MAX, d.calPar n .CH_CAL_HIGH_MIN)
  d.modCal n (fun c =>
    let a := (getKeyed CalAcc.key key c.accs).getD { key := key }
    { c with accs := putKeyed CalAcc.key (a.add dd ec flagged lim lo hi) c.accs })

/-- The pixel of another member nearest to pixel `p` (R296), where both cover it. -/
def twinPixel (d : Device) (n m p : Nat) : Option Nat :=
  let x := (d.geoNow n).x (d.int .CH_STI_TRIM n) p
  let g := d.geoNow m
  let xs := (List.range (g.last + 1 - g.first)).map (fun i => (g.first + i, (g.x (d.int .CH_STI_TRIM m) (g.first + i) - x).natAbs))
  match xs with
  | [] => none
  | q :: t =>
    let best := t.foldl (fun a b => if b.2 < a.2 then b else a) q
    if best.1 = g.first ∨ best.1 = g.last then none else some best.1

/-- Candidates that a channel has at present (R296): of its build, or of its last completed cycle. -/
def candsOf (d : Device) (m : Nat) : List Nat :=
  match (d.calOf m).build with
  | some b => b.cands
  | none => ((chunks 4 ((d.oct .CH_CAL_DPX_PROP m).length / 4) (d.oct .CH_CAL_DPX_PROP m)).map (fun b => dpmKey (ofLE b)))

/-- Candidates that join the map (R296). -/
def dpxAdds (d : Device) (n : Nat) (cands : List Nat) (map : List Nat) : List Nat :=
  if d.calPar n .CH_CAL_DPX_AUTO = 0 || !d.on .CH_DPC_EN n then []
  else
    let runs := (d.calOf n).runs
    let near (a b : Nat) : Bool := a / 32768 == b / 32768 && (((a % 32768 : Nat) : Int) - (b % 32768 : Nat)).natAbs ≤ 2
    let ok (k : Nat) : Bool :=
      d.calPar n .CH_CAL_DPX_CONFIRM ≤ (sparseGet 0 k runs) + 1 && !map.any (fun e => near (dpmKey e) k) && !cands.any (fun c => c ≠ k && near c k)
        && !((d.members (d.num .CH_STI_SET n)).filter (· ≠ n)).any (fun m =>
          match d.twinPixel n m (k % 32768) with
          | some p => (d.candsOf m).contains ((k / 32768) * 32768 + p)
          | none => false)
    ((cands.filter ok).take (d.calPar n .CH_CAL_DPX_MAX)).take (8192 - map.length)

/-- The build of a cycle (R290, R295, R296); it uses one free value an entry. -/
def calBuild (d : Device) (n : Nat) : CalBuild :=
  let c := d.calOf n
  let t := (d.front n).live
  let b : CalBounds := { nMin := d.calPar n .CH_CAL_N_MIN, spreadMin := d.calPar n .CH_CAL_SPREAD_MIN, gainStep := d.calPar n .CH_CAL_GAIN_STEP
                         gainSpan := d.calPar n .CH_CAL_GAIN_SPAN, offStep := d.calPar n .CH_CAL_OFF_STEP, offSpan := d.calPar n .CH_CAL_OFF_SPAN }
  let total := d.num .CH_PIXELS n * d.planesOf n
  let done := c.kept.map (fun a =>
    (a.key, sparseGet 0 a.key t.offs, sparseGet 0x4000 a.key t.gains,
      calEntry b c.seedMark (toSigned 64 (Config.freeNat (d.freeCtr + a.key) % 2 ^ 64)) a (sparseGet 0 a.key t.offs) (sparseGet 0x4000 a.key t.gains) (sparseGet 0 a.key c.ancOffs) (sparseGet 0x4000 a.key c.ancGains)))
  let offs := done.foldl (fun l e => sparsePut 0 e.1 e.2.2.2.o l) t.offs
  let gains := done.foldl (fun l e => sparsePut 0x4000 e.1 e.2.2.2.g l) t.gains
  let cands := (topCands (c.kept.filter (fun a =>
    let m := a.nl + a.nh + a.nx
    b.nMin ≤ m && 64 ≤ a.nx && d.calPar n .CH_CAL_DPX_FRAC * m ≤ a.nx * 256))).map CalAcc.key
  let added := d.dpxAdds n cands t.dpm
  { seed := c.seedMark, tables := { offs := offs, gains := gains, dpm := sortBy dpmKey (t.dpm ++ added.map candEntry) }
    updated := (done.filter (fun e => e.2.2.2.o ≠ e.2.1 ∨ e.2.2.2.g ≠ e.2.2.1)).length
    stepLim := (done.filter (fun e => e.2.2.2.step)).length
    spanLim := (done.filter (fun e => e.2.2.2.span)).length
    noData := total - (done.filter (fun e => !e.2.2.2.noData)).length
    cands := cands, added := added }

/-- CRC-32C of each live table over CH_PIXELS entries of every plane (R292). -/
def tableCrcs (d : Device) (n : Nat) (t : Tables) : Octets :=
  let ks := (List.range (d.planesOf n)).flatMap (fun q => (List.range (d.num .CH_PIXELS n)).map (fun p => q * 32768 + p))
  le 4 (crc32c (ks.flatMap (fun k => le 2 (ofSigned 16 (sparseGet 0 k t.offs))))) ++ le 4 (crc32c (ks.flatMap (fun k => le 2 (sparseGet 0x4000 k t.gains))))
    ++ le 4 (crc32c (t.dpm.flatMap (le 4)))

/-- A copy of the tables after a replacement (R119): those that software wrote, which `own` marks, stay. -/
def tablesTake (own : Bool × Bool × Bool) (t new : Tables) : Tables :=
  { offs := if own.1 then t.offs else new.offs, gains := if own.2.1 then t.gains else new.gains, dpm := if own.2.2 then t.dpm else new.dpm }

/-- The CALIB entry of an apply (R374); SEED marks that of a seed (R373). -/
def journalCalib (d : Device) (n : Nat) (seed : Bool) (crcs : Octets) : Device :=
  let k : Key := ⟨.CH_CAL_SEQ, n⟩
  d.journal 0x07 (if seed then 4 else 0) 0xFFFF k.index k.sub 11 (d.num .CH_CAL_SEQ n) crcs (List.replicate 16 0) 0

/-- CAL_APPLY (R292, R293, R119): at a line boundary the new tables become live together; the apply waits when the journal has no slot for it. -/
def calApply (d : Device) (n : Nat) : Device :=
  match (d.calOf n).build with
  | none => d
  | some b =>
    if d.num .CH_CAL_STATE n ≠ 5 || !d.deviceRoom 1 then d
    else
      let d := d.modFront n (fun f => { f with
        live := b.tables, staged := tablesTake f.touched f.staged b.tables, pend := f.pend.map (fun t => tablesTake f.pendTouched t b.tables) })
      let d := (d.bump .CH_CAL_SEQ n).bump .CAL_APPLIES 0
      let d := ((d.set .CH_CAL_UPDATED n b.updated).set .CH_CAL_STEP_LIM n b.stepLim).set .CH_CAL_SPAN_LIM n b.spanLim
      let d := ((d.set .CH_CAL_NODATA n b.noData).add .CH_CAL_DPX_ADDED n b.added.length).setOct .CH_CAL_DPX_PROP n (b.cands.flatMap (fun k => le 4 (candEntry k)))
      let d := (d.set .CH_DPM_ENTRIES n b.tables.dpm.length).journalCalib n b.seed (d.tableCrcs n b.tables)
      let d := d.modCal n (fun c => { c with
        runs := b.cands.map (fun k => (k, sparseGet 0 k c.runs + 1))
        ancOffs := if b.seed then b.tables.offs else c.ancOffs, ancGains := if b.seed then b.tables.gains else c.ancGains
        seedMark := c.seedMark && !b.seed })
      if d.on .CH_CAL_PENDING n then d.calNext n
      else if b.stepLim ≠ 0 && (d.calOf n).chain < d.calPar n .CH_CAL_CHAIN_MAX then d.calStart n none ((d.calOf n).chain + 1)
      else d.calNext n

/-- Committed offsets or gains become the anchors at their hand-over (R294). -/
def calAnchors (d : Device) (n : Nat) (offs gains : Bool) : Device :=
  let t := (d.front n).live
  d.modCal n (fun c => { c with ancOffs := if offs then t.offs else c.ancOffs, ancGains := if gains then t.gains else c.ancGains })

/-- CH_CAL_ANC_OFF (R304). -/
def ancOffData (d : Device) (n : Nat) : Octets :=
  let (q, b) := (d.num .CH_CAL_ANC_PLANE n, d.num .CH_CAL_ANC_BASE n)
  (List.range (d.num .CH_PIXELS n - b)).flatMap (fun i => le 2 (ofSigned 16 (sparseGet 0 (q * 32768 + b + i) (d.calOf n).ancOffs)))

/-- CH_CAL_ANC_GAIN (R304). -/
def ancGainData (d : Device) (n : Nat) : Octets :=
  let (q, b) := (d.num .CH_CAL_ANC_PLANE n, d.num .CH_CAL_ANC_BASE n)
  (List.range (d.num .CH_PIXELS n - b)).flatMap (fun i => le 2 (sparseGet 0x4000 (q * 32768 + b + i) (d.calOf n).ancGains))

end Device

/-- CAL_BUILD_DONE (R290, R291): every entry of the cycle is computed. -/
def execCalBuildDone (n : Nat) (s : State) : Host.Outcome State Fault Refusal :=
  run (WF.calBuildDone n) s fun d =>
    if d.num .CH_CAL_STATE n = 4 then
      let b := d.calBuild n
      ({ d with freeCtr := d.freeCtr + 131072 }.modCal n (fun c => { c with build := some b })).set .CH_CAL_STATE n 5
    else d

end Sys2Proof.Machine
end

