-- ==== Sys2Proof/Machine/Egress.lean ====
section
/-!
DEFINITION. Queues at hand-overs and drains (R344), items on Ethernet (R347 to R349), and the PCIe endpoint: the DRAM aperture, MSI-X and Function
Level Reset (R358 to R362).
-/
namespace Sys2Proof.Machine

namespace Device

/-! ## Queues at a hand-over (R341, R344) -/

/-- A queue takes its pages and reaches ON with the settings of the live set. -/
def queueStart (d : Device) (q : Nat) : Device :=
  let d := d.set .QUE_STATE q 1
  d.modRing q (fun r => { r with pages := d.num .QUE_RING_KIB q / 64, dir := d.num .QUE_DIR q, peer := d.num .QUE_PEER q })

/-- A queue after a hand-over: an enable starts it, a disable or a change of size, direction or peer makes it drain. -/
def queueHandover (d : Device) (q : Nat) : Device :=
  let on := d.on .QUE_ENABLE q
  let r := d.ring q
  match d.num .QUE_STATE q with
  | 0 => if on then d.queueStart q else d
  | 1 =>
    if on && r.pages == d.num .QUE_RING_KIB q / 64 && r.dir == d.num .QUE_DIR q && r.peer == d.num .QUE_PEER q then d
    else d.set .QUE_STATE q 2
  | _ => d

/-- DRAINING ends: items still left are discarded into QUE_DROPS, the pages are returned, and the queue is OFF, or starts again where the set in force
enables it. -/
def queueDrained (d : Device) (q : Nat) : Device :=
  if d.num .QUE_STATE q != 2 then d
  else
    let d := (d.ring q).items.foldl (fun d _ => d.countDrop q) d
    let d := (d.modRing q (fun r => { r with items := [], ingress := {} })).lowThreshold q
    let d := (d.modRing q (fun r => { r with pages := 0 })).set .QUE_STATE q 0
    if d.on .QUE_ENABLE q then d.queueStart q else d

/-! ## Ethernet (R347 to R349) -/

/-- The 16 bytes of a stream header. -/
def streamHeader (ty flags q length iseq offset : Nat) : Octets :=
  le 2 0x5156 ++ [ty, flags] ++ le 2 q ++ le 2 length ++ le 4 iseq ++ le 4 offset

/-- The datagrams of an item for a subscriber whose fragments carry at most `k` bytes, from a remainder at an offset. -/
def fragments (q iseq k offset : Nat) : Nat → Octets → List Octets
  | 0, _ => []
  | n + 1, b =>
    let part := b.take k
    let rest := b.drop k
    let flags := b2n (offset == 0) + 2 * b2n rest.isEmpty
    (streamHeader 0 flags q part.length iseq offset ++ part)
      :: (if rest.isEmpty then [] else fragments q iseq k (offset + k) n rest)

/-- The address of a subscriber entry (R348). -/
def subAddr (e : Octets) : Octets := if octet e 0 = 4 then slice e 8 4 else slice e 8 16

/-- The ports of a subscriber entry. -/
def subPorts (e : Octets) : List Nat := bitsOf 2 (octet e 1)

/-- The subscriber entries of a queue. -/
def subscribers (d : Device) (q : Nat) : List Octets :=
  let b := d.oct .QUE_SUBS q
  chunks 24 (b.length / 24) b

/-- The MAC address of a subscriber is known. -/
def resolved (d : Device) (port : Nat) (addr : Octets) : Bool := d.neigh.any (fun n => n.port == port && n.addr == addr)

/-- An item to one subscriber on one port: its fragments, from UDP port COM_DAP_PORT + 1, or, where the address is not resolved, their count in QUE_ETH_DROPS and a new resolution. -/
def sendTo (d : Device) (q : Nat) (it : Item) (e : Octets) (port : Nat) : Device :=
  let a := subAddr e
  let w := it.wire q
  let fs := fragments q it.iseq (if a.length = 4 then 1456 else 1436) 0 w.length w
  if d.resolved port a then d.emits (fs.map (fun f => .eth port ((d.num .COM_DAP_PORT 0 + 1) % 65536) a (leAt e 2 2) f))
  else (d.add .QUE_ETH_DROPS q fs.length).emit (.resolve port a)

/-- The oldest item of a queue is sent to every subscriber, in order, and leaves the ring. -/
def ethTransmit (d : Device) (q : Nat) : Device :=
  match (d.ring q).items with
  | [] => d
  | it :: _ =>
    let d := (d.subscribers q).foldl (fun d e => (subPorts e).foldl (fun d p => d.sendTo q it e p) d) d
    d.takeItem q

/-- The queues that have subscribers, as the live copy lists them. -/
def subscribed (d : Device) : List Nat :=
  d.live.filterMap (fun e => if e.1.reg = .QUE_SUBS then some e.1.inst else none)

/-- Items of 12,336 bytes that a queue's free pages hold (R349). -/
def ingressRoom (d : Device) (q : Nat) : Nat := ((d.ring q).capacity - (d.ring q).fill) / 12336

/-- A fragment for an ingress queue, addressed to the device (R32, R349). -/
def fragmentIn (d : Device) (dst : Nat) (g : Datagram) : Device :=
  let p := g.payload
  let q := leAt p 4 2
  let r := d.ring q
  let body := p.drop 16
  let form := g.sumOk && !g.fragment && 16 ≤ p.length && leAt p 0 2 == 0x5156 && octet p 2 == 0 && leAt p 6 2 == body.length
  let here := q < 4096 && d.num .QUE_STATE q == 1 && r.dir == 1 && r.peer == 1 && d.num .QUE_RX_PORT q == dst
  let next := leAt p 8 4 == d.num .QUE_ISEQ q && leAt p 12 4 == r.ingress.got.length && d.ingressRoom q != 0
  if !(form && here && next && d.ethUp && d.ownAddress g.port g.dst) then d
  else
    let got := r.ingress.got ++ body
    let from_ := some (g.port, g.peer, g.udp)
    if !bit (octet p 3) 1 then d.setRing { r with ingress := { got := got, from_ := from_ } }
    else
      let len := leAt got 0 4
      let whole := 16 ≤ got.length && got.length == 16 + pad16 len
      if whole then
        match d.arriveItem q (octet got 4) (octet got 5) (slice got 16 len) with
        | some d => d.modRing q (fun r => { r with ingress := { got := [], from_ := from_ } })
        | none => d
      else ((d.bump .QUE_ISEQ q).countDrop q).modRing q (fun r => { r with ingress := { got := [], from_ := from_ } })

/-- A credit datagram (R349): NEXT and LIMIT, from the port that the fragments come to (log entry 57). -/
def creditSend (d : Device) (q : Nat) : Device :=
  let r := d.ring q
  if d.num .QUE_STATE q = 1 ∧ r.dir = 1 ∧ r.peer = 1 ∧ d.ethSends then
    match r.ingress.from_ with
    | some (port, peer, udp) =>
      let n := d.num .QUE_ISEQ q
      d.emit (.eth port (d.num .QUE_RX_PORT q) peer udp (streamHeader 1 0 q 8 0 0 ++ le 4 n ++ le 4 ((n + d.ingressRoom q) % 2 ^ 32)))
    | none => d
  else d

/-! ## The endpoint -/

/-- A BAR2 request reaches the device: the link is up and Memory Space Enable is set (R358). -/
def bar2Up (d : Device) : Bool := d.num .PCI_LINK_WIDTH 0 != 0 && d.pcie.memEnable

/-- BAR2_READ (R359): bytes beyond the stack read as ones; `good` bytes come before a poisoned granule. -/
def bar2Read (d : Device) (offset n good : Nat) : Device :=
  let a := d.num .PCI_BAR2_WIN 0 + offset
  let here := Nat.min n (d.ident.dramSize - a)
  let poisoned := good < here
  let (b, d) := d.dramSee a here
  let b := b ++ List.replicate (n - here) 0xFF
  let d := (d.countRead a here).emit (.completion b poisoned)
  (d.bumpIf poisoned .PCI_POISONED 0).bumpIf poisoned .MEM_ECC_UNCORR 0

/-- BAR2_WRITE (R338, R359): scratch takes it; beyond the stack it is discarded; for a protected address it is discarded and counted. -/
def bar2Write (d : Device) (offset : Nat) (b : Octets) : Device :=
  let a := d.num .PCI_BAR2_WIN 0 + offset
  if d.ident.inScratch a b.length then d.dramWrite a b
  else if d.ident.dramSize ≤ a then d
  else d.bump .PCI_BAR2_WRDISC 0

/-- A vector is unmasked (R361): a pending message is sent once. -/
def unmask (d : Device) (v : Nat) : Device :=
  let pend := d.pcie.pendingBits.contains v
  let us := if d.pcie.unmasked.contains v then d.pcie.unmasked else insertBy id v d.pcie.unmasked
  let d := { d with pcie := { d.pcie with unmasked := us, pendingBits := d.pcie.pendingBits.filter (· != v) } }
  if pend then d.emit (.msix v) else d

/-- What Function Level Reset does (R362). -/
def flr (d : Device) : Device :=
  let d := d.drovers.foldl (fun d x => d.droverDisable x.c) d
  let d := ((d.set .PCI_BAR2_WIN 0 0).set .COM_BAR0_HI 0 0).bump .PCI_FLRS 0
  { d with mailbox := [], pcie := { d.pcie with unmasked := [] } }

end Device

/-- QUEUE_DRAIN_END (R344). -/
def execQueueDrainEnd (q : Nat) (s : State) : Host.Outcome State Fault Refusal := run (WF.queueDrainEnd q) s fun d => d.queueDrained q

/-- ETH_ITEM_TRANSMIT (R347): an egress queue with QUE_PEER 1, ON or DRAINING, while the ports send (R437, R444). -/
def execEthItemTransmit (q : Nat) (s : State) : Host.Outcome State Fault Refusal :=
  run (WF.ethItemTransmit q) s fun d =>
    if d.num .QUE_STATE q != 0 && (d.ring q).dir == 0 && (d.ring q).peer == 1 && d.ethSends then d.ethTransmit q else d

/-- SUBSCRIBER_RESOLVE (R348). -/
def execSubscriberResolve (s : State) : Host.Outcome State Fault Refusal :=
  run true s fun d =>
    if !d.ethSends then d else
    d.subscribed.foldl (fun d q => (d.subscribers q).foldl
      (fun d e => (Device.subPorts e).foldl (fun d p => d.emit (.resolve p (Device.subAddr e))) d) d) d

/-- ARP_ND_REPLY_RX (R348): the reply of a subscriber's address resolves it. -/
def execArpNdReplyRx (port : Nat) (addr mac : Octets) (s : State) : Host.Outcome State Fault Refusal :=
  run (WF.arpNdReplyRx port addr mac) s fun d =>
    let known := d.subscribed.any (fun q => (d.subscribers q).any
      (fun e => Device.subAddr e == addr && (Device.subPorts e).contains port))
    if known && d.ethUp then
      { d with neigh := (d.neigh.filter (fun n => !(n.port == port && n.addr == addr))) ++ [{ port := port, addr := addr, mac := mac }] }
    else d

/-- INGRESS_FRAGMENT_RX (R349). -/
def execIngressFragmentRx (dst : Nat) (d : Datagram) (s : State) : Host.Outcome State Fault Refusal :=
  run (WF.ingressFragmentRx dst d) s fun x => x.fragmentIn dst d

/-- QUEUE_CREDIT_SEND (R349). -/
def execQueueCreditSend (q : Nat) (s : State) : Host.Outcome State Fault Refusal := run (WF.queueCreditSend q) s fun d => d.creditSend q

/-- FUNCTION_LEVEL_RESET (R362). -/
def execFunctionLevelReset (s : State) : Host.Outcome State Fault Refusal := run true s Device.flr

end Sys2Proof.Machine
end

