-- ==== Sys2Proof/Machine/Time.lean ====
section
/-!
DEFINITION. The local clock, the servo, the time-triggered outputs, the time-capture inputs and the tasks and cells of the event fabric (R384 to R386,
R390, R394 to R406).
-/
namespace Sys2Proof.Machine

/-- A clock's value in units of 2^−32 ns. -/
def Clock.units (c : Clock) : Nat := (c.sec * 1000000000 + c.ns) * 2 ^ 32 + c.frac

/-- The clock that a value in units of 2^−32 ns names; below zero it is zero (R386). -/
def Clock.ofUnits (u : Int) : Clock :=
  let n := u.toNat
  let ns := n / 2 ^ 32
  { sec := ns / 1000000000 % 2 ^ 48, ns := ns % 1000000000, frac := n % 2 ^ 32 }

namespace Device

/-! ## The local clock (R384 to R386) -/

/-- A time-triggered output. -/
def ttOf (d : Device) (n : Nat) : TtOut := d.tt.getD n {}

/-- A time-triggered output changed. -/
def modTt (d : Device) (n : Nat) (f : TtOut → TtOut) : Device := { d with tt := modTab 16 {} d.tt n f }

/-- Time of PERIODIC edge `k` (R394, R395), total ns. -/
def ttEdge (d : Device) (n k : Nat) : Nat :=
  d.num .TIM_TT_START n + (k * (d.num .TIM_TT_PERIOD n * 65536 + d.num .TIM_TT_PERIOD_FRAC n) + 65535) / 65536

/-- The smallest k whose edge is at or after `t` (R395, R396). -/
def ttNext (d : Device) (n t : Nat) : Nat :=
  let s := d.num .TIM_TT_START n
  if t ≤ s then 0
  else
    let p := d.num .TIM_TT_PERIOD n * 65536 + d.num .TIM_TT_PERIOD_FRAC n
    ceilDiv ((t - s - 1) * 65536 + 1) p

/-- A pulse of an output begins at `t` (R394): the pin, TT_FIRE and the count; it ends after TIM_TT_WIDTH. -/
def ttFire (d : Device) (n t : Nat) : Device :=
  let d := d.modTt n (fun x => { x with activeUntil := some (t + d.num .TIM_TT_WIDTH n) })
  let d := (d.emit (.pin ("TT_OUT" ++ toString n) (d.ttLevel n true) t)).bump .TIM_TT_FIRED n
  (d.pulse (0x020 + n)).settle

/-- A ONCE pulse is armed (R394, R396): a start already past fires at once, late. -/
def ttArm (d : Device) (n t : Nat) : Device :=
  if t < d.now then ((d.modTt n (fun x => { x with armed := none })).ttFire n d.now).bump .TIM_TT_LATE n
  else d.modTt n (fun x => { x with armed := some t })

/-- Start of the EVENT pulse of a task with a stamp (R403): the stamp and TIM_TT_DELAY, or 2 ns after the previous pulse. -/
def eventStart (d : Device) (n stamp : Nat) : Nat :=
  let s := stamp + d.num .TIM_TT_DELAY n
  match (d.ttOf n).lastEnd with
  | some e => Nat.max s (e + 2)
  | none => s

/-- Pending count of a task input as its object shows it. -/
def showTask (d : Device) (k : Nat) : Device := d.set .EVT_TASK_PENDING k (d.evt.tasks.getD k []).length

/-- The oldest task of an input is taken (R404). -/
def popTask (d : Device) (k : Nat) : Device :=
  ({ d with evt := { d.evt with tasks := modTab 33 [] d.evt.tasks k (List.drop 1) } }).showTask k

/-- An output after a step or a set of the clock (R396). -/
def ttStepped (d : Device) (n : Nat) : Device :=
  match d.num .TIM_TT_MODE n with
  | 1 =>
    match (d.ttOf n).armed with
    | some t => if t < d.now then ((d.modTt n (fun x => { x with armed := none })).ttFire n d.now).bump .TIM_TT_LATE n else d
    | none => d
  | 2 => d.modTt n (fun x => { x with edge := d.ttNext n d.now })
  | 3 =>
    match d.evt.tasks.getD n [], (d.ttOf n).activeUntil with
    | s :: _, none => if d.eventStart n s < d.now then ((d.popTask n).ttFire n d.now).bump .TIM_TT_LATE n else d
    | _, _ => d
  | _ => d

/-- Pending reject pulses after a step (R278, R396): those whose start is now past start at once, late. -/
def rejectsStepped (d : Device) : Device :=
  let late := d.rdl.pulses.filter (fun p => p.ends.isNone && (match p.start with | some t => decide (t < d.now) | none => false))
  late.foldl (fun d p => ((((p.parts.map PulsePart.station).eraseDups).foldl (fun d s => d.bump .RDL_ST_LATE s) d).putPulse p.id (fun _ => none)).startLate p) d

/-- What is timed in cycles and not by the clock keeps its distance from the present when the clock steps by `by_` ns (R394, R401): pulses in progress, the lines'
re-trigger intervals, and the intervals of the servo and of IEEE 1588. -/
def shiftTimes (d : Device) (by_ : Int) : Device :=
  let sh (t : Nat) : Nat := ((t : Int) + by_).toNat
  { d with
    tt := d.tt.map (fun x => { x with activeUntil := x.activeUntil.map sh, lastEnd := x.lastEnd.map sh })
    rdl := { d.rdl with pulses := d.rdl.pulses.map (fun p => { p with ends := p.ends.map sh }) }
    evt := { d.evt with lines := d.evt.lines.map (fun l => { l with lastRise := l.lastRise.map sh }) }
    servo := { d.servo with lastAt := d.servo.lastAt.map sh }
    ptp := { d.ptp with
      fwdSync := d.ptp.fwdSync.map (fun w => { w with at_ := sh w.at_ })
      foreign := d.ptp.foreign.map (fun f => { f with times := f.times.map sh }) } }

/-- The clock takes a value by a set or a step (R386): CLOCK_STEP, TIM_STEPS, and the pending outputs; a LOCKED servo enters ACQUIRE with its next sample (R406). -/
def clockSet (d : Device) (c : Clock) : Device :=
  let was := d.now
  let d := { d with clk := c, servo := { d.servo with stepped := d.num .TIM_SERVO_STATE 0 = 2 } }
  let d := (d.shiftTimes ((d.now : Int) - was)).bump .TIM_STEPS 0
  let d := (d.pulse 0x03A).settle
  ((List.range 16).foldl ttStepped d).rejectsStepped

/-- TIM_SET (R386). -/
def timSet (d : Device) (t : Nat) : Device := d.clockSet { sec := t / 1000000000, ns := t % 1000000000, frac := 0 }

/-- A step by units of 2^−32 ns. -/
def clockStep (d : Device) (u : Int) : Device := d.clockSet (Clock.ofUnits ((d.clk.units : Int) + u))

/-- TIM_STEP_NS (R386). -/
def timStep (d : Device) (v : Nat) : Device := d.clockStep (toSigned 32 v * 2 ^ 32)

/-- The clock over `n` cycles of the time clock (R385), and PPS where the seconds advance (R384). -/
def clockRun (d : Device) (n : Nat) : Device :=
  let c := Clock.ofUnits ((d.clk.units : Int) + n * (2 ^ 32 + d.int .TIM_RATE 0))
  let second := c.sec != d.clk.sec
  let d := { d with clk := c }
  if second then (d.pulse 0x038).settle else d

/-- The clock runs on to its next whole second (R384). -/
def toSecond (d : Device) : Device :=
  let left := 1000000000 - d.clk.ns
  let d := { d with clk := { sec := (d.clk.sec + 1) % 2 ^ 48, ns := 0, frac := 0 }, tick := d.tick + left / 1000 }
  (d.pulse 0x038).settle

/-! ## The servo (R390). θ in units of 2^−16 ns, I and y in units of 2^−16 ppb -/

/-- A from a rate in 2^−16 ppb. -/
def rateOf (y : Int) : Int := clampI (-2147484) 2147484 (divRound (-y * 65536) 1000000000)

/-- The servo takes a state; LOCKED is a whistle-line source. -/
def servoState (d : Device) (st : Nat) : Device := (d.set .TIM_SERVO_STATE 0 st).settle

/-- TIM_OFFSET shows θ in ns, saturating. -/
def showOffset (d : Device) (th : Int) : Device := d.setI .TIM_OFFSET 0 (clampI (-2147483648) 2147483647 (th / 65536))

/-- One offset sample taken at `at_`, with an interval of `t` ns (R390). With the time clock failed nothing is written to A (R386). -/
def servoTake (d : Device) (th : Int) (t at_ : Nat) : Device :=
  let d := d.showOffset th
  if !d.on .TIM_CLOCK_OK 0 then d
  else
    let stepped := d.servo.stepped
    let mark (d : Device) : Device := { d with servo := { d.servo with lastAt := some at_, interval := t, stepped := false } }
    let thresh := d.num .TIM_STEP_THRESH 0
    let st := d.num .TIM_SERVO_STATE 0
    if thresh != 0 && thresh * 65536 < th.natAbs then
      let d := (mark d).clockStep (-th * 65536)
      ({ d with servo := { d.servo with run := 0, stepped := false } }).servoState 1
    else
      let lim : Int := 500000 * 65536
      let i := clampI (-lim) lim (d.servo.integral + (d.num .TIM_KI 0 : Int) * th * 1000000000 / (256 * t))
      let y := clampI (-lim) lim ((d.num .TIM_KP 0 : Int) * th * 1000000000 / (256 * t) + i)
      let lock := d.num .TIM_LOCK_NS 0 * 65536
      let leaves := st = 2 ∧ (4 * lock < th.natAbs ∨ stepped)
      let run := if th.natAbs ≤ lock then (if leaves then 0 else d.servo.run) + 1 else 0
      let next := if leaves then 1 else if 16 ≤ run then 2 else if st = 2 then 2 else 1
      let d := d.setI .TIM_RATE 0 (rateOf y)
      mark (({ d with servo := { d.servo with integral := i, run := run } }).servoState next)

/-- One offset sample of IEEE 1588 stamped `at_` (R390): T is the time since the last one, `first` for a first sample. -/
def servoSample (d : Device) (th : Int) (first at_ : Nat) : Device :=
  d.servoTake th (Nat.max 1 (match d.servo.lastAt with | some a => at_ - a | none => first)) at_

/-- HOLDOVER (R390): A is held at the value of I. -/
def servoHoldover (d : Device) : Device :=
  let st := d.num .TIM_SERVO_STATE 0
  if st = 1 ∨ st = 2 then
    (({ (d.setI .TIM_RATE 0 (rateOf d.servo.integral)) with servo := { d.servo with run := 0 } })).servoState 3
  else d

/-- TIM_SRC in force after a hand-over (R390): FREE sets A and I to 0. -/
def servoSource (d : Device) : Device :=
  if d.num .TIM_SRC 0 = 0 then ({ (d.set .TIM_RATE 0 0) with servo := {} }).servoState 0 else d

/-- IEEE 1588 after a hand-over (R387, R389; log entry 19): what was measured by another delay mechanism is forgotten, and with another role, port, transport or
domain (`other`) so is what was heard, the master among it. -/
def ptpHandover (d : Device) (other : Bool) : Device :=
  let d := { d with ptp := { d.ptp with syncWait := [], delayReq := none, lastDiff := none, pathDelay := none, pdelayReq := [], pdelayResp := [] } }
  let d := d.set .TIM_MEAN_PATH 0 0
  if !other then d
  else
    let d := { d with ptp := { d.ptp with foreign := [] } }
    if d.oct .TIM_PTP_MASTER 0 = [] then d
    else
      let d := d.setOct .TIM_PTP_MASTER 0 []
      if d.num .TIM_SRC 0 = 1 then d.servoHoldover else d

/-! ## Hand-overs of the outputs and the fabric (R394, R395, R400, R406) -/

/-- An output at a hand-over: `timing` where START, PERIOD, PERIOD_FRAC, WIDTH or MODE changed, `starts` where START or MODE did. -/
def ttHandover (d : Device) (n : Nat) (timing starts : Bool) : Device :=
  let d := if starts && d.num .TIM_TT_MODE n != 1 then d.modTt n (fun x => { x with armed := none }) else d
  match d.num .TIM_TT_MODE n with
  | 1 => if starts then d.ttArm n (d.num .TIM_TT_START n) else d
  | 2 => if timing then d.modTt n (fun x => { x with edge := d.ttNext n (d.now + 1000) }) else d
  | _ => d

/-- The owner of an output (R397). -/
def ttOwners (d : Device) : Device :=
  (List.range 16).foldl (fun d n =>
    d.set .TIM_TT_OWNER n (b2n ((List.range 8).any (fun s => d.on .RDL_ST_EN s && d.num .RDL_ST_OUT s = n)))) d

/-- A line whose source changed at a hand-over (R406): the change of level is no edge, and its re-trigger timer restarts. -/
def lineRewired (d : Device) (l : Nat) : Device :=
  let lv := d.sourceLevel (d.num .EVT_LINE_SRC l)
  let r := d.num .EVT_LINE_RETRIG_NS l
  (d.setLine l (fun x => { x with level := lv, src := lv, lastRise := some d.now, hold := r })).setOn .EVT_LINE_LEVEL l lv

/-- Cells whose objects changed at a hand-over have Q = 0 (R400) and follow their inputs as these stand; what comes from the new wiring is no edge (R406). -/
def cellsRewired (d : Device) (cs : List Nat) : Device :=
  cs.foldl (fun d c =>
    let lut := d.cellLut c
    let out := d.num .EVT_CELL_FF c = 0 && lut
    (d.setCell c (fun _ => { q := false, lut := lut, out := out })).setOn .EVT_CELL_OUT c out) d

/-- The fabric after a hand-over (R406): it settles under the new wiring; edges that the switch makes reach no task or CLK input. -/
def fabricRewired (d : Device) (ls cs : List Nat) : Device :=
  let te := d.evt.taskEdges
  let ce := d.evt.clkEdges
  let re := d.evt.relayEdges
  let d := ((ls.foldl lineRewired (d.cellsRewired cs)).settle.cellsRewired cs).settle
  { d with evt := { d.evt with taskEdges := te, clkEdges := ce, relayEdges := re } }

/-! ## Capture and tasks (R398, R403, R404) -/

/-- An entry for a capture FIFO of sixteen. -/
def tcStore (d : Device) (n t kind : Nat) : Device :=
  if 16 ≤ (d.tcFifo.getD n []).length then d.bump .TIM_TC_OVERFLOW n
  else { d with tcFifo := modTab 8 [] d.tcFifo n (· ++ [(t, kind)]) }

/-- The bytes of a capture FIFO. -/
def tcBytes (d : Device) (n : Nat) : Octets := (d.tcFifo.getD n []).flatMap (fun e => le 8 e.1 ++ [e.2] ++ List.replicate 7 0)

/-- A read of TIM_TC_FIFO removes what it returned. -/
def tcTake (d : Device) (n : Nat) : Device := { d with tcFifo := modTab 8 [] d.tcFifo n (fun _ => []) }

/-- An edge of a capture input (R398). -/
def tcEdge (d : Device) (n : Nat) (falling : Bool) (t : Nat) : Device :=
  let sel := d.num .TIM_TC_EDGE n
  let wanted := sel = 2 ∨ sel = (if falling then 1 else 0)
  if !decide wanted then d
  else
    let d := ((d.set .TIM_TC_LAST n t).tcStore n t (b2n falling)).bump .TIM_TC_EDGES n
    let d := (d.pulse (0x030 + n)).settle
    if d.num .STI_MARK_SRC 0 = n + 1 then d.repeatMark t else d

/-- An edge reaches a task input (R404). -/
def taskEdge (d : Device) (k : Nat) : Device :=
  match findIdxFrom (fun (e : Nat × Nat) => e.1 = k) 0 d.evt.taskEdges with
  | none => d
  | some (i, (_, t)) =>
    let d := { d with evt := { d.evt with taskEdges := d.evt.taskEdges.eraseIdx i } }
    if 3 ≤ (d.evt.tasks.getD k []).length then d.setOn .EVT_TASK_OVERFLOW k true
    else ({ d with evt := { d.evt with tasks := modTab 33 [] d.evt.tasks k (· ++ [t]) } }).showTask k

/-- The oldest task of an input is consumed (R403); an EVENT output with a pulse in progress leaves it pending (R406). -/
def taskConsume (d : Device) (k : Nat) : Device :=
  match d.evt.tasks.getD k [] with
  | [] => d
  | t :: _ =>
    if k < 16 then
      if d.num .TIM_TT_MODE k = 3 then
        match (d.ttOf k).activeUntil with
        | some _ => d
        | none => (d.popTask k).ttFire k (Nat.max (d.eventStart k t) d.now)
      else d.popTask k
    else if k < 24 then (d.popTask k).tcStore (k - 16) t 2
    else if k = 24 then (d.popTask k).set .TIM_SNAP_TIME 0 t
    else (d.popTask k).msix (d.num .EVT_TASK_ARG k)

/-- EVT_TASK_CLEAR (R404). -/
def taskClear (d : Device) (k : Nat) : Device :=
  (({ d with evt := { d.evt with tasks := modTab 33 [] d.evt.tasks k (fun _ => []) } }).showTask k).setOn .EVT_TASK_OVERFLOW k false

/-- A rising edge of a cell's CLK (R400). -/
def cellClock (d : Device) (c : Nat) : Device :=
  if !d.evt.clkEdges.contains c then d
  else
    let d := { d with evt := { d.evt with clkEdges := d.evt.clkEdges.erase c } }
    let lut := d.cellLut c
    let q := (d.evt.cells.getD c {}).q
    let q := match d.num .EVT_CELL_FF c with
      | 1 => lut
      | 2 => q != lut
      | 3 => false
      | _ => q
    (d.setCell c (fun x => { x with q := q })).settle

end Device

/-- SECOND_ROLLOVER (R384): the nanoseconds reach 10^9. -/
def execSecondRollover (s : State) : Host.Outcome State Fault Refusal := run true s Device.toSecond

/-- SERVO_HOLDOVER (R390): no sample for 4 × T. -/
def execServoHoldover (s : State) : Host.Outcome State Fault Refusal := run true s Device.servoHoldover

/-- TT_PULSE_START (R394): the start of an armed ONCE pulse, or the next PERIODIC edge, has come. -/
def execTtPulseStart (n : Nat) (s : State) : Host.Outcome State Fault Refusal :=
  run (WF.ttPulseStart n) s fun d =>
    match d.num .TIM_TT_MODE n with
    | 1 =>
      match (d.ttOf n).armed with
      | some t => (d.modTt n (fun x => { x with armed := none })).ttFire n t
      | none => d
    | 2 =>
      let k := (d.ttOf n).edge
      (d.modTt n (fun x => { x with edge := k + 1 })).ttFire n (d.ttEdge n k)
    | _ => d

/-- TT_PULSE_END (R394). -/
def execTtPulseEnd (n : Nat) (s : State) : Host.Outcome State Fault Refusal :=
  run (WF.ttPulseEnd n) s fun d =>
    match (d.ttOf n).activeUntil with
    | some e =>
      (d.modTt n (fun x => { x with activeUntil := none, lastEnd := some e })).emit (.pin ("TT_OUT" ++ toString n) (d.ttLevel n false) e)
    | none => d

/-- TC_IN_EDGE (R398). -/
def execTcInEdge (n : Nat) (falling : Bool) (t : Nat) (s : State) : Host.Outcome State Fault Refusal :=
  run (WF.tcInEdge n falling t) s fun d => d.tcEdge n falling t

/-- TC_FIFO_READ (R398). -/
def execTcFifoRead (n : Nat) (s : State) : Host.Outcome State Fault Refusal :=
  run (WF.tcFifoRead n) s fun d => (d.tcTake n).emit (.completion (d.tcBytes n) false)

/-- TASK_INPUT_EDGE (R404). -/
def execTaskInputEdge (k : Nat) (s : State) : Host.Outcome State Fault Refusal := run (WF.taskInputEdge k) s fun d => d.taskEdge k

/-- TASK_CONSUME (R403). -/
def execTaskConsume (k : Nat) (s : State) : Host.Outcome State Fault Refusal := run (WF.taskConsume k) s fun d => d.taskConsume k

/-- CELL_CLOCK_EDGE (R400). -/
def execCellClockEdge (c : Nat) (s : State) : Host.Outcome State Fault Refusal := run (WF.cellClockEdge c) s fun d => d.cellClock c

end Sys2Proof.Machine
end

