-- ==== Sys2Proof/Machine/Ptp.lean ====
section
/-!
DEFINITION. IEEE 1588: the ordinary clock as slave and as master, peer delay, and the transparent clock (R387 to R393). Times are in units of 2^−16 ns;
PTP fields are most significant octet first, as IEEE 1588-2019 lays them out (log entry 19).
-/
namespace Sys2Proof.Machine

/-- A signed big-endian field. -/
def beSigned (b : Octets) (a n : Nat) : Int := toSigned (8 * n) (beAt b a n)
/-- correctionField. -/
def ptpCorr (m : Octets) : Int := beSigned m 8 8
/-- twoStepFlag. -/
def ptpTwoStep (m : Octets) : Bool := bit (octet m 6) 1
/-- domainNumber. -/
def ptpDomain (m : Octets) : Nat := octet m 4
/-- sourcePortIdentity. -/
def ptpSource (m : Octets) : Octets := slice m 20 10
/-- sequenceId. -/
def ptpSeq (m : Octets) : Nat := beAt m 30 2
/-- logMessageInterval. -/
def ptpLog (m : Octets) : Int := toSigned 8 (octet m 33)
/-- The timestamp of 10 octets at octet 34, in 2^−16 ns. -/
def ptpStamp (m : Octets) : Int := (beAt m 34 6 * 1000000000 + beAt m 40 4) * 65536
/-- requestingPortIdentity of a response. -/
def ptpRequester (m : Octets) : Octets := slice m 44 10

/-- Least octets of a message of a type. -/
def ptpLength (ty : Nat) : Nat :=
  match ty with
  | 0 => 44 | 1 => 44 | 8 => 44
  | 2 => 54 | 3 => 54 | 9 => 54 | 10 => 54
  | 11 => 64
  | _ => 34

/-- A message that is not malformed and whose versionPTP is 2 (R387). -/
def ptpValid (m : Octets) : Bool :=
  34 ≤ m.length && octet m 1 % 16 == 2 && ptpLength (octet m 0 % 16) ≤ beAt m 2 2 && beAt m 2 2 ≤ m.length

/-- A message with another correctionField, at most its greatest value (R392). -/
def ptpWithCorr (m : Octets) (c : Int) : Octets :=
  overlay m 8 (be 8 (ofSigned 64 (if 0x7FFFFFFFFFFFFFFF < c then 0x7FFFFFFFFFFFFFFF else c)))

/-- A timestamp's 10 octets. -/
def stampOctets (t : Nat) : Octets := be 6 (t / 65536 / 1000000000) ++ be 4 (t / 65536 % 1000000000)

/-- 2^k seconds in ns. -/
def secondsLog (k : Int) : Nat := if k < 0 then 1000000000 / 2 ^ (-k).toNat else 1000000000 * 2 ^ k.toNat

/-- The fields that the dataset comparison orders, best first (IEEE 1588-2019 clause 9.3.4): of different grandmasters by priority, class, accuracy, variance,
priority and identity; of one grandmaster by the steps removed and the sender. -/
def Foreign.better (a b : Foreign) : Bool :=
  let lex := fun (x y : List Nat) => decide (x < y)
  if a.gm = b.gm then lex (a.stepsRemoved :: a.ident) (b.stepsRemoved :: b.ident)
  else lex ([a.priority1, a.clockClass, a.accuracy, a.variance, a.priority2] ++ a.gm) ([b.priority1, b.clockClass, b.accuracy, b.variance, b.priority2] ++ b.gm)

namespace Device

/-- The IEEE 1588 state changed. -/
def modPtp (d : Device) (f : Ptp → Ptp) : Device := { d with ptp := f d.ptp }

/-- portIdentity of a port: clockIdentity from COM_MAC0, and the port's number from 1 (log entry 19). -/
def portIdentity (d : Device) (p : Nat) : Octets :=
  let m := be 6 (d.num .COM_MAC0 0)
  m.take 3 ++ [0xFF, 0xFE] ++ m.drop 3 ++ be 2 (p + 1)

/-- delayAsymmetry of a port. -/
def asym (d : Device) (p : Nat) : Int := d.int .TIM_PORT_ASYM p

/-- The clock measures delay peer-to-peer. -/
def peerDelay (d : Device) : Bool := d.num .TIM_PTP_DELAY 0 = 2

/-- A message leaves a port by a transport: 0 IEEE 802.3, 1 UDP over IPv4, 2 UDP over IPv6; none while the ports do not send (R437, R444). -/
def ptpSendBy (d : Device) (tr p : Nat) (m : Octets) : Device := if !d.ethSends then d else (d.emit (.ptp p tr m)).bump .TIM_PORT_TX p

/-- A message of the device's own, by the transport it uses (R387). -/
def ptpSend (d : Device) (p : Nat) (m : Octets) : Device := d.ptpSendBy (d.num .TIM_PTP_TRANSPORT 0) p m

/-- A message is forwarded out of a port by the transport it came by (R392). -/
def ptpForward (d : Device) (tr p : Nat) (m : Octets) : Device := (d.ptpSendBy tr p m).bump .TIM_PORT_FWD p

/-- The header of a message that the device makes, 34 octets; `ctl` is controlField. -/
def ptpHeader (d : Device) (p ty len flags : Nat) (corr : Int) (seq ctl : Nat) (log : Int) : Octets :=
  [ty, 2] ++ be 2 len ++ [d.num .TIM_PTP_DOMAIN 0, 0] ++ be 2 flags ++ be 8 (ofSigned 64 corr) ++ List.replicate 4 0 ++ d.portIdentity p
    ++ be 2 seq ++ [ctl, ofSigned 8 log]

/-- What every reception does first (R387, R392): counts, discards what is malformed, and says whether the ordinary clock may use the message: it came on its
port, in its domain, by its transport. A message of another domain or transport that the transparent clock does not forward (a Pdelay message, `hop`, never is) is
discarded. A port that is down receives nothing (R437). -/
def ptpArrive (d : Device) (p tr : Nat) (m : Octets) (hop : Bool) : Device × Bool :=
  if !d.ethUp then (d, false) else
  let d := d.bump .TIM_PORT_RX p
  if !ptpValid m then (d.bump .TIM_PORT_BAD p, false)
  else
    let mine := ptpDomain m = d.num .TIM_PTP_DOMAIN 0 ∧ tr = d.num .TIM_PTP_TRANSPORT 0
    (d.bumpIf (!mine && (hop || !d.on .TIM_TC_EN 0)) .TIM_PORT_BAD p, mine)

/-- The transparent clock is on, and the ports send (R392). -/
def tcOn (d : Device) : Bool := d.on .TIM_TC_EN 0 && d.ethSends

/-- The transparent clock forwards a message that arrived whole on port `p` (R392). -/
def tcForward (d : Device) (p tr : Nat) (m : Octets) : Device :=
  if d.tcOn && ptpValid m then d.ptpForward tr (1 - p) m else d

/-- What a Sync's link adds at the transparent clock: in peer-to-peer mode meanLinkDelay of the port it came on, with its asymmetry. -/
def linkAdd (d : Device) (p : Nat) : Int := if d.peerDelay then d.int .TIM_PORT_LINK_DELAY p + d.asym p else 0

/-- The transparent clock forwards a Sync (R392): residence goes into a one-step Sync, or waits for its Follow_Up. -/
def tcSync (d : Device) (p tr : Nat) (m : Octets) (t te : Nat) : Device :=
  if !d.tcOn || !ptpValid m then d
  else
    let add : Int := (te : Int) - t + d.linkAdd p
    if ptpTwoStep m then
      let w : SyncWait := { port := p, source := ptpSource m, seq := ptpSeq m, t2 := t, corr := 0, add := add, at_ := d.now }
      (d.modPtp (fun x => { x with fwdSync := w :: x.fwdSync.filter (fun y => !(y.source == w.source && y.seq == w.seq)) })).ptpForward tr (1 - p) m
    else d.ptpForward tr (1 - p) (ptpWithCorr m (ptpCorr m + add))

/-- The ordinary clock is a slave of the sender of a message. -/
def fromMaster (d : Device) (p : Nat) (m : Octets) : Bool :=
  d.num .TIM_PTP_ROLE 0 == 1 && p == d.num .TIM_PTP_PORT 0 && d.oct .TIM_PTP_MASTER 0 == ptpSource m

/-- An offset sample of the ordinary clock (R389): `diff` is t2 − t1 − c_s with the link's corrections, for a Sync stamped `t2`. -/
def ptpSample (d : Device) (diff : Int) (log : Int) (t2 : Nat) : Device :=
  let delay := if d.peerDelay then 0 else d.ptp.pathDelay.getD 0
  let d := d.modPtp (fun x => { x with lastDiff := some diff })
  if d.num .TIM_SRC 0 = 1 then d.servoSample (diff - delay) (secondsLog log) (t2 / 65536) else d.showOffset (diff - delay)

/-- A Sync at the ordinary clock (R389). -/
def ocSync (d : Device) (p : Nat) (m : Octets) (t : Nat) : Device :=
  if !d.fromMaster p m then d
  else
    let corr := ptpCorr m + d.asym p + (if d.peerDelay then d.int .TIM_PORT_LINK_DELAY p else 0)
    if ptpTwoStep m then
      let w : SyncWait := { port := p, source := ptpSource m, seq := ptpSeq m, t2 := t, corr := corr, add := 0, at_ := d.now }
      d.modPtp (fun x => { x with syncWait := [w] })
    else d.ptpSample ((t : Int) - ptpStamp m - corr) (ptpLog m) t

/-- A Follow_Up at the ordinary clock (R389). -/
def ocFollowUp (d : Device) (p : Nat) (m : Octets) : Device :=
  if !d.fromMaster p m then d
  else match d.ptp.syncWait.find? (fun w => w.source == ptpSource m && w.seq == ptpSeq m) with
    | some w => (d.modPtp (fun x => { x with syncWait := [] })).ptpSample (w.t2 - ptpStamp m - w.corr - ptpCorr m) (ptpLog m) w.t2.toNat
    | none => d

/-- A Follow_Up at the transparent clock (R392): it takes the residence of its Sync forwarded in the last 1 s, or is an orphan. -/
def tcFollowUp (d : Device) (p tr : Nat) (m : Octets) : Device :=
  if !d.tcOn || !ptpValid m then d
  else match d.ptp.fwdSync.find? (fun w => w.source == ptpSource m && w.seq == ptpSeq m && d.now ≤ w.at_ + 1000000000) with
    | some w =>
      (d.modPtp (fun x => { x with fwdSync := x.fwdSync.filter (fun y => y ≠ w) })).ptpForward tr (1 - p) (ptpWithCorr m (ptpCorr m + w.add))
    | none => (d.ptpForward tr (1 - p) m).bump .TIM_PORT_FUP_ORPHAN p

/-! ## Choosing a master (R389) -/

/-- The record of an Announce. -/
def foreignOf (m : Octets) (now : Nat) : Foreign :=
  { ident := ptpSource m, priority1 := octet m 47, clockClass := octet m 48, accuracy := octet m 49, variance := beAt m 50 2, priority2 := octet m 52
    gm := slice m 53 8, stepsRemoved := beAt m 61 2, utc := beSigned m 44 2, logInterval := ptpLog m, times := [now] }

/-- A foreign master is qualified (clause 9.3.2.5): two Announces within four of its announce intervals, fewer than 255 steps removed. -/
def qualified (d : Device) (f : Foreign) : Bool :=
  f.stepsRemoved < 255 && 2 ≤ (f.times.filter (fun t => d.now ≤ t + 4 * secondsLog f.logInterval)).length

/-- The best of the qualified masters. -/
def bestMaster (d : Device) : Option Foreign :=
  (d.ptp.foreign.filter d.qualified).foldl (fun best f => match best with
    | none => some f
    | some b => if f.better b then some f else some b) none

/-- The clock chooses (R389): TIM_PTP_MASTER and TIM_UTC_OFFSET follow; with none left the servo enters HOLDOVER. -/
def chooseMaster (d : Device) : Device :=
  match d.bestMaster with
  | some f => (d.setOct .TIM_PTP_MASTER 0 f.ident).setI .TIM_UTC_OFFSET 0 f.utc
  | none =>
    if d.oct .TIM_PTP_MASTER 0 = [] then d
    else
      let d := d.setOct .TIM_PTP_MASTER 0 []
      if d.num .TIM_SRC 0 = 1 then d.servoHoldover else d

/-- An Announce at the ordinary clock. -/
def ocAnnounce (d : Device) (p : Nat) (m : Octets) : Device :=
  if d.num .TIM_PTP_ROLE 0 = 1 ∧ p = d.num .TIM_PTP_PORT 0 ∧ slice m 20 8 ≠ (d.portIdentity 0).take 8 then
    let f := foreignOf m d.now
    let old := ((d.ptp.foreign.find? (fun g => g.ident == f.ident)).map Foreign.times).getD []
    let f := { f with times := (f.times ++ old).take 4 }
    (d.modPtp (fun x => { x with foreign := x.foreign.filter (fun g => g.ident != f.ident) ++ [f] })).chooseMaster
  else d

/-! ## Delays (R389, R391, R392) -/

/-- A path-delay measurement filters d (R389). -/
def pathSample (d : Device) (dm : Int) : Device :=
  if dm < 0 then d
  else
    let v := match d.ptp.pathDelay with
      | none => dm
      | some x => x + (dm - x) / 16
    (d.modPtp (fun x => { x with pathDelay := some v })).setI .TIM_MEAN_PATH 0 (clampI (-2147483648) 2147483647 (v / 65536))

/-- A Delay_Resp at the ordinary clock. -/
def ocDelayResp (d : Device) (p : Nat) (m : Octets) : Device :=
  if !(d.fromMaster p m && !d.peerDelay && ptpRequester m == d.portIdentity p) then d
  else match d.ptp.delayReq, d.ptp.lastDiff with
    | some (seq, t3), some diff =>
      if seq = ptpSeq m then (d.modPtp (fun x => { x with delayReq := none })).pathSample ((diff + (ptpStamp m - t3 - ptpCorr m)) / 2) else d
    | _, _ => d

/-- A Delay_Req at a master (R391): Delay_Resp carries t4, the part of a nanosecond in its correction. -/
def ocDelayReq (d : Device) (p : Nat) (m : Octets) (t : Nat) : Device :=
  if d.num .TIM_PTP_ROLE 0 = 2 ∧ p = d.num .TIM_PTP_PORT 0 ∧ d.peerDelay = false then
    let h := d.ptpHeader p 9 54 0 (ptpCorr m - (t % 65536 : Nat)) (ptpSeq m) 3 (d.int .TIM_PTP_LOG_MIN_DELAY 0)
    d.ptpSend p (h ++ stampOctets t ++ ptpSource m)
  else d

/-- A Pdelay_Req is answered by its port (R392). -/
def pdelayAnswer (d : Device) (p : Nat) (m : Octets) (t te : Nat) : Device :=
  if !d.peerDelay then d
  else if d.on .TIM_PTP_TWO_STEP 0 then
    let a := d.ptpHeader p 3 54 0x0200 (-(t % 65536 : Nat)) (ptpSeq m) 5 127 ++ stampOctets t ++ ptpSource m
    let b := d.ptpHeader p 10 54 0 (ptpCorr m + (te % 65536 : Nat)) (ptpSeq m) 5 127 ++ stampOctets te ++ ptpSource m
    (d.ptpSend p a).ptpSend p b
  else d.ptpSend p (d.ptpHeader p 3 54 0 (ptpCorr m + ((te : Int) - t)) (ptpSeq m) 5 127 ++ List.replicate 10 0 ++ ptpSource m)

/-- A link-delay measurement of a port. -/
def setLinkDelay (d : Device) (p : Nat) (v : Int) : Device := d.setI .TIM_PORT_LINK_DELAY p (clampI (-2147483648) 2147483647 v)

/-- A Pdelay_Resp (R392). -/
def pdelayResp (d : Device) (p : Nat) (m : Octets) (t : Nat) : Device :=
  if !(d.peerDelay && ptpRequester m == d.portIdentity p) then d
  else match d.ptp.pdelayReq.find? (fun e => e.1 == p && e.2.1 == ptpSeq m) with
    | none => d
    | some (_, seq, t1) =>
      let corr := ptpCorr m + d.asym p
      if ptpTwoStep m then
        d.modPtp (fun x => { x with pdelayResp := x.pdelayResp.filter (fun e => e.1 != p) ++ [(p, seq, (t : Int), ptpStamp m, corr)] })
      else
        (d.modPtp (fun x => { x with pdelayReq := x.pdelayReq.filter (fun e => e.1 != p) })).setLinkDelay p (((t : Int) - t1 - corr) / 2)

/-- A Pdelay_Resp_Follow_Up (R392). -/
def pdelayFollowUp (d : Device) (p : Nat) (m : Octets) : Device :=
  if !(d.peerDelay && ptpRequester m == d.portIdentity p) then d
  else match d.ptp.pdelayResp.find? (fun e => e.1 == p && e.2.1 == ptpSeq m), d.ptp.pdelayReq.find? (fun e => e.1 == p && e.2.1 == ptpSeq m) with
    | some (_, _, t4, t2, corr), some (_, _, t1) =>
      let d := d.modPtp (fun x => { x with
        pdelayReq := x.pdelayReq.filter (fun e => e.1 != p)
        pdelayResp := x.pdelayResp.filter (fun e => e.1 != p) })
      d.setLinkDelay p (((t4 - t1) - (ptpStamp m - t2) - corr - ptpCorr m) / 2)
    | _, _ => d

/-! ## Sending -/

/-- Delay_Req of a slave with a master (R389). -/
def delayReqSend (d : Device) (te : Nat) : Device :=
  if d.num .TIM_PTP_ROLE 0 = 1 ∧ d.peerDelay = false ∧ d.oct .TIM_PTP_MASTER 0 ≠ [] then
    let p := d.num .TIM_PTP_PORT 0
    let seq := d.ptp.seqDelay
    let m := d.ptpHeader p 1 44 0 (-(d.asym p)) seq 1 127 ++ List.replicate 10 0
    (d.modPtp (fun x => { x with seqDelay := (seq + 1) % 65536, delayReq := some (seq, (te : Int)) })).ptpSend p m
  else d

/-- Pdelay_Req of a port (R392). -/
def pdelayReqSend (d : Device) (p te : Nat) : Device :=
  if !d.peerDelay then d
  else
    let seq := d.ptp.seqPdelay
    let m := d.ptpHeader p 2 54 0 (-(d.asym p)) seq 5 127 ++ List.replicate 20 0
    (d.modPtp (fun x => { x with
      seqPdelay := (seq + 1) % 65536
      pdelayReq := x.pdelayReq.filter (fun e => e.1 != p) ++ [(p, seq, (te : Int))] })).ptpSend p m

/-- Sync of a master (R391). -/
def syncSend (d : Device) (te : Nat) : Device :=
  if d.num .TIM_PTP_ROLE 0 = 2 then
    let p := d.num .TIM_PTP_PORT 0
    let seq := d.ptp.seqSync
    let log := d.int .TIM_PTP_LOG_SYNC 0
    let d := d.modPtp (fun x => { x with seqSync := (seq + 1) % 65536 })
    let frac : Int := (te % 65536 : Nat)
    if d.on .TIM_PTP_TWO_STEP 0 then
      (d.ptpSend p (d.ptpHeader p 0 44 0x0200 0 seq 0 log ++ List.replicate 10 0)).ptpSend p (d.ptpHeader p 8 44 0 frac seq 2 log ++ stampOctets te)
    else d.ptpSend p (d.ptpHeader p 0 44 0 frac seq 0 log ++ stampOctets te)
  else d

/-- Announce of a master (R391). -/
def announceSend (d : Device) : Device :=
  if d.num .TIM_PTP_ROLE 0 = 2 then
    let p := d.num .TIM_PTP_PORT 0
    let seq := d.ptp.seqAnnounce
    let pr := d.num .TIM_PTP_PRIORITY 0
    let body := List.replicate 10 0 ++ be 2 37 ++ [0, pr / 256, d.num .TIM_PTP_CLOCK_CLASS 0, 0xFE] ++ be 2 0xFFFF ++ [pr % 256]
      ++ (d.portIdentity 0).take 8 ++ be 2 0 ++ [0xA0]
    (d.modPtp (fun x => { x with seqAnnounce := (seq + 1) % 65536 })).ptpSend p
      (d.ptpHeader p 11 64 0x0008 0 seq 5 (d.int .TIM_PTP_LOG_ANNOUNCE 0) ++ body)
  else d

end Device

/-- SYNC_RX (R389, R392): `t` is its stamp, `te` that of its forwarding. -/
def execSyncRx (port : Nat) (m : PtpMsg) (t te : Nat) (s : State) : Host.Outcome State Fault Refusal :=
  run (WF.syncRx port m t te) s fun d =>
    let (d, mine) := d.ptpArrive port m.transport m.octets false
    let d := d.tcSync port m.transport m.octets t te
    if mine then d.ocSync port m.octets t else d

/-- FOLLOW_UP_RX (R389, R392). -/
def execFollowUpRx (port : Nat) (m : PtpMsg) (s : State) : Host.Outcome State Fault Refusal :=
  run (WF.followUpRx port m) s fun d =>
    let (d, mine) := d.ptpArrive port m.transport m.octets false
    let d := d.tcFollowUp port m.transport m.octets
    if mine then d.ocFollowUp port m.octets else d

/-- DELAY_REQ_RX (R391, R392). -/
def execDelayReqRx (port : Nat) (m : PtpMsg) (t te : Nat) (s : State) : Host.Outcome State Fault Refusal :=
  run (WF.delayReqRx port m t te) s fun d =>
    let (d, mine) := d.ptpArrive port m.transport m.octets false
    let d := d.tcForward port m.transport (ptpWithCorr m.octets (ptpCorr m.octets + ((te : Int) - t)))
    if mine then d.ocDelayReq port m.octets t else d

/-- DELAY_RESP_RX (R389). -/
def execDelayRespRx (port : Nat) (m : PtpMsg) (s : State) : Host.Outcome State Fault Refusal :=
  run (WF.delayRespRx port m) s fun d =>
    let (d, mine) := d.ptpArrive port m.transport m.octets false
    let d := d.tcForward port m.transport m.octets
    if mine then d.ocDelayResp port m.octets else d

/-- PDELAY_REQ_RX (R392): never forwarded. -/
def execPdelayReqRx (port : Nat) (m : PtpMsg) (t te : Nat) (s : State) : Host.Outcome State Fault Refusal :=
  run (WF.pdelayReqRx port m t te) s fun d =>
    let (d, mine) := d.ptpArrive port m.transport m.octets true
    if mine then d.pdelayAnswer port m.octets t te else d

/-- PDELAY_RESP_RX (R392). -/
def execPdelayRespRx (port : Nat) (m : PtpMsg) (t : Nat) (s : State) : Host.Outcome State Fault Refusal :=
  run (WF.pdelayRespRx port m t) s fun d =>
    let (d, mine) := d.ptpArrive port m.transport m.octets true
    if mine then d.pdelayResp port m.octets t else d

/-- PDELAY_RESP_FOLLOW_UP_RX (R392). -/
def execPdelayRespFollowUpRx (port : Nat) (m : PtpMsg) (s : State) : Host.Outcome State Fault Refusal :=
  run (WF.pdelayRespFollowUpRx port m) s fun d =>
    let (d, mine) := d.ptpArrive port m.transport m.octets true
    if mine then d.pdelayFollowUp port m.octets else d

/-- ANNOUNCE_RX (R389). -/
def execAnnounceRx (port : Nat) (m : PtpMsg) (s : State) : Host.Outcome State Fault Refusal :=
  run (WF.announceRx port m) s fun d =>
    let (d, mine) := d.ptpArrive port m.transport m.octets false
    let d := d.tcForward port m.transport m.octets
    if mine then d.ocAnnounce port m.octets else d

/-- ANNOUNCE_RECEIPT_TIMEOUT (R389): the master is lost, and the clock chooses again. -/
def execAnnounceReceiptTimeout (s : State) : Host.Outcome State Fault Refusal :=
  run true s fun d =>
    let lost := d.oct .TIM_PTP_MASTER 0
    if lost = [] then d
    else
      let d := d.modPtp (fun x => { x with foreign := x.foreign.filter (fun f => f.ident != lost) })
      (if d.num .TIM_SRC 0 = 1 then d.servoHoldover else d).chooseMaster

/-- DELAY_REQ_SEND (R389). -/
def execDelayReqSend (te : Nat) (s : State) : Host.Outcome State Fault Refusal := run (WF.delayReqSend te) s fun d => d.delayReqSend te

/-- PDELAY_REQ_SEND (R392). -/
def execPdelayReqSend (port te : Nat) (s : State) : Host.Outcome State Fault Refusal := run (WF.pdelayReqSend port te) s fun d => d.pdelayReqSend port te

/-- SYNC_SEND (R391). -/
def execSyncSend (te : Nat) (s : State) : Host.Outcome State Fault Refusal := run (WF.syncSend te) s fun d => d.syncSend te

/-- ANNOUNCE_SEND (R391). -/
def execAnnounceSend (s : State) : Host.Outcome State Fault Refusal := run true s Device.announceSend

/-- SIGNALING_MANAGEMENT_RX (R387, R392): any message that the clock does not consume. The transparent clock forwards it unchanged; with it off it is discarded. -/
def execSignalingManagementRx (port : Nat) (m : PtpMsg) (s : State) : Host.Outcome State Fault Refusal :=
  run (WF.signalingManagementRx port m) s fun d =>
    let (d, mine) := d.ptpArrive port m.transport m.octets false
    let d := d.bumpIf (mine && !d.on .TIM_TC_EN 0) .TIM_PORT_BAD port
    d.tcForward port m.transport m.octets

end Sys2Proof.Machine
end

