-- ==== Sys2Proof/Machine/Trust.lean ====
section
/-!
DEFINITION. Firmware images and their verification (R371, R372), and the certified-run hold (R379, R380). The commands that write objects are in
`Commands`; what they do is here.
-/
namespace Sys2Proof.Machine

/-- The commit scope of an object (R46): the channel whose block it lies in, or the device. -/
def Key.scope (k : Key) : Scope :=
  if 0x4000 ≤ k.index ∧ k.index < 0x4400 then .channel ((k.index - 0x4000) / 0x40) else .device

/-! ## The certificates (R369) -/

/-- What R369 states of a certificate; bit 0 of `usage` is digitalSignature and bit 5 keyCertSign. -/
structure Certificate where
  unit : Octets
  issuer : Octets
  subject : Octets
  serial : Octets
  notAfter : Octets
  usage : Nat
  key : Octets
deriving DecidableEq, Repr

/-- The DER of a certificate, at most 2,048 octets (R369). -/
def Certificate.der (c : Certificate) : Octets :=
  (Config.certDer c.unit c.issuer c.subject c.serial c.notAfter c.usage c.key).take 2048

/-- The certificates that a unit holds (R369): 0 that of the device, whose key is TRU_PUBKEY, and 1 that of the manufacturing CA. -/
def Identity.certificate (id : Identity) (k : Nat) : Certificate :=
  let ca := ascii "Palluhal Volaux Manufacturing CA"
  if k = 0 then
    { unit := id.serial, issuer := ca, subject := ascii "Volaux Alagoex " ++ id.serial, serial := id.serial, notAfter := ascii "99991231235959Z", usage := 1
      key := Ecdsa.publicKey (Config.privateKey id.serial) }
  else { unit := id.serial, issuer := ascii "Palluhal Volaux Root", subject := ca, serial := [], notAfter := Config.caNotAfter, usage := 32, key := Config.caKey }

/-! ## Firmware images (R371) -/

/-- The signed bytes of a header. -/
def imageSigned (img : Octets) : Octets := slice img 0 256

/-- The measurement of an image (R371). -/
def imageMeasurement (img : Octets) : Octets := sha256 (imageSigned img)

/-- SVN of an image. -/
def imageSvn (img : Octets) : Nat := leAt img 12 2

/-- VERSION of an image. -/
def imageVersion (img : Octets) : Nat := leAt img 8 4

/-- The header of an image is valid (R371, the first four conditions), against the fuses. -/
def imageHeaderOk (f : Fuses) (img : Octets) : Bool :=
  let key := slice img 64 64
  let slot := octet img 6
  leAt img 0 4 == 0x56464C41 && leAt img 4 2 == 1 && octet img 7 == 0 && leAt img 14 2 == 0
    && (slice img 20 12).all (· == 0) && (slice img 128 128).all (· == 0)
    && slot < 4 && !bit f.revoked slot && f.keyHash.getD slot [] == sha256 key
    && Ecdsa.verify key (imageSigned img) (slice img 256 64) && f.svnMin ≤ imageSvn img && imageSvn img ≤ 63

/-- The body of an image lies in it and hashes to BODY_HASH (R371). -/
def imageBodyOk (img : Octets) : Bool :=
  let n := leAt img 16 4
  n ≤ 16776896 && 320 + n ≤ img.length && sha256 (slice img 320 n) == slice img 32 32

/-- The slot that runs, with its image (R371): of those with a valid header, by higher SVN, then higher VERSION, then slot 0, the first whose body matches. -/
def chooseSlot (f : Fuses) (slot0 slot1 : Octets) : Option (Nat × Octets) :=
  let before := imageSvn slot1 < imageSvn slot0 ∨ (imageSvn slot1 = imageSvn slot0 ∧ imageVersion slot1 ≤ imageVersion slot0)
  let order := if before then [(0, slot0), (1, slot1)] else [(1, slot1), (0, slot0)]
  (order.filter (fun e => imageHeaderOk f e.2)).find? (fun e => imageBodyOk e.2)

namespace Device

/-! ## Staging (R372) -/

/-- Why a write of TRU_FW_STAGE is refused: 0x06 while one is verified or written, 0x04 for a source outside scratch; 0 otherwise. -/
def fwStageRefused (d : Device) (n : Nat) : Nat :=
  if d.num .TRU_FW_STATE 0 = 1 ∨ d.num .TRU_FW_STATE 0 = 2 then 6
  else if !d.ident.inScratch (d.num .TRU_FW_SRC 0) n then 4
  else 0

/-- TRU_FW_STAGE written with the image's length: its verification begins. -/
def fwStage (d : Device) (n : Nat) : Device :=
  let img := d.dramPeek (d.num .TRU_FW_SRC 0) n
  { (d.set .TRU_FW_STATE 0 1) with staging := some (img, imageSvn img) }

/-- The verification ends: an image that passes is written into the slot that is not running and journaled; otherwise it is REJECTED and flash is unchanged. -/
def fwStageDone (d : Device) : Device :=
  match d.staging with
  | none => d
  | some (img, svn) =>
    let d := { d with staging := none }
    if imageHeaderOk d.fuses img && imageBodyOk img then
      let m := imageMeasurement img
      let d := (d.set .TRU_FW_STATE 0 3).setOct .TRU_FW_STAGED_MEAS 0 m
      (d.emit (.flash (1 - d.num .DEV_FW_SLOT 0) img)).journalDevice 0x0A ⟨.TRU_FW_STAGE, 0⟩ 11 svn m
    else d.set .TRU_FW_STATE 0 4

/-- TRU_SVN_LOCK written with the running SVN: the minimum is burned up to it, and journaled. -/
def svnLock (d : Device) (v : Nat) : Device :=
  let m := Nat.max d.fuses.svnMin v
  let d := { d with fuses := { d.fuses with svnMin := m } }
  (d.set .DEV_FW_SVN_MIN 0 m).journalDevice 0x0A ⟨.TRU_SVN_LOCK, 0⟩ 2 v (le 2 v)

/-! ## The certified-run hold (R379, R380) -/

/-- A hold is in force. -/
def heldNow (d : Device) : Bool := d.num .TRU_HOLD_STATE 0 = 1

/-- An index lies in an area of the scope (R379). -/
def areaCovers (scope index : Nat) : Bool :=
  let chan := 0x4000 ≤ index && index < 0x4400
  let off := index % 0x40
  let within (lo hi : Nat) : Bool := lo ≤ index && index ≤ hi
  (bit scope 0 && within 0x6100 0x61FF) || (bit scope 1 && within 0x6200 0x63FF) || (bit scope 2 && within 0x6400 0x64FF)
    || (bit scope 3 && (within 0x6000 0x60FF || (chan && 0x20 ≤ off && off ≤ 0x27)))
    || (bit scope 4 && chan && off < 0x20 && off != 4)
    || (bit scope 5 && ((chan && 0x28 ≤ off && off ≤ 0x2F) || within 0x6500 0x65FF))
    || (bit scope 6 && within 0x2200 0x22FF) || (bit scope 7 && within 0x5000 0x5023)

/-- A PROTECTED line's objects, and its source cell's, are covered by every hold (R405). -/
def protectedCovers (d : Device) (index : Nat) : Bool :=
  (List.range 64).any (fun l => bit (d.num .EVT_LINE_ATTR l) 0 &&
    (index == (Key.mk .EVT_LINE_SRC l).index ||
      (let src := d.num .EVT_LINE_SRC l
       0x100 ≤ src && index == (Key.mk .EVT_CELL_TRUTH (src - 0x100)).index)))

/-- A hold of a scope covers an object (R379). -/
def holdCovers (d : Device) (scope : Nat) (k : Key) : Bool :=
  match k.reg with
  | .DEV_COMMIT | .CH_COMMIT | .DEV_STAGE_DISCARD | .CH_STAGE_DISCARD => false
  | .CH_CAL_SEED | .TRU_HOLD_SCOPE | .TRU_HOLD_ID | .TRU_HOLD_REPEATS => true
  | .TRU_FW_STAGE | .TRU_SVN_LOCK => bit scope 8
  | _ => areaCovers scope k.index || d.protectedCovers k.index

/-- An object is under the hold in force. -/
def underHold (d : Device) (k : Key) : Bool := d.heldNow && d.holdCovers (d.num .TRU_HOLD_SCOPE 0) k

/-- The RWS objects of a scope whose values in two copies differ, by index and subindex. -/
def differing (d : Device) (sc : Scope) (a b : Store) : List Key :=
  let val (st : Store) (k : Key) : Val := (st.find k).getD (d.ident.dflt k.reg k.inst)
  let ks := ((a ++ b).map Prod.fst).eraseDups
  sortBy Key.at_ (ks.filter (fun k => decide (k.reg.row.acc = .rws) && decide (k.scope = sc) && val a k != val b k))

/-- The entry of a hold's begin or end (R374, R380): session, peer, and scope, ID and repeats as value. -/
def journalHold (d : Device) (session : Nat) (peer : Octets) (port : Nat) : Device :=
  let v := le 4 (d.num .TRU_HOLD_SCOPE 0) ++ le 4 (d.num .TRU_HOLD_ID 0) ++ le 4 (d.num .TRU_HOLD_REPEATS 0)
  let k : Key := ⟨.TRU_HOLD_STATE, 0⟩
  d.journal 0x09 0 session k.index k.sub 11 (d.num .TRU_HOLD_ID 0) v peer port

/-- Why a write of TRU_HOLD_SET is refused (R380); 0 when it is not. -/
def holdSetRefused (d : Device) : Nat :=
  let scope := d.num .TRU_HOLD_SCOPE 0
  if d.heldNow then 6
  else if d.pend.any (fun p => (d.differing p.scope p.values d.live).any (d.holdCovers scope)) then 6
  else if scope = 0 then 4
  else 0

/-- A hold begins (R380). -/
def holdSet (d : Device) (session : Nat) : Device :=
  let d := (d.set .TRU_HOLD_STATE 0 1).set .TRU_HOLD_LEFT 0 (d.num .TRU_HOLD_REPEATS 0)
  let d := d.journalHold session (d.sessionPeer session).1 (d.sessionPeer session).2
  d.set .TRU_HOLD_JSEQ 0 d.jrn.head

/-- Why a write of TRU_HOLD_RELEASE is refused (R380); 0 when it is not. -/
def holdReleaseRefused (d : Device) (v : Nat) : Nat :=
  if !d.heldNow then 2 else if v ≠ d.num .TRU_HOLD_ID 0 then 4 else 0

/-- No hold is in force any longer. -/
def holdEnd (d : Device) : Device := ((d.set .TRU_HOLD_STATE 0 0).set .TRU_HOLD_LEFT 0 0).set .TRU_HOLD_JSEQ 0 0

/-- A hold is released (R380). -/
def holdRelease (d : Device) (session : Nat) : Device :=
  (d.journalHold session (d.sessionPeer session).1 (d.sessionPeer session).2).holdEnd

/-- A device repeat boundary counts against a hold's repeats and ends it at the last (R380). -/
def holdBoundary (d : Device) : Device :=
  if !d.heldNow || d.num .TRU_HOLD_REPEATS 0 = 0 then d
  else if d.num .TRU_HOLD_LEFT 0 ≤ 1 then (d.journalHold 0xFFFF (List.replicate 16 0) 0).holdEnd
  else d.set .TRU_HOLD_LEFT 0 (d.num .TRU_HOLD_LEFT 0 - 1)

end Device

/-- FW_STAGE_DONE (R372). -/
def execFwStageDone (s : State) : Host.Outcome State Fault Refusal := run true s fun d => d.fwStageDone

end Sys2Proof.Machine
end

