-- ==== Sys2Proof/Machine/Power.lean ====
section
/-!
DEFINITION. Clocks, operating points, power states, temperature and leases (R433 to R451): the clock monitors, reference failure and return, the
glitch-free switches, the sequencer, STANDBY and DEEP_SLEEP.
-/
namespace Sys2Proof.Machine

/-- Frequency of a point, MHz (R441). -/
def pointMhz (p : Nat) : Nat := match p with | 0 => 1250 | 1 => 1000 | 2 => 750 | 3 => 500 | _ => 250

/-- VDD_CORE of a point, mV (R441). -/
def pointMv (p : Nat) : Nat := match p with | 0 => 800 | 1 => 720 | 2 => 660 | 3 => 600 | _ => 550

/-- Port-1 rate of an effort level at P0, Gsample/s (R319). -/
def portOneRate (effort : Nat) : Nat := if effort ≤ 3 then 120 else if effort ≤ 6 then 96 else 48

/-- The count expected of a reference in a window (R436). -/
def windowExpected (k : Nat) : Nat := match k with | 0 => 2048 | 1 => 3200 | _ => 2560

/-- A window's count lies within ± 12.5 % of the expected one (R436). -/
def windowGood (k n : Nat) : Bool :=
  let e := windowExpected k
  e * 7 ≤ n * 8 && n * 8 ≤ e * 9

/-- VOUT_COMMAND of a voltage in mV under exponent `n` (R442): round(V × 2^−N), ties up. -/
def voutCode (n : Int) (mv : Nat) : Nat :=
  let c := if n < 0 then divRound ((mv : Int) * 2 ^ n.natAbs) 1000 else divRound mv (1000 * 2 ^ n.natAbs)
  ofSigned 16 c

namespace Device

/-- Reference `k`. -/
def refOf (d : Device) (k : Nat) : RefClock := d.refs.getD k {}

/-- Reference `k` changed. -/
def modRef (d : Device) (k : Nat) (f : RefClock → RefClock) : Device := { d with refs := modTab 3 {} d.refs k f }

/-! ## The sequencer (R441 to R443) -/

/-- The demand, times 1,000, that a channel places on its slices: of the live set, or of the accepted one (`pending`). -/
def sliceDemand (d : Device) (n : Nat) (pending : Bool) : Nat :=
  let v := match (if pending then d.pendOf (.channel n) else none) with
    | some p => d.storeView p.values n
    | none => d.liveView n
  if v .CH_ENABLE = 0 then 0 else v.demandMilli

/-- The load of a channel's slices, samples per second × 1,000 on each (R443): T / s, and the sum of both demands on a shared slice. -/
def sliceLoad (d : Device) (n : Nat) : Nat :=
  let p := d.num .CH_SLICE_PARTNER n
  let s := d.num .CH_SLICES n
  if s = 0 then 0 else ceilDiv (d.sliceDemand n false + (if p < 16 then d.sliceDemand p false else 0)) s

/-- The load that an accepted set will place on the slices its plan gives the channel (R123, R443); 0 with none pending. -/
def sliceLoadNext (d : Device) (n : Nat) : Nat :=
  match (d.front n).plan with
  | none => 0
  | some p => if p.slices = 0 then 0 else ceilDiv (d.sliceDemand n true + (if p.partner < 16 then d.sliceDemand p.partner true else 0)) p.slices

/-- The sum of CH_SAMPLE_RATE over the channels that belong to a stitch set (R320), samples per second, with the channels' views given. -/
def setRates (views : Nat → View) : Nat :=
  ((List.range 16).filter (fun n => views n .CH_STI_SET < 8)).foldl (fun a n => a + (views n).demandMilli / 1000) 0

/-- The view of a channel's newest accepted set. -/
def acceptedView (d : Device) (n : Nat) : View :=
  match d.pendOf (.channel n) with
  | some p => d.storeView p.values n
  | none => d.liveView n

/-- The check of R320 at a core frequency: an effort's port-1 rate, scaled, is at least 1.1 × the rates. -/
def effortOk (rates effort mhz : Nat) : Bool := rates * 11 * 1250 ≤ portOneRate effort * 1000000000 * 10 * mhz

/-- A point carries what the channels demand (R443), those of accepted sets that wait for a faster point included. -/
def pointFits (d : Device) (p : Nat) : Bool :=
  let f := pointMhz p
  let rates := Nat.max (setRates d.liveView) (setRates d.acceptedView)
  (List.range 16).all (fun n => d.sliceLoad n ≤ 4 * f * 1000000 * 1000 && d.sliceLoadNext n ≤ 4 * f * 1000000 * 1000) &&
    effortOk rates (d.num .HFT_LEARN_EFFORT 0) f && effortOk rates (d.num .HFT_SEAL_EFFORT 0) f

/-- The point that the state and the demands call for (R16, R442, R443): P4 in STANDBY, P0 for leaving it, else the slowest that fits. -/
def wantedPoint (d : Device) : Nat :=
  if d.num .DEV_STATE 0 = 3 then (if d.wakeAt.isSome then 0 else 4)
  else if d.num .PWR_VR_MODE 0 = 1 then 0
  else (((List.range (d.num .PWR_POINT_FLOOR 0 + 1)).reverse).find? d.pointFits).getD 0

/-- Requests to the two-wire block (R459); one made while the bus is STUCK ends with TIMEOUT (R466), which software sees in TWI_T_STATUS and which to the
sequencer's read of VOUT_MODE is no answer (R442). -/
def twiAsk (d : Device) (r : TwiReq) : Device :=
  if d.num .TWI_BUS_STATE 0 = 5 then
    if r.who = 2 then d.set .TWI_T_STATUS 0 6 else if r.who = 0 && r.wr == [0x20] then d.raiseFault .dvfs else d
  else { d with twi := { d.twi with pending := d.twi.pending ++ [r] } }

/-- The sequencer commands a voltage (R442): a write of VOUT_COMMAND, low byte first. -/
def commandVolt (d : Device) (n : Int) (mv : Nat) : Device :=
  { (d.twiAsk { who := 0, addr := d.num .PWR_VR_ADDR 0, wr := 0x21 :: le 2 (voutCode n mv), rd := 0 }) with voltMv := mv }

/-- The core runs at a point's frequency (R441). -/
def setPoint (d : Device) (p : Nat) : Device := (d.set .PWR_POINT 0 p).set .CLK_CORE_HZ 0 (pointMhz p * 1000000)

/-- The highest point whose voltage the monitor confirms (R441, R442). -/
def confirmedPoint (d : Device) : Nat := ((List.range 4).find? (fun p => pointMv p ≤ d.num .PWR_VDD_CORE_MV 0 + 15)).getD 4

/-- With no change of point to come, STANDBY is reached as a power state (R444). -/
def powerSettled (d : Device) : Device := if d.resting && d.num .PWR_STATE 0 = 0 then d.set .PWR_STATE 0 1 else d

/-- DVFS_POINT_EVALUATE (R443): the sequencer begins a change when the point wanted is not the one in force and none is under way. Without an exponent from
VOUT_MODE no voltage can be commanded, and the core keeps its point (R442). -/
def evaluatePoint (d : Device) : Device :=
  let t := d.wantedPoint
  let p := d.num .PWR_POINT 0
  let fixed := d.num .PWR_VR_MODE 0 = 1
  if d.dvfs != .idle || d.on .CLK_COAST 0 || d.num .CLK_CORE_PLL 0 = 2 || !(d.bring == .up || d.bring == .train) then d
  else if t = p then d.powerSettled
  else if fixed then { d with dvfs := if t < p then .raisePll t else .lowerPll t }
  else match d.vrExp with
    | none => d.powerSettled
    | some n => if t < p then { (d.commandVolt n (pointMv t)) with dvfs := .raiseVolt t } else { d with dvfs := .lowerPll t }

/-- A change of point has completed (R441). -/
def moveDone (d : Device) : Device := (({ d with dvfs := .idle }).bump .PWR_DVFS_MOVES 0).evaluatePoint

/-! ## STANDBY (R16, R444, R446) -/

/-- DEV_STATE takes a state (R14, R16); outside INSPECTING no heft is in force (R209). -/
def toState (d : Device) (st : Nat) : Device :=
  let d := (d.set .DEV_STATE 0 st).bump .DEV_STATE_ENTRIES 0
  if st = 2 then d else (d.set .HFT_RUN_PADDOCK 0 0xFF).set .HFT_RUN_GEN 0 0

/-- Every camera in a mode is sent MODE STOP on entry to STANDBY (R101). -/
def remodeAll (d : Device) : Device := (List.range 16).foldl remode d

/-- Every enabled channel's camera goes on at step 6 of R100 on leaving STANDBY (R101). -/
def resumeAll (d : Device) : Device := (List.range 16).foldl bringMode d

/-- The device asks a camera to let its transmitters sleep (R75, R77). -/
def sleepLanes (d : Device) : Device :=
  (List.range 32).foldl (fun d l => if d.maySleep l && !bit (d.num .LNK_SLEEP_STATE l) 1 then d.askSleep l 1 else d) d

/-- The device wakes the camera lanes, its own transmitters first (R76). -/
def wakeLanes (d : Device) : Device :=
  (List.range 32).foldl (fun d l =>
    let d := d.txWake l
    if bit (d.num .LNK_SLEEP_STATE l) 1 || (d.lane l).sleepReq.isSome || (d.lane l).sleepAcked then
      (d.modLane l (fun x => { x with sleepReq := none, sleepAcked := false })).sendSleep l 5 1
    else d) d

/-- Entry to STANDBY (R16, R446): cameras are sent MODE STOP, their lanes sleep, and the sequencer moves to P4. -/
def enterStandby (d : Device) : Device :=
  if d.num .DEV_STATE 0 = 3 then
    if d.wakeAt.isNone then d else (({ d with wakeAt := none }).remodeAll).sleepLanes.evaluatePoint
  else
    let d := { (d.toState 3) with leftState := d.num .DEV_STATE 0, wakeAt := none }
    (d.remodeAll).sleepLanes.evaluatePoint

/-- Some cause of forced STANDBY is present (R446). -/
def forcedNow (d : Device) : Bool := d.forced.tj || d.forced.stack || d.forced.supply || d.forced.refSys

/-- The device begins to leave STANDBY when RUN is requested and no cause is present (R16, R446, R455). -/
def wakeCheck (d : Device) : Device :=
  if d.num .DEV_STATE 0 = 3 && d.wakeAt.isNone && d.num .DEV_RUN_REQ 0 = 1 && !d.forcedNow && d.num .PWR_STATE 0 != 2 then
    ((({ d with wakeAt := some d.tick }).wakeLanes).resumeAll).evaluatePoint
  else d

/-- Every enabled channel's link is FULL (R16). -/
def allFull (d : Device) : Bool := (List.range 16).all (fun n => !d.on .CH_ENABLE n || d.num .CH_LINK_STATE n = 3)

/-- The device leaves STANDBY for a state; the point follows it (R16, R444). -/
def leaveStandby (d : Device) (st : Nat) : Device :=
  ((({ d with wakeAt := none }).toState st).set .PWR_STATE 0 0).evaluatePoint

/-- The first two conditions for leaving STANDBY hold (R16): the lanes have been woken, and P0 is reached. -/
def wakeReady (d : Device) : Bool := d.num .DEV_STATE 0 = 3 && d.wakeAt.isSome && d.num .PWR_POINT 0 = 0 && d.dvfs == .idle

/-- A cause of forced STANDBY arises. -/
def force (d : Device) (f : Forced → Forced) : Device :=
  let d := { d with forced := f d.forced }
  if d.bring = .up then d.enterStandby else d

/-- A cause of forced STANDBY ends. -/
def unforce (d : Device) (f : Forced → Forced) : Device := ({ d with forced := f d.forced }).wakeCheck

/-! ## References (R435 to R439) -/

/-- A switch waits for the old clock (R439); one that waits for the same output is replaced. -/
def askSwitch (d : Device) (which target : Nat) : Device :=
  { d with switches := d.switches.filter (fun x => x.which ≠ which) ++ [{ which := which, target := target }] }

/-- The PCIe link goes down. -/
def pcieDown (d : Device) : Device := (d.set .PCI_LINK_SPEED 0 0).set .PCI_LINK_WIDTH 0 0

/-- What the loss of a reference does to its domains (R437). -/
def domainFails (d : Device) (k : Nat) : Device :=
  match k with
  | 0 =>
    let (hz, d) := d.fresh 50000001
    let d := { (d.setOn .CLK_COAST 0 true) with dvfs := .idle, switches := d.switches.filter (fun x => x.which ≠ 0) }
    let d := (d.set .PWR_POINT 0 4).set .CLK_CORE_HZ 0 (225000000 + hz)
    d.pcieDown.force (fun f => { f with refSys := true })
  | 1 => (List.range 36).foldl (fun d l => if d.lstate l = LS.off then d else (d.toSeek l).laneChanged l) d
  | _ => ((d.setOn .TIM_CLOCK_OK 0 false).servoHoldover).askSwitch 1 1

/-- The fault of a reference (R452). -/
def refFault (k : Nat) : FaultBit := match k with | 0 => .refSys | 1 => .refSd | _ => .refTime

/-- REF_FAILURE (R437): the ready flag clears, the fault is raised, and the domains act. -/
def refFail (d : Device) (k : Nat) : Device :=
  let d := d.modRef k (fun _ => { failed := true })
  let d := ((d.set .CLK_REF_STATE k 3).bump .CLK_REF_FAILS k).faultOn (refFault k)
  d.domainFails k

/-- The failed reference is usable (R438): ready again, and sixteen good windows after that. -/
def refUsable (d : Device) (k : Nat) : Bool := (d.refOf k).failed && 16384 ≤ (d.refOf k).cycles && 16 ≤ (d.refOf k).good

/-- REF_RETURN (R438): the domains return to the reference, behind a switch that is still waiting (R455). -/
def refReturn (d : Device) (k : Nat) : Device :=
  let d := (d.modRef k (fun x => { x with failed := false, inUse := true })).faultOff (refFault k)
  let d := d.faultOff .pllLock
  match k with
  | 0 => ({ d with dvfs := .backPll }).unforce (fun f => { f with refSys := false })
  | 1 => d
  | _ => { d with switches := d.switches ++ [{ which := 1, target := 0 }] }

/-- One reference's monitor window (R435, R436). -/
def monitorWindow (d : Device) (k n : Nat) : Device :=
  let d := d.set .CLK_REF_WINDOW k n
  let r := d.refOf k
  if windowGood k n then
    let d := d.modRef k (fun x => { x with
      bad := 0, cycles := Nat.min 16384 (x.cycles + n), good := if 16384 ≤ x.cycles then Nat.min 16 (x.good + 1) else 0 })
    let d := if 16384 ≤ (d.refOf k).cycles then d.set .CLK_REF_STATE k 2 else if r.failed then d else d.set .CLK_REF_STATE k 1
    if d.refUsable k && d.on .CLK_AUTO_RETURN 0 then d.refReturn k else d
  else if r.inUse then
    let d := d.modRef k (fun x => { x with bad := x.bad + 1 })
    if 2 ≤ (d.refOf k).bad then d.refFail k else d
  else
    let d := d.modRef k (fun x => { x with bad := x.bad + 1, cycles := 0, good := 0 })
    if r.failed then d.set .CLK_REF_STATE k 3 else d.set .CLK_REF_STATE k (if n = 0 then 0 else 1)

/-- CLK_RETURN (R438): every usable failed reference returns. -/
def clkReturn (d : Device) : Device := (List.range 3).foldl (fun d k => if d.refUsable k then d.refReturn k else d) d

/-- A PLL lost lock with a good reference (R436). -/
def pllLoss (d : Device) (k : Nat) : Device := if (d.refOf k).inUse then (d.faultOn .pllLock).refFail k else d

/-- A source of CLKOUT is ready (R439): a reference by its ready flag, every other one always. -/
def clkReady (d : Device) (src : Nat) : Bool := !(1 ≤ src && src ≤ 3) || d.num .CLK_REF_STATE (src - 1) = 2

/-- A glitch-free switch completes (R439); one to a source whose ready flag has cleared is not made. -/
def switchDone (d : Device) (which : Nat) : Device :=
  match d.switches.find? (fun x => x.which = which) with
  | none => d
  | some x =>
    let d := { d with switches := d.switches.erase x }
    match which with
    | 0 =>
      let d := d.set .CLK_CORE_PLL 0 (if d.num .CLK_CORE_PLL 0 = 0 then 1 else 0)
      match d.dvfs with
      | .raiseSwitch t => (d.setPoint t).moveDone
      | .lowerSwitch t =>
        let d := d.setPoint t
        match (if d.num .PWR_VR_MODE 0 = 1 then none else d.vrExp) with
        | some n => { (d.commandVolt n (pointMv t)) with dvfs := .lowerVolt t }
        | none => (d.moveDone).powerSettled
      | .backSwitch => ({ (d.setPoint x.target) with dvfs := .idle }).setOn .CLK_COAST 0 false |>.evaluatePoint
      | _ => d
    | 1 => (d.set .CLK_TIME_SRC 0 x.target).setOn .TIM_CLOCK_OK 0 (x.target = 0)
    | _ => if d.clkReady x.target then { d with clkOut := x.target } else d

/-- The idle core PLL has locked (R441): the core's switch begins. -/
def corePllLocked (d : Device) : Device :=
  match d.dvfs with
  | .raisePll t => ({ d with dvfs := .raiseSwitch t }).askSwitch 0 t
  | .lowerPll t => ({ d with dvfs := .lowerSwitch t }).askSwitch 0 t
  | .backPll => ({ d with dvfs := .backSwitch }).askSwitch 0 (d.num .PWR_POINT 0)
  | _ => d

/-- The monitor reads VDD_CORE (R441): a wait for the commanded voltage ends when it is reached. -/
def voltReading (d : Device) (mv : Nat) : Device :=
  let d := d.set .PWR_VDD_CORE_MV 0 mv
  match d.dvfs with
  | .raiseVolt t => if pointMv t ≤ mv + 15 then { d with dvfs := .raisePll t } else d
  | .lowerVolt t => if mv ≤ pointMv t + 15 then (d.moveDone).powerSettled else d
  | _ => d

/-- A wait of the sequencer has lasted PWR_VR_TIMEOUT_US (R441): a raise keeps the old point; a lowering has lowered the frequency. -/
def dvfsTimeout (d : Device) : Device :=
  match d.dvfs with
  | .raiseVolt _ => ({ d with dvfs := .idle }).raiseFault .dvfs
  | .lowerVolt _ => (({ d with dvfs := .idle }).raiseFault .dvfs).powerSettled
  | _ => d

/-- The voltage against which the monitor's thresholds stand (R441, R442). -/
def pointVolt (d : Device) : Nat := if d.num .PWR_VR_MODE 0 = 1 then 800 else pointMv (d.num .PWR_POINT 0)

/-- VDD_CORE low (R441): SUPPLY, 250 MHz at once, forced STANDBY. -/
def vddLow (d : Device) (mv : Nat) : Device :=
  let d := d.set .PWR_VDD_CORE_MV 0 mv
  if d.dvfs != .idle || d.pointVolt ≤ mv + 30 then d
  else
    let d := ({ d with rails := (0 :: d.rails).eraseDups }).faultOn .supply
    (d.setPoint 4).force (fun f => { f with supply := true })

/-- VDD_CORE high (R441): SUPPLY; the core keeps its point. -/
def vddHigh (d : Device) (mv : Nat) : Device :=
  let d := d.set .PWR_VDD_CORE_MV 0 mv
  if d.dvfs != .idle || mv ≤ d.pointVolt + 30 then d else ({ d with rails := (0 :: d.rails).eraseDups }).faultOn .supply

/-- A rail leaves its range (R449). -/
def railFault (d : Device) (r : Nat) : Device :=
  let d := { d with rails := (r :: d.rails).eraseDups }
  if d.bring = .held || d.bring = .boot || d.bring = .refs then d else d.faultOn .supply

/-- A rail returns within its range (R441, R449): SUPPLY's condition ends with the last, and VDD_CORE's cause of forced STANDBY with it. -/
def railReturn (d : Device) (r : Nat) : Device :=
  if !d.rails.contains r then d
  else
    let d := { d with rails := d.rails.filter (· != r) }
    let d := if d.rails = [] then d.faultOff .supply else d
    if r = 0 && d.forced.supply then d.unforce (fun f => { f with supply := false }) else d

/-! ## Deep sleep (R444, R445) -/

/-- Why a write of PWR_SLEEP is refused (R444, R470); 0 when it is not. -/
def sleepRefused (d : Device) : Nat :=
  if d.num .PWR_STATE 0 != 1 || !d.twi.pending.isEmpty || d.twi.cur.isSome then 6 else 0

/-- DEEP_SLEEP (R444): the lanes are OFF, and a return to RUN that had begun is given up. -/
def deepSleep (d : Device) : Device :=
  let d := if d.wakeAt.isSome then ({ d with wakeAt := none }).evaluatePoint else d
  let d := d.set .PWR_STATE 0 2
  let d := { d with twi := { d.twi with powered := false } }
  (List.range 36).foldl (fun d l => (d.toOff l).laneChanged l) d

/-- A wake source (R445): back to STANDBY, the lanes that may leave OFF in SEEK. -/
def deepWake (d : Device) : Device :=
  if d.num .PWR_STATE 0 != 2 then d
  else
    let d := d.set .PWR_STATE 0 1
    let d := (List.range 36).foldl (fun d l => if d.laneAllowed l then (d.toSeek l).laneChanged l else d) d
    d.wakeCheck

/-- The end of a tick (R445, R453): a rise of the line in PWR_WAKE_LINE wakes the device, one in the tick of PWR_SLEEP too; faults raised in the tick may be cleared. -/
def wakeTick (d : Device) : Device :=
  let d' := { d with wakeNow := false, raisedNow := 0, twi := { d.twi with raisedNow := 0 } }
  if d.wakeNow then d'.deepWake else d'

/-! ## Temperature (R446) -/

/-- The junction limit in force, °C (R4, R446). -/
def tjLimit (d : Device) : Nat := if d.inFold then d.num .FLD_TJ_MAX 0 else d.num .DEV_TJ_MAX 0

/-- A reading of the die sensors (R446), the highest, in 1/16 °C. -/
def dieReading (d : Device) (raw : Nat) : Device :=
  let t := toSigned 16 raw
  let l : Int := d.tjLimit * 16
  let d := d.setI .PWR_TJ 0 t
  let d := if d.int .PWR_TJ_PEAK 0 < t then d.setI .PWR_TJ_PEAK 0 t else d
  let d := if l - 160 ≤ t then d.faultOn .tjWarn else if t ≤ l - 208 then d.faultOff .tjWarn else d
  if l ≤ t then (d.faultOn .tjMax).force (fun f => { f with tj := true })
  else if t ≤ l - 80 then
    let d := d.faultOff .tjMax
    if d.forced.tj then d.unforce (fun f => { f with tj := false }) else d
  else d

/-- A reading of the stack's sensor (R298, R315, R446). -/
def stackTemp (d : Device) (raw : Nat) : Device :=
  let t := toSigned 16 raw
  let d := d.stackReading raw
  if 1520 ≤ t then (d.faultOn .stackHot).force (fun f => { f with stack := true })
  else if t ≤ 1440 then
    let d := d.faultOff .stackHot
    if d.forced.stack then d.unforce (fun f => { f with stack := false }) else d
  else d

/-! ## Leases (R450) -/

/-- A revocation is counted and recorded, and raises LEASE (R450). -/
def leaseRevoked (d : Device) (kind holder : Nat) : Device :=
  ((d.bump .FLT_LEASE_REVOKED 0).set .FLT_LEASE_LAST 0 (kind * 2 ^ 24 + holder % 2 ^ 24)).raiseFault .lease

/-- A lease runs out (R450): the holder is fenced, the resource reclaimed and recovery started. A lease that nothing holds does not run out. -/
def leaseExpire (d : Device) (kind holder : Nat) : Device :=
  match kind with
  | 1 => if (match (d.drover holder).cur with | some x => x.queued | none => false) then (d.droverRevoke holder).leaseRevoked 1 holder else d
  | 2 =>
    if holder < 18 && (d.link holder).up && [1, 2, 3].any (fun vc => !(d.txOf holder vc).waiting.isEmpty) then
      (d.restartLink holder).leaseRevoked 2 holder
    else d
  | 3 => d.leaseRevoked 3 holder
  | 5 =>
    match d.seg.closed with
    | [] => d
    | _ :: rest => (((d.modPens (fun x => { x with closed := rest })).countPens).bump .FLT_LEASE_DROPS 0).leaseRevoked 5 holder
  | 6 => if holder < 4 && d.num .FLC_JOB_STATE holder = 1 then (d.endJob holder 4 0).leaseRevoked 6 holder else d
  | _ => d

end Device

/-! ## The commands -/

/-- PLL_LOCK_LOSS (R436): a PLL of the domain of reference `k`. -/
def execPllLockLoss (k : Nat) (s : State) : Host.Outcome State Fault Refusal := run (WF.pllLockLoss k) s fun d => d.pllLoss k

/-- CLOCK_SWITCH_DONE (R439). -/
def execClockSwitchDone (which : Nat) (s : State) : Host.Outcome State Fault Refusal :=
  run (WF.clockSwitchDone which) s fun d => d.switchDone which

/-- CLOCK_SWITCH_FORCED (R439): no acknowledge within 64 cycles. -/
def execClockSwitchForced (which : Nat) (s : State) : Host.Outcome State Fault Refusal :=
  run (WF.clockSwitchForced which) s fun d =>
    if d.switches.any (fun x => x.which = which) then
      (d.set .CLK_FORCED 0 (setBit (d.num .CLK_FORCED 0) which)).switchDone which
    else d

/-- DVFS_PLL_LOCKED (R441). -/
def execDvfsPllLocked (s : State) : Host.Outcome State Fault Refusal := run true s fun d => d.corePllLocked

/-- DVFS_VOLTAGE_REACHED (R441). -/
def execDvfsVoltageReached (mv : Nat) (s : State) : Host.Outcome State Fault Refusal :=
  run (WF.dvfsVoltageReached mv) s fun d => d.voltReading mv

/-- DVFS_TIMEOUT (R441). -/
def execDvfsTimeout (s : State) : Host.Outcome State Fault Refusal := run true s fun d => d.dvfsTimeout

/-- VDD_CORE_LOW (R441). -/
def execVddCoreLow (mv : Nat) (s : State) : Host.Outcome State Fault Refusal := run (WF.vddCoreLow mv) s fun d => d.vddLow mv

/-- VDD_CORE_HIGH (R441). -/
def execVddCoreHigh (mv : Nat) (s : State) : Host.Outcome State Fault Refusal := run (WF.vddCoreHigh mv) s fun d => d.vddHigh mv

/-- SUPPLY_RAIL_FAULT (R449): rails 0 VDD_CORE, 1 VDD_SD, 2 VDDH_SD, 3 VDDQ_M, 4 VPP_M, 5 VDD_IO, 6 VDD_IO33. -/
def execSupplyRailFault (rail : Nat) (s : State) : Host.Outcome State Fault Refusal := run (WF.supplyRailFault rail) s fun d => d.railFault rail

/-- SUPPLY_RAIL_RETURN (R441). -/
def execSupplyRailReturn (rail : Nat) (s : State) : Host.Outcome State Fault Refusal :=
  run (WF.supplyRailReturn rail) s fun d => d.railReturn rail

/-- DEEP_SLEEP_WAKE (R445). -/
def execDeepSleepWake (s : State) : Host.Outcome State Fault Refusal := run true s fun d => d.deepWake

/-- BAR2_READ (R359); a request to BAR2 wakes the device (R445). -/
def execBar2Read (offset n good : Nat) (s : State) : Host.Outcome State Fault Refusal :=
  run (WF.bar2Read offset n good) s fun d => if d.bar2Up then d.deepWake.bar2Read offset n good else d

/-- BAR2_WRITE (R338, R359, R445). -/
def execBar2Write (offset : Nat) (data : Octets) (s : State) : Host.Outcome State Fault Refusal :=
  run (WF.bar2Write offset data) s fun d => if d.bar2Up then d.deepWake.bar2Write offset data else d

/-- MSIX_VECTOR_UNMASK (R361): a write of BAR4, which wakes the device (R445). -/
def execMsixVectorUnmask (v : Nat) (s : State) : Host.Outcome State Fault Refusal := run (WF.msixVectorUnmask v) s fun d => d.deepWake.unmask v

/-- DIE_TEMP_READ (R446). -/
def execDieTempRead (t : Nat) (s : State) : Host.Outcome State Fault Refusal := run (WF.dieTempRead t) s fun d => d.dieReading t

/-- STACK_TEMP_READ (R298). -/
def execStackTempRead (t : Nat) (s : State) : Host.Outcome State Fault Refusal := run (WF.stackTempRead t) s fun d => d.stackTemp t

/-- WATCHDOG_CONFIRM (R451). -/
def execWatchdogConfirm (s : State) : Host.Outcome State Fault Refusal :=
  run true s fun d => if d.wdog then ({ d with wdog := false }).faultOff .watchdog else d

/-- WATCHDOG_EXPIRE (R451): FLT_WDOG_MS without confirmation raises WATCHDOG and interrupts firmware. -/
def execWatchdogExpire (s : State) : Host.Outcome State Fault Refusal :=
  run true s fun d =>
    if d.bring = .train ∨ d.bring = .up then (({ d with wdog := true }).faultOn .watchdog).emit (.note "watchdog interrupt") else d

/-- STANDBY_WAKE_LIMIT (R16): 50 ms after lane wake with P0 reached, some enabled channel is not FULL. -/
def execStandbyWakeLimit (s : State) : Host.Outcome State Fault Refusal :=
  run true s fun d => if d.wakeReady && !d.allFull then d.leaveStandby 0 else d

end Sys2Proof.Machine
end

