-- ==== Sys2Proof/Machine/Check.lean ====
section
/-!
DEFINITION. The checks of a commit (R45): what a set would be after its hand-over, which objects it changes, and every rule of every chapter that the
newest accepted state of the device must meet (R41, R82, R111, R116, R121, R123, R140, R145, R148, R157, R177, R179, R186, R198, R215, R225, R246, R250, R261,
R281, R288, R289, R301, R309, R320, R339, R341, R343, R363, R395, R397, R400, R402, R407, R426, R431, R439, R440, R457, R461). Each rule gives the objects to be
recorded; where a rule names none, the model records one that the rule is about (log entry 20).
-/
namespace Sys2Proof.Machine

/-- An object belongs to the staged part of a scope (R46). -/
def Key.inScope (k : Key) (sc : Scope) : Bool := decide (k.reg.row.acc = .rws) && decide (k.scope = sc)

/-- A copy with the RWS objects of a scope taken from another copy. -/
def Store.takeScope (live vals : Store) (sc : Scope) : Store :=
  (vals.filter (fun e => e.1.inScope sc)).foldl (fun st e => st.ins e.1 e.2) (live.filter (fun e => !e.1.inScope sc))

/-- The RWS objects of a scope that a copy lists. -/
def Store.ofScope (st : Store) (sc : Scope) : Store := st.filter (fun e => e.1.inScope sc)

/-- The instances of an object that a copy lists. -/
def Store.insts (st : Store) (r : Reg) : List Nat := (st.filter (fun e => decide (e.1.reg = r))).map (fun e => e.1.inst)

/-- CLKOUT's source frequency, MHz (R440, R441): the core's is that of P0, the greatest it may have (log entry 20). -/
def clkOutMhz (src : Nat) : Nat × Nat :=
  match src with
  | 1 => (100, 1)
  | 2 => (625, 4)
  | 3 => (125, 1)
  | 4 => (50, 1)
  | 5 => (125, 1)
  | 6 => (1250, 1)
  | _ => (0, 1)

/-- Limits of the bus modes of R460: rise, least set-up and tLOW in ns. -/
def twiLimits (speed : Nat) : Nat × Nat × Nat := match speed with | 0 => (1000, 250, 5000) | 1 => (300, 100, 1400) | _ => (120, 50, 550)

/-- Some sample lies in three of the intervals. -/
def thrice (ivs : List (Nat × Nat)) : Bool :=
  ivs.any (fun a => (ivs.filter (fun b => b.1 ≤ a.1 && a.1 ≤ b.2)).length ≥ 3)

namespace Device

/-- The device as it will be once every accepted set and the staged set of a scope are live (R45, R177). -/
def trial (d : Device) (sc : Scope) : Device :=
  { d with live := (d.pend.foldl (fun st p => st.takeScope p.values p.scope) d.live).takeScope d.staged sc }

/-- The objects in which the staged set of a scope differs from its live set, tables of R118 included. -/
def changedKeys (d : Device) (sc : Scope) : List Key :=
  d.differing sc d.staged d.live ++ (match sc with
    | .device => []
    | .channel n =>
      let f := d.front n
      (if f.staged.offs ≠ f.live.offs then [⟨.CH_BOFF_DATA, n⟩] else []) ++ (if f.staged.gains ≠ f.live.gains then [⟨.CH_SHADE_DATA, n⟩] else [])
        ++ (if f.staged.dpm ≠ f.live.dpm then [⟨.CH_DPM_DATA, n⟩] else []))

/-- A key recorded where a condition holds. -/
def offend (c : Bool) (r : Reg) (i : Nat) : List Key := if c then [⟨r, i⟩] else []

/-! ## Stitch sets (R177) -/

/-- The extent of a member's coverage of its set's grid (R180). -/
def coverSpan (d : Device) (s n : Nat) : Option (Nat × Nat) :=
  let cs := coverage (d.geoNow n) (d.int .CH_STI_TRIM n) (d.int .STI_SET_X0 s) (d.num .STI_SET_WIDTH s) false
  match cs.head?, cs.getLast? with
  | some a, some b => some (a.s, b.s)
  | _, _ => none

/-- Some grid sample of a set is covered by more than two members (R177). -/
def overCovered (d : Device) (s : Nat) : Bool := thrice ((d.members s).filterMap (d.coverSpan s))

/-- Tested lines of a set in the delay buffer (R177). -/
def testedLines (d : Device) (s : Nat) : Nat :=
  match ((d.members s).filter (fun n => d.on .CH_CAL_EN n)).map (d.num .CH_CAL_LINE_STEP) with
  | [] => 0
  | a :: t => ceilDiv 128 (Nat.max 1 (minNat a t))

/-- The delay buffer's samples (R177). -/
def delaySamples (d : Device) : Nat :=
  (List.range 8).foldl (fun a s => if d.members s = [] then a else a + (128 + d.testedLines s) * d.num .STI_SET_WIDTH s * d.setPlanes s) 0

/-- The members of a set agree and it has a width (R177). -/
def setAgrees (d : Device) (s : Nat) : Bool :=
  match d.members s with
  | [] => true
  | n :: ms => ms.all (fun m => d.num .CH_RS_PITCH m == d.num .CH_RS_PITCH n && d.num .CH_MODALITY m == d.num .CH_MODALITY n && d.planesOf m == d.planesOf n)
      && d.num .STI_SET_WIDTH s != 0

/-- A set breaks R177, apart from the capacity of the delay buffer. -/
def setFails (d : Device) (s : Nat) : Bool := !d.setAgrees s || d.overCovered s

/-- A set breaks R177. -/
def setsFail (d : Device) : Bool := decide (33554432 < d.delaySamples) || (List.range 8).any d.setFails

/-- The objects that a device commit records for R177: those of the lowest-numbered offending set. -/
def setFaults (d : Device) : List Key :=
  match (List.range 8).find? d.setFails with
  | some s => [⟨if d.overCovered s then .STI_SET_X0 else .STI_SET_WIDTH, s⟩]
  | none =>
    if 33554432 < d.delaySamples then
      match (List.range 8).find? (fun s => d.members s ≠ []) with
      | some s => [⟨.STI_SET_WIDTH, s⟩]
      | none => []
    else []

/-- The steps Δ(p) of a member's map in 1/256 µm (R179). -/
def mapSteps (d : Device) (n : Nat) : List Int :=
  let g := d.geoNow n
  (List.range (g.last - g.first)).map (fun i => g.x (d.int .CH_STI_TRIM n) (g.first + i + 1) - g.x (d.int .CH_STI_TRIM n) (g.first + i))

/-- The map of a channel in a set breaks R179. -/
def mapFails (d : Device) (n : Nat) : Bool :=
  let st := d.mapSteps n
  let l := d.num .CH_RS_PITCH n
  !(st.all (fun x => decide (0 < x)) || st.all (fun x => decide (x < 0)))
    || st.any (fun x => decide (x.natAbs * 512 < l) || decide (4 * l < x.natAbs * 256))

/-! ## Channel sets -/

/-- The objects of R111 that the set of a channel offends against: none or one, in the order of R111. -/
def cameraFaults (d : Device) (n : Nat) : List Key :=
  let v := d.liveView n
  if v .CH_ENABLE = 0 then []
  else if v .CH_PIXELS = 0 then [⟨.CH_PIXELS, n⟩]
  else if (v .CH_MODALITY = 0 ∧ v .CH_DT ≠ 0x28) ∨ (v .CH_MODALITY = 1 ∧ v .CH_DT = 0x28) then [⟨.CH_DT, n⟩]
  else if 1000000000000 < v .CH_EXPOSURE_NS * v.rateMilli then [⟨.CH_EXPOSURE_NS, n⟩]
  else if 40000000000000 < v.demandMilli then [⟨.CH_PIXELS, n⟩]
  else if d.camKnown n then
    match v.limitFault (d.oct .CH_CAM_INFO n) with
    | some r => [⟨r, n⟩]
    | none => []
  else []

/-- The objects of R121 and R339 that an enabled tap offends against. -/
def tapFaults (d : Device) (i : Nat) : List Key :=
  let q := d.num .CH_TAP_QUEUE i
  if !d.on .CH_TAP_ENABLE i then []
  else offend (d.num .CH_TAP_FORMAT i == 0 && d.num .CH_TAP_POINT i != 0) .CH_TAP_FORMAT i
    ++ offend (decide (d.num .CH_PIXELS (i / 4) < d.num .CH_TAP_FIRST i + d.num .CH_TAP_WIDTH i)) .CH_TAP_FIRST i
    ++ offend (!d.on .QUE_ENABLE q || d.num .QUE_DIR q == 1) .CH_TAP_QUEUE i

/-- The user bank is empty, or a phase row of it does not sum to 1 (R157). -/
def userBankFails (d : Device) (n : Nat) : Bool :=
  let b := d.oct .CH_RS_USER_COEF n
  b.length != 1024 || (List.range 32).any (fun ph => decide (16 < (sumI (userRow b ph) - 16384).natAbs))

/-- The mask of a channel of the trial device `t` names a lane of another channel's live mask (R82); masks of pending sets are the trial's own. -/
def maskTaken (d t : Device) (n : Nat) : Bool :=
  (List.range 16).any (fun m => m != n && d.ident.hasChan m && d.num .CH_LANE_MASK m &&& t.num .CH_LANE_MASK n != 0)

/-- The objects of a channel's set that a channel commit would be refused for, slices apart; `d` is the trial device, `dpm` the staged map. Of a VLX1208-C
channels 8 to 15 are absent; whether the default masks they would have count in the overlap of R82 is not said, and they do not (DESIGN CHOICE,
log entry 54). -/
def channelFaults (d : Device) (n : Nat) (dpm : List Nat) : List Key :=
  let s := d.num .CH_STI_SET n
  let others := (List.range 16).filter (fun m => m != n && d.ident.hasChan m)
  offend (others.any (fun m => d.num .CH_LANE_MASK m &&& d.num .CH_LANE_MASK n != 0)) .CH_LANE_MASK n
    ++ d.cameraFaults n
    ++ offend (!dpmOk (d.num .CH_PIXELS n) dpm) .CH_DPM_DATA n
    ++ (List.range 4).flatMap (fun t => d.tapFaults (4 * n + t))
    ++ offend ([0, 1, 2].any (fun q => decide (d.planeShift n q < 0))) .CH_PH_DELAY n
    ++ offend (d.num .CH_RS_FILTER n == 5 && d.userBankFails n) .CH_RS_USER_COEF n
    ++ offend d.setsFail .CH_STI_SET n
    ++ offend (decide (s < 8) && decide (Nat.min (d.num .CH_STI_LAST n) (d.num .CH_PIXELS n - 1) < d.num .CH_STI_FIRST n + 3)) .CH_STI_FIRST n
    ++ offend (decide (s < 8) && d.mapFails n) .CH_STI_A1 n
    ++ offend (decide (d.num .CH_CAL_HIGH_MIN n ≤ d.num .CH_CAL_LOW_MAX n)) .CH_CAL_HIGH_MIN n
    ++ offend (decide (786432 < (List.range 16).foldl (fun a m => if d.on .CH_CAL_EN m then a + d.num .CH_PIXELS m * d.planesOf m else a) 0)) .CH_CAL_EN n
    ++ offend (decide (d.num .CH_CAL_GAIN_SPAN n < d.num .CH_CAL_GAIN_STEP n)) .CH_CAL_GAIN_STEP n
    ++ offend (decide (d.num .CH_CAL_OFF_SPAN n < d.num .CH_CAL_OFF_STEP n)) .CH_CAL_OFF_STEP n

/-! ## The device set -/

/-- BAR0 can be reached (R41). -/
def barReachable (d : Device) : Bool := d.num .PCI_LINK_SPEED 0 != 0 && d.pcie.memEnable

/-- A job's heft is resident and VALID, in either paddock (R224). -/
def residentFor (d : Device) (job : Nat) : Option Nat :=
  if d.padState d.runPad = 3 ∧ d.num .HFT_PD_JOB d.runPad = job then some d.runPad
  else if d.padState d.standby = 3 ∧ d.num .HFT_PD_JOB d.standby = job then some d.standby else none

/-- A heft serves every set with members: a layer, with the set's planes (R225). -/
def heftServes (d : Device) (pad : Nat) : Bool :=
  (List.range 8).all (fun s => d.members s = [] || (match layerIn (d.layersOf pad) s with
    | some l => l.planes == d.setPlanes s
    | none => false))

/-- The objects of R225 for a job change; `d` is the trial device. -/
def jobFaults (d : Device) : List Key :=
  let sets := (List.range 8).filter (fun s => d.members s ≠ [])
  match d.residentFor (d.num .HFT_JOB_ID 0) with
  | some pad => offend (!d.heftServes pad) .HFT_JOB_ID 0
  | none =>
    let rep := d.num .STI_REPEAT_SET 0
    let len (s : Nat) : Int := (d.num .HFT_SET_LINES s * d.setPitch s : Nat)
    offend (!d.ident.heftFits d.learnLayers) .HFT_JOB_ID 0
      ++ sets.flatMap (fun s => offend (d.num .HFT_SET_LINES s == 0 || decide (d.setPitch s ≤ (len s - len rep).natAbs)) .HFT_SET_LINES s)

/-- The cells with FF 0 that cell `c` reads through the lines of its inputs A to D (R402). -/
def cellReads (d : Device) (c : Nat) : List Nat :=
  if d.num .EVT_CELL_FF c ≠ 0 then []
  else (List.range 4).filterMap (fun i =>
    let l := d.num .EVT_CELL_IN (4 * c + i)
    let src := d.num .EVT_LINE_SRC l
    if l < 64 ∧ 0x100 ≤ src ∧ d.num .EVT_CELL_FF (src - 0x100) = 0 then some (src - 0x100) else none)

/-- What a set of cells depends on after `n` more steps. -/
def cellClosure (d : Device) : Nat → List Nat → List Nat
  | 0, cs => cs
  | n + 1, cs => cellClosure d n (cs ++ cs.flatMap d.cellReads).eraseDups

/-- A line on an asynchronous cycle (R402): its cell depends on a cell that reads the line. -/
def lineCycles (d : Device) (l : Nat) : Bool :=
  let src := d.num .EVT_LINE_SRC l
  0x100 ≤ src && d.num .EVT_CELL_FF (src - 0x100) == 0 && (cellClosure d 32 [src - 0x100]).any (fun c =>
    d.num .EVT_CELL_FF c == 0 && (List.range 4).any (fun i => d.num .EVT_CELL_IN (4 * c + i) == l))

/-- The enabled queues of a set. -/
def queuesOn (d : Device) : List Nat := (d.live.insts .QUE_ENABLE).filter (fun q => d.on .QUE_ENABLE q)

/-- The first queue at which the pages of the enabled queues exceed the pool (R341). -/
def overPool (d : Device) (left : Nat) : List Nat → Option Nat
  | [] => none
  | q :: qs =>
    let n := d.num .QUE_RING_KIB q / 64
    if left < n then some q else overPool d (left - n) qs

/-- The objects of the queues that a commit would be refused for (R339, R341, R343, R363, R426). -/
def queueFaults (d : Device) : List Key :=
  let port := d.num .COM_DAP_PORT 0
  d.queuesOn.flatMap (fun q =>
      offend (d.num .QUE_RING_KIB q == 0) .QUE_RING_KIB q
      ++ offend (d.num .QUE_PEER q == 2 && (d.num .QUE_DIR q == 1 || d.bellwether)) .QUE_PEER q)
    ++ (match d.overPool d.ident.poolPages d.queuesOn with | some q => [⟨.QUE_RING_KIB, q⟩] | none => [])
    ++ (d.live.insts .QUE_THRESH_LO).flatMap (fun q =>
        offend (d.num .QUE_THRESH_LO q != 0 && decide (d.num .QUE_THRESH_HI q ≤ d.num .QUE_THRESH_LO q)) .QUE_THRESH_LO q)
    ++ (d.live.insts .QUE_RX_PORT).flatMap (fun q =>
        offend (d.num .QUE_RX_PORT q != 0 && (d.num .QUE_RX_PORT q == port || d.num .QUE_RX_PORT q == port + 1)) .QUE_RX_PORT q)
    ++ (d.live.insts .CH_TAP_ENABLE).flatMap (fun i =>
        let q := d.num .CH_TAP_QUEUE i
        offend (d.on .CH_TAP_ENABLE i && (!d.on .QUE_ENABLE q || d.num .QUE_DIR q == 1)) .QUE_ENABLE q)
    ++ (List.range 8).flatMap (fun k =>
        let q := d.num .RDL_DEST k
        offend (q != 0xFFFF && (!d.on .QUE_ENABLE q || d.num .QUE_DIR q == 1)) .RDL_DEST k)

/-- The objects of the position interface that a commit would be refused for (R141, R144, R145). -/
def positionFaults (d : Device) : List Key :=
  let p := d.num .POS_SRC_PRIMARY 0
  let b := d.num .POS_SRC_BACKUP 0
  offend (p == b && p != 0xFF) .POS_SRC_BACKUP 0
    ++ ([p, b].filter (· < 3)).flatMap (fun s => offend (d.num .POS_ENC_STEP s == 0) .POS_ENC_STEP s)
    ++ (List.range 4).flatMap (fun e =>
        offend (decide (16 * d.num .POS_EMU_M e < d.num .POS_EMU_N e)
          || (decide (d.num .POS_EMU_M e < d.num .POS_EMU_N e) && !d.on .POS_EMU_INTERP e)) .POS_EMU_N e)

/-- The objects of the time unit, the outputs and the fabric that a commit would be refused for (R395, R397, R400, R402, R407). -/
def timeFaults (d : Device) : List Key :=
  offend (d.num .TIM_SRC 0 == 2 && d.num .FLD_STATE 0 == 0) .TIM_SRC 0
    ++ (List.range 16).flatMap (fun n =>
        offend (d.num .TIM_TT_MODE n == 2
          && decide (d.num .TIM_TT_PERIOD n * 65536 + d.num .TIM_TT_PERIOD_FRAC n ≤ d.num .TIM_TT_WIDTH n * 65536)) .TIM_TT_WIDTH n)
    ++ (List.range 32).flatMap (fun c => offend (d.num .EVT_CELL_FF c != 0 && d.num .EVT_CELL_CLK c == 0xFF) .EVT_CELL_CLK c)
    ++ ((List.range 64).filter d.lineCycles).map (fun l => ⟨.EVT_LINE_SRC, l⟩)

/-- The objects of clocks, power and the two-wire bus that a commit would be refused for (R439, R440, R457, R461); `was` is the live CLK_OUT_SRC. -/
def clockFaults (d : Device) (was : Nat) : List Key :=
  let src := d.num .CLK_OUT_SRC 0
  let (num, den) := clkOutMhz src
  let (rise, su, low) := twiLimits (d.num .TWI_SPEED 0)
  offend (src != was && decide (1 ≤ src ∧ src ≤ 3) && d.num .CLK_REF_STATE (src - 1) != 2) .CLK_OUT_SRC 0
    ++ offend (decide (200 * den * d.num .CLK_OUT_DIV 0 < num)) .CLK_OUT_DIV 0
    ++ offend (decide (0x58 ≤ d.num .PWR_VR_ADDR 0 ∧ d.num .PWR_VR_ADDR 0 ≤ 0x5F)) .PWR_VR_ADDR 0
    ++ offend (decide (rise < d.num .TWI_RISE_NS 0)) .TWI_RISE_NS 0
    ++ offend (decide (low < d.num .TWI_HD_DAT_NS 0 + Nat.max (d.num .TWI_SU_DAT_NS 0) su + d.num .TWI_RISE_NS 0)) .TWI_HD_DAT_NS 0

/-- The objects of records, rejects, pens and hefts that a commit would be refused for (R246, R250, R261, R281, R320, R397). -/
def recordFaults (d : Device) (rates : Nat) : List Key :=
  offend (decide (d.num .STI_MARK_DIST 0 ≠ 0) && decide (d.int .STI_MARK_DIST 0 < 0)) .STI_MARK_DIST 0
    ++ offend (decide (262128 < d.num .PEN_RESERVE 0 * ((List.range 8).filter (fun s => d.members s ≠ [])).length)) .PEN_RESERVE 0
    ++ (List.range 8).flatMap (fun s => offend (d.num .PEN_SET_EDGE s != 0 && d.num .FLD_STATE 0 == 0) .PEN_SET_EDGE s)
    ++ (List.range 32).flatMap (fun r =>
        offend (d.on .RDL_R_EN r && d.num .RDL_R_AREA_MAX r != 0 && decide (d.num .RDL_R_AREA_MAX r < d.num .RDL_R_AREA_MIN r)) .RDL_R_AREA_MAX r)
    ++ (List.range 8).flatMap (fun s =>
        offend (d.on .RDL_ST_EN s && d.num .RDL_ST_DIST s == 0) .RDL_ST_DIST s
        ++ offend (d.on .RDL_ST_EN s && d.num .TIM_TT_MODE (d.num .RDL_ST_OUT s) != 0) .RDL_ST_OUT s)
    ++ offend (!effortOk rates (d.num .HFT_LEARN_EFFORT 0) 1250) .HFT_LEARN_EFFORT 0
    ++ offend (!effortOk rates (d.num .HFT_SEAL_EFFORT 0) 1250) .HFT_SEAL_EFFORT 0

/-- The objects that a device commit would be refused for, the heft's apart; `d` is the trial device, `was` the device as it is. -/
def deviceFaults (d was : Device) : List Key :=
  offend (d.num .COM_DAP_PORTS 0 == 0 && !d.barReachable) .COM_DAP_PORTS 0
    ++ d.positionFaults ++ d.setFaults ++ d.recordFaults (setRates was.liveView) ++ d.queueFaults ++ d.timeFaults ++ d.clockFaults (was.num .CLK_OUT_SRC 0)
    ++ (List.range 8).flatMap (fun r => offend (d.num .MEM_RQ_HINT r == 3 && r != 5) .MEM_RQ_HINT r)
    ++ offend (!bit (d.num .FLD_EXPECT 0) 0) .FLD_EXPECT 0

end Device

end Sys2Proof.Machine
end

