-- ==== Sys2Proof/Machine/Force.lean ====
section
/-!
DEFINITION. What is in force at a device repeat boundary (R15, R17, R21 to R24, R209, R211, R219, R224 to R226, R234, R236): a job change resolved, a heft put in force,
the reference and class words of a repeat, and the DRAM budget.
-/
namespace Sys2Proof.Machine

/-- The class words of R237. -/
def classRegs : List Reg := [.CMP_CLS_PLAIN, .CMP_CLS_UNCONF, .CMP_CLS_EDGE, .CMP_CLS_VAR, .CMP_CLS_DIE, .CMP_CLS_LEARN, .CMP_CLS_PREVIEW]

namespace Device

/-- DEV_STATE, or during STANDBY the state that was left (R17). -/
def workState (d : Device) : Nat := if d.num .DEV_STATE 0 = 3 then d.leftState else d.num .DEV_STATE 0

/-- The device enters a state of work; in STANDBY it will be in it on return (R17). -/
def enterWork (d : Device) (st : Nat) : Device :=
  if d.num .DEV_STATE 0 = 3 then { d with leftState := st }
  else if d.num .DEV_STATE 0 = st then d else d.toState st

/-- A bit of DEV_REDUCED (R15). -/
def reduced (d : Device) (b : Nat) (on : Bool) : Device := d.set .DEV_REDUCED 0 (putBit (d.num .DEV_REDUCED 0) b on)

/-- HFT_RUN_PADDOCK and HFT_RUN_GEN follow DEV_STATE and the paddocks (R209): a heft is in force only while the device is INSPECTING. -/
def showForce (d : Device) : Device :=
  let k := d.runPad
  if d.num .DEV_STATE 0 = 2 && d.padState k = 3 then (d.set .HFT_RUN_PADDOCK 0 k).set .HFT_RUN_GEN 0 (d.num .HFT_PD_GEN k)
  else (d.set .HFT_RUN_PADDOCK 0 0xFF).set .HFT_RUN_GEN 0 0

/-- The running paddock's heft is put in force (R226): DEV_STATE, HFT_RUN_PADDOCK, HFT_RUN_GEN, HFT_SWAPS. -/
def putInForce (d : Device) : Device := ((d.enterWork 2).showForce).bump .HFT_SWAPS 0

/-- A job change is resolved (R224, R227, R17, R219): the running heft, the standby's, or learning; during LAMBING the heft is only made ready. -/
def jobChange (d : Device) : Device :=
  let job := d.num .HFT_JOB_ID 0
  let lambing := d.workState = 0
  match d.residentFor job with
  | some pad =>
    let d := d.abandonLearning
    let d := (if pad = d.runPad then d else d.swapRoles)
    let d := d.journalHeft d.runPad
    if lambing then d else d.putInForce
  | none =>
    let d := (d.abandonLearning).startLearning job lambing
    if lambing then d else (d.enterWork 1).showForce

/-! ## What a repeat reads (R226, R234) -/

/-- What is in force from repeat `k` on, as the device stands. -/
def forceEntry (d : Device) (k : Nat) : InForce :=
  let cls := d.live.filter (fun e => classRegs.contains e.1.reg)
  let e : InForce := { k := k, mode := .idle, gen := d.num .HFT_RUN_GEN 0, learnPad := d.standby, classes := cls, throttled := bit (d.num .DEV_REDUCED 0) 6 }
  match d.workState with
  | 2 => { e with mode := .heft d.runPad, heftGen := d.num .HFT_PD_GEN d.runPad }
  | 1 => match d.heft.learnRep with
    | some r => { e with mode := if 1 ≤ r then .learn d.standby else .idle, learning := some r }
    | none => e
  | _ =>
    if d.padState d.runPad = 3 ∧ d.num .HFT_PD_JOB d.runPad = d.num .HFT_JOB_ID 0 then
      { e with mode := .resident d.runPad, heftGen := d.num .HFT_PD_GEN d.runPad }
    else if d.padState d.standby = 2 && d.heft.seeding then { e with mode := if 1 ≤ d.heft.seedRep then .seed d.standby else .idle, seeding := true }
    else e

/-- What is in force is recorded for repeat `k`, and LEARNING and NO_REF follow it (R15, R218). -/
def pushForce (d : Device) (k : Nat) : Device :=
  let e := d.forceEntry k
  let d := d.modHeft (fun h => { h with force := (e :: h.force.filter (fun f => f.k ≠ k)).take 8 })
  (d.reduced 1 (d.workState = 1)).reduced 2 (e.mode = .idle)

/-! ## The DRAM budget (R21 to R24) -/

/-- ρ of the heft blocks read in the last repeat that read any, Q16.16; 1 before the first (log entry 16). -/
def heftRatio (d : Device) : Nat := if d.num .FLC_RATIO 0 = 0 then 65536 else d.num .FLC_RATIO 0

/-- R_i, samples per second × 1,000: what the channels that are ON bring, a quarter of it over a link that is not FULL (R22). -/
def ingestMilli (d : Device) : Nat :=
  (List.range 16).foldl (fun a n =>
    if d.num .CH_STATE n = 1 then a + (d.liveView n).demandMilli / (if d.num .CH_LINK_STATE n = 3 then 1 else 4) else a) 0

/-- R_c, samples per second: the compare rate of the sets at the present speed. -/
def compareRate (d : Device) : Nat :=
  (List.range 8).foldl (fun a s =>
    let l := d.setPitch s
    if l = 0 then a else a + d.num .STI_SET_WIDTH s * d.setPlanes s * d.speedNow.natAbs * 65536 / l) 0

/-- The demand of the four terms of R21, bytes per second × 1,000. -/
def dramDemand (d : Device) (throttled : Bool) : Nat :=
  if d.num .DEV_STATE 0 = 3 then 1000000000000
  else
    let words := d.compareRate * 65536 / d.heftRatio
    let ring := 3 * d.ingestMilli / 2
    let reads := if d.num .DEV_STATE 0 = 0 && (d.forceEntry 0).mode == .idle then 0 else 3600 * words
    let writes := if d.num .DEV_STATE 0 = 1 then (if throttled then 1500 else 3000) * words else 0
    ring + reads + writes + 4000000000000

/-- The budget at a repeat boundary (R14, R15, R21, R23, R24, R336). -/
def budget (d : Device) : Device :=
  let (raw, packed) := d.heft.readBytes
  -- With no block read in the previous repeat, the last ratio measured stands (log entry 16).
  let d := if packed = 0 then d else d.set .FLC_RATIO 0 (raw * 65536 / packed)
  let d := d.modHeft (fun h => { h with readBytes := (0, 0) })
  let hot := d.num .MEM_REFRESH_NS 0 = 1950
  let u := if hot then 540 else 600
  let full := d.dramDemand false
  let gbs := (full + 500000000000) / 1000000000000
  let was := bit (d.num .DEV_REDUCED 0) 6
  let thr := d.num .DEV_STATE 0 = 1 && decide ((if was then u - 30 else u) < gbs)
  let d := ((d.set .DEV_DRAM_DEMAND 0 (Nat.min gbs 65535)).set .DEV_DRAM_USABLE 0 u).reduced 5 hot
  let room := (u * 1000000000000 - d.dramDemand thr) / 1000000000000
  (d.reduced 6 thr).set .MEM_SW_ADMIT 0 (Nat.min (d.num .MEM_SW_GBS 0) room)

end Device

end Sys2Proof.Machine
end

