-- ==== Sys2Proof/Machine/Nvs.lean ====
section
/-!
DEFINITION. The non-volatile store (R28, R50 to R53): the image of a bank, saving, erasing, the choice of bank at reset and the restoring of its
records.
-/
namespace Sys2Proof.Machine

/-- The objects of a row at an index, by subindex. -/
def ObjRow.keysAt (row : ObjRow) (index : Nat) : List Key :=
  match row.rep.unitOf row.base index with
  | some u => (List.range row.subs).map (fun j => ⟨row.reg, u * row.subs + j⟩)
  | none => []

/-- The objects at an index of the rows given, by subindex. -/
def keysAt (rows : List ObjRow) (index : Nat) : List Key := rows.flatMap (fun row => row.keysAt index)

/-- The objects of the rows given in a range of indices, by index and subindex. -/
def keysIn (rows : List ObjRow) (lo hi : Nat) : List Key :=
  let mine := sortBy ObjRow.sub (rows.filter (fun row => lo ≤ row.base && row.base ≤ hi))
  (List.range (hi + 1 - lo)).flatMap (fun i => keysAt mine (lo + i))

/-- An object that the part has (R3, R7): of a channel block the part lacks, CH_STATE alone is present. -/
def Identity.present (id : Identity) (k : Key) : Bool :=
  match k.scope with
  | .channel n => id.hasChan n || decide (k.reg = .CH_STATE)
  | .device => true

/-- The persistent objects (R28), by index and subindex. -/
def persistentKeys (id : Identity) : List Key :=
  (indexRanges.flatMap (fun r => keysIn (objTable.filter (·.pers)) r.1 r.2.1)).filter id.present

/-- A record of a bank (R50): INDEX, SUB, TYPE, VLEN and the value. -/
def nvsRecord (k : Key) (v : Val) : Octets :=
  let b := encodeVal k.reg.row.ty v
  le 2 k.index ++ [k.sub, k.reg.row.ty.code] ++ le 2 b.length ++ b

/-- A bank's image (R50). -/
def nvsImage (seq count : Nat) (records : Octets) : Octets :=
  let body := le 4 0x4E564231 ++ le 4 seq ++ le 4 records.length ++ le 2 0x0002 ++ le 2 count ++ records
  body ++ le 4 (crc32c body)

/-- A bank is valid (R52). -/
def bankOk (b : Octets) : Bool :=
  let n := leAt b 8 4
  leAt b 0 4 == 0x4E564231 && leAt b 12 2 == 2 && n ≤ 1048556 && 20 + n ≤ b.length && crc32c (slice b 0 (16 + n)) == leAt b (16 + n) 4

/-- SEQ of a bank. -/
def bankSeq (b : Octets) : Nat := leAt b 4 4

/-- A bank with its MAGIC cleared (R52). -/
def bankCleared (b : Octets) : Octets := if b.length < 4 then b else overlay b 0 [0, 0, 0, 0]

/-- A record read from a bank: index, subindex, type, value. -/
structure NvsRecord where
  index : Nat
  sub : Nat
  ty : Nat
  value : Octets

/-- The records of a bank: at most `n` from the octets that follow its header. -/
def nvsRecords : Nat → Octets → List NvsRecord
  | 0, _ => []
  | n + 1, b =>
    if b.length < 6 then []
    else
      let k := leAt b 4 2
      { index := leAt b 0 2, sub := octet b 2, ty := octet b 3, value := slice b 6 k } :: nvsRecords n (b.drop (6 + k))

namespace Device

/-- The bank image of MRAM. -/
def bank (d : Device) (b : Nat) : Octets := if b = 0 then d.nvs.bank0 else d.nvs.bank1

/-- A bank of MRAM takes an image. -/
def setBank (d : Device) (b : Nat) (img : Octets) : Device :=
  { d with nvs := if b = 0 then { d.nvs with bank0 := img } else { d.nvs with bank1 := img } }

/-- The non-volatile store's state changed. -/
def modNvs (d : Device) (f : Nvs → Nvs) : Device := { d with nvs := f d.nvs }

/-- NVS_VALID follows the banks; a bank being written is not valid (R51). -/
def showValid (d : Device) : Device :=
  let ok (b : Nat) : Bool := bankOk (d.bank b) && (match d.nvs.saving with | some (t, _) => t != b | none => true)
  d.set .NVS_VALID 0 (b2n (ok 0) + 2 * b2n (ok 1))

/-- The image of the live values of all persistent objects (R50, R51). -/
def nvsSnapshot (d : Device) : Octets :=
  let ks := persistentKeys d.ident
  nvsImage ((d.num .NVS_SEQ 0 + 1) % 2 ^ 32) ks.length (ks.flatMap (fun k => nvsRecord k (d.val k.reg k.inst)))

/-- The end of the tick in which a save began (R51): its snapshot holds every write of the tick. -/
def nvsSnap (d : Device) : Device :=
  match d.nvs.saving with
  | some (t, _) => if d.nvs.fresh then { d with nvs := { d.nvs with saving := some (t, d.nvsSnapshot), fresh := false, dirty := false } } else d
  | none => d

/-- A save begins (R51, R52): a snapshot of the live values, taken anew at the end of the tick, into the bank that is not active. -/
def nvsBegin (d : Device) (explicit : Bool) : Device :=
  if !explicit && d.nvs.erased then d
  else
    let target := if d.num .NVS_ACTIVE 0 = 0 then 1 else 0
    let img := d.nvsSnapshot
    let d := d.modNvs (fun n => { n with saving := some (target, img), fresh := true, erased := false, dirty := false
                                         autoAt := if explicit then n.autoAt else some d.tick })
    (d.set .NVS_STATE 0 1).showValid

/-- A save is asked for (R51): one that arrives during a save is held, and further requests join it. -/
def nvsSave (d : Device) (explicit : Bool) : Device :=
  if !explicit && d.nvs.erased then d
  else if d.nvs.saving.isSome then d.modNvs (fun n => { n with held := true, heldExplicit := n.heldExplicit || explicit })
  else d.nvsBegin explicit

/-- Both banks are invalidated (R52). -/
def nvsEraseNow (d : Device) : Device :=
  let d := (d.setBank 0 (bankCleared d.nvs.bank0)).setBank 1 (bankCleared d.nvs.bank1)
  let d := d.modNvs (fun n => { n with held := false, heldExplicit := false, eraseWaits := false, erased := true })
  ((d.set .NVS_ACTIVE 0 0xFF).set .NVS_STATE 0 4).showValid

/-- NVS_ERASE (R52, R53): at once, or after the save in progress; a held save is cancelled. -/
def nvsErase (d : Device) : Device :=
  if d.nvs.saving.isSome then d.modNvs (fun n => { n with eraseWaits := true, held := false, heldExplicit := false }) else d.nvsEraseNow

/-- The save in progress ends (R52): the bank is read back, rewritten once where that fails, and active when it is valid; what waited follows. A set of values
that is longer than a bank never reads back as valid. -/
def nvsDone (d : Device) (firstOk retryOk : Bool) : Device :=
  match d.nvs.saving with
  | none => d
  | some (t, img) =>
    let d := d.modNvs (fun n => { n with saving := none })
    let d :=
      if (firstOk || retryOk) && bankOk img then
        let d := ((d.setBank t img).set .NVS_ACTIVE 0 t).set .NVS_SEQ 0 (bankSeq img)
        (d.set .NVS_STATE 0 0).bump .NVS_SAVES 0
      else ((d.setBank t []).set .NVS_STATE 0 3).raiseFault .nvsWrite
    let d := d.showValid
    if d.nvs.eraseWaits then d.nvsEraseNow
    else if d.nvs.held then
      let e := d.nvs.heldExplicit
      (d.modNvs (fun n => { n with held := false, heldExplicit := false })).nvsBegin e
    else d

/-- An automatic save after a tick that changed persistent values (R51): NVS_AUTO is 1, none since an erase, and a second since the last one. -/
def nvsAuto (d : Device) : Device :=
  let due := match d.nvs.autoAt with | some t => t + 1000000 ≤ d.tick | none => true
  if d.on .NVS_AUTO 0 && d.nvs.dirty && due then d.nvsSave false else d

/-- A record restored (R28, R52): the device, and whether it was taken. -/
def restoreRecord (d : Device) (r : NvsRecord) : Device × Bool :=
  match locate r.index r.sub with
  | none => (d, false)
  | some k =>
    let row := k.reg.row
    let v := decodeVal row.ty r.value
    if row.pers && d.ident.present k && row.ty.code == r.ty && lengthOk k.reg r.value.length && inRange k v then
      let d := d.put k.reg k.inst v
      (if row.acc = .rws then d.putStg k.reg k.inst v else d, true)
    else (d, false)

/-- The choice of bank at reset (R52): none, 0 or 1. -/
def selectBank (d : Device) : Option Nat :=
  match bankOk d.nvs.bank0, bankOk d.nvs.bank1 with
  | false, false => none
  | true, false => some 0
  | false, true => some 1
  | true, true => some (if 0 < serialDiff 32 (bankSeq d.nvs.bank1) (bankSeq d.nvs.bank0) then 1 else 0)

/-- Step 3 of bring-up (R52): the chosen bank's records are restored. Gives the device and the records whose values differ from the defaults, in order. -/
def nvsRestore (d : Device) : Device × List (Key × Octets) :=
  match d.selectBank with
  | none => ((d.set .NVS_STATE 0 2).showValid, [])
  | some b =>
    let img := d.bank b
    let d := ((d.set .NVS_ACTIVE 0 b).set .NVS_SEQ 0 (bankSeq img)).showValid
    (nvsRecords (leAt img 14 2) (slice img 16 (leAt img 8 4))).foldl (fun (acc : Device × List (Key × Octets)) r =>
      let (d, taken) := acc.1.restoreRecord r
      if taken then
        match locate r.index r.sub with
        | some k => (d, if decodeVal k.reg.row.ty r.value = d.ident.dflt k.reg k.inst then acc.2 else acc.2 ++ [(k, r.value)])
        | none => (d, acc.2)
      else (d.bump .NVS_SKIPPED 0, acc.2)) (d, [])

end Device

/-- NVS_AUTO_SAVE (R51). -/
def execNvsAutoSave (s : State) : Host.Outcome State Fault Refusal := run true s Device.nvsAuto

/-- NVS_SAVE_DONE (R51, R52): whether the bank reads back as valid at first, and after the one rewriting. -/
def execNvsSaveDone (firstOk retryOk : Bool) (s : State) : Host.Outcome State Fault Refusal := run (WF.nvsSaveDone firstOk retryOk) s fun d => d.nvsDone firstOk retryOk

end Sys2Proof.Machine
end

