-- ==== Sys2Proof/Machine/Fold.lean ====
section
/-!
DEFINITION. The fold (R411 to R431): receiving, passing on and answering fold packets, forming and membership, what a member takes from the bellwether,
and the lines 60 to 63. The layout of each message's content is a choice of the model (log entry 11).
-/
namespace Sys2Proof.Machine

/-- The offset of a member from the bellwether along the shorter way of a ring of `n` (R414). -/
def ringDistance (n i : Nat) : Nat := Nat.min i (n - i)

/-- A fold packet taken: source, MSEQ and content after the fold header. -/
structure FoldMsg where
  src : Nat
  mseq : Nat
  body : Octets
deriving DecidableEq, Repr

namespace Device

/-! ## FOLD_SYNC, lines 60 to 63 and the state (R412, R425) -/

/-- The device holds FOLD_SYNC low (R412): until it is FORMED or a MEMBER. -/
def holdsSync (d : Device) : Bool := !(d.num .FLD_STATE 0 == 2 || d.num .FLD_STATE 0 == 3)

/-- Line 60 follows FOLD_SYNC (R425): high when no device holds it. -/
def syncLine (d : Device) : Device :=
  if !d.inFold then d
  else
    let now := d.fold.sync && !d.holdsSync
    let was := (d.evt.lines.getD 60 {}).src
    if now && !was then (d.riseLine 60).settle else if was && !now then (d.fallLine 60).settle else d

/-- A pulse on one of the fold's lines (R425). -/
def foldPulse (d : Device) (l : Nat) : Device :=
  if !d.inFold then d else settleRounds false 33 (((settleRounds true 33 (d.riseLine l))).fallLine l)

/-- FLD_STATE takes a state (R417): the owner of lines 60 to 63 (R405) and FOLD_SYNC follow it. -/
def foldState (d : Device) (st : Nat) : Device :=
  let held := d.holdsSync
  let was := d.inFold
  let d := d.set .FLD_STATE 0 st
  let own := d.inFold
  let d := if own = was then d else
    (List.range 4).foldl (fun d i => (d.setLine (60 + i) (fun _ => {})).set .EVT_LINE_OWNER (60 + i) (b2n own)) d
  let d := if held = d.holdsSync then d else d.emit (.pin "FOLD_SYNC" (!d.holdsSync) d.now)
  d.syncLine

/-- FLD_MEMBERS takes a value (R425). -/
def setMembers (d : Device) (m : Nat) : Device := if d.num .FLD_MEMBERS 0 = m then d else (d.set .FLD_MEMBERS 0 m).foldPulse 62

/-- The shared edges go by FLD_MEMBERS from the repeat that BEACON names on (R429); at the bellwether, components that wait for an edge no longer shared complete
(R430). -/
def shareFrom (d : Device) (k : Nat) : Device :=
  if serialDiff 32 k d.fold.fromK < 0 || d.fold.shown = d.num .FLD_MEMBERS 0 then d
  else
    let d := d.modFold (fun f => { f with shown := d.num .FLD_MEMBERS 0 })
    if d.bellwether then d.passGone else d

/-- A bellwether's state after its reset or a hand-over (R417): SOLO with FLD_EXPECT = 0x01, else FORMING until it forms. -/
def foldHandover (d : Device) : Device :=
  if !d.bellwether then d
  else if d.num .FLD_EXPECT 0 = 1 then (if d.num .FLD_STATE 0 = 0 then d else (d.foldState 0).setMembers 1)
  else if d.num .FLD_STATE 0 = 0 then d.foldState 1 else d

/-- FLD_TJ_MAX (R431): the least junction limit of the members. -/
def foldLimit (d : Device) : Device :=
  let ms := (bitsOf 8 (d.num .FLD_MEMBERS 0)).filter (· != 0)
  d.set .FLD_TJ_MAX 0 (minNat (d.num .DEV_TJ_MAX 0) (d.num .DEV_TJ_MAX 0 :: ms.map (fun m => (d.fold.members.getD m {}).tj)))

/-! ## Passing on and taking packets (R414, R416) -/

/-- The link opposite to the one a packet came from (R414). -/
def onward (k : Nat) : Nat := if k = eastLink then westLink else eastLink

/-- A fold packet as it goes on (R414): HOPS one more, and CLASS 1 from the bellwether on. -/
def passForm (d : Device) (p : Packet) : TxPacket :=
  let b := p.payload.getD []
  let cls := if d.bellwether then 1 else octet b 3
  { dt := p.dt, ctl := 0, cls := cls, payload := b.take 2 ++ [octet b 2 + 1, cls] ++ b.drop 4 }

/-- A fold packet goes on, on the side opposite to the one it came from (R414). -/
def passOn (d : Device) (k vc : Nat) (p : Packet) : Device :=
  if 7 < octet (p.payload.getD []) 2 + 1 then d
  else if !d.foldUp (onward k) then d.bump .FLD_LOST 0
  else d.sendPacket (onward k) vc (d.passForm p)

/-- A packet to be passed on may start (R414): it is to be discarded, or the outgoing link's credits of its class last, behind what waits there. -/
def mayPass (d : Device) (k vc : Nat) (p : Packet) : Bool :=
  let q := d.passForm p
  let ahead := (((d.txOf (onward k) vc).waiting.filter (fun w => w.cls = q.cls)).map (fun w => packetCost w.payload.length)).foldl (· + ·) 0
  7 < octet (p.payload.getD []) 2 + 1 || !d.foldUp (onward k) || d.creditFor (onward k) vc q.cls (ahead + packetCost q.payload.length)

/-- A broadcast that came on a link is passed on (R414): only to a neighbour farther from the bellwether. -/
def farther (d : Device) (k : Nat) : Bool :=
  let r := d.ringIds
  let n := r.length
  let i := r.findIdx (· = d.foldId)
  let j := if k = eastLink then (i + n - 1) % n else (i + 1) % n
  ringDistance n i < ringDistance n j

/-- The last MSEQ seen of a source on a VC. -/
def lastMseq (d : Device) (src vc : Nat) : Option Nat := (d.fold.seen.find? (fun e => e.1 = src ∧ e.2.1 = vc)).map (fun e => e.2.2)

/-- A copy of a message already taken (R416): its MSEQ is at or up to 63 behind the last one. -/
def isCopy (d : Device) (src vc m : Nat) : Bool :=
  match d.lastMseq src vc with
  | some l => let x := serialDiff 32 m l; decide (x ≤ 0) && decide (-64 < x)
  | none => false

/-- An MSEQ is seen; a gap on VC1 at the bellwether leaves every incomplete component with a tag of the source to the timeout (R416). -/
def seeMseq (d : Device) (src vc m : Nat) : Device :=
  let gap := match d.lastMseq src vc with
    | some l => decide (1 < serialDiff 32 m l)
    | none => false
  let d := d.modFold (fun f => { f with seen := (src, vc, m) :: f.seen.filter (fun e => !(e.1 == src && e.2.1 == vc)) })
  if gap && vc = 1 && d.bellwether then
    d.modPens (fun x => { x with comps := x.comps.map (fun c =>
      if (c.tags ++ c.dead).any (fun t => t / 2 ^ 29 = src) then { c with byTimeout := true } else c) })
  else d

/-- The next packet of a data type that is for the device leaves the receive window of a fold link; a broadcast is passed on. None where there is none, or it is a
copy, or a broadcast that the next link has no credits for (R414). `first` is the octet its content begins with, where requests and answers share a data type. -/
def foldTake (d : Device) (k vc dt : Nat) (first : Option Nat) : Device × Option FoldMsg :=
  let mine (p : Packet) : Bool :=
    let b := p.payload.getD []
    p.dt == dt && 8 ≤ b.length && (octet b 0 == d.foldId || octet b 0 == 0xFF) && (first.isNone || first == some (octet b 8))
  match d.takeFree k vc mine with
  | none => (d, none)
  | some (p, d') =>
    let b := p.payload.getD []
    if octet b 0 = 0xFF && octet b 3 ≤ 1 && d.farther k && !d.mayPass k vc p then (d, none) else
    let d := d'
    let src := octet b 1
    let m := leAt b 4 4
    let bc := octet b 0 = 0xFF
    if 1 < octet b 3 then (d, none)
    else
      let d := if bc && d.farther k then d.passOn k vc p else d
      if (vc = 1 || bc) && d.isCopy src vc m then (d, none)
      else (d.seeMseq src vc m, some { src := src, mseq := m, body := b.drop 8 })

/-- The request of a data type that waits, and the device without it. -/
def foldAnswered (d : Device) (dt : Nat) : Option (FoldRequest × Device) :=
  match d.fold.reqs.find? (fun r => r.dt = dt) with
  | some r => some (r, d.modFold (fun f => { f with reqs := f.reqs.filter (fun x => x.dt ≠ dt) }))
  | none => none

/-- A message to the neighbour on a fold link. -/
def sendNext (d : Device) (k dst dt mseq : Nat) (body : Octets) : Device :=
  if d.foldUp k then d.sendPacket k 2 { dt := dt, ctl := 0, cls := 0, payload := foldHeader dst d.foldId 0 0 mseq ++ body } else d.bump .FLD_LOST 0

/-- The upstream neighbour's link (R422): on the shorter way to the bellwether, counting only links that are up, with ties going west. -/
def upstream (d : Device) : Option Nat :=
  if d.bellwether then none
  else
    let n := d.ringIds.length
    let i := d.ringIds.findIdx (· = d.foldId)
    let w := d.foldUp westLink
    let e := d.foldUp eastLink
    if w && (!e || i ≤ n - i) then some westLink else if e then some eastLink else none

/-! ## Joining (R417, R418, R420, R428) -/

/-- The shared edges that JOIN names (R415): set, X0, Λ, W, PEN_SET_EDGE. -/
def ownEdges (d : Device) : List (Nat × Int × Nat × Nat × Nat) :=
  ((List.range 8).filter (fun s => d.num .PEN_SET_EDGE s != 0)).map (fun s =>
    (s, d.int .STI_SET_X0 s, d.setPitch s, d.num .STI_SET_WIDTH s, d.num .PEN_SET_EDGE s))

/-- POS_ENC_STEP of the source that an object names. -/
def stepOf (d : Device) (r : Reg) : Nat := if d.num r 0 < 3 then d.num .POS_ENC_STEP (d.num r 0) else 0

/-- A time 100 µs ago and the position reading then (R415, R421). -/
def pastReading (d : Device) : Nat × Nat :=
  let t := ofSigned 64 ((d.now : Int) - 100000)
  (t, ((d.readingPast t).map Prod.fst).getD (d.reading t))

/-- The content of JOIN. -/
def joinBody (d : Device) : Octets :=
  let es := d.ownEdges
  let (t, p) := d.pastReading
  [0, d.ident.part.ctorIdx] ++ slice d.ident.serial 0 16 ++ [d.num .DEV_TJ_MAX 0] ++ le 4 (d.num .DEV_FW_VERSION 0)
    ++ le 4 (d.stepOf .POS_SRC_PRIMARY) ++ le 4 (d.stepOf .POS_SRC_BACKUP) ++ [d.num .TIM_SRC 0] ++ le 4 (d.num .STI_REPEAT 0)
    ++ le 8 (d.num .STI_REPEAT_Y 0) ++ [d.num .FLD_STATE 0] ++ le 8 (d.num .POS_GRID_ORIGIN 0) ++ le 8 t ++ le 8 p ++ [es.length]
    ++ es.flatMap (fun e => [e.1] ++ le 8 (ofSigned 64 e.2.1) ++ le 4 e.2.2.1 ++ le 4 e.2.2.2.1 ++ [e.2.2.2.2])

/-- The shared edges of a JOIN. -/
def joinEdges (b : Octets) : List (Nat × Int × Nat × Nat × Nat) :=
  (chunks 18 (octet b 69) (b.drop 70)).map (fun e => (octet e 0, toSigned 64 (leAt e 1 8), leAt e 9 4, leAt e 13 4, octet e 17))

/-- A member sends JOIN (R415, R417): while it has not joined, until ACK. -/
def joinSend (d : Device) : Device :=
  if !d.bellwether && (d.num .FLD_STATE 0 = 1 || d.num .FLD_STATE 0 = 4) && !d.fold.acked then d.foldAsk 0 0x40 d.joinBody else d

/-- The edges of a device of the fold as the bellwether knows them; none of a device that is not pending or joined. -/
def edgesOf (d : Device) (i : Nat) : Option (List (Nat × Int × Nat × Nat × Nat)) :=
  if i = 0 then some d.ownEdges
  else if d.num .FLD_M_STATE i = 1 ∨ d.num .FLD_M_STATE i = 2 then some (d.fold.members.getD i {}).edges
  else none

/-- The east edges of one device fit the west edges of its neighbour (R428): both sides mark the set, Λ is the same, and X0 follows exactly. -/
def edgesFit (w e : List (Nat × Int × Nat × Nat × Nat)) : Bool :=
  (List.range 8).all (fun s =>
    let a := w.find? (fun x => x.1 = s && bit x.2.2.2.2 1)
    let b := e.find? (fun x => x.1 = s && bit x.2.2.2.2 0)
    match a, b with
    | none, none => true
    | some x, some y => x.2.2.1 == y.2.2.1 && (y.2.1 - x.2.1) * 256 == ((x.2.2.2.1 * x.2.2.1 : Nat) : Int)
    | _, _ => false)

/-- The shared edges of a joining member match (R427, R428): against each neighbour that is known, and none between the highest device and the bellwether. -/
def edgesMatch (d : Device) (m : Nat) (es : List (Nat × Int × Nat × Nat × Nat)) : Bool :=
  let west := match d.edgesOf (d.westOf m) with
    | some w => edgesFit w es
    | none => true
  let e := d.eastOf m
  let east := if e = 0 then es.all (fun x => !bit x.2.2.2.2 1)
    else match d.edgesOf e with
      | some o => edgesFit es o
      | none => true
  west && east

/-- The ring order of R411 allows a JOIN from `m` that arrived on link `k` after `hops` links: no more devices lie between than have their FOLD_IDs between. -/
def orderOk (d : Device) (k m hops : Nat) : Bool :=
  let r := d.ringIds
  if !r.contains m then true
  else
    let i := r.findIdx (· = m)
    if k = eastLink then hops + 1 ≤ i else hops + 1 ≤ r.length - i

/-- The reason for which a JOIN is refused (R417); 0 when it passes. -/
def joinReason (d : Device) (k m hops : Nat) (b : Octets) : Nat :=
  if d.num .FLD_M_STATE m = 2 then 1
  else if !d.orderOk k m hops then 2
  else if leAt b 23 4 ≠ d.stepOf .POS_SRC_PRIMARY ∨ leAt b 27 4 ≠ d.stepOf .POS_SRC_BACKUP then 3
  else if octet b 31 ≠ 2 then 4
  else if !d.edgesMatch m (joinEdges b) then 5
  else if leAt b 19 4 ≠ d.num .DEV_FW_VERSION 0 then 6
  else if !bit (d.num .FLD_EXPECT 0) m then 7
  else 0

/-- R420: a bellwether that forms while a member runs on its own takes that member's repeat count, grid and position, before its own first repeat; of several the
member with the lowest FOLD_ID. -/
def adoptFrom (d : Device) (m : Nat) : Device :=
  let x := d.fold.members.getD m {}
  let free := match d.fold.adopted with | some i => decide (m < i) | none => d.rep.starts == []
  if d.num .FLD_STATE 0 != 1 || x.state != 4 || x.k = 0 || !free then d
  else
    let d := d.modFold (fun f => { f with adopted := some m })
    let d := d.modRep (fun r => { r with starts := [{ k := x.k, y := toSigned 64 x.y, e := d.stretchNow }], opened := true })
    let d := ((d.set .STI_REPEAT 0 x.k).set .STI_REPEAT_Y 0 x.y).setGrid (toSigned 64 x.grid)
    let own := ((d.readingPast x.posT).map Prod.fst).getD (d.reading x.posT)
    d.set .FLD_POS_OFFSET 0 (ofSigned 64 ((x.posP : Int) - own + d.offsetNow))

/-- A JOIN at the bellwether (R417): refused with its reason, or the member is PENDING and its JOIN acknowledged. -/
def joinIn (d : Device) (k : Nat) (x : FoldMsg) (hops : Nat) : Device :=
  let m := x.src
  if !d.bellwether || m = 0 || 8 ≤ m || d.num .FLD_STATE 0 = 0 then d
  else
    let b := x.body
    let why := d.joinReason k m hops b
    let d := (d.setOct .FLD_M_SERIAL m (slice b 2 16)).set .FLD_M_REFUSE m why
    let d :=
      if why ≠ 0 then (if why = 1 then d else d.set .FLD_M_STATE m 4)
      else
        let again := d.num .FLD_M_STATE m = 1
        let old := d.fold.members.getD m {}
        let rec_ : FoldMember :=
          { locked := again && old.locked, posSet := again && old.posSet, heard := d.tick, state := octet b 44, k := leAt b 32 4, y := leAt b 36 8
            grid := leAt b 45 8, posT := leAt b 53 8, posP := leAt b 61 8, tj := octet b 18, edges := joinEdges b }
        let d := (d.modFold (fun f => { f with members := modTab 8 {} f.members m (fun _ => rec_) })).set .FLD_M_STATE m 1
        d.adoptFrom m
    let (q, d) := d.nextMseq 2
    d.foldSendAs m 0x40 2 q [1, why, d.num .FLD_MEMBERS 0]

/-- The answer to a member's JOIN (R417). -/
def joinAnswer (d : Device) (x : FoldMsg) : Device :=
  match d.foldAnswered 0x40 with
  | none => d
  | some (_, d) => if octet x.body 1 = 0 then d.modFold (fun f => { f with acked := true }) else d

/-! ## Time and position (R421 to R423) -/

/-- A position request (R421): the fold time of a reading 100 µs ago. -/
def askPos (d : Device) : Device :=
  if d.fold.reqs.any (fun r => r.dt = 0x42) then d else d.foldAsk 0 0x42 (0 :: le 8 d.pastReading.1)

/-- A member with ACK and a locked servo asks for its position offset (R418, R421). -/
def wantPos (d : Device) : Device :=
  if !d.bellwether && d.fold.acked && !d.fold.posKnown && d.num .TIM_SERVO_STATE 0 = 2 then d.askPos else d

/-- POS at the bellwether (R421). -/
def posIn (d : Device) (x : FoldMsg) : Device :=
  if !d.bellwether then d
  else
    let t := leAt x.body 1 8
    let p := ((d.readingPast t).map Prod.fst).getD (d.reading t)
    let d := d.modFold (fun f => { f with members := modTab 8 {} f.members x.src (fun m => { m with posSet := true }) })
    let (q, d) := d.nextMseq 2
    d.foldSendAs x.src 0x42 2 q ([1] ++ le 8 t ++ le 8 p)

/-- Δ rounded to the nearest multiple of the active source's step, ties up (R421). -/
def roundStep (d : Device) (x : Int) : Int :=
  let s := d.stepNow
  if s = 0 then x else divRound x s * s

/-- The answer to POS (R421): FLD_POS_OFFSET; it applies at once to a member, and from its joining to a device that joins. -/
def posAnswer (d : Device) (x : FoldMsg) : Device :=
  match d.foldAnswered 0x42 with
  | none => d
  | some (r, d) =>
    let t := leAt r.body 1 8
    let old := d.offsetNow
    let own : Int := ((((d.readingPast t).map Prod.fst).getD (d.reading t) : Nat) : Int) - old
    let off := ofSigned 64 (d.roundStep (toSigned 64 (ofSigned 64 ((leAt x.body 9 8 : Int) - own))))
    let d := d.set .FLD_POS_OFFSET 0 off
    if d.num .FLD_STATE 0 = 3 then (d.modFold (fun f => { f with slip := false })).faultOff .fldPos
    else d.modFold (fun f => { f with held := some old, posKnown := true })

/-- TIME to the upstream neighbour (R415, R422). -/
def timeSend (d : Device) (t1 : Nat) : Device :=
  match d.upstream with
  | none => d
  | some k =>
    let dst := (d.link k).farFold.getD 0
    let (m, d) := d.nextMseq 2
    let body := 0 :: le 10 t1
    let d := d.modFold (fun f => { f with reqs := f.reqs.filter (fun r => r.dt ≠ 0x41) ++ [{ dst := dst, dt := 0x41, mseq := m, body := body }] })
    d.sendNext k dst 0x41 m body

/-- A TIME answer gives the servo a sample with T = 1 ms (R422). -/
def timeAnswer (d : Device) (x : FoldMsg) (t4 : Nat) : Device :=
  match d.foldAnswered 0x41 with
  | none => d
  | some (r, d) =>
    let t1 : Int := leAt r.body 1 10
    let t2 : Int := leAt x.body 1 10
    let t3 : Int := leAt x.body 11 10
    if d.num .TIM_SRC 0 = 2 then d.servoTake (((t1 - t2) + ((t4 : Int) - t3)) / 2) 1000000 (t4 / 65536) else d

/-! ## BEACON and STATUS (R415, R418, R419, R423) -/

/-- BEACON of the bellwether. -/
def beaconSend (d : Device) : Device :=
  if !d.bellwether || d.num .FLD_STATE 0 = 0 then d
  else
    let (t, p) := d.pastReading
    d.foldSend 0xFF 0x43 2 ([d.num .FLD_STATE 0, d.num .FLD_MEMBERS 0] ++ le 4 d.fold.fromK ++ le 8 t ++ le 8 p
      ++ [d.num .FLD_EXPECT 0] ++ le 2 (d.num .FLD_FORM_MS 0) ++ [d.num .FLD_TJ_MAX 0])

/-- Both copies of an object take a value of the bellwether's (R431). -/
def takeBell (d : Device) (r : Reg) (v : Nat) : Device := (d.set r 0 v).putStg r 0 (.num v)

/-- A member becomes ISOLATED (R419). -/
def isolate (d : Device) : Device :=
  let d := (d.foldState 4).modFold (fun f => { f with acked := false, posKnown := false, start := none })
  if d.upstream.isNone then d.servoHoldover else d

/-- A member joins (R418): its offset applies, and it takes the bellwether's repeat; one that was ISOLATED goes on from that repeat's start. -/
def becomeMember (d : Device) (k : Nat) : Device :=
  let d := match d.fold.start with
    | some s => d.modRep (fun r => { r with starts := (s :: r.starts.dropWhile (fun h => s.y ≤ h.y)).take 1024 })
    | none => d
  let d := (d.modFold (fun f => { f with held := none, slip := false, start := none })).foldState 3
  (d.bump .FLD_JOINS 0).set .STI_REPEAT 0 k

/-- BEACON at a member: the fold's state and members, its own membership, and the position (R418, R419, R423). -/
def beaconIn (d : Device) (x : FoldMsg) : Device :=
  if d.bellwether then d
  else
    let b := x.body
    let ms := octet b 1
    let me := bit ms d.foldId
    let fromK := leAt b 2 4
    let d := d.modFold (fun f => { f with fromK := fromK })
    let d := ((d.takeBell .FLD_EXPECT (octet b 22)).takeBell .FLD_FORM_MS (leAt b 23 2)).set .FLD_TJ_MAX 0 (octet b 25)
    let st := d.num .FLD_STATE 0
    let d := if me && st != 3 && d.fold.acked then d.becomeMember fromK else if !me && st = 3 then d.isolate else d
    let d := (d.setMembers ms).shareFrom (d.num .STI_REPEAT 0)
    if d.num .FLD_STATE 0 = 3 then
      let t := leAt b 6 8
      let own := ((d.readingPast t).map Prod.fst).getD (d.reading t)
      let diff := (toSigned 64 (ofSigned 64 ((leAt b 14 8 : Int) - own))).natAbs
      if d.stepNow != 0 && d.stepNow ≤ diff then
        ((d.bump .FLD_POS_SLIPS 0).faultOn .fldPos).modFold (fun f => { f with slip := true })
      else d
    else d.wantPos

/-- STATUS of a member (R415). -/
def statusSend (d : Device) : Device :=
  if d.bellwether then d
  else d.foldSend 0 0x44 2 ([d.num .FLD_STATE 0, d.num .TIM_SERVO_STATE 0] ++ le 4 (d.num .TIM_OFFSET 0))

/-- STATUS at the bellwether (R418, R432). -/
def statusIn (d : Device) (x : FoldMsg) : Device :=
  if !d.bellwether || x.src = 0 || 8 ≤ x.src then d
  else
    let b := x.body
    let d := d.setI .FLD_M_THETA x.src (toSigned 32 (leAt b 2 4))
    d.modFold (fun f => { f with members := modTab 8 {} f.members x.src (fun m =>
      { m with state := octet b 0, locked := octet b 1 == 2, heard := d.tick }) })

/-- The repeat after the present one. -/
def followingRepeat (d : Device) : Nat := (d.num .STI_REPEAT 0 + 1) % 2 ^ 32

/-- A joined member has fallen silent (R419): LOST, and its components complete at once, marked partial. -/
def memberLost (d : Device) (m : Nat) : Device :=
  if !d.bellwether || d.num .FLD_M_STATE m != 2 then d
  else
    let d := (d.set .FLD_M_STATE m 3).bump .FLD_LOSSES 0
    let d := d.modFold (fun f => { f with fromK := d.followingRepeat, members := modTab 8 {} f.members m (fun x => { x with locked := false, posSet := false }) })
    ((d.setMembers (clearBit (d.num .FLD_MEMBERS 0) m)).foldLimit).passOfDevice m

/-- Every expected FOLD_ID is among the members of a map. -/
def allJoined (d : Device) (ms : Nat) : Bool := (bitsOf 8 (d.num .FLD_EXPECT 0)).all (fun m => bit ms m)

/-- A device repeat boundary at which repeat `k` begins (R418, R423): pending members that are locked and have their offset join, and the fold forms; a member asks
for its offset again after a slip. -/
def foldBoundary (d : Device) (k : Nat) : Device :=
  if d.bellwether then
    if d.num .FLD_STATE 0 = 0 then d
    else
      let ready := (List.range 8).filter (fun m => 0 < m && d.num .FLD_M_STATE m = 1 &&
        (let x := d.fold.members.getD m {}; x.locked && x.posSet))
      let d := ready.foldl (fun d m => (d.set .FLD_M_STATE m 2).bump .FLD_JOINS 0) d
      let ms := ready.foldl setBit (d.num .FLD_MEMBERS 0)
      let d := d.modFold (fun f => { f with adopted := none })
      let d := if d.num .FLD_STATE 0 = 1 && d.allJoined ms then d.foldState 2 else d
      let d := if ready = [] then d else ((d.modFold (fun f => { f with fromK := k })).setMembers ms).foldLimit
      (d.shareFrom k).foldPulse 61
  else
    let d := if d.fold.slip && d.num .FLD_STATE 0 = 3 then (d.modFold (fun f => { f with slip := false })).askPos else d
    (d.shareFrom k).foldPulse 61

/-! ## Relay, queue items and the bus poll (R413, R425, R426) -/

/-- The pulse of a relayed edge at fold time `t` (R425): on line 63 at t + 5 µs, or at once when that has passed. -/
def relayAt (d : Device) (t : Nat) : Device :=
  if t + 5000 ≤ d.now then d.foldPulse 63 else d.modFold (fun f => { f with relays := f.relays ++ [t + 5000] })

/-- Relayed pulses whose time has come (R425). -/
def relayTick (d : Device) : Device :=
  let due := d.fold.relays.filter (fun t => t ≤ d.now)
  if due = [] then d
  else due.foldl (fun d _ => d.foldPulse 63) (d.modFold (fun f => { f with relays := f.relays.filter (fun t => !(t ≤ d.now)) }))

/-- Edges of the bellwether's FLD_RELAY_LINE are relayed (R425). -/
def relayEdge (d : Device) : Device :=
  match d.evt.relayEdges with
  | [] => d
  | t :: rest =>
    let d := { d with evt := { d.evt with relayEdges := rest } }
    if d.bellwether && d.inFold then (d.foldSend3 0xFF 0x4D 1 (le 8 t)).relayAt t else d

/-- A member's queue item at the bellwether (R426). -/
def qitemIn (d : Device) (x : FoldMsg) : Device :=
  let q := leAt x.body 6 2
  if !d.bellwether || 4096 ≤ q then d
  else
    let r := d.ring q
    if d.num .QUE_STATE q = 1 && r.dir = 0 && r.peer ≤ 1 then d.placeItem q 0x4C x.body else d.countDrop q

/-- The bellwether polls each expected member that has not joined (R413). -/
def twiPoll (d : Device) : Device :=
  if !d.bellwether then d
  else ((bitsOf 8 (d.num .FLD_EXPECT 0)).filter (fun m => 0 < m && d.num .FLD_M_STATE m != 2)).foldl
    (fun d m => d.twiAsk { who := 1, addr := 0x58 + m, wr := [], rd := 2 }) d

/-- REPEAT at a member (R424): the start of repeat k; one for a repeat that has begun is ignored. A device about to join takes it as its first. -/
def repeatIn (d : Device) (x : FoldMsg) : Device :=
  let k := leAt x.body 0 4
  let s : RepeatStart := { k := k, y := toSigned 64 (leAt x.body 4 8), e := toSigned 32 (leAt x.body 12 4) }
  if d.bellwether then d
  else if d.num .FLD_STATE 0 = 3 then
    match d.rep.starts with
    | h :: _ => if serialDiff 32 k h.k ≤ 0 then d else d.modRep (fun r => { r with starts := (s :: r.starts).take 1024 })
    | [] => d.modRep (fun r => { r with starts := [s] })
  else if !d.fold.acked then d
  else if d.num .FLD_STATE 0 = 4 then d.modFold (fun f => { f with start := some s })
  else d.modRep (fun r => { r with starts := [s] })

end Device

/-! ## The commands -/

/-- RELAY_LINE_EDGE (R425). -/
def execRelayLineEdge (s : State) : Host.Outcome State Fault Refusal := run true s fun d => d.relayEdge

/-- JOIN_SEND (R415). -/
def execJoinSend (s : State) : Host.Outcome State Fault Refusal := run true s fun d => d.joinSend

/-- JOIN_RX (R417). -/
def execJoinRx (k : Nat) (s : State) : Host.Outcome State Fault Refusal :=
  run (WF.joinRx k) s fun d =>
    let hops := match (d.rxOf k 2).released.find? (fun p => p.dt == 0x40) with
      | some p => octet (p.payload.getD []) 2
      | none => 0
    match d.foldTake k 2 0x40 (some 0) with
    | (d, some x) => d.joinIn k x hops
    | (d, none) => d

/-- JOIN_ANSWER_RX (R417). -/
def execJoinAnswerRx (k : Nat) (s : State) : Host.Outcome State Fault Refusal :=
  run (WF.joinAnswerRx k) s fun d =>
    match d.foldTake k 2 0x40 (some 1) with
    | (d, some x) => d.joinAnswer x
    | (d, none) => d

/-- TIME_SEND (R415): `t1` is the stamp of its departure, in 2^−16 ns. -/
def execTimeSend (t1 : Nat) (s : State) : Host.Outcome State Fault Refusal := run (WF.timeSend t1) s fun d => d.timeSend t1

/-- TIME_REQ_RX (R422): `t2` and `t3` are the stamps of its arrival and of the answer's departure. -/
def execTimeReqRx (k t2 t3 : Nat) (s : State) : Host.Outcome State Fault Refusal :=
  run (WF.timeReqRx k t2 t3) s fun d =>
    match d.foldTake k 2 0x41 (some 0) with
    | (d, some x) =>
      let (m, d) := d.nextMseq 2
      d.sendNext k x.src 0x41 m ([1] ++ le 10 t2 ++ le 10 t3)
    | (d, none) => d

/-- TIME_ANSWER_RX (R422). -/
def execTimeAnswerRx (k t4 : Nat) (s : State) : Host.Outcome State Fault Refusal :=
  run (WF.timeAnswerRx k t4) s fun d =>
    match d.foldTake k 2 0x41 (some 1) with
    | (d, some x) => (d.timeAnswer x t4).wantPos
    | (d, none) => d

/-- POS_REQ_RX (R421). -/
def execPosReqRx (k : Nat) (s : State) : Host.Outcome State Fault Refusal :=
  run (WF.posReqRx k) s fun d =>
    match d.foldTake k 2 0x42 (some 0) with
    | (d, some x) => d.posIn x
    | (d, none) => d

/-- POS_ANSWER_RX (R421). -/
def execPosAnswerRx (k : Nat) (s : State) : Host.Outcome State Fault Refusal :=
  run (WF.posAnswerRx k) s fun d =>
    match d.foldTake k 2 0x42 (some 1) with
    | (d, some x) => d.posAnswer x
    | (d, none) => d

/-- BEACON_SEND (R415). -/
def execBeaconSend (s : State) : Host.Outcome State Fault Refusal := run true s fun d => d.beaconSend

/-- BEACON_RX (R423). -/
def execBeaconRx (k : Nat) (s : State) : Host.Outcome State Fault Refusal :=
  run (WF.beaconRx k) s fun d =>
    match d.foldTake k 2 0x43 none with
    | (d, some x) => d.beaconIn x
    | (d, none) => d

/-- STATUS_SEND (R415). -/
def execStatusSend (s : State) : Host.Outcome State Fault Refusal := run true s fun d => d.statusSend

/-- STATUS_RX (R418). -/
def execStatusRx (k : Nat) (s : State) : Host.Outcome State Fault Refusal :=
  run (WF.statusRx k) s fun d =>
    match d.foldTake k 2 0x44 none with
    | (d, some x) => d.statusIn x
    | (d, none) => d

/-- REPEAT_RX (R424). -/
def execRepeatRx (k : Nat) (s : State) : Host.Outcome State Fault Refusal :=
  run (WF.repeatRx k) s fun d =>
    match d.foldTake k 1 0x45 none with
    | (d, some x) => d.repeatIn x
    | (d, none) => d

/-- GRID_RX (R424). -/
def execGridRx (k : Nat) (s : State) : Host.Outcome State Fault Refusal :=
  run (WF.gridRx k) s fun d =>
    match d.foldTake k 1 0x46 none with
    | (d, some x) => if d.bellwether then d else d.setGrid (toSigned 64 (leAt x.body 0 8))
    | (d, none) => d

/-- QITEM_RX (R426). -/
def execQitemRx (k : Nat) (s : State) : Host.Outcome State Fault Refusal :=
  run (WF.qitemRx k) s fun d =>
    match d.foldTake k 3 0x4C none with
    | (d, some x) => d.qitemIn x
    | (d, none) => d

/-- RELAY_RX (R425). -/
def execRelayRx (k : Nat) (s : State) : Host.Outcome State Fault Refusal :=
  run (WF.relayRx k) s fun d =>
    match d.foldTake k 1 0x4D none with
    | (d, some x) => d.relayAt (leAt x.body 0 8)
    | (d, none) => d

/-- EDGE_RX (R251). -/
def execEdgeRx (k : Nat) (s : State) : Host.Outcome State Fault Refusal :=
  run (WF.edgeRx k) s fun d =>
    match d.foldTake k 0 0x47 none with
    | (d, some x) =>
      let b := x.body
      let j := leAt b 1 4
      let bl := leAt b 5 4
      let es := (List.range 32).map (fun i => ({ j := (j + i) % 2 ^ 32, blind := bit bl i, tag := leAt b (9 + 4 * i) 4 } : EdgeEntry))
      d.edgeIn (octet b 0 % 8) j es
    | (d, none) => d

/-- LINK_RX (R251). -/
def execLinkRx (k : Nat) (s : State) : Host.Outcome State Fault Refusal :=
  run (WF.linkRx k) s fun d =>
    match d.foldTake k 1 0x48 none with
    | (d, some x) => if d.bellwether then d.linkIn (leAt x.body 0 4) (leAt x.body 4 4) else d
    | (d, none) => d

/-- WATERMARK_RX (R251). -/
def execWatermarkRx (k : Nat) (s : State) : Host.Outcome State Fault Refusal :=
  run (WF.watermarkRx k) s fun d =>
    match d.foldTake k 1 0x49 none with
    | (d, some x) => if d.bellwether then d.watermarkIn x.src (octet x.body 0) (leAt x.body 1 4) else d
    | (d, none) => d

/-- ALIAS_RX (R251). -/
def execAliasRx (k : Nat) (s : State) : Host.Outcome State Fault Refusal :=
  run (WF.aliasRx k) s fun d =>
    match d.foldTake k 1 0x4A none with
    | (d, some x) => if d.bellwether then d.aliasIn (leAt x.body 0 4) (leAt x.body 4 4) else d
    | (d, none) => d

/-- FRAG_RX (R252). -/
def execFragRx (k : Nat) (s : State) : Host.Outcome State Fault Refusal :=
  run (WF.fragRx k) s fun d =>
    match d.foldTake k 1 0x4B none with
    | (d, some x) =>
      let b := x.body
      let p := penOfBytes (slice b 4 32) (toSigned 32 (leAt b 36 4)) (leAt b 40 4) (leAt b 44 8) (leAt b 52 4) (toSigned 64 (leAt b 56 8))
      if d.bellwether then d.fragIn (leAt b 0 4) p else d
    | (d, none) => d

/-- FOLD_PACKET_FORWARD (R414): the first packet on a link that is addressed to another device and may be passed on; those of each VC and class stay in order. -/
def execFoldPacketForward (k : Nat) (s : State) : Host.Outcome State Fault Refusal :=
  run (WF.foldPacketForward k) s fun d =>
    let other (cls : Nat) (p : Packet) : Bool :=
      let b := p.payload.getD []
      p.dt != 0x3D && p.dt != 0x3F && 8 ≤ b.length && octet b 0 != d.foldId && octet b 0 != 0xFF && Nat.min 1 (octet b 3) == cls
    let next (i : Nat) : Option (Nat × Packet × Device) :=
      match d.takeFree k (i / 2) (other (i % 2)) with
      | some (p, e) => if octet (p.payload.getD []) 3 ≤ 1 && !d.mayPass k (i / 2) p then none else some (i / 2, p, e)
      | none => none
    match (List.range 8).findSome? next with
    | some (vc, (p, d)) => if 1 < octet (p.payload.getD []) 3 then d else d.passOn k vc p
    | none => d

/-- FOLD_REQUEST_RETRY (R416): a request unanswered for 1 ms is sent again with its MSEQ, up to three times. -/
def execFoldRequestRetry (dt : Nat) (s : State) : Host.Outcome State Fault Refusal :=
  run (WF.foldRequestRetry dt) s fun d =>
    match d.fold.reqs.find? (fun r => r.dt = dt) with
    | none => d
    | some r =>
      if 3 ≤ r.tries then d.modFold (fun f => { f with reqs := f.reqs.filter (fun x => x.dt ≠ dt) })
      else
        let d := d.modFold (fun f => { f with reqs := f.reqs.map (fun x => if x.dt = dt then { x with tries := x.tries + 1 } else x) })
        match (if dt = 0x41 then d.upstream else none) with
        | some k => d.sendNext k r.dst dt r.mseq r.body
        | none => d.foldSendAs r.dst dt 2 r.mseq r.body

/-- MEMBER_LOST (R419). -/
def execMemberLost (m : Nat) (s : State) : Host.Outcome State Fault Refusal := run (WF.memberLost m) s fun d => d.memberLost m

/-- BEACON_TIMEOUT (R419). -/
def execBeaconTimeout (s : State) : Host.Outcome State Fault Refusal :=
  run true s fun d => if !d.bellwether && d.num .FLD_STATE 0 = 3 then d.isolate else d

/-- FOLD_FORM_TIMEOUT (R418). -/
def execFoldFormTimeout (s : State) : Host.Outcome State Fault Refusal :=
  run true s fun d => if d.bellwether && d.num .FLD_STATE 0 = 1 && d.reachable then d.foldState 2 else d

/-- FOLD_TWI_POLL (R413). -/
def execFoldTwiPoll (s : State) : Host.Outcome State Fault Refusal := run true s fun d => d.twiPoll

/-- FOLD_SYNC_EDGE (R425): the other devices release FOLD_SYNC, or one holds it. -/
def execFoldSyncEdge (rise : Bool) (s : State) : Host.Outcome State Fault Refusal :=
  run (WF.foldSyncEdge rise) s fun d => (d.modFold (fun f => { f with sync := rise })).syncLine

end Sys2Proof.Machine
end

