-- ==== Sys2Proof/Machine/Twi.lean ====
section
/-!
DEFINITION. The two-wire interface (R459 to R470): the arbiter, controller transactions and what their results mean to each requester, lost arbitration,
timeouts and recovery, and the target. The bit timing of R460 and R461 is left out (log entry 7).
-/
namespace Sys2Proof.Machine

namespace Device

/-- The two-wire block changed. -/
def modTwi (d : Device) (f : Twi → Twi) : Device := { d with twi := f d.twi }

/-- TWI_BUS_STATE takes a state (R473). -/
def busState (d : Device) (st : Nat) : Device := d.set .TWI_BUS_STATE 0 st

/-- The settings of the live set (R461, R473). -/
def twiSettings (d : Device) : List Nat :=
  [d.num .TWI_SPEED 0, d.num .TWI_RISE_NS 0, d.num .TWI_SU_DAT_NS 0, d.num .TWI_HD_DAT_NS 0, d.num .TWI_STRETCH_MS 0, d.num .TWI_RETRY 0, d.num .TWI_IDLE_US 0]

/-- The bus is free (R463), and new settings take effect (R461). -/
def busFree (d : Device) : Device := (d.modTwi (fun t => { t with settings := d.twiSettings })).busState 0

/-- New settings after a hand-over (R461): at once when the bus is free. -/
def twiHandover (d : Device) : Device := if d.num .TWI_BUS_STATE 0 = 0 then d.busFree else d

/-- A sticky flag is set (R474). -/
def twiFlag (d : Device) (b : Nat) : Device :=
  (d.set .TWI_FLAGS 0 (setBit (d.num .TWI_FLAGS 0) b)).modTwi (fun t => { t with raisedNow := setBit t.raisedNow b })

/-- The bytes a transaction writes after its address (R470): with a packet error code, over every byte sent, on a write. -/
def twiBytes (r : TwiReq) : Octets := if r.pec && r.rd = 0 then r.wr ++ [crc8 ((2 * r.addr) :: r.wr)] else r.wr

/-- The bytes a transaction reads. -/
def twiReads (r : TwiReq) : Nat := if r.rd = 0 then 0 else r.rd + b2n r.pec

/-- The packet error code of a read is right (R470): over the bytes of the whole transaction. -/
def pecOk (r : TwiReq) (data : Octets) : Bool :=
  let sent := if r.wr = [] then [] else (2 * r.addr) :: r.wr
  octet data r.rd == crc8 (sent ++ [2 * r.addr + 1] ++ slice data 0 r.rd)

/-- The software transaction ends (R470, R475). -/
def slotEnds (d : Device) (r : TwiReq) (status done : Nat) (data : Octets) : Device :=
  let rd := slice data 0 r.rd
  let st := if status = 2 && r.pec && r.rd != 0 && !pecOk r data then 7 else status
  let d := if status = 2 && r.rd != 0 then d.setOct .TWI_T_RD 0 rd else d
  (d.set .TWI_T_STATUS 0 st).set .TWI_T_DONE_BYTES 0 (if status = 2 then r.wr.length else Nat.min done r.wr.length)

/-- What the sequencer makes of its transaction (R442): VOUT_MODE in linear format gives the exponent, and 0.80 V is commanded; any other, or no answer, raises
DVFS. A voltage that was not commanded is never confirmed, and its wait times out (R441). -/
def sequencerEnds (d : Device) (r : TwiReq) (ok : Bool) (data : Octets) : Device :=
  if r.wr != [0x20] then d
  else
    let b := octet data 0
    if ok && b / 32 = 0 then
      let n := toSigned 5 b
      (({ d with vrExp := some n }).commandVolt n 800).evaluatePoint
    else d.raiseFault .dvfs

/-- What the fold poll makes of its transaction (R413): the two bytes, a second attempt after an address not acknowledged, and 0 after two. -/
def pollEnds (d : Device) (r : TwiReq) (status : Nat) (data : Octets) : Device :=
  let m := r.addr - 0x58
  if status = 2 then d.set .FLD_M_TWI m (leAt data 0 2)
  else if status = 3 then (if r.again then d.set .FLD_M_TWI m 0 else d.twiAsk { r with again := true })
  else d

/-- The transaction in progress ends with a status of R475. -/
def twiEnds (d : Device) (status done : Nat) (data : Octets) : Device :=
  match d.twi.cur with
  | none => d
  | some r =>
    let d := d.modTwi (fun t => { t with cur := none, tries := 0, retryWait := false })
    match r.who with
    | 0 => d.sequencerEnds r (status = 2) data
    | 1 => d.pollEnds r status data
    | _ => d.slotEnds r status done data

/-- Arbitration is lost (R464): the block withdraws; it retries after the next STOP, or the retries are spent. `own` says that the winner addresses the device,
which carries on as a target. -/
def arbLost (d : Device) (own : Bool) : Device :=
  let d := ((d.twiFlag 0).bump .TWI_ARB_LOST 0).busState (if own then 3 else 1)
  if d.twi.settings.getD 5 3 ≤ d.twi.tries then d.twiEnds 5 0 [] else d.modTwi (fun t => { t with retryWait := true })

/-- A transaction's START and all it sends (R459, R470); `lost` 1 loses arbitration, 2 loses it to a controller that addresses the device. -/
def twiSends (d : Device) (r : TwiReq) (lost : Nat) : Device :=
  let d := (d.busState 2).emit (.twi r.addr (twiBytes r) (twiReads r))
  if lost = 0 then d else d.arbLost (lost = 2)

/-- The request the round-robin arbiter picks (R459): the first of the first requester from the pointer on. -/
def twiPick (d : Device) : Option TwiReq :=
  (List.range 3).findSome? (fun i => d.twi.pending.find? (fun r => r.who = (d.twi.pointer + i) % 3))

/-- A pending request becomes the transaction in progress, and the pointer moves past it. -/
def twiTake (d : Device) (r : TwiReq) : Device :=
  d.modTwi (fun t => { t with pending := t.pending.erase r, cur := some r, tries := 0, retryWait := false, pointer := (r.who + 1) % 3 })

/-- TWI_TRANSACTION_START (R459). -/
def twiStart (d : Device) (lost : Nat) : Device :=
  if d.num .TWI_BUS_STATE 0 != 0 || d.twi.cur.isSome || d.num .PWR_STATE 0 = 2 then d
  else match d.twiPick with
    | none => d
    | some r => ((d.twiTake r).modTwi (fun t => { t with fresh := false })).twiSends r lost

/-- TWI_ARB_RETRY (R464). -/
def twiRetry (d : Device) (lost : Nat) : Device :=
  match d.twi.cur with
  | some r =>
    if d.twi.retryWait && d.num .TWI_BUS_STATE 0 = 0 && d.num .PWR_STATE 0 != 2 then
      (d.modTwi (fun t => { t with retryWait := false, tries := t.tries + 1 })).twiSends r lost
    else d
  | none => d

/-- TWI_TRANSACTION_END (R470): STOP, with the longest rise of SCL and how many exceeded TWI_RISE_NS (R461). -/
def twiEnd (d : Device) (outcome done rise slow : Nat) (data : Octets) : Device :=
  if d.num .TWI_BUS_STATE 0 != 2 || d.twi.cur.isNone then d
  else
    let d := d.set .TWI_RISE_MEAS_NS 0 rise
    let d := if d.twi.settings.getD 1 300 < rise then d.add .TWI_RISE_OVER 0 (Nat.max 1 slow) else d
    (d.busFree).twiEnds (2 + outcome) done data

/-- Recovery (R466): completed, or the bus is STUCK. -/
def recovery (d : Device) (freed : Bool) : Device :=
  if freed then (d.bump .TWI_RECOVERIES 0).busFree else (d.twiFlag 3).busState 5

/-- The clock-stretch timeout as controller (R465): lease kind 4 expires, the transaction ends with TIMEOUT, and the block is about to recover the bus. Gives false
where the device neither controls the bus nor waits to start. -/
def controllerTimeout (d : Device) : Bool × Device :=
  let d? : Option Device :=
    if d.num .TWI_BUS_STATE 0 = 2 && d.twi.cur.isSome then some d
    else if d.twi.cur.isSome && d.twi.retryWait && d.num .TWI_BUS_STATE 0 ≤ 1 && d.num .PWR_STATE 0 != 2 then some d
    else if d.twi.cur.isNone && d.num .TWI_BUS_STATE 0 ≤ 1 && d.num .PWR_STATE 0 != 2 then d.twiPick.map d.twiTake
    else none
  match d? with
  | none => (false, d)
  | some d =>
    let d := ((d.leaseRevoked 4 0).twiFlag 2).bump .TWI_TIMEOUTS 0
    (true, (d.busState 4).twiEnds 6 0 [])

/-- TWI_STRETCH_TIMEOUT (R465). -/
def stretchTimeout (d : Device) (freed : Bool) : Device :=
  if d.num .TWI_BUS_STATE 0 = 3 then ((d.twiFlag 2).bump .TWI_TIMEOUTS 0).busState 1
  else match d.controllerTimeout with
    | (true, d) => d.recovery freed
    | (false, d) => d

/-- The two status bytes (R413). -/
def statusBytes (d : Device) : Octets := [d.num .FLD_STATE 0, b2n (d.num .TIM_SERVO_STATE 0 == 2) + 2 * b2n d.holdsSync]

/-- The device as target (R467, R468): 0 a read of `n` bytes; 1 a write without data; 2 a write with data, nothing stored; 3 and 4 a repeated START or a STOP where
an acknowledge is due or inside a byte; 5 the general call or another address. -/
def targetAddressed (d : Device) (kind n : Nat) : Device :=
  if d.num .TWI_BUS_STATE 0 = 2 || d.bring == .held || (d.num .PWR_STATE 0 = 2 && !d.twi.powered) then d
  else
    let d := d.modTwi (fun t => { t with fresh := false })
    match kind with
    | 0 => ((d.emit (.twiRead ((d.statusBytes ++ List.replicate n 0xFF).take n))).bump .TWI_TGT_READS 0).busFree
    | 3 => ((d.twiFlag 1).bump .TWI_PROTO_ERR 0).busState 1
    | 4 => ((d.twiFlag 1).bump .TWI_PROTO_ERR 0).busFree
    | _ => d.busFree

/-- TWI_START_STOP_OBSERVED (R463, R464, R466, R472). -/
def startStop (d : Device) (stop : Bool) : Device :=
  let st := d.num .TWI_BUS_STATE 0
  let d := d.modTwi (fun t => { t with fresh := false })
  if st = 2 && d.twi.cur.isSome then
    let d := d.arbLost false
    if stop then d.busFree else d
  else if stop then d.busFree
  else if st = 5 then d
  else d.busState 1

/-- Why a write of TWI_T_GO is refused (R470); 0 when it is not. -/
def slotRefused (d : Device) : Nat := if d.num .TWI_T_STATUS 0 = 1 then 6 else 0

/-- TWI_T_GO (R470): the software transaction is queued. -/
def slotGo (d : Device) : Device :=
  (d.set .TWI_T_STATUS 0 1).twiAsk
    { who := 2, addr := d.num .TWI_T_ADDR 0, wr := d.oct .TWI_T_WR 0, rd := d.num .TWI_T_RD_LEN 0, pec := d.on .TWI_T_PEC 0 }

/-- TWI_FLAG_CLEAR (R474); a flag raised in this tick stays set (R472). -/
def twiClear (d : Device) (mask : Nat) : Device :=
  d.set .TWI_FLAGS 0 (bitMap 4 (fun k => bit (d.num .TWI_FLAGS 0) k && (!bit mask k || bit d.twi.raisedNow k)))

end Device

/-! ## The commands -/

/-- TWI_TRANSACTION_START (R459). -/
def execTwiTransactionStart (lost : Nat) (s : State) : Host.Outcome State Fault Refusal :=
  run (WF.twiTransactionStart lost) s fun d => d.twiStart lost

/-- TWI_TRANSACTION_END (R470): outcome 0 all acknowledged, 1 the address not, 2 a data byte not; the data bytes acknowledged in the write; the data read. -/
def execTwiTransactionEnd (outcome done rise slow : Nat) (data : Octets) (s : State) : Host.Outcome State Fault Refusal :=
  run (WF.twiTransactionEnd outcome done rise slow data) s fun d => d.twiEnd outcome done rise slow data

/-- TWI_ARB_RETRY (R464). -/
def execTwiArbRetry (lost : Nat) (s : State) : Host.Outcome State Fault Refusal := run (WF.twiArbRetry lost) s fun d => d.twiRetry lost

/-- TWI_STRETCH_TIMEOUT (R465): `freed` says whether the recovery that follows frees the bus. -/
def execTwiStretchTimeout (freed : Bool) (s : State) : Host.Outcome State Fault Refusal :=
  run (WF.twiStretchTimeout freed) s fun d => d.stretchTimeout freed

/-- TWI_RECOVERY_RETRY (R466). -/
def execTwiRecoveryRetry (freed : Bool) (s : State) : Host.Outcome State Fault Refusal :=
  run (WF.twiRecoveryRetry freed) s fun d =>
    if d.num .TWI_BUS_STATE 0 = 4 ∨ d.num .TWI_BUS_STATE 0 = 5 then d.recovery freed else d

/-- TWI_BUS_IDLE (R463): after reset, with no START seen since. -/
def execTwiBusIdle (s : State) : Host.Outcome State Fault Refusal :=
  run true s fun d => if d.twi.fresh && d.num .TWI_BUS_STATE 0 = 1 then d.busFree else d

/-- TWI_TARGET_ADDRESSED (R467). -/
def execTwiTargetAddressed (kind n : Nat) (s : State) : Host.Outcome State Fault Refusal :=
  run (WF.twiTargetAddressed kind n) s fun d => d.targetAddressed kind n

/-- TWI_SLEEP_MATCH (R469). -/
def execTwiSleepMatch (s : State) : Host.Outcome State Fault Refusal :=
  run true s fun d =>
    if d.num .PWR_STATE 0 = 2 && !d.twi.powered then (d.bump .TWI_SLEEP_NACKS 0).modTwi (fun t => { t with powered := true }) else d

/-- TWI_TARGET_IDLE (R469): 1 s without being addressed. -/
def execTwiTargetIdle (s : State) : Host.Outcome State Fault Refusal :=
  run true s fun d => if d.num .PWR_STATE 0 = 2 then d.modTwi (fun t => { t with powered := false }) else d

/-- TWI_START_STOP_OBSERVED (R463). -/
def execTwiStartStopObserved (stop : Bool) (s : State) : Host.Outcome State Fault Refusal :=
  run (WF.twiStartStopObserved stop) s fun d => d.startStop stop

/-- LEASE_EXPIRE (R450): kind 4 is the two-wire bus, whose recovery is about to run (R466). -/
def execLeaseExpire (kind holder : Nat) (s : State) : Host.Outcome State Fault Refusal :=
  run (WF.leaseExpire kind holder) s fun d => if kind = 4 then d.controllerTimeout.2 else d.leaseExpire kind holder

end Sys2Proof.Machine
end

