-- ==== Sys2Proof/Machine/Commit.lean ====
section
/-!
DEFINITION. Commit, pending sets and hand-over (R45 to R49): the order of the checks, what acceptance reserves, and what becomes live together at a hand-over, for
a channel (R82, R98, R101, R109, R111 to R113, R118 to R120, R123, R158, R164, R184, R285, R294) and for the device (R58, R143, R186, R224, R250, R279, R341, R390, R394,
R397, R406, R417, R427, R440, R443, R461).
-/
namespace Sys2Proof.Machine

/-- The objects of a channel that belong to its front correction (R112): offsets 0x10 to 0x13. -/
def Key.frontObject (k : Key) : Bool := let o := k.index % 0x40; 0x10 ≤ o && o ≤ 0x13

/-- A camera setting (R112): an object at offset 0x02 or 0x08. -/
def Key.cameraObject (k : Key) : Bool := k.index % 0x40 = 0x02 || k.index % 0x40 = 0x08

/-- The geometry of R184. -/
def Reg.isGeometry (r : Reg) : Bool := [Reg.CH_STI_A0, .CH_STI_A1, .CH_STI_A2, .CH_STI_A3, .CH_STI_FIRST, .CH_STI_LAST, .CH_STI_SET].contains r

/-- The commit object of a scope (R46). -/
def Scope.commitKey : Scope → Key
  | .device => ⟨.DEV_COMMIT, 0⟩
  | .channel n => ⟨.CH_COMMIT, n⟩

/-- The live-generation object of a scope. -/
def Scope.liveGen : Scope → Key
  | .device => ⟨.DEV_GEN_LIVE, 0⟩
  | .channel n => ⟨.CH_GEN_LIVE, n⟩

/-- The COMMIT_REFUSED object of a scope. -/
def Scope.refused : Scope → Key
  | .device => ⟨.DEV_COMMIT_REFUSED, 0⟩
  | .channel n => ⟨.CH_COMMIT_REFUSED, n⟩

namespace Device

/-- The live generation of a scope. -/
def genLive (d : Device) (sc : Scope) : Nat := d.num sc.liveGen.reg sc.liveGen.inst

/-- The pending generation of a scope; the live one when nothing is pending (R46). -/
def genPending (d : Device) (sc : Scope) : Nat := match d.pendOf sc with | some p => p.gen | none => d.genLive sc

/-- The generation that the staging copy takes if committed (R45, R46). -/
def genStaged (d : Device) (sc : Scope) : Nat := (d.genPending sc + 1) % 2 ^ 32

/-! ## The checks in their order (R45) -/

/-- Fold objects among the changed ones, while the fold is forming (R417). -/
def foldChange (d : Device) (ks : List Key) : Bool :=
  ks.any (fun k => (0x3000 ≤ k.index && k.index < 0x3100) || k.reg == .PEN_SET_EDGE
    || (k.reg == .TIM_SRC && (d.num .TIM_SRC 0 == 2 || d.stgNum .TIM_SRC 0 == 2)))

/-- The trial device of a channel's commit: a changed geometry starts without a trim (R184). -/
def channelTrial (d : Device) (n : Nat) (ks : List Key) : Device :=
  let t := d.trial (.channel n)
  if ks.any (fun k => k.reg.isGeometry) then t.setI .CH_STI_TRIM n 0 else t

/-- The slices of a channel's staged set (R123). -/
def planFor (d t : Device) (n : Nat) : Assigned :=
  let v := t.liveView n
  d.assign n (if v .CH_ENABLE = 0 then 0 else v.demandMilli) (slicesNeeded v)

/-- The membership of a set changes while the standby is LEARNING (R225). -/
def memberWhileLearning (d : Device) (ks : List Key) : Bool := d.padState d.standby = 2 && ks.any (fun k => k.reg == .CH_STI_SET)

/-- The objects that a staged set is inconsistent for, in rising order; and whether 0x06 stands in their place (R123, R225). -/
def inconsistent (d : Device) (sc : Scope) (ks : List Key) : List Key × Bool :=
  match sc with
  | .channel n =>
    let t := d.channelTrial n ks
    let plan := d.planFor t n
    (sortBy Key.at_ (t.channelFaults n (d.front n).staged.dpm ++ offend (d.maskTaken t n) .CH_LANE_MASK n ++ offend (plan = .refused) .CH_PIXELS n ++ offend (d.memberWhileLearning ks) .CH_STI_SET n), plan = .busy)
  | .device =>
    let t := d.trial .device
    let job := ks.any (fun k => k.reg == .HFT_JOB_ID)
    let learning := d.padState d.standby = 2 && !job
    let heft := if job then t.jobFaults else if learning then ks.filter (fun k => k.reg == .STI_SET_WIDTH || k.reg == .STI_REPEAT_SET) else []
    (sortBy Key.at_ (t.deviceFaults d ++ heft), job && d.padState d.standby == 1)

/-- A refusal with 0x06 of its own: a commit pending or handed over in this tick (R45, R47), or CH_CAMSET_BUSY (R112). -/
def commitBusy (d : Device) (sc : Scope) (ks : List Key) : Bool :=
  (d.pendOf sc).isSome || d.released.contains sc || (match sc with
    | .channel n => d.on .CH_CAMSET_BUSY n && !(ks == [⟨.CH_ENABLE, n⟩] && !d.stgOn .CH_ENABLE n)
    | .device => false)

/-- A commit is accepted (R45, R98, R112, R123): the staging copy becomes the pending set, and what it needs is reserved. -/
def accept (d : Device) (sc : Scope) (g : Nat) (ks : List Key) : Device :=
  let d := { d with pend := d.pend ++ [{ scope := sc, gen := g, values := d.staged.ofScope sc, since := d.tick }] }
  match sc with
  | .device => d
  | .channel n =>
    let plan := match d.planFor (d.trial sc) n with | .ok p => some p | _ => none
    let d := d.modFront n (fun f => { f with pend := some f.staged, pendTouched := f.touched, touched := (false, false, false), plan := plan })
    let d :=
      if ks.any Key.cameraObject then
        let d := (d.setOn .CH_CAMSET_BUSY n true).modFront n (fun f => { f with prevFront := none })
        let v := d.storeView d.staged n
        if 4 ≤ (d.link n).step ∧ d.num .CH_CAM_FAULT n = 0 ∧ v.camFault (d.oct .CH_CAM_INFO n) = 0 then d.sendSettings n g v else d
      else d
    d.evaluatePoint

/-- A write of generation `g` to the commit object of a scope by a session (R45): its abort code, 0 when it is accepted. -/
def commit (d : Device) (sc : Scope) (g session : Nat) : Nat × Device :=
  let ks := d.changedKeys sc
  if d.commitBusy sc ks then (0x06, d)
  else if g ≠ d.genStaged sc then (0x04, d)
  else if ks.any d.underHold then (0x07, d.bump .TRU_HOLD_REFUSED 0)
  else if d.num .FLD_STATE 0 = 1 ∧ sc = .device ∧ d.foldChange ks then (0x0A, d)
  else match d.inconsistent sc ks with
    | (k :: _, _) => (0x05, d.set sc.refused.reg sc.refused.inst k.at_)
    | ([], true) => (0x06, d)
    | ([], false) =>
      if !d.externalRoom then (0x06, d.bump .TRU_JRN_REFUSED 0)
      else (0, (d.journalExternal 0x02 0 session sc.commitKey g (le 4 g)).accept sc g ks)

/-- STAGE_DISCARD (R46): the staging copy is reset to the newest accepted set. -/
def stageDiscard (d : Device) (sc : Scope) : Device :=
  let src := match d.pendOf sc with | some p => p.values | none => d.live.ofScope sc
  let d := { d with staged := d.staged.takeScope src sc }
  match sc with
  | .device => d
  | .channel n => d.modFront n (fun f => { f with staged := f.pend.getD f.live, touched := (false, false, false) })

/-! ## Hand-over of a channel (R47) -/

/-- A set leaves the pending copy and is live; no further commit of its scope in this tick (R47). A changed persistent value is to be saved (R51). -/
def takePending (d : Device) (p : PendingSet) (ks : List Key) : Device :=
  let d := { d with
    pend := d.pend.filter (fun q => decide (q.scope ≠ p.scope))
    released := p.scope :: d.released
    live := d.live.takeScope p.values p.scope
    nvs := { d.nvs with dirty := d.nvs.dirty || ks.any (fun k => k.reg.row.pers) } }
  let d := d.set p.scope.liveGen.reg p.scope.liveGen.inst p.gen
  d.journalDevice 0x03 p.scope.liveGen 0xFF p.gen []

/-- The lanes that a channel gains and loses at a hand-over (R82, R101, R78). -/
def maskChanged (d : Device) (n old : Nat) : Device :=
  let new := d.num .CH_LANE_MASK n
  let gone := (bitsOf 32 old).filter (fun l => !bit new l)
  let come := (bitsOf 32 new).filter (fun l => !bit old l)
  let ref := (d.link n).refLane
  let d := gone.foldl (fun d l => d.modLane l (fun x => { x with matched := false, excluded := false, flits := [], arrived := [] })) d
  let d := if (d.link n).up && (match ref with | some l => gone.contains l | none => false) then d.linkFall n else d
  (((gone ++ come).foldl (laneHandover false) d).relink n)

/-- The channel is the reference member of its set, whose registration starts again when its history is cleared (R161, R192). -/
def referenceCleared (d : Device) (n : Nat) : Device :=
  let s := d.num .CH_STI_SET n
  if s < 8 && d.refMember s = some n then d.enterAcquire s else d

/-- A channel enters RESTARTING, and ON when nothing keeps it (R109, R161). -/
def enterRestarting (d : Device) (n : Nat) : Device :=
  let d := ((d.set .CH_STATE n 3).modLink n (fun x => { x with modeSent := (3, 0) })).restartResampler n
  let s := d.num .CH_STI_SET n
  let d := if s < 8 then d.modSt s (fun x => { x with flushing := false }) else d
  ((d.referenceCleared n).bringMode n).enterOn n

/-- Every member of a set has left ON: its delay buffer is flushed (R196). -/
def flushSet (d : Device) (s : Nat) : Device := if s < 8 && d.onMembers s = [] then d.modSt s (fun x => { x with flushing := true }) else d

/-- A channel is enabled, disabled, or neither, at its hand-over (R109); `had` says that it was enabled. A disable ends a camera change in flight
(R112). -/
def enableChanged (d : Device) (n : Nat) (had : Bool) : Device :=
  let d := if had && !d.on .CH_ENABLE n then d.setOn .CH_CAMSET_BUSY n false else d
  let st := d.num .CH_STATE n
  if d.on .CH_ENABLE n then
    if st = 2 then d.modFront n (fun f => { f with enableHeld := true })
    else if st = 0 then
      d.enterRestarting n
    else (d.enterOn n)
  else
    let d := d.modFront n (fun f => { f with enableHeld := false })
    if st = 1 ∨ st = 3 then
      let d := (((d.set .CH_STATE n 2).clearHistory n).takeOrigin n).flushSet (d.num .CH_STI_SET n)
      let d := if (d.link n).up then d.sendMode n (0, 0) else d
      (d.modLink n (fun x => { x with step := Nat.min x.step 5 })).refreshState n
    else d

/-- The camera after the hand-over of a channel (R98, R111 to R113): the check against its limits is repeated, and a changed setting is activated. -/
def cameraHandover (d : Device) (n g : Nat) (changed : Bool) : Device :=
  if (d.link n).step < 4 || !d.camKnown n then d
  else
    let f := (d.liveView n).camFault (d.oct .CH_CAM_INFO n)
    if d.num .CH_CAM_FAULT n ≠ 0 then if f = 0 then d.settingsStep n else d.set .CH_CAM_FAULT n f
    else if f ≠ 0 then (d.set .CH_CAM_FAULT n f).bringMode n
    else if changed then
      let d := if (d.link n).sent.any (fun e => e.1 = g) then d else d.sendSettings n g (d.liveView n)
      d.sendActivate n g
    else d

/-- The tables and the front-correction set at a channel's hand-over (R112, R113, R118 to R120, R292, R294). -/
def tablesHandover (d : Device) (n g : Nat) (camset : Bool) (was : Device) : Device :=
  let f := was.front n
  let t := f.pend.getD f.live
  let (o, s) := (decide (t.offs ≠ f.live.offs), decide (t.gains ≠ f.live.gains))
  let old : Store := (was.live.ofScope (.channel n)).filter (fun e => e.1.frontObject)
  let d := d.modFront n (fun x => { x with
    live := t, pend := none, tapCount := [0, 0, 0, 0]
    camGen := if camset then g else x.camGen
    prevGen := if camset then x.camGen else x.prevGen
    prevFront := if camset then some (was.genLive (.channel n), f.live, old) else x.prevFront })
  (d.set .CH_DPM_ENTRIES n t.dpm.length).calAnchors n o s

/-- Hand-over of the pending set of channel `n` (R47). -/
def channelHandover (d : Device) (n : Nat) : Device :=
  match d.pendOf (.channel n) with
  | none => d
  | some p =>
    let ks := d.differing (.channel n) p.values d.live
    let camset := ks.any Key.cameraObject
    let has (r : Reg) : Bool := ks.any (fun k => k.reg == r)
    let was := d
    let d := (d.takePending p ks).tablesHandover n p.gen camset was
    let d := (d.applyPlan n).modRs n (fun r => { r with balance := 0, profile := if has .CH_DCB_EN then none else r.profile })
    let d := d.rsHandover n (was.num .CH_RS_PITCH n)
    let geo := ks.any (fun k => k.reg.isGeometry)
    let d := if geo then d.geometryChanged n else d
    let d := if geo || (d.front n).live != (was.front n).live then d.calDiscard n else d
    let d := if has .CH_LANE_MASK then d.maskChanged n (was.num .CH_LANE_MASK n) else d
    let d := (d.cameraHandover n p.gen camset).enableChanged n (was.on .CH_ENABLE n)
    let d := d.calRefresh n
    (if has .CH_CAL_EN then d.calTake n else d).evaluatePoint

/-- A channel's hand-over waits while its set needs a faster point than the one in force (R443). -/
def pointWaits (d : Device) : Bool := d.num .DEV_STATE 0 != 3 && d.num .PWR_POINT 0 != 0 && !d.pointFits (d.num .PWR_POINT 0)

/-! ## Hand-over of the device (R47) -/

/-- The output of a CLKOUT source at a hand-over (R439, R440): never to a source that is not ready. -/
def clkOutHandover (d : Device) : Device :=
  let src := d.num .CLK_OUT_SRC 0
  if src = d.clkOut then { d with switches := d.switches.filter (fun x => x.which ≠ 2) }
  else if !d.clkReady src then d
  else d.askSwitch 2 src

/-- What the live device set drives takes it up (R58, R134, R143, R387, R390, R394, R397, R406, R417, R341, R461): at every device hand-over, and when the dictionary becomes
reachable. `was` is the device before it, `ks` the objects that changed. -/
def driveLive (d was : Device) (ks : List Key) : Device :=
  let has (r : Reg) : Bool := ks.any (fun k => k.reg == r)
  let insts (rs : List Reg) : List Nat := ((ks.filter (fun k => rs.contains k.reg)).map Key.inst).eraseDups
  let d := if d.num .PWR_STATE 0 = 2 then d else (List.range 36).foldl (fun d l => laneHandover (was.num .LNK_RUNG_MAX l < d.num .LNK_RUNG_MAX l) d l) d
  let d := if has .POS_SRC_PRIMARY || has .POS_SRC_BACKUP then d.sourcesChanged else d
  let d := (List.range 4).foldl (fun d e => d.emuHandover was e) d
  let d := if has .STI_MARK_SRC then d.modRep (fun r => { r with opened := false }) else d
  let d := (insts [.RDL_ST_EN]).foldl (fun d s => if d.on .RDL_ST_EN s then d else d.cancelStation s) d
  let d := (insts [.TIM_TT_MODE, .TIM_TT_START, .TIM_TT_PERIOD, .TIM_TT_PERIOD_FRAC, .TIM_TT_WIDTH]).foldl (fun d n =>
    d.ttHandover n true (ks.any (fun k => (k.reg == .TIM_TT_MODE || k.reg == .TIM_TT_START) && k.inst == n))) d
  let d := d.ttOwners
  let d := if has .TIM_SRC then d.servoSource else d
  let heard := has .TIM_PTP_ROLE || has .TIM_PTP_PORT || has .TIM_PTP_TRANSPORT || has .TIM_PTP_DOMAIN
  let d := if heard || has .TIM_PTP_DELAY then d.ptpHandover heard else d
  let cells := ((insts [.EVT_CELL_IN]).map (fun i => i / 4) ++ insts [.EVT_CELL_TRUTH, .EVT_CELL_FF, .EVT_CELL_CLK, .EVT_CELL_FILTER]).eraseDups
  let d := d.fabricRewired (insts [.EVT_LINE_SRC]) cells
  let d := (d.foldHandover).clkOutHandover
  let d := (insts [.QUE_ENABLE, .QUE_RING_KIB, .QUE_DIR, .QUE_PEER]).foldl queueHandover d
  (d.twiHandover).evaluatePoint

/-- Hand-over of the pending device set (R47); the job change first, then DEV_RUN_REQ (R17). -/
def deviceHandover (d : Device) : Device :=
  match d.pendOf .device with
  | none => d
  | some p =>
    let ks := d.differing .device p.values d.live
    let has (r : Reg) : Bool := ks.any (fun k => k.reg == r)
    let was := d
    let d := (d.takePending p ks).set .FLD_COMMIT_AT 0 0
    let d := d.driveLive was ks
    let d := if has .HFT_JOB_ID then d.jobChange else d
    let d := (List.range 8).foldl (fun d s => if ks.any (fun k => k.reg == .STI_REG_EN && k.inst == s) then d.enterAcquire s else d) d
    if !has .DEV_RUN_REQ then d
    else if d.num .DEV_RUN_REQ 0 = 0 then d.enterStandby else d.wakeCheck

/-- FLD_COMMIT_AT lets a device set hand over at the boundary of repeat `k` (R427). -/
def commitDue (d : Device) (k : Nat) : Bool := d.num .FLD_COMMIT_AT 0 = 0 || decide (0 ≤ serialDiff 32 k (d.num .FLD_COMMIT_AT 0))

end Device

/-- DEV_HANDOVER_TIMEOUT (R48, R427): 10 ms after acceptance without a repeat boundary, with no output line inside the compare stage. -/
def execDevHandoverTimeout (s : State) : Host.Outcome State Fault Refusal :=
  run true s fun d =>
    if (d.pendOf .device).isSome && d.num .FLD_COMMIT_AT 0 = 0 then d.deviceHandover.pushForce ((d.num .STI_REPEAT 0 + 1) % 2 ^ 32) else d

/-- CH_HANDOVER_TIMEOUT (R48, R443): 1 ms after acceptance without a line boundary, with no line of the channel inside the front end. -/
def execChHandoverTimeout (n : Nat) (s : State) : Host.Outcome State Fault Refusal :=
  run (WF.chHandoverTimeout n) s fun d => if d.pointWaits then d else d.channelHandover n

end Sys2Proof.Machine
end

