-- ==== Sys2Proof/Machine/Compare.lean ====
section
/-!
DEFINITION. The compare stage (R15 to R17, R20, R185, R189, R193 to R196, R211 to R219, R226, R233 to R237, R283 to R287): lines leaving the registration delay
buffer, repeat boundaries of a set and of the device, masking, residual and threshold, and what a line gives to learning and to calibration.
-/
namespace Sys2Proof.Machine

/-- What heft words sampled for a plane give (R194): e in Q14.8, the largest tolerance code, and the combined flags. -/
structure Sampling where
  e : Nat := 0
  tol : Nat := 0
  conf : Bool := true
  die : Bool := false
  edge : Bool := false
  var : Bool := false

/-- A word entering a sampling with its weight (R194). -/
def Sampling.take (a : Sampling) (w weight : Nat) : Sampling :=
  { e := a.e + weight * wordE w, tol := Nat.max a.tol (wordTol w), conf := a.conf && wordConf w, die := a.die || wordDie w, edge := a.edge || wordEdge w
    var := a.var || wordVar w }

/-- Two samplings combined, their expected values added (R218, R234). -/
def Sampling.join (a b : Sampling) : Sampling :=
  { e := a.e + b.e, tol := Nat.max a.tol b.tol, conf := a.conf && b.conf, die := a.die || b.die, edge := a.edge || b.edge, var := a.var || b.var }

/-- The word at (u, v) of a patch. -/
def Patch.word (x : Patch) (u v : Nat) : Nat := if v < x.v0 then padWord else (x.rows.getD (v - x.v0) #[]).getD u padWord

/-- The words that have a weight at (u, v) in sixteenths (R194): column, line and weight. -/
def wordsAt (u v : Int) : List (Int × Int × Nat) :=
  let (fx, fy) := ((u % 16).toNat, (v % 16).toNat)
  let cells : List (Int × Int × Nat) := [(0, 0, (16 - fx) * (16 - fy)), (1, 0, fx * (16 - fy)), (0, 1, (16 - fx) * fy), (1, 1, fx * fy)]
  (cells.filter (fun c => c.2.2 ≠ 0)).map (fun c => (u / 16 + c.1, v / 16 + c.2.1, c.2.2))

/-- A sample at (u, v) in sixteenths needs a word outside a heft of `cols` columns and `lines` lines (R194). -/
def outsideAt (cols lines : Nat) (u v : Int) : Bool :=
  (wordsAt u v).any (fun c => decide (c.1 < 0 ∨ (cols : Int) ≤ c.1 ∨ c.2.1 < 0 ∨ (lines : Int) ≤ c.2.1))

/-- The heft sampled at (u, v) in sixteenths (R194). -/
def Patch.sample (x : Patch) (u v : Int) : Sampling := (wordsAt u v).foldl (fun a c => a.take (x.word c.1.toNat c.2.1.toNat) c.2.2) {}

/-- Where a sample of a line is sampled (R193, R194), in sixteenths of a word: for a preview line the four places that its sample covers (R234). -/
def placesAt (bin : Bool) (v16 : Int) (i : Nat) (dx dy : Int) : List (Int × Int) :=
  let (u, v) := (16 * (i : Int) + dx, v16 + dy)
  if bin then [(2 * u, 2 * v), (2 * u + 16, 2 * v), (2 * u, 2 * v + 16), (2 * u + 16, 2 * v + 16)] else [(u, v)]

/-- A plane against its threshold (R235): n_q and whether r > 0; none when it is not flagged. `x` in Q14.10, `e` in Q14.8, `t` = T. -/
def excess (word x e t : Nat) : Option (Nat × Bool) :=
  let r : Int := (x : Int) - (4 * e : Nat)
  let gain := if 0 < r then field word 27 20 else field word 19 12
  let th := Nat.max (t * gain / 16) (field word 11 0 * 1024)
  if r = 0 ∨ bit word 31 = false ∨ r.natAbs ≤ th then none
  else some (if th = 0 then 65535 else Nat.min (r.natAbs * 256 / th) 65535, decide (0 < r))

/-- The planes of a sample judged together (R235): n, polarity (2 light, 1 dark) and the planes flagged; none when none is. -/
def judgePlanes (word : Nat) (planes : List (Nat × Nat × Nat)) : Option (Nat × Nat × Nat) :=
  (planes.zipIdx).foldl (fun best p =>
    match excess word p.1.1 p.1.2.1 p.1.2.2 with
    | none => best
    | some (n, light) =>
      let pol := if light then 2 else 1
      match best with
      | none => some (n, pol, 2 ^ p.2)
      | some (m, q, ps) => if m < n then some (n, pol, ps + 2 ^ p.2) else some (m, q, ps + 2 ^ p.2)) none

/-- The class code of a sample from its combined flags (R236). -/
def classOf (s : Sampling) : Nat := if s.die then 5 else if s.var then 4 else if s.edge then 3 else if s.conf then 1 else 2

/-- The class word of a code and modality among those in force (R236, R237). -/
def classWord (id : Identity) (cls : Store) (code modality : Nat) : Nat :=
  let r : Reg := classRegs.getD (code - 1) .CMP_CLS_PREVIEW
  let i := if 6 ≤ code then 0 else modality
  ((cls.find ⟨r, i⟩).getD (id.dflt r i)).toNat

/-- What the compare makes of one sample, pair or preview sample: its mark, whether it was compared, saturated or outside, and the samplings of its planes. -/
structure Judged where
  px : Px
  compared : Bool := false
  sat : Bool := false
  outside : Bool := false
  quality : Nat := 0
  got : List Sampling := []

/-- How a line is compared (R234). -/
inductive CompareAs where
  | masked
  | full (pad : Nat)
  | half (pad : Nat)
  | quarter (pad : Nat)
deriving DecidableEq

/-- R234. -/
def compareAs (m : RefMode) (bin : Bool) : CompareAs :=
  match m, bin with
  | .heft p, false => .full p
  | .learn p, false => .half p
  | .heft p, true => .quarter p
  | .resident p, true => .quarter p
  | .seed p, true => .quarter p
  | _, _ => .masked

/-- A sample of 0xFF_FFFF is compared as 0xFF_FFFE (R233). -/
def comparable (x : Nat) : Nat := if x = satMark then satMax else x

/-- The mean of n values, rounded up at one half. -/
def meanUp (n s : Nat) : Nat := (2 * s + n) / (2 * n)

/-- What the compare needs of a line: the reference, its layer, the lines held of each plane, v_0 in sixteenths, and the class words. -/
structure CompareCtx where
  as : CompareAs
  layer : Layer
  hefts : List Patch
  v16 : Int
  en : Bool
  classes : Store
  modality : Nat
  tolMin : Nat
  posGood : Bool

namespace Device

/-- The modality of a set (R177). -/
def modalityOf (d : Device) (s : Nat) : Nat :=
  match d.members s with
  | n :: _ => d.num .CH_MODALITY n
  | [] => 0

/-- One sample, pair or preview sample of a line is compared (R194, R218, R233 to R236). `disp` are the displacements of the line's samples. -/
def compareAt (d : Device) (c : CompareCtx) (rows : List (Array Nat)) (blind : Array Bool) (disp : Array (Int × Int × Nat)) (i : Nat) : Judged :=
  let ss : List Nat := match c.as with | .half _ => [2 * i, 2 * i + 1] | _ => [i]
  let qual := maxNat (ss.map (fun s => (disp.getD s (0, 0, 2)).2.2))
  let cells := ss.flatMap (fun s => let (dx, dy, _) := disp.getD s (0, 0, 2); placesAt (match c.as with | .quarter _ => true | _ => false) c.v16 s dx dy)
  let outside := cells.any (fun x => outsideAt c.layer.cols c.layer.lines x.1 x.2)
  if ss.any (fun s => blind.getD s true && s < blind.size) then { px := .blind, outside := outside, quality := qual }
  else
    let vals (q : Nat) : List Nat := ss.map (fun s => (rows.getD q #[]).getD s 0)
    let np := rows.length
    let sat := (List.range np).any (fun q => (vals q).any (· = satMark))
    let learning := match c.as with | .half _ => true | _ => false
    let short := ss.any (fun s => blind.size ≤ s)
    if outside || 2 ≤ qual || short || (learning && (sat || !c.posGood)) then { px := .clear, outside := outside, quality := qual }
    else
        let planes : List Sampling := c.hefts.map (fun h => (cells.map (fun x => h.sample x.1 x.2)).foldl Sampling.join {})
        let n := cells.length
        if planes.any (fun s => s.tol = 63) || planes = [] then { px := .clear, quality := qual }
        else
          let all := planes.foldl (fun a s => { a.join s with e := 0 }) {}
          let code := match c.as with | .half _ => 6 | .quarter _ => 7 | _ => classOf all
          let word := classWord d.ident c.classes code c.modality
          let means := planes.map (fun s => { s with e := meanUp n s.e })
          let arms := (means.zipIdx).map (fun s =>
            let x := meanUp ss.length (((vals s.2).map comparable).foldl (· + ·) 0)
            let t := if learning then Nat.max (tolOf s.1.tol) (tolOf c.tolMin) else tolOf s.1.tol
            (x, s.1.e, t))
          let (dx, dy, _) := disp.getD (ss.headD i) (0, 0, 2)
          let m : Int := match c.as with | .quarter _ => 2 | _ => 1
          let hf := b2n all.die * 4 + b2n all.edge * 2 + b2n all.var
          let px := match (if c.en then judgePlanes word arms else none) with
            | some (k, pol, ps) => Px.flag k pol ps hf code (qual = 1) sat (m * dx) (m * dy)
            | none => .clear
          { px := px, compared := true, sat := sat, quality := qual, got := means }

/-! ## Heft reads (R21, R308) -/

/-- The blocks of a block row are read for the compare: bytes and samples are counted. -/
def readBlockRow (d : Device) (pad : Nat) (l : Layer) (br : Nat) : Device :=
  (List.range l.planes).foldl (fun d q => (List.range l.bcols).foldl (fun d c =>
    d.readBlock pad { set := l.set, plane := q, br := br, bc := c }) d) d

/-- The block rows that a line is the first of its repeat to need are read (R195). `last` is the heft line of the line before it in the repeat. -/
def readFor (d : Device) (pad : Nat) (l : Layer) (v : Int) (last : Option Int) : Device :=
  let row (v : Int) : Int := v / 64
  let from_ := match last with | some w => row w + 1 | none => row v
  ((List.range (row v + 1 - from_).toNat).map (fun i => from_ + (i : Nat))).foldl (fun d r =>
    if r < 0 ∨ (l.brows : Int) ≤ r then d else d.readBlockRow pad l r.toNat) d

/-! ## Boundaries (R15 to R17, R185, R226) -/

/-- A repeat number advances at a device boundary (R217, R219): learning repeats while HEFTING, preview repeats while LAMBING. -/
def advanceLearning (d : Device) : Device :=
  if d.num .DEV_STATE 0 = 1 && d.padState d.standby = 2 then
    d.modHeft (fun h => { h with learnRep := some (match h.learnRep with | some r => r + 1 | none => 0) })
  else d

/-- A loaded heft for the job exchanges the roles at the boundary (R211). -/
def loadedSwap (d : Device) : Device :=
  let ready := d.padState d.standby = 3 && d.num .HFT_PD_JOB d.standby = d.num .HFT_JOB_ID 0
  if d.workState = 0 && ready && !(d.padState d.runPad = 3 && d.num .HFT_PD_JOB d.runPad = d.num .HFT_JOB_ID 0)
  then d.swapRoles else d

/-- LAMBING ends at a boundary with every enabled channel FULL (R16, R17, R211, R219): a resident heft is put in force; learning kept through STANDBY goes on
where it was; or learning begins, afresh where preview lines had set words. -/
def lambingEnds (d : Device) : Device :=
  if d.num .DEV_STATE 0 ≠ 0 || !d.allFull || d.num .MEM_STATE 0 ≠ 2 then d
  else
    let job := d.num .HFT_JOB_ID 0
    match d.residentFor job with
    | some pad => (if pad = d.runPad then d else d.swapRoles).putInForce
    | none =>
      let d := if d.padState d.standby = 2 && d.num .HFT_PD_JOB d.standby = job then d else d.startLearning job false
      let d := d.modHeft (fun h => { h with seedRep := 0, seeding := false, rebuilds := h.rebuilds.filter (fun r => !r.seed) })
      (d.enterWork 1).showForce

/-- Learning completes (R217, R226): the writes of the ended repeat that are still due are made; when they were the last, the heft becomes VALID, the roles
exchange and it is put in force. -/
def learningEnds (d : Device) : Device :=
  if d.num .DEV_STATE 0 = 1 && d.heft.learnRep.isSome then
    let d := d.writeRest d.standby
    if d.learningComplete then (((d.heftValid d.standby 1).swapRoles).putInForce).modHeft (fun h => { h with learnRep := none })
    else d
  else d

/-- The device's repeat boundary (R15 to R17, R20, R21, R47, R185, R209, R217, R226, R376, R418): repeat `k` of the set named in STI_REPEAT_SET begins. -/
def deviceBoundary (d : Device) (r : RepeatStart) : Device :=
  let d := { d with flow := { blindLast := d.flow.blindNow, blindNow := false } }
  let d := d.learningEnds
  let seeds := d.workState = 0 && d.padState d.standby = 2
  let d := if seeds then d.modHeft (fun h => { h with seedRep := h.seedRep + 1 }) else d
  let d := ((d.set .STI_REPEAT 0 r.k).set .STI_REPEAT_Y 0 (ofSigned 64 r.y)).setI .STI_STRETCH_PPM 0 r.e
  let d := d.pulse 0x014
  let d := if d.commitDue r.k then d.deviceHandover else d
  let d := d.loadedSwap.lambingEnds
  let d := if d.wakeReady && d.allFull then (d.leaveStandby d.leftState).showForce else d
  let d := d.advanceLearning.budget
  let d := match d.heft.learnRep with
    | some n => if d.num .DEV_STATE 0 = 1 then
        let new := d.scheduleTiles d.standby n (bit (d.num .DEV_REDUCED 0) 6)
        d.modHeft (fun h => { h with runs := h.runs ++ new })
      else d
    | none => d
  let d := (d.pushForce r.k).foldBoundary r.k
  let d := d.holdBoundary
  ((d.reduced 0 (!d.allFull)).reduced 3 d.flow.blindLast).reduced 4 false

/-- The first line of repeat `r` of a set, number `j`, enters the compare (R185): the device's boundary when the set is the one named, then what waits for the set's
own. -/
def setBoundary (d : Device) (s : Nat) (r : RepeatStart) (j : Nat) : Device :=
  let old := (d.st s).k.bind d.forceAt
  let oldMode := (old.map InForce.mode).getD .idle
  let contrib := (d.st s).full && (match oldMode with | .heft _ => true | _ => false)
  let d := if s = d.num .STI_REPEAT_SET 0 then d.deviceBoundary r else d
  let d := d.applyTrims s
  let d := (d.members s).foldl (fun d n =>
    let (late, d) := d.calBoundary n contrib
    if late then d.reduced 4 true else d) d
  let newMode := ((d.forceAt r.k).map InForce.mode).getD .idle
  let d := d.modSt s (fun x => { x with k := some r.k, full := true })
  let same := newMode = oldMode && ((d.forceAt r.k).map InForce.heftGen) = old.map InForce.heftGen
  (if same then d else d.changeReference s j).releaseOld

/-! ## What a line gives to learning and calibration -/

/-- A stitched value of a line; none beyond its ends or where it is blind. -/
def seenAt (rows : List (Array Nat)) (blind : Array Bool) (q : Nat) (s : Int) : Option Nat :=
  if s < 0 then none else if blind.getD s.toNat true then none else (rows.getD q #[])[s.toNat]?

/-- A central difference (R213): 0 where a neighbour is blind. -/
def centralDiff (a b : Option Nat) : Int := match a, b with | some x, some y => (x : Int) - y | _, _ => 0

/-- The samples of a line that learning uses (R212, R213), for a layer of `cols` columns and `lines` lines. -/
def learnSamples (l : StLine) (next prev : Option StLine) (disp : Array (Int × Int × Nat)) (v16 : Int) (cols lines : Nat) : List LearnSample :=
  let outside (s : Nat) (dx dy : Int) : Bool := (placesAt l.bin v16 s dx dy).any (fun x => outsideAt cols lines x.1 x.2)
  if l.q ≠ 0 then []
  else
    let rows := l.planes.map List.toArray
    let blind := l.blind.toArray
    let beside (x : Option StLine) (dist : Int) : List (Array Nat) × Array Bool := match x with
      | some y => if serialDiff 32 y.j l.j = dist && y.bin == l.bin then (y.planes.map List.toArray, y.blind.toArray) else ([], #[])
      | none => ([], #[])
    let (nr, nb) := beside next 1
    let (pr, pb) := beside prev (-1)
    let np := rows.length
    (List.range blind.size).flatMap (fun s =>
      let (dx, dy, ql) := disp.getD s (0, 0, 2)
      let vals := rows.map (fun r => r.getD s 0)
      let (u, v) := ((16 * (s : Int) + dx + 8) / 16, (v16 + dy + 8) / 16)
      if blind.getD s true || vals.any (· = satMark) || 2 ≤ ql || u < 0 || v < 0 || outside s dx dy then []
      else (List.range np).map (fun q =>
        { plane := q, u := u.toNat, v := v.toNat, x := vals.getD q 0
          gx := centralDiff (seenAt rows blind q (s + 1)) (seenAt rows blind q (s - 1))
          gy := centralDiff (seenAt nr nb q s) (seenAt pr pb q s) }))

/-- The four words that a preview sample covers (R219), those of the layer. -/
def coverFour (cols lines : Nat) (x : LearnSample) : List LearnSample :=
  ([(0, 0), (1, 0), (0, 1), (1, 1)].map (fun (o : Nat × Nat) => { x with u := 2 * x.u + o.1, v := 2 * x.v + o.2 })).filter
    (fun x => x.u < cols && x.v < lines)

/-- A compared line is learned from (R212, R213, R219). -/
def learnLine (d : Device) (s : Nat) (f : InForce) (l : StLine) (next prev : Option StLine) (disp : Array (Int × Int × Nat)) (v16 : Int) : Device :=
  match layerIn (d.layersOf f.learnPad) s with
  | none => d
  | some lay =>
    if d.padState f.learnPad ≠ 2 then d
    else match f.learning with
      | some rep => if l.bin then d else (learnSamples l next prev disp v16 lay.cols lay.lines).foldl (learnOne rep f.learnPad s false) d
      | none =>
        if f.seeding && l.bin then
          ((learnSamples l next prev disp v16 lay.cols lay.lines).flatMap (coverFour lay.cols lay.lines)).foldl (learnOne d.heft.seedRep f.learnPad s true) d
        else d

/-- The pixel values that pass the tests of R286 (R285 to R287). -/
def calLine (d : Device) (l : StLine) (js : Array Judged) : Device :=
  if l.q ≠ 0 then d
  else l.cal.foldl (fun d c =>
    let n := c.ch
    let j := js.getD c.s { px := .clear }
    if !d.calGathers n || c.gen ≠ d.num .CH_CAL_GEN n || c.seq ≠ (d.calOf n).seq0 || l.j % Nat.max 1 (d.calPar n .CH_CAL_LINE_STEP) ≠ 0 || !j.compared || j.quality ≠ 0 || c.s = 0
    then d
    else
      let (a, b) := (js.getD (c.s - 1) { px := .clear }, js.getD (c.s + 1) { px := .clear })
      if !a.compared || !b.compared then d
      else
        let flagged := match j.px with | .flag .. => true | _ => false
        (List.range c.vals.length).foldl (fun d q =>
          match j.got[q]?, a.got[q]?, b.got[q]? with
          | some w, some wa, some wb =>
            let y := c.vals.getD q 0
            let key := q * 32768 + c.px
            let flat := decide (((wb.e : Int) - wa.e).natAbs ≤ d.calPar n .CH_CAL_FLAT * 256)
            if y ≠ satMark && w.conf && !w.edge && !w.var && !w.die && w.tol ≤ d.calPar n .CH_CAL_TOL_MAX && flat && !(d.front n).live.dpm.any (fun e => dpmKey e = key)
            then d.calSample n key y w.e flagged else d
          | _, _, _ => d) d) d

/-! ## A line enters the compare -/

/-- How a line of a set stands to the heft: what is in force in its repeat, v_0 in sixteenths, how it is compared, with which layer of which paddock, the displacements
of its samples, and the first and last heft line it may need. -/
structure LineView where
  force : InForce
  v16 : Int
  how : CompareAs
  ref : Option (Nat × Layer)
  disp : Array (Int × Int × Nat)
  lo : Int
  hi : Int

/-- The view of a line of a set in repeat `r` (R188, R193, R226, R234). -/
def lineView (d : Device) (s : Nat) (l : StLine) (r : Option RepeatStart) : LineView :=
  let f : InForce := (r.bind (fun x => d.forceAt x.k)).getD { k := 0, mode := .idle }
  let v16 := match r with | some x => heftLine16 x l.y (d.setPitch s * (if l.bin then 2 else 1)) | none => 0
  let layer (p : Nat) : Option (Nat × Layer) := (layerIn (d.layersOf p) s).map (fun x => (p, x))
  let how := compareAs f.mode l.bin
  let ref := match how with | .full p => layer p | .half p => layer p | .quarter p => layer p | .masked => none
  let disp := ((List.range l.blind.length).map (d.displacement s l.j)).toArray
  let dys := disp.toList.map (fun e => e.2.1)
  let m : Int := if l.bin then 2 else 1
  { force := f, v16 := v16, how := if ref.isNone then .masked else how, ref := ref, disp := disp
    lo := m * (v16 + dys.foldl (fun a x => if x < a then x else a) 0) / 16, hi := m * (v16 + dys.foldl (fun a x => if a < x then x else a) 0) / 16 + 2 }

/-- A line waits for a block that it needs: one of a heft in force whose sealing write is still in flight (R217). -/
def awaitsSeal (d : Device) (s : Nat) (v : LineView) : Bool :=
  match v.ref with
  | none => false
  | some (p, _) => d.padState p = 3 && d.heft.writes.any (fun w =>
      w.pad = p && w.seals && w.block.set = s && decide (v.lo ≤ 64 * (w.block.br : Int) + 63 ∧ 64 * (w.block.br : Int) ≤ v.hi))

/-- A line of a set is compared (R233 to R236) in repeat `r`; `first` when it is the first of it. -/
def compareLine (d : Device) (s : Nat) (l : StLine) (next prev : Option StLine) (r : Option RepeatStart) (first : Bool) (x : LineView) : Device :=
  let w := l.blind.length
  let rows := l.planes.map List.toArray
  let blind := l.blind.toArray
  let m : Int := if l.bin then 2 else 1
  let res := match x.how with | .half _ => 1 | _ => if l.bin then 2 else 0
  let lastV : Option Int := match prev, r with
    | some y, some rs => if first then none else some (heftLine16 rs y.y (d.setPitch s * (if l.bin then 2 else 1)) * m / 16)
    | _, _ => none
  let d := match x.ref with | some (p, lay) => d.readFor p lay (x.v16 * m / 16) lastV | none => d
  let js : List Judged := match x.ref with
    | some (p, lay) =>
      let hefts := (List.range (Nat.min lay.planes rows.length)).map (fun q => d.patch p lay q x.lo x.hi)
      let c : CompareCtx := { as := x.how, layer := lay, hefts := hefts, v16 := x.v16, en := d.on .CMP_EN 0, classes := x.force.classes
                              modality := d.modalityOf s, tolMin := d.num .HFT_LEARN_TOL_MIN 0, posGood := l.q = 0 }
      (List.range (if res = 1 then (w + 1) / 2 else w)).map (d.compareAt c rows blind x.disp)
    | none => l.blind.map (fun b => { px := if b then .blind else .clear })
  let count (p : Judged → Bool) : Nat := (js.filter p).length
  let isFlag (x : Px) : Bool := match x with | .flag .. => true | _ => false
  let d := (d.add .CMP_COMPARED 0 (count Judged.compared)).add .CMP_FLAGGED 0 (count (fun j => isFlag j.px))
  let d := (d.add .CMP_MASKED 0 (count (fun j => !j.compared))).add .CMP_SAT 0 (count (fun j => j.compared && j.sat))
  let d := d.bumpIf (js.any Judged.outside) .STI_OUTSIDE s
  let d := d.bumpIf (x.ref.isSome && x.disp.any (fun e => e.2.2 = 2)) .STI_UNREG_LINES s
  let full : Bool := match x.how with | .full _ => true | _ => false
  let d := if full then d.calLine l js.toArray else d
  let d := d.learnLine s x.force l next prev x.disp x.v16
  let blindLine := l.blind.any id
  let d := if full then d else d.modSt s (fun y => { y with full := false })
  let d := if blindLine then { d.reduced 3 true with flow := { d.flow with blindNow := true } } else d
  let d := if s = d.num .STI_REPEAT_SET 0 then d.set .CMP_RESOLUTION 0 (if x.how = .masked then 0xFF else res) else d
  d.modSeg s (fun y => { y with queue := y.queue ++ [
    { j := l.j, y := l.y, t := l.t, coasted := l.q ≠ 0, res := res, k := (r.map RepeatStart.k).getD 0, first := first, w := (r.map (fun z => webDistance z l.y)).getD 0, en := d.on .CMP_EN 0
      heft := (match x.force.mode with | .heft _ => true | _ => false), blind := blindLine, px := js.map Judged.px }] })

/-- The oldest line of a set leaves the delay buffer and enters the compare (R185, R189, R196), unless it waits for a block (R217): the boundary of its repeat is
past then. -/
def takeLine (d : Device) (s : Nat) : Device :=
  match (d.st s).buf with
  | [] => d
  | l :: rest =>
    let row := l.j / 128
    let d := if (d.st s).flushing && (d.rowCols s row l.j).size = 0 then d.measureRow s row else d
    let d := d.startsFor l.y
    let r := d.startOf l.y
    let prev := (d.st s).prev
    let begins := match r with | some x => (d.st s).k != some x.k | none => false
    let first := begins || (match r with | some x => ((prev.bind (fun p => d.startOf p.y)).map RepeatStart.k) != some x.k | none => false)
    let d := match r with | some x => if begins then d.setBoundary s x l.j else d | none => d
    let view := d.lineView s l r
    if d.awaitsSeal s view then d
    else
      let d := (d.modSt s (fun x => { x with buf := rest })).compareLine s l rest.head? prev r first view
      d.modSt s (fun x => { x with prev := some l, next := if x.flushing && rest.isEmpty then none else x.next })

end Device

/-- COMPARE_LINE (R189, R196, R233): the oldest line leaves once 128 lines have entered after it, or when the buffer is flushed. `poisoned` are the heft blocks of the set
(plane, block row, block column) that the stack delivers poisoned if they are read now (R318). -/
def execCompareLine (set : StackRead (List (Nat × Nat × Nat))) (s : State) : Host.Outcome State Fault Refusal :=
  run (WF.compareLine set) s fun d =>
    if (d.st set.unit).flushing || 129 ≤ (d.st set.unit).buf.length then
      let bad := set.poisoned.map (fun b => ({ set := set.unit, plane := b.1, br := b.2.1, bc := b.2.2 } : BlockAt))
      ((d.modHeft (fun h => { h with bad := bad })).takeLine set.unit).modHeft (fun h => { h with bad := [] })
    else d

end Sys2Proof.Machine
end

