-- ==== Sys2Proof/Machine/Line.lean ====
section
/-!
DEFINITION. A line's way through the front end of a channel, the end of a drain, and the grid origin (R15, R47, R91, R109, R112 to R114, R119, R124, R149, R161, R168 to
R170, R178, R284, R307).
-/
namespace Sys2Proof.Machine

namespace Device

/-- Channel `n` may take its slice for its next line (R124). -/
def mayTake (d : Device) (n : Nat) : Bool :=
  let p := d.num .CH_SLICE_PARTNER n
  if 16 ≤ p ∨ (d.link p).ingest = [] then true
  else match getKeyed Prod.fst (Nat.min n p) d.sliceLast with
    | some (_, last) => last != n
    | none => n < p

/-- Channel `n` takes its slice for a line. -/
def takeSlice (d : Device) (n : Nat) : Device :=
  let p := d.num .CH_SLICE_PARTNER n
  if 16 ≤ p then { d with sliceLast := d.sliceLast.filter (fun e => e.1 ≠ n) }
  else { d with sliceLast := putKeyed Prod.fst (Nat.min n p, n) d.sliceLast }

/-- The exposure of a line's generation in ns (R149). -/
def exposureOf (d : Device) (n gen : Nat) : Nat :=
  match (d.link n).sent.find? (fun e => e.1 = gen) with
  | some (_, _, x) => x
  | none => d.num .CH_EXPOSURE_NS n

/-- A raw line that arrived whole is stored in the history ring, packed as R90 states (R307). -/
def storeRaw (d : Device) (n : Nat) (r : RawLine) : Device :=
  if r.blind then d
  else
    let w := dtWidth r.dt
    let p := dtPlanes r.dt
    let pos := (d.readingPast (r.trig + d.exposureOf n r.gen / 2)).map (fun x => toSigned 64 x.1)
    d.ringWrite n r.gen r.line w r.bin pos ((List.range p).map (fun q => planeOf p q r.samples))
      (gather 8 ((r.samples.length * w + 7) / 8) (spread w r.samples))

/-- A line of an ON channel goes through the front end and the resampler to its set (R113, R149, R178, R284, R292). -/
def passLine (d : Device) (n : Nat) (r : RawLine) : Device :=
  let d := ((d.calCamera n r.gen r.temp r.blind).calApply n).takeSlice n
  let d := d.storeRaw n r
  let (c, d) := d.correctLine n r
  let d := (d.tallyCamera n c.gen).reduced 0 (!d.allFull)
  let d := if c.blind then { d.reduced 3 true with flow := { d.flow with blindNow := true } } else d
  let d := if c.restart || c.bin != (d.rsOf n).bin then d.referenceCleared n else d
  let (os, d) := d.resampleLine n c (d.exposureOf n c.gen)
  os.foldl (fun d o => d.toStitcher n o) d

/-- A line boundary of channel `n` (R47, R109): the pending set hands over, and the line enters or is discarded. -/
def lineBoundary (d : Device) (n : Nat) : Device :=
  match (d.link n).ingest with
  | [] => d
  | r :: rest =>
    if !d.mayTake n then d
    else
      let d := if d.pointWaits then d else d.channelHandover n
      let d := (d.modLink n (fun x => { x with ingest := rest })).freeCredits n 0 0 r.credits
      if d.num .CH_STATE n = 1 then d.passLine n r else d.bump .CH_DISC_OFF n

/-- The last sample of a draining channel has left the compare (R109, R123): its slices are free, and it is OFF or starts again. -/
def drainDone (d : Device) (n : Nat) : Device :=
  if d.num .CH_STATE n ≠ 2 then d
  else
    let held := (d.front n).enableHeld
    let d := d.modFront n (fun f => { f with drainSlices := 0, enableHeld := false })
    let d := if held && d.on .CH_ENABLE n then d.enterRestarting n else d.set .CH_STATE n 0
    ((d.calRefresh n).refreshState n).evaluatePoint

/-- A position is captured and becomes the pending origin (R168, R415). -/
def newOrigin (d : Device) (g : Nat) : Device := ((d.set .POS_DECSYNC_POS 0 g).setGrid (toSigned 64 g)).gridSend g

/-- A write of POS_GRID_SET (R168): the event and the capture of an edge, whatever POS_DECSYNC_EN is; it is no accepted edge, so none is counted (log entry 51). -/
def gridSetWrite (d : Device) (g : Nat) : Device := (d.pulse 0x012).newOrigin g

/-- An accepted edge of DEC_SYNC at time `t` (R168, R170, R186): a member ignores the pin. -/
def decSync (d : Device) (t : Nat) : Device :=
  if !d.bellwether then d
  else
    let d := (d.bump .POS_DECSYNC_COUNT 0).pulse 0x012
    let d := if d.num .STI_MARK_SRC 0 = 9 then d.repeatMark t else d
    if d.on .POS_DECSYNC_EN 0 then d.newOrigin (d.reading t) else d

end Device

/-- FRONT_END_LINE (R47, R113): the oldest line waiting in the channel's ingest line buffer. -/
def execFrontEndLine (n : Nat) (s : State) : Host.Outcome State Fault Refusal :=
  run (WF.frontEndLine n) s fun d => d.lineBoundary n

/-- CHANNEL_DRAIN_DONE (R109). -/
def execChannelDrainDone (n : Nat) (s : State) : Host.Outcome State Fault Refusal :=
  run (WF.channelDrainDone n) s fun d => d.drainDone n

/-- DEC_SYNC_EDGE (R168): an edge of the pin whose new level has held for 100 ns, stamped `t`. -/
def execDecSyncEdge (rising : Bool) (t : Nat) (s : State) : Host.Outcome State Fault Refusal :=
  run (WF.decSyncEdge rising t) s fun d => if rising == (d.num .POS_DECSYNC_EDGE 0 == 0) then d.decSync t else d

end Sys2Proof.Machine
end

