-- ==== Sys2Proof/Machine/Bringup.lean ====
section
/-!
DEFINITION. Reset and bring-up (R371, R376 to R378, R435 to R438, R447 to R449, R451, R484): what each reset keeps, the boot ROM's check, what is restored, the
references, DRAM training, and the moment the dictionary is reachable; and PCIE_PERST_N.
-/
namespace Sys2Proof.Machine

namespace Device

/-! ## Resets (R447) -/

/-- The device after a reset of a cause (R376, R447): MRAM, the fuses, the FOLD_ID latch and the supplies outside it stay; a save cut short leaves its bank
invalid (R51). -/
def afterReset (d : Device) (cause : Nat) (stage : BringUp) (thermal : Bool) : Device :=
  let torn (b : Nat) : Octets := match d.nvs.saving with | some (t, _) => if t = b then [] else d.bank b | none => d.bank b
  let fresh : Device :=
    { ident := d.ident, nvs := { bank0 := torn 0, bank1 := torn 1 }, jrn := { kept := d.jrn.kept }, fuses := d.fuses, ctr := d.ctr, keyOk := d.keyOk
      rails := d.rails, freeCtr := d.freeCtr, outs := d.outs, bring := stage, thermalHeld := thermal }
  (fresh.set .PWR_RESET_CAUSE 0 cause).set .DEV_FW_SVN_MIN 0 d.fuses.svnMin

/-- A system reset of a cause (R447). -/
def systemReset (d : Device) (cause : Nat) : Device := d.afterReset cause .boot false

/-! ## Steps 2 and 3 (R371, R377, R448) -/

/-- Every entry in the buffer is written (R377). -/
def journalAll : Nat → Device → Device
  | 0, d => d
  | n + 1, d => journalAll n d.journalWrite

/-- Step 3 of bring-up (R52, R374, R377): the bank restored, the journal scanned, BOOT advanced, and the BOOT and RESTORE entries written. -/
def stepThree (d : Device) (meas : Octets) : Device :=
  let d := { d with jrn := d.jrn.scan }
  let (d, restored) := d.nvsRestore
  let boot := (d.ctr.boot + 1) % 2 ^ 32
  let d := { d with ctr := { d.ctr with boot := boot, slot := (d.ctr.slot + 1) % 64, seq := (d.ctr.seq + 1) % 2 ^ 32 } }
  let d := (d.set .DEV_BOOT 0 boot).journalDevice 0x04 ⟨.DEV_FW_MEAS, 0⟩ 11 boot meas
  let d := restored.foldl (fun d e =>
    d.journal 0x05 0 0xFFFE e.1.index e.1.sub e.1.reg.row.ty.code (d.num .NVS_SEQ 0) e.2 (List.replicate 16 0) 0) d
  journalAll d.jrn.buf.length d

/-- The boot ROM's check of both slots (R371, R448, R449): with a slot that runs, step 3 follows and the references are awaited. -/
def bootCheck (d : Device) (slot0 slot1 : Octets) : Device :=
  if d.bring ≠ .boot || d.rails.any (fun r => r = 0 || r = 5 || r = 6) then d
  else match chooseSlot d.fuses slot0 slot1 with
    | none => d
    | some (n, img) =>
      let meas := imageMeasurement img
      let d := { d with fwMeas := some meas, bring := .refs }
      let d := ((d.setOct .DEV_FW_MEAS 0 meas).set .DEV_FW_VERSION 0 (imageVersion img)).set .DEV_FW_SVN 0 (imageSvn img)
      let d := (d.set .DEV_FW_SLOT 0 n).stepThree meas
      if d.keyOk then d else (d.set .TRU_KEY_STATE 0 1).faultOn .truKey

/-! ## The dictionary becomes reachable (R16, R28, R109, R448) -/

/-- A channel that the restored set enables takes its slices and starts (R109, R123). -/
def startChannel (d : Device) (n : Nat) : Device :=
  if !d.ident.hasChan n || !d.on .CH_ENABLE n then d
  else
    let v := d.liveView n
    let d := match d.assign n v.demandMilli (slicesNeeded v) with
      | .ok p => (d.modFront n (fun f => { f with plan := some p })).applyPlan n
      | _ => d
    (d.enterRestarting n).calRefresh n

/-- Step 6 (R448): the dictionary is reachable, DEV_STATE is LAMBING, and the restored set drives what it names; a cause of forced STANDBY acts (R446). -/
def comeUp (d : Device) : Device :=
  let d := ({ d with bring := .up }).toState 0
  let d := d.driveLive { d with live := [] } (d.live.map Prod.fst)
  let d := (List.range 16).foldl startChannel d
  let d := d.evaluatePoint
  if d.forcedNow then d.enterStandby else d

/-! ## Step 4 (R435, R437, R442, R448) -/

/-- The 0.80 V power-up output as the monitor reads it within the thresholds of R441 (R442); which value is free. -/
def coreVolt (d : Device) : Device :=
  let (x, d) := d.fresh 61
  d.set .PWR_VDD_CORE_MV 0 (770 + x)

/-- Step 4 with the references that are ready (R442, R448, R449), the core at the highest point that the monitor confirms: one that is not is handled as failed. -/
def stepFour (d : Device) : Device :=
  let ready (k : Nat) : Bool := 16384 ≤ (d.refOf k).cycles
  let sd := d.rails.any (fun r => r = 1 || r = 2)
  let d := d.coreVolt
  let d := if sd then d.faultOn .supply else d
  let d := if ready 1 then d.modRef 1 (fun x => { x with inUse := !sd }) else d.refFail 1
  let d := if ready 2 then (d.modRef 2 (fun x => { x with inUse := true })).setOn .TIM_CLOCK_OK 0 true else d.refFail 2
  if ready 0 then
    let d := ((d.modRef 0 (fun x => { x with inUse := true })).setPoint d.confirmedPoint).set .CLK_CORE_PLL 0 0
    let d := if d.num .PWR_VR_MODE 0 = 0 then d.twiAsk { who := 0, addr := d.num .PWR_VR_ADDR 0, wr := [0x20], rd := 1 } else d
    ({ d with bring := .train }).set .MEM_STATE 0 1
  else
    -- the core runs from the internal oscillator × 5, and DRAM is not trained
    let d := (d.modRef 0 (fun _ => { failed := true })).set .CLK_REF_STATE 0 3
    let d := ((d.bump .CLK_REF_FAILS 0).faultOn .refSys).set .CLK_CORE_PLL 0 2
    (d.setPoint 4).comeUp

/-- The monitor windows of the three references (R436): at step 4, the last reference to become ready lets it end. -/
def refWindows (d : Device) (c0 c1 c2 : Nat) : Device :=
  if d.bring = .held then d
  else
    let d := ((d.monitorWindow 0 c0).monitorWindow 1 c1).monitorWindow 2 c2
    if d.bring = .refs && (List.range 3).all (fun k => 16384 ≤ (d.refOf k).cycles) then d.stepFour else d

/-- Training ends (R316, R448, R449): READY with the lanes repaired, or FAILED; then the dictionary is reachable. -/
def trainingDone (d : Device) (ready : Bool) (repaired : Nat) : Device :=
  if d.bring ≠ .train then d
  else
    let rail := d.rails.any (fun r => r = 3 || r = 4)
    let d := d.set .MEM_LANES_REPAIRED 0 repaired
    let d := if rail then (d.faultOn .supply).set .MEM_STATE 0 3
      else if ready then d.set .MEM_STATE 0 2
      else (d.set .MEM_STATE 0 3).faultOn .memTrain
    d.comeUp

end Device

/-! ## The commands -/

/-- BOOT_IMAGE_CHECK (R371): the images of the two flash slots as the boot ROM reads them. -/
def execBootImageCheck (slot0 slot1 : Octets) (s : State) : Host.Outcome State Fault Refusal :=
  run (WF.bootImageCheck slot0 slot1) s fun d => d.bootCheck slot0 slot1

/-- BOOT_RETRY (R371): the whole check again, one second after a check that found no valid slot. -/
def execBootRetry (slot0 slot1 : Octets) (s : State) : Host.Outcome State Fault Refusal :=
  run (WF.bootRetry slot0 slot1) s fun d => d.bootCheck slot0 slot1

/-- REF_MONITOR_WINDOW (R436): what each reference counted in one window. -/
def execRefMonitorWindow (c0 c1 c2 : Nat) (s : State) : Host.Outcome State Fault Refusal :=
  run (WF.refMonitorWindow c0 c1 c2) s fun d => d.refWindows c0 c1 c2

/-- REF_WAIT_LIMIT (R448): step 4 has waited 100 ms for its references. -/
def execRefWaitLimit (s : State) : Host.Outcome State Fault Refusal := run true s fun d => if d.bring = .refs then d.stepFour else d

/-- DRAM_TRAINING_DONE (R316). -/
def execDramTrainingDone (ready : Bool) (repaired : Nat) (s : State) : Host.Outcome State Fault Refusal :=
  run (WF.dramTrainingDone ready repaired) s fun d => d.trainingDone ready repaired

/-- POWER_ON_RESET (R447): PORST_N has been low and is released. -/
def execPowerOnReset (s : State) : Host.Outcome State Fault Refusal := run true s fun d => d.afterReset 1 .boot false

/-- SYSTEM_RESET_PIN (R447): SYSRST_N has been low and is released; a device held by a thermal trip stays held. -/
def execSystemResetPin (s : State) : Host.Outcome State Fault Refusal := run true s fun d => if d.thermalHeld then d else d.systemReset 2

/-- WATCHDOG_RESET (R451): a further FLT_WDOG_MS without confirmation after WATCHDOG. -/
def execWatchdogReset (s : State) : Host.Outcome State Fault Refusal := run true s fun d => if d.wdog then d.systemReset 8 else d

/-- THERMAL_TRIP (R446, R447): the device holds itself in reset until PORST_N. -/
def execThermalTrip (s : State) : Host.Outcome State Fault Refusal := run true s fun d => d.afterReset 16 .held true

/-- PCIE_PERST_ASSERT (R484): the endpoint is held in Function Level Reset, and the link goes down. -/
def execPciePerstAssert (s : State) : Host.Outcome State Fault Refusal :=
  run true s fun d =>
    let d := d.flr.pcieDown
    { d with pcie := { d.pcie with perst := true, memEnable := false } }

/-- PCIE_PERST_RELEASE (R484). -/
def execPciePerstRelease (s : State) : Host.Outcome State Fault Refusal := run true s fun d => { d with pcie := { d.pcie with perst := false } }

end Sys2Proof.Machine
end

