-- ==== Sys2Proof/Machine/Access.lean ====
section
/-!
DEFINITION. Access to the dictionary (R25 to R31, R46): which objects are present, what a read returns (the objects whose value is computed when they are read among
them), the order of the checks of a write, and what each write does.
-/
namespace Sys2Proof.Machine

/-- The class of an object forbids reading it (R27). -/
def Access.unreadable : Access → Bool
  | .wo | .cmd => true
  | _ => false

/-- The class of an object forbids writing it (R27). -/
def Access.unwritable : Access → Bool
  | .const | .ro => true
  | _ => false

namespace Device

/-- The object that an index and subindex name on this device (R3, R25): on a member, the fold's member objects are absent (R432). -/
def findObj (d : Device) (index sub : Nat) : Option Key :=
  match locate index sub with
  | some k => if d.ident.present k && (d.bellwether || !(0x3010 ≤ k.index && k.index < 0x3018)) then some k else none
  | none => none

/-- An open session by its number. -/
def session (d : Device) (n : Nat) : Option Session := getKeyed Session.n n d.sess

/-- A session changed. -/
def modSession (d : Device) (n : Nat) (f : Session → Session) : Device := { d with sess := d.sess.map (fun s => if s.n = n then f s else s) }

/-- A session ends (R37): its subscriptions and segment buffer go with it. -/
def closeSession (d : Device) (n : Nat) : Device := { d with sess := dropKeyed Session.n n d.sess }

/-! ## Reads -/

/-- The objects of a session (R37); session 0 is the BAR0 window. -/
def sessionVal (d : Device) (r : Reg) (n : Nat) : Val :=
  match d.session n, r with
  | _, .SES_COUNT => .num 9
  | none, .SES_STATE => .num (if n = 0 then 1 else 0)
  | none, .SES_PEER => .bytes []
  | none, _ => .num 0
  | some _, .SES_STATE => .num 1
  | some s, .SES_TRANSPORT => .num (if s.peer.length = 4 then 4 else 6)
  | some s, .SES_PEER => .bytes s.peer
  | some s, .SES_PEER_PORT => .num s.port
  | some s, .SES_IDLE_MS => .num ((d.tick - s.lastRx) / 1000 % 2 ^ 32)
  | some s, .SES_SUBS => .num s.subs.length
  | some s, .SES_LAST_SEQ => .num (s.lastSeq.getD 0)
  | some s, .SES_PUSH_SEQ => .num s.pushSeq
  | some _, _ => .num 0

/-- The correction tables of a channel as CH_BOFF_DATA, CH_SHADE_DATA and CH_DPM_DATA read (R118), from the live or the staging copy. -/
def tableVal (d : Device) (staged : Bool) (r : Reg) (n : Nat) : Octets :=
  let t := if staged then (d.front n).staged else (d.front n).live
  let px := if staged then d.stgNum .CH_PIXELS n else d.num .CH_PIXELS n
  match r with
  | .CH_BOFF_DATA =>
    let b := d.num .CH_BOFF_BASE n
    (List.range (px - b)).flatMap (fun i => le 2 (ofSigned 16 (t.off (d.num .CH_BOFF_PLANE n) (b + i))))
  | .CH_SHADE_DATA =>
    let b := d.num .CH_SHADE_BASE n
    (List.range (px - b)).flatMap (fun i => le 2 (t.gain (d.num .CH_SHADE_PLANE n) (b + i)))
  | _ => t.dpm.flatMap (le 4)

/-- The live value of an object as a read returns it. -/
def liveVal (d : Device) (k : Key) : Val :=
  let n := k.inst
  match k.reg with
  | .SES_STATE | .SES_TRANSPORT | .SES_PEER | .SES_PEER_PORT | .SES_IDLE_MS | .SES_SUBS | .SES_LAST_SEQ | .SES_PUSH_SEQ => d.sessionVal k.reg n
  | .DEV_GEN_PENDING => .num (d.genPending .device)
  | .DEV_GEN_STAGED => .num (d.genStaged .device)
  | .DEV_COMMIT_STATE => .num (b2n (d.pendOf .device).isSome)
  | .CH_GEN_PENDING => .num (d.genPending (.channel n))
  | .CH_GEN_STAGED => .num (d.genStaged (.channel n))
  | .CH_COMMIT_STATE => .num (b2n (d.pendOf (.channel n)).isSome)
  | .CH_SAMPLE_RATE => .num ((d.liveView n).demandMilli / 1000)
  | .CH_BOFF_DATA | .CH_SHADE_DATA | .CH_DPM_DATA => .bytes (d.tableVal false k.reg n)
  | .CH_RS_BUILTIN => .bytes (bankOctets ((List.range 32).map (builtinRow (d.num .CH_RS_BUILTIN_SEL n))))
  | .CH_CAL_ANC_OFF => .bytes (d.ancOffData n)
  | .CH_CAL_ANC_GAIN => .bytes (d.ancGainData n)
  | .POS_POSITION => if d.num .POS_QUALITY 0 = 3 then .num (d.posAt d.now) else d.val .POS_POSITION 0
  | .POS_SPEED => .num (ofSigned 32 d.speedNow)
  | .STI_MEMBERS => .num (bitMap 16 (fun c => (d.members n).contains c))
  | .RDL_SNIP_STATE => .num ((d.snipSel.map Snippet.state).getD 0)
  | .RDL_SNIP_LEN => .num ((d.snipSel.map Snippet.len).getD 0)
  | .RDL_SNIP_ADDR => .num d.snipAddr
  | .RDL_SNIP_DATA => .bytes d.snipData
  | .CRC_CONTEXT => .num (d.crcContext n)
  | .QUE_FILL => .num (d.ring n).fill
  | .TRU_PUBKEY => .bytes (Ecdsa.publicKey (Config.privateKey d.ident.serial))
  | .TRU_CERT => .bytes (d.ident.certificate (d.num .TRU_CERT_SEL 0)).der
  | .TRU_JRN_HEAD => .num d.jrn.head
  | .TRU_JRN_DURABLE => .num d.journalDurable
  | .TRU_JRN_HEAD_HASH => .bytes d.jrn.headHash
  | .TRU_JRN_OLDEST => .num d.journalOldest
  | .TRU_JRN_DATA => .bytes d.journalData
  | .TRU_JRN_FILL => .num d.jrn.buf.length
  | .TIM_SEC => .num d.clk.sec
  | .TIM_NS => .num d.clk.ns
  | .TIM_FRAC => .num (d.clk.frac / 65536)
  | .TIM_TC_FIFO => .bytes (d.tcBytes n)
  | .FLD_UPSTREAM => .num (match d.upstream with | some l => if l = westLink then 0 else 1 | none => 0xFF)
  | _ => d.val k.reg n

/-- The value that a read returns in the live or the staged view (R27). -/
def viewVal (d : Device) (staged : Bool) (k : Key) : Val :=
  if staged && decide (k.reg.row.acc = .rws) then
    match k.reg with
    | .CH_BOFF_DATA | .CH_SHADE_DATA | .CH_DPM_DATA => .bytes (d.tableVal true k.reg k.inst)
    | _ => d.stg k.reg k.inst
  else d.liveVal k

/-- What a read leaves behind: a read of TIM_TC_FIFO removes the entries it returned (R398). -/
def afterRead (d : Device) (k : Key) : Device := if k.reg = .TIM_TC_FIFO then d.tcTake k.inst else d

/-- A read of an object (R25, R27): its abort code and the bytes of its value. -/
def readObj (d : Device) (staged : Bool) (index sub : Nat) : Nat × Octets :=
  match d.findObj index sub with
  | none => (0x01, [])
  | some k => if k.reg.row.acc.unreadable then (0x02, []) else (0, encodeVal k.reg.row.ty (d.viewVal staged k))

/-! ## The checks of a write (R27) -/

/-- Check 1, the access class: 0x02 for a class that forbids writes, for session 0's SES_CLOSE (R37), on a member for what it takes from the bellwether (R170, R431),
for a line of the fold (R405), and for TRU_HOLD_RELEASE without a hold (R380). -/
def classRefused (d : Device) (k : Key) : Bool :=
  k.reg.row.acc.unwritable || (match k.reg with
    | .SES_CLOSE => k.inst == 0
    | .POS_GRID_SET => !d.bellwether
    | .FLD_EXPECT | .FLD_FORM_MS => !d.bellwether
    | .EVT_LINE_SRC | .EVT_LINE_RETRIG_NS | .EVT_LINE_ATTR => d.num .EVT_LINE_OWNER k.inst == 1
    | .TRU_HOLD_RELEASE => !d.heldNow
    | _ => false)

/-- A table write that runs past pixel 32,767 (R118). -/
def pastTable (d : Device) (k : Key) (len : Nat) : Bool :=
  match k.reg with
  | .CH_BOFF_DATA => decide (32768 < d.num .CH_BOFF_BASE k.inst + len / 2)
  | .CH_SHADE_DATA => decide (32768 < d.num .CH_SHADE_BASE k.inst + len / 2)
  | _ => false

/-- HALL accepts only the defaults of the objects that it does not use (R145). -/
def hallFixed (d : Device) (k : Key) (v : Val) : Bool :=
  [Reg.POS_ENC_TERM, .POS_ENC_Z_MODE, .POS_ENC_Z_COUNTS].contains k.reg && k.inst == 2 && v != d.ident.dflt k.reg 2

/-- Checks 1 to 3 (R27): class, length, range; 0 when all pass. -/
def formRefused (d : Device) (k : Key) (b : Octets) : Nat :=
  let v := decodeVal k.reg.row.ty b
  if d.classRefused k then 0x02
  else if !lengthOk k.reg b.length then 0x03
  else if !inRange k v || d.pastTable k b.length || d.hallFixed k v then 0x04
  else 0

/-! ## What a write does -/

/-- A value goes to the staging copy (R27); the tables are held beside the store (R118). -/
def stage (d : Device) (k : Key) (v : Val) : Device :=
  let n := k.inst
  match k.reg with
  | .CH_BOFF_DATA =>
    d.modFront n (fun f => { f with staged := f.staged.writeOffs (d.num .CH_BOFF_PLANE n) (d.num .CH_BOFF_BASE n) v.toOctets, touched := (true, f.touched.2) })
  | .CH_SHADE_DATA =>
    d.modFront n (fun f => { f with
      staged := f.staged.writeGains (d.num .CH_SHADE_PLANE n) (d.num .CH_SHADE_BASE n) v.toOctets, touched := (f.touched.1, true, f.touched.2.2) })
  | .CH_DPM_DATA =>
    d.modFront n (fun f => { f with
      staged := { f.staged with dpm := (chunks 4 (v.toOctets.length / 4) v.toOctets).map ofLE }, touched := (f.touched.1, f.touched.2.1, true) })
  | _ => d.putStg k.reg n v

/-- A value goes to the live copy of an RW object (R27); a persistent one is to be saved (R51). -/
def store (d : Device) (k : Key) (v : Val) : Device :=
  let d := d.put k.reg k.inst v
  if k.reg.row.pers then d.modNvs (fun x => { x with dirty := true }) else d

/-- An action that a code other than 0 refuses. -/
def refusing (d : Device) (code : Nat) (f : Device → Device) : Nat × Device := if code = 0 then (0, f d) else (code, d)

/-- A write of LNK_TEST (R74). -/
def writeTest (d : Device) (l n : Nat) : Nat × Device :=
  if n = 0 then (0, d.testStop l)
  else if !(d.lstate l == LS.low || d.lstate l == LS.service) then (0x06, d)
  else d.refusing (if prbsMisfit n (d.lrung l) then 0x04 else 0) (fun d => d.testAsk l n)

/-- A write of FLC_JOB_GO (R327). -/
def writeGo (d : Device) (j n : Nat) : Nat × Device :=
  let st := d.num .FLC_JOB_STATE j
  if n = 1 then d.refusing (if d.jobDstBad j then 0x04 else if st = 1 then 0x06 else 0) (fun d => d.jobStart j)
  else d.refusing (if st ≠ 3 || d.jobDstBad j then 0x04 else 0) (fun d => d.jobResume j)

/-- The further refusals of an object's own rules and what the write does (R27, checks 4 and after). -/
def applyWrite (d : Device) (k : Key) (v : Val) (session : Nat) : Nat × Device :=
  let i := k.inst
  let n := v.toNat
  match k.reg with
  | .SES_CLOSE => (0, if session = i then { d with closing := true } else d.closeSession i)
  | .DEV_STAGE_DISCARD => (0, d.stageDiscard .device)
  | .CH_STAGE_DISCARD => (0, d.stageDiscard (.channel i))
  | .NVS_SAVE => (0, d.nvsSave true)
  | .NVS_ERASE => (0, d.nvsErase)
  | .LNK_TEST => d.writeTest i n
  | .CH_CREG_GO => d.refusing (if d.num .CH_CREG_STATUS i = 1 then 0x06 else 0) (fun d => d.cregGo i n)
  | .POS_REARM => (0, d.rearm n)
  | .POS_GRID_SET => (0, d.gridSetWrite n)
  | .HFT_LOAD_BEGIN => d.loadBegin n
  | .HFT_LOAD_END => d.loadEnd n
  | .HFT_LOAD_ABORT => (0, d.loadAbort)
  | .CH_CAL_START => (0, d.calTrigger i)
  | .CH_CAL_ABORT => (0, d.calDiscard i)
  | .CH_CAL_SEED => (0, d.modCal i (fun c => { c with seedMark := true }))
  | .MEM_RETRAIN_REQ => (0, d.retrainRequest)
  | .FLC_JOB_GO => d.writeGo i n
  | .CRC_CMD => (0, if n = 1 then d.crcStart i else d.crcEnd i)
  | .CRC_FEED8 => (0, d.crcFeed i (le 1 n))
  | .CRC_FEED16 => (0, d.crcFeed i (le 2 n))
  | .CRC_FEED24 => (0, d.crcFeed i (le 3 n))
  | .CRC_FEED32 => (0, d.crcFeed i (le 4 n))
  | .CRC_CONTEXT => d.refusing (if d.crcFed i then 0x06 else 0) (fun d => d.crcRestore i n)
  | .CRC_ALG | .CRC_MODE => d.refusing (if d.crcFed i then 0x06 else 0) (fun d => d.store k v)
  | .DMA_DOORBELL => (0, d.doorbell i n)
  | .DMA_ENABLE => (0, if n = 1 then d.droverEnable i else d.droverDisable i)
  | .DMA_CMD => (0, if n = 1 then d.droverFinish i else d.droverClear i)
  | .DMA_RING_SPACE | .DMA_RING_BASE | .DMA_RING_ENTRIES | .DMA_CPL_BASE =>
    d.refusing (if d.num .DMA_STATE i = 0 then 0 else 0x06) (fun d => d.store k v)
  | .TRU_FW_STAGE => d.refusing (d.fwStageRefused n) (fun d => d.fwStage n)
  | .TRU_SVN_LOCK => d.refusing (if n = d.num .DEV_FW_SVN 0 then 0 else 0x04) (fun d => d.svnLock n)
  | .TRU_HOLD_SET => d.refusing d.holdSetRefused (fun d => d.holdSet session)
  | .TRU_HOLD_RELEASE => d.refusing (d.holdReleaseRefused n) (fun d => d.holdRelease session)
  | .TIM_SET => (0, d.timSet n)
  | .TIM_STEP_NS => (0, d.timStep n)
  | .TIM_TT_ARM => d.refusing (if d.num .TIM_TT_MODE i = 1 then 0 else 0x04) (fun d => d.ttArm i n)
  | .EVT_TASK_CLEAR => (0, d.taskClear i)
  | .CLK_RETURN => (0, d.clkReturn)
  | .PWR_SLEEP => d.refusing d.sleepRefused deepSleep
  | .PWR_RESET => (0, { d with resetDue := true })
  | .FLT_CLEAR => (0, d.clearFaults n)
  | .FLT_MASK => (0, (d.store k (.num ((n ||| nonMaskable) % 65536))).settle)
  | .TWI_T_GO => d.refusing d.slotRefused slotGo
  | .TWI_FLAG_CLEAR => (0, d.twiClear n)
  | _ => (0, if k.reg.row.acc = .rws then d.stage k v else d.store k v)

/-- The fold is forming and the object is one of its RWS objects (R417). -/
def formingRefused (d : Device) (k : Key) : Bool :=
  d.num .FLD_STATE 0 = 1 && decide (k.reg.row.acc = .rws) && 0x3000 ≤ k.index && k.index < 0x3100

/-- The WRITE entry of an applied write (R374): the value as written, the generation that the staging copy would take for an RWS object. -/
def journalWriteOf (d : Device) (session : Nat) (k : Key) (b : Octets) : Device :=
  if k.reg.row.acc = .rws then d.journalExternal 0x01 1 session k (d.genStaged k.scope) b
  else d.journalExternal 0x01 0 session k (d.genLive k.scope) b

/-- Checks 4 and 5, and the write itself (R27, R375): its journal entry comes first, and a refused write leaves none. -/
def furtherWrite (d : Device) (session : Nat) (k : Key) (b : Octets) : Nat × Device :=
  let v := decodeVal k.reg.row.ty b
  if d.underHold k then (0x07, d.bump .TRU_HOLD_REFUSED 0)
  else if d.formingRefused k then (0x0A, d)
  else
    let r := d.applyWrite k v session
    if r.1 ≠ 0 then r
    else if !d.externalRoom then (0x06, d.bump .TRU_JRN_REFUSED 0)
    else (d.journalWriteOf session k b).applyWrite k v session

/-- A write of bytes to a present object by a session (R27, R45): its abort code, 0 when it is applied. COM_BAR0_BULK_GO is `bulkGo`'s. -/
def writeObj (d : Device) (session : Nat) (k : Key) (b : Octets) : Nat × Device :=
  let c := d.formRefused k b
  if c ≠ 0 then (c, d)
  else match k.reg with
    | .DEV_COMMIT => d.commit .device (ofLE b) session
    | .CH_COMMIT => d.commit (.channel k.inst) (ofLE b) session
    | _ => d.furtherWrite session k b

/-- The mailbox's first `len` bytes are applied to the object that COM_BAR0_BULK_SEL names (R44): a STR or BLOB. -/
def bulkApply (d : Device) (session len : Nat) : Nat × Device :=
  let sel := d.num .COM_BAR0_BULK_SEL 0
  match d.findObj (sel / 256) (sel % 256) with
  | none => (0x01, d)
  | some k =>
    if d.classRefused k then (0x02, d)
    else if k.reg.row.ty.size.isSome || 65536 < len then (0x03, d)
    else d.writeObj session k (slice d.mailbox 0 len)

/-- A write of COM_BAR0_BULK_GO (R44): its own entry and that of the object it applies; refused as a whole when the object's write is. -/
def bulkGo (d : Device) (session : Nat) (b : Octets) : Nat × Device :=
  let k : Key := ⟨.COM_BAR0_BULK_GO, 0⟩
  let c := d.formRefused k b
  if c ≠ 0 then (c, d)
  else
    let r := d.bulkApply session (ofLE b)
    if r.1 ≠ 0 then r
    else
      let r2 := (d.journalWriteOf session k b).bulkApply session (ofLE b)
      if r2.1 = 0 then r2 else (r2.1, d.bump .TRU_JRN_REFUSED 0)

/-- A write by a session of bytes to what an index and subindex name (R25, R27). -/
def write (d : Device) (session index sub : Nat) (b : Octets) : Nat × Device :=
  match d.findObj index sub with
  | none => (0x01, d)
  | some k => if k.reg = .COM_BAR0_BULK_GO then d.bulkGo session b else d.writeObj session k b

/-- A session that has closed itself ends with its request (R36). -/
def closeOwn (d : Device) (n : Nat) : Device := if d.closing then d.closeSession n else d

/-- A reset by command follows the response (R447). How many of the buffered journal entries reach MRAM before it is free. -/
def commandReset (d : Device) : Device :=
  if d.resetDue then
    let (k, d) := d.fresh (d.jrn.buf.length + 1)
    (journalAll k d).systemReset 4
  else d

end Device

end Sys2Proof.Machine
end

