-- ==== Sys2Proof/Machine/Wire.lean ====
section
/-!
DEFINITION. What leaves the pins of a lane in a tick of 1 µs: the 8b/10b code, ordered sets, frames and packets of rungs 0 and 1 (R62), the
superframes of rungs 2 and 2H (R65, R66, R68), the switch of a rung (R61), requests that are repeated (R64), test patterns and near-end loops
(R72, R73), and the idle of falling asleep and of waking (R75, R76). Log entry 53.
-/
namespace Sys2Proof.Machine

/-! ## 8b/10b (R62) -/

/-- The 5b/6b code words, bit a first, for a negative running disparity (IEEE 802.3 clause 36). -/
def code6 : List Nat :=
  [0b100111, 0b011101, 0b101101, 0b110001, 0b110101, 0b101001, 0b011001, 0b111000,
   0b111001, 0b100101, 0b010101, 0b110100, 0b001101, 0b101100, 0b011100, 0b010111,
   0b011011, 0b100011, 0b010011, 0b110010, 0b001011, 0b101010, 0b011010, 0b111010,
   0b110011, 0b100110, 0b010110, 0b110110, 0b001110, 0b101110, 0b011110, 0b101011]

/-- The 3b/4b code words, bit f first, for a negative running disparity; the last is the alternate of D.x.7. -/
def code4 : List Nat := [0b1011, 0b1001, 0b0101, 0b1100, 0b1101, 0b1010, 0b0110, 0b1110, 0b0111]

/-- The bits of a word of `n` bits, most significant first. -/
def bitsDown (n x : Nat) : List Nat := ((List.range n).map (fun i => b2n (bit x i))).reverse

/-- A block of a code word under a running disparity: the bits and the disparity after it. An unbalanced block is complemented for a positive
disparity and turns it; a balanced one is sent as it is, but for D.7 and D.x.3, which `turns` names. -/
def block (n w : Nat) (turns plus : Bool) : List Nat × Bool :=
  let bs := bitsDown n w
  let flat := decide (2 * bs.foldl (· + ·) 0 = n)
  (if plus && (!flat || turns) then bs.map (1 - ·) else bs, if flat then plus else !plus)

/-- A data character, bit a first, with the running disparity after it. -/
def dataChar (plus : Bool) (o : Nat) : List Nat × Bool :=
  let x := o % 32
  let y := o / 32 % 8
  let (six, p) := block 6 (code6.getD x 0) (x == 7) plus
  let alt := y == 7 && (if p then x == 11 || x == 13 || x == 14 else x == 17 || x == 18 || x == 20)
  let (four, q) := block 4 (code4.getD (if alt then 8 else y) 0) (y == 3) p
  (six ++ four, q)

/-- The control characters of R62 for a negative running disparity: K28.5, K28.2, K27.7 and K29.7. -/
def controlWord (o : Nat) : Nat :=
  match o with
  | 0xBC => 0b0011111010
  | 0x5C => 0b0011110101
  | 0xFB => 0b1101101000
  | _ => 0b1011101000

/-- A control character with the running disparity after it. -/
def controlChar (plus : Bool) (o : Nat) : List Nat × Bool := block 10 (controlWord o) true plus

/-- Characters coded one after another; a control character is marked. -/
def codeChars (plus : Bool) : List (Bool × Nat) → List Nat × Bool
  | [] => ([], plus)
  | (k, o) :: rest =>
    let (bs, p) := if k then controlChar plus o else dataChar plus o
    let (more, q) := codeChars p rest
    (bs ++ more, q)

/-- The idle ordered set, K28.5 D16.2. -/
def idleSet : List (Bool × Nat) := [(true, 0xBC), (false, 0x50)]

/-- A training frame as it is sent at rungs 0 and 1: K28.5 K28.2 and its octets. -/
def frameSet (f : Octets) : List (Bool × Nat) := [(true, 0xBC), (true, 0x5C)] ++ f.map (fun o => (false, o))

/-- A packet as it is sent at rung 1: K27.7, its octets, K29.7 (R80). -/
def packetSet (p : Octets) : List (Bool × Nat) := (true, 0xFB) :: p.map (fun o => (false, o)) ++ [(true, 0xFD)]

namespace LaneTx

/-- Nothing is due but idle. -/
def drained (x : LaneTx) : Bool := x.frames.isEmpty && x.packets.isEmpty && x.left.isEmpty

/-- Quarters of a PAM4 symbol in a superframe (R65). -/
def whole : Nat := 4 * 699040

/-- What follows the set that has just been sent (R62): a frame that is due ahead of a packet that is due, else an idle; while the idle fill of
a wake lasts, an idle. `quit` ends the stream where nothing is due. -/
def nextSet (quit : Bool) (x : LaneTx) : List (Bool × Nat) × LaneTx :=
  if x.fill ≠ 0 then (idleSet, x)
  else match x.frames, x.packets with
    | f :: rest, _ => (frameSet f, { x with frames := rest })
    | [], p :: rest => (packetSet p, { x with packets := rest })
    | [], [] => (if quit then [] else idleSet, x)

/-- The next `n` characters of the stream at rungs 0 and 1. -/
def takeChars (quit : Bool) : Nat → LaneTx → List (Bool × Nat) × LaneTx
  | 0, x => ([], x)
  | n + 1, x =>
    let (cs, x) := if x.chars.isEmpty then x.nextSet quit else (x.chars, x)
    match cs with
    | [] => ([], x)
    | c :: rest =>
      let (more, y) := takeChars quit n { x with chars := rest }
      (c :: more, y)

/-- The payload octets of a superframe (R66, R80): packets in whole flits, filled with 0x00; then idle flits. Idle only while the fill of a
wake lasts. -/
def takePayload (x : LaneTx) : Octets × LaneTx :=
  if x.fill ≠ 0 then (List.replicate 164480 0, x)
  else
    let flits (p : Octets) : Octets := p ++ List.replicate ((16 - p.length % 16) % 16) 0
    let all := x.left ++ x.packets.flatMap flits
    (slice all 0 164480, { x with packets := [], left := all.drop 164480 })

/-- `n` bits of a pattern from its register, with the register after them (R72). -/
def patternBits (code : Nat) : Nat → Nat → List Nat × Nat
  | 0, r => ([], r)
  | n + 1, r =>
    let b := prbsNext code r
    let (bs, q) := patternBits code n ((r * 2 + b) % 2 ^ prbsLen code)
    (b :: bs, q)

end LaneTx

namespace Device

/-- The transmitter of lane `l` changed. -/
def modWire (d : Device) (l : Nat) (f : LaneTx → LaneTx) : Device := d.modLane l (fun x => { x with tx := f x.tx })

/-- The link of a lane sends what has waited. -/
def pumpLane (d : Device) (l : Nat) : Device :=
  match d.linkOfLane l with
  | some k => d.pump k
  | none => d

/-- The outstanding request of a lane is sent again (R64): IDENT, the EQ frame of a training, TEST REQ. RUNG_REQ and SLEEP REQ have repeats of
their own. -/
def repeatRequest (d : Device) (l : Nat) : Device :=
  let st := d.lstate l
  if st = LS.ident then d.sendFrame l 0x02 (d.ownIdent l)
  else if st = LS.train1 || st = LS.train2 || st = LS.relock then d.sendEq l
  else match (d.lane l).test with
    | some t => if !t.running && !t.far then d.sendTest l t.code t.ms 1 else d
    | none => d

/-- Idle fill goes by, a µs at rungs 0 and 1, a superframe at rungs 2 and 2H: that of a wake, after which packets resume (R76), and that before
SLEEP NOW, which begins when all that was begun has been sent (R75). -/
def fillPasses (d : Device) (l : Nat) : Device :=
  let x := (d.lane l).tx
  if x.fill ≠ 0 then
    let d := d.modWire l (fun x => { x with fill := x.fill - 1 })
    if x.fill = 1 then d.pumpLane l else d
  else match x.nod with
    | none => d
    | some n =>
      if !x.drained then d
      else if n = 0 then (d.sendSleep l 4 0).modWire l (fun x => { x with nod := none, closing := true })
      else d.modWire l (fun x => { x with nod := some (n - 1) })

/-- A µs at rungs 0 and 1 (R62): 125 or 625 characters. -/
def charTick (d : Device) (l : Nat) (quit : Bool) : Device :=
  let x := (d.lane l).tx
  let d := d.modWire l (fun x => { x with beat := if 9 ≤ x.beat then 0 else x.beat + 1 })
  let d := if 9 ≤ x.beat && !quit then d.repeatRequest l else d
  let (cs, y) := (d.lane l).tx.takeChars quit (if x.rung = 0 then 125 else 625)
  let (bits, p) := codeChars y.plus cs
  ((d.modWire l (fun _ => { y with plus := p })).sendBits l bits).fillPasses l

/-- A µs at rungs 2 and 2H (R65, R66, R68): where a superframe begins in it, the superframe leaves. -/
def superframeTick (d : Device) (l : Nat) (quit : Bool) : Device :=
  let rung := (d.lane l).tx.rung
  let d := d.modWire l (fun x => { x with elapsed := x.elapsed + (if rung = 3 then 53125 else 106250) })
  let x := (d.lane l).tx
  if x.elapsed < LaneTx.whole || (quit && x.drained) then d
  else
    let d := if x.frames.isEmpty && x.fill = 0 && !quit then d.repeatRequest l else d
    let x := (d.lane l).tx
    let (frame, frames) := if x.fill ≠ 0 then ([], x.frames) else (x.frames.headD [], x.frames.drop 1)
    let (payload, y) := x.takePayload
    let (ps, reg) := superframeOut x.scrambler x.lastP (markerMessage x.sfCount l rung frame) payload
    let d := d.modWire l (fun _ => { y with
      frames := frames, scrambler := reg, lastP := ps.getLastD x.lastP, sfCount := (x.sfCount + 1) % 2 ^ 24, elapsed := x.elapsed - LaneTx.whole })
    (d.sendLevels l ps).fillPasses l

/-- A µs of the pattern of a test (R72, R73): on the pins, and in a near-end loop at the device's own receiver, from the front end (serial) or from
before the serialiser (parallel), where the pins carry idles. -/
def patternTick (d : Device) (l role code : Nat) : Device :=
  let x := (d.lane l).tx
  let n := if x.rung = 0 then 1250 else if x.rung = 1 then 6250 else 2 * (symbols (d.tick + 1) x.rung - symbols d.tick x.rung)
  let (bits, reg) := LaneTx.patternBits code n x.prbs
  let d := d.modWire l (fun x => { x with prbs := reg })
  if role = 6 then d.checkIn l bits
  else
    let d := d.sendPattern l bits
    if role = 5 then d.checkIn l (rightBits (d.on .LNK_RX_INVERTED l != d.on .LNK_TX_INVERT l) (2 ≤ d.lrung l) bits) else d
where
  /-- PAM4 symbols in `t` µs. -/
  symbols (t rung : Nat) : Nat := t * (if rung = 3 then 53125 else 106250) / 4

/-- A µs of the transmitter of lane `l`. Off and asleep it sends nothing. At a change of rung it sends what is due, stays electrically idle for 20 µs
and goes on at the new rung with P(−1) = 0 (R61, R68); behind SLEEP NOW it sleeps (R75); a running test replaces the coded stream (R72). -/
def wireTick (d : Device) (l : Nat) : Device :=
  let x := (d.lane l).tx
  if d.lstate l = LS.off || bit (d.num .LNK_SLEEP_STATE l) 0 then d
  else if x.hush ≠ 0 then d.modWire l (fun x => { x with hush := x.hush - 1 })
  else
    let role := ((d.runningTest l).map (testRole l)).getD 0
    let wants := (1 ≤ role && role ≤ 5) || role = 7 || role = 8
    let turn := x.rung != d.lrung l
    let quit := turn || x.closing || (wants && !x.pattern)
    let done := x.drained && (if x.rung ≤ 1 then x.chars.isEmpty else decide (LaneTx.whole ≤ x.elapsed))
    let code := ((d.runningTest l).bind (testPattern l)).getD 2
    if x.pattern && !wants then d.modWire l (fun x => { x with pattern := false, elapsed := LaneTx.whole, chars := [] })
    else if (x.pattern || done) && turn then
      d.modWire l (fun x => { x with rung := d.lrung l, hush := 19, lastP := 0, elapsed := LaneTx.whole, chars := [], pattern := false })
    else if quit && done then
      if x.closing then
        let d := d.set .LNK_SLEEP_STATE l (setBit (d.num .LNK_SLEEP_STATE l) 0)
        (d.modWire l (fun x => { x with closing := false })).emit (.lane l "sleep")
      else d.modWire l (fun x => { x with pattern := true, prbs := 2 ^ prbsLen code - 1 })
    else if x.pattern then (if role = 8 then d else d.patternTick l role code)
    else
      let d := if x.rung ≤ 1 then d.charTick l quit else d.superframeTick l quit
      if role = 6 then
        let d := if x.prbs = 0 then d.modWire l (fun x => { x with prbs := 2 ^ prbsLen code - 1 }) else d
        d.patternTick l role code
      else d

/-- A µs of every lane's transmitter, while the SerDes reference runs (R437). -/
def wireTicks (d : Device) : Device := if d.sdUp then (List.range 36).foldl wireTick d else d

end Device

end Sys2Proof.Machine
end

