-- ==== Sys2Proof/Machine/Tick.lean ====
section
/-!
DEFINITION. The end of a dictionary tick (R31, R385; log entry 21), the order of the accesses of a tick (R31), and putting a command in front of the queue.
-/
namespace Sys2Proof.Machine

namespace Device

/-- A tick of 1 µs ends, and the time clock runs the 1,000 cycles of the next (R31, R385), so that between two of these the local clock stands at the end of the tick,
where its accesses are applied and what they do to the clock takes effect (R374, R386): scopes handed over in it may commit again (R47), relayed pulses whose time has come
rise (R425), the lanes' transmitters send what the µs holds (R62, R65), a save begun in it takes its snapshot (R51), and a line that rose wakes the device (R445). -/
def tickEnd (d : Device) : Device :=
  let d := { d with tick := d.tick + 1, released := [], outs := [], lastAccess := 0 }
  ((((d.clockRun 1000).relayTick).wireTicks).nvsSnap).wakeTick

/-- An access of a session in its place (R31): the accesses of a tick are applied in ascending session number, those of OPEN (1,024) after every session's. An
access that arrives behind one of a higher session is one of the next tick (log entry 55). A number above 1,024 is no session's. -/
def ranked (d : Device) (session : Nat) : Device :=
  if 1024 < session then d
  else
    let d := if session < d.lastAccess then d.tickEnd else d
    { d with lastAccess := session }

end Device

/-- An access to the dictionary by a session, in its place among those of the tick (R31). -/
def runAs (session : Nat) (ok : Bool) (s : State) (f : Device → Device) : Host.Outcome State Fault Refusal := run ok s fun d => f (d.ranked session)

/-- A command put in front of those that wait. -/
def State.withFront (s : State) (c : Instr) : State := { s with pending := c :: s.pending }

end Sys2Proof.Machine
end

