-- ==== Sys2Proof/Machine/Bar0.lean ====
section
/-!
DEFINITION. The BAR0 window (R29, R42 to R44): where an offset leads, slots of objects, the high-word latch, the mailbox, refused accesses, and reachability (R41).
-/
namespace Sys2Proof.Machine

/-- Index and subindex of a slot at an offset of a view (R42); none outside the ranges. -/
def slotAt (o : Nat) : Option (Nat × Nat) :=
  (indexRanges.find? (fun r => r.2.2 ≤ o && o < r.2.2 + (r.2.1 + 1 - r.1) * 0x400)).map (fun r => (r.1 + (o - r.2.2) / 0x400, o % 0x400 / 4))

/-- Offset of a slot in the live view (R42); none for an index outside the ranges. -/
def slotOffset (index sub : Nat) : Option Nat :=
  (indexRanges.find? (fun r => r.1 ≤ index && index ≤ r.2.1)).map (fun r => r.2.2 + (index - r.1) * 0x400 + sub * 4)

/-- The 32-bit slot of a value (R26): zero-extended, S16 sign-extended, the low half of a U48 or U64, the length of a STR or BLOB. -/
def slotValue (ty : ObjType) (v : Val) : Nat :=
  match ty with
  | .s16 => ofSigned 32 (toSigned 16 v.toNat)
  | _ => v.toNat % 2 ^ 32

/-- The bytes of an object's value that a write of a slot gives (R26, R44), with the latch `hi`: none when the slot does not hold a value of the type. -/
def slotBytes (ty : ObjType) (hi n : Nat) : Option Octets :=
  match ty with
  | .s16 => if ofSigned 32 (toSigned 16 (n % 65536)) = n then some (le 2 n) else none
  | .u48 => some (le 6 (n + 2 ^ 32 * hi))
  | .u64 => some (le 8 (n + 2 ^ 32 * hi))
  | _ =>
    match ty.size with
    | some k => if n < 2 ^ (8 * k) then some (le k n) else none
    | none => none

namespace Device

/-- BAR0 can be reached (R41): the PCIe link is up, Memory Space Enable is set, and the dictionary is there (R448). -/
def bar0Up (d : Device) : Bool := d.reachable && d.num .PCI_LINK_WIDTH 0 != 0 && d.pcie.memEnable

/-- A refused BAR0 access is recorded (R43). -/
def bar0Abort (d : Device) (code at_ : Nat) (staged : Bool) : Device :=
  (d.set .COM_BAR0_ABORT 0 code).set .COM_BAR0_ABORT_AT 0 (at_ + (if staged then 2 ^ 24 else 0))

/-- A refused read: it returns 0xFFFF_FFFF (R43). -/
def bar0Refuse (d : Device) (code at_ : Nat) (staged : Bool) : Octets × Device := (le 4 0xFFFFFFFF, d.bar0Abort code at_ staged)

/-- A read of the slot of an index and subindex (R43, R44): a U48 or U64 latches its upper bits. -/
def slotRead (d : Device) (staged : Bool) (index sub : Nat) : Octets × Device :=
  match d.findObj index sub with
  | none => d.bar0Refuse 0x01 (index * 256 + sub) staged
  | some k =>
    if k.reg.row.acc.unreadable then d.bar0Refuse 0x02 k.at_ staged
    else
      let v := d.viewVal staged k
      let d := match k.reg.row.ty with
        | .u48 | .u64 => d.set .COM_BAR0_HI 0 (v.toNat / 2 ^ 32)
        | _ => d
      (le 4 (slotValue k.reg.row.ty v), d)

/-- A read of the bulk mailbox (R44): bytes of the selected STR or BLOB, 0 beyond its end. -/
def mailboxRead (d : Device) (o : Nat) : Octets × Device :=
  let sel := d.num .COM_BAR0_BULK_SEL 0
  match d.findObj (sel / 256) (sel % 256) with
  | none => d.bar0Refuse 0x01 (sel % 2 ^ 24) false
  | some k =>
    if k.reg.row.acc.unreadable then d.bar0Refuse 0x02 k.at_ false
    else if k.reg.row.ty.size.isSome then d.bar0Refuse 0x03 k.at_ false
    else (slice (d.viewVal false k).toOctets (o / 4 * 4) 4, d)

/-- A read of the 32-bit slot at an offset of BAR0 (R42 to R44). -/
def bar0Slot (d : Device) (offset : Nat) : Octets × Device :=
  let staged := decide (0x1000000 ≤ offset)
  let o := offset % 0x1000000
  if !staged && 0xF00000 ≤ o && o < 0xF10000 then d.mailboxRead (o - 0xF00000)
  else match slotAt o with
    | some (i, s) => d.slotRead staged i s
    | none => d.bar0Refuse 0x01 0 staged

/-- A read of BAR0 (R42 to R44): of the bytes that `enables` selects in one slot, or as a 64-bit request in two, the lower address first. -/
def bar0Read (d : Device) (offset enables : Nat) : Device :=
  if !d.bar0Up then d
  else
    let part (d : Device) (o en : Nat) : Octets × Device :=
      if en = 0 then ([], d)
      else
        let (b, d) := d.bar0Slot o
        ((b.zipIdx.filter (fun e => bit en e.2)).map Prod.fst, d)
    let (b0, d) := part d.deepWake offset (enables % 16)
    let (b1, d) := part d (offset + 4) (enables / 16)
    d.emit (.completion (b0 ++ b1) false)

/-- A write by session 0 of what the host put on the bus (R43, R44). -/
def slotWrite (d : Device) (index sub : Nat) (b : Octets) : Nat × Device :=
  match d.findObj index sub with
  | none => (0x01, d)
  | some k =>
    if d.classRefused k then (0x02, d)
    else if b.length ≠ 4 || k.reg.row.ty.size.isNone then (0x03, d)
    else match slotBytes k.reg.row.ty (d.num .COM_BAR0_HI 0) (ofLE b) with
      | some v => d.write 0 index sub v
      | none => (0x04, d)

/-- A refused write by session 0 is recorded (R43); COM_BAR0_BULK_GO names the object it would have written (R44). -/
def writeRefused (d : Device) (code index sub : Nat) (staged : Bool) : Device :=
  let at_ := if locate index sub = some ⟨.COM_BAR0_BULK_GO, 0⟩ then d.num .COM_BAR0_BULK_SEL 0 % 2 ^ 24 else index * 256 + sub
  d.bar0Abort code at_ staged

/-- A write of one slot through BAR0 (R43). -/
def bar0Write (d : Device) (staged : Bool) (index sub : Nat) (b : Octets) : Device :=
  if !d.bar0Up then d
  else
    let r := d.deepWake.slotWrite index sub b
    let d := if r.1 = 0 then r.2 else r.2.writeRefused r.1 index sub staged
    (d.emit (.result r.1)).commandReset

/-- A 64-bit write through BAR0 (R43): two slot accesses, the lower address first, at an aligned offset. -/
def bar0WriteWide (d : Device) (staged : Bool) (index sub : Nat) (b : Octets) : Device :=
  let d := d.bar0Write staged index sub (b.take 4)
  match (slotOffset index sub).bind (fun o => slotAt (o + 4)) with
  | some (i, j) => d.bar0Write staged i j (b.drop 4)
  | none => d.bar0Write staged 0 0 (b.drop 4)

/-- A write of one item by a DAP session (R27, R36): a session that is not open is not heard, and one that closes itself ends with it. -/
def itemWrite (d : Device) (session index sub : Nat) (b : Octets) : Device :=
  if !d.reachable then d
  else if (d.session session).isNone then d.bump .COM_DAP_DROPS 0
  else
    let r := d.deepWake.write session index sub b
    ((r.2.closeOwn session).emit (.result r.1)).commandReset

/-- A write by a session of an object, session 0 through the BAR0 window, where 8 bytes are a 64-bit request and bytes that are not 4 stand for a slot whose
byte enables are not all set. -/
def sessionWrite (d : Device) (session : Nat) (staged : Bool) (index sub : Nat) (b : Octets) : Device :=
  if session ≠ 0 then d.itemWrite session index sub b
  else if b.length = 8 && sub % 2 = 0 then d.bar0WriteWide staged index sub b
  else d.bar0Write staged index sub b

/-- A command that a session gives by writing number `n` to an object: through BAR0 the upper half of a U48 or U64 goes into the latch first (R44). -/
def command (d : Device) (session : Nat) (r : Reg) (i n : Nat) : Device :=
  let k : Key := ⟨r, i⟩
  if session = 0 then
    match r.row.ty with
    | .u48 | .u64 =>
      let d := d.bar0Write false 0x1108 0x01 (le 4 (n / 2 ^ 32))
      d.bar0Write false k.index k.sub (le 4 n)
    | .s16 => d.bar0Write false k.index k.sub (le 4 (ofSigned 32 (toSigned 16 n)))
    | _ => d.bar0Write false k.index k.sub (le 4 n)
  else d.itemWrite session k.index k.sub (encodeVal r.row.ty (.num n))

/-- The link, Memory Space Enable and Relaxed Ordering's enable in Device Control change (R41, R358, R360); a link that is held in reset does not come up (R484). Drovers that waited for the link go on (R352). -/
def reachabilityChange (d : Device) (speed width : Nat) (mem relaxed : Bool) : Device :=
  if d.pcie.perst then d
  else
    let up := speed != 0 && width != 0
    let d := (d.set .PCI_LINK_SPEED 0 (if up then speed else 0)).set .PCI_LINK_WIDTH 0 (if up then width else 0)
    let d := { d with pcie := { d.pcie with memEnable := mem, relaxed := relaxed } }
    if up then (d.rings.map Ring.q).foldl feedDrover d else d

end Device

end Sys2Proof.Machine
end

