-- ==== Sys2Proof/Machine/Dap.lean ====
section
/-!
DEFINITION. The Dictionary Access Protocol (R32 to R39): the order in which a datagram is judged, the operations, sessions, and pushes.
-/
namespace Sys2Proof.Machine

/-- Largest UDP payload for a peer (R32). -/
def dapLimit (peer : Octets) : Nat := if peer.length = 4 then 1472 else 1452

/-- A DAP header with the bytes that follow it (R33): VERSION 2. -/
def dapBytes (op session seq items status flags : Nat) (body : Octets) : Octets :=
  [2, op % 256] ++ le 2 session ++ le 4 seq ++ le 2 items ++ le 2 body.length ++ [status, flags, 0, 0] ++ body

/-- An item of a request (R34). -/
structure DapItem where
  index : Nat
  sub : Nat
  value : Octets
deriving DecidableEq, Repr

/-- An item of a response (R34): one whose CODE is not 0 carries no value. -/
def dapItem (x : DapItem) (code : Nat) (v : Octets) : Octets :=
  let v := if code = 0 then v else []
  le 2 x.index ++ [x.sub, code] ++ le 2 v.length ++ v

/-- The items of a request (R33): none where they do not exactly fill its body. -/
def dapItems : Nat → Octets → Option (List DapItem)
  | 0, b => if b.isEmpty then some [] else none
  | n + 1, b =>
    let k := leAt b 4 2
    if b.length < 6 + k then none
    else (dapItems n (b.drop (6 + k))).map (fun t => { index := leAt b 0 2, sub := octet b 2, value := slice b 6 k } :: t)

/-- OP, SESSION, SEQ and FLAGS of a datagram. -/
def dapOp (p : Octets) : Nat := octet p 1
/-- SESSION. -/
def dapSession (p : Octets) : Nat := leAt p 2 2
/-- SEQ. -/
def dapSeq (p : Octets) : Nat := leAt p 4 4
/-- FLAGS. -/
def dapFlags (p : Octets) : Nat := octet p 13

/-- The place of a datagram among the accesses of a tick (R31): its session, OPEN behind them all. -/
def dapRank (p : Octets) : Nat := if dapOp p = 1 then 1024 else dapSession p

/-- The operations of R35 that a client may send. -/
def dapKnown (op : Nat) : Bool := [0x01, 0x02, 0x03, 0x10, 0x11, 0x12, 0x13, 0x14, 0x20, 0x21].contains op

/-- The items of a request that is well formed (R33, R35); none where it is refused as a whole. -/
def dapParse (p : Octets) : Option (List DapItem) :=
  let n := leAt p 8 2
  let body := p.drop 16
  if leAt p 10 2 != body.length || 128 < n || leAt p 14 2 != 0 || dapFlags p / 16 != 0 || field (dapFlags p) 2 1 != 0 || !dapKnown (dapOp p) then none
  else match dapItems n body with
    | none => none
    | some its =>
      let op := dapOp p
      let bad := ((op == 1 || op == 2 || op == 3) && n != 0) || (op == 1 && dapSession p != 0xFFFF)
        || (op == 0x12 && !(match its with | [x] => x.sub == 0 && x.value.isEmpty | _ => false))
      if bad then none else some its

/-- What becomes of a datagram addressed to the DAP port (R32, R33, R37): discarded and counted, answered with STATUS 0x03, or taken with its items. -/
inductive Triage where
  | drop
  | refuse
  | take (items : List DapItem)
deriving DecidableEq, Repr

/-- A session's subscription to an object. -/
def Session.sub (s : Session) (k : Key) : Option Subscription := s.subs.find? (fun x => x.key = k)

/-- A subscription set, in the order of index and subindex (R39). -/
def Session.subscribe (s : Session) (x : Subscription) : Session :=
  { s with subs := insertBy (fun y => y.key.at_) x (s.subs.filter (fun y => y.key ≠ x.key)) }

/-- The segments of a buffer, written over one another in the order they came (R35). -/
def SegBuffer.built (b : SegBuffer) (n : Nat) : Octets := b.segs.foldl (fun v e => overlay v e.1 e.2) (List.replicate n 0)

/-- The segments cover offsets 0 to `n` without a gap, and none reaches beyond (R35). -/
def SegBuffer.covers (b : SegBuffer) (n : Nat) : Bool :=
  b.segs.all (fun e => e.1 + e.2.length ≤ n) &&
    (sortBy Prod.fst b.segs).foldl (fun acc e => if e.1 ≤ acc then Nat.max acc (e.1 + e.2.length) else acc) 0 == n

namespace Device

/-- DAP is served on an Ethernet port (R32, R41): both while COM_DAP_PORTS is 0 and BAR0 cannot be reached. -/
def dapServed (d : Device) (port : Nat) : Bool :=
  d.ethUp && bit (if d.num .COM_DAP_PORTS 0 = 0 && !d.bar0Up then 3 else d.num .COM_DAP_PORTS 0) port

/-- A datagram is addressed to DAP where it is served (R32). -/
def dapAddressed (d : Device) (g : Datagram) : Bool :=
  d.dapServed g.port && d.ownAddress g.port g.dst && g.dport == d.num .COM_DAP_PORT 0

/-- The judgement of a datagram in its order (R32, R33, R37). -/
def triage (d : Device) (g : Datagram) : Triage :=
  let p := g.payload
  if g.fragment || !g.sumOk || dapLimit g.peer < p.length || p.length < 16 then .drop
  else if octet p 0 ≠ 2 then .refuse
  else
    let heard := dapOp p == 1 || (match d.session (dapSession p) with | some s => s.peer == g.peer && s.port == g.udp | none => false)
    if !heard then .drop
    else match dapParse p with
      | some its => .take its
      | none => .refuse

/-- A response goes out of the port on which the request came (R32, R36). -/
def dapSend (d : Device) (g : Datagram) (p : Octets) : Device := d.emit (.dap g.port g.peer g.udp p)

/-- A request refused as a whole (R33): a header alone, STATUS 0x03. -/
def dapRefuse (d : Device) (g : Datagram) : Device :=
  d.dapSend g (dapBytes (dapOp g.payload) (dapSession g.payload) (dapSeq g.payload) 0 0x03 2 [])

/-- A datagram from the peer of its session keeps it open (R37). -/
def touch (d : Device) (g : Datagram) : Device :=
  d.modSession (dapSession g.payload) (fun s => if s.peer = g.peer ∧ s.port = g.udp then { s with lastRx := d.tick, eth := g.port } else s)

/-- OPEN (R37): the lowest free session, or STATUS 0x08. -/
def dapOpen (d : Device) (g : Datagram) : Device :=
  let d := d.bump .COM_DAP_RX 0
  let p := g.payload
  match (List.range 1024).find? (fun n => n != 0 && (d.session n).isNone) with
  | none => d.dapSend g (dapBytes 1 (dapSession p) (dapSeq p) 0 0x08 2 [])
  | some n =>
    let d := { d with sess := putKeyed Session.n { n := n, peer := g.peer, port := g.udp, eth := g.port, lastRx := d.tick } d.sess }
    d.dapSend g (dapBytes 1 (dapSession p) (dapSeq p) 1 0 2 (dapItem ⟨0x9000 + n, 0, []⟩ 0 []))

/-! ## The operations (R34, R35) -/

/-- Every item of a list done in turn, with its code and value. -/
def eachItem (f : Device → DapItem → Nat × Octets × Device) : List DapItem → Device → Octets × Device
  | [], d => ([], d)
  | x :: xs, d =>
    let (c, v, d) := f d x
    let (rest, d) := eachItem f xs d
    (dapItem x c v ++ rest, d)

/-- What a read of an object does, when its value is returned. -/
def readDone (d : Device) (x : DapItem) : Device := match d.findObj x.index x.sub with | some k => d.afterRead k | none => d

/-- READ (R34): the items that fit, in order; `room` is what values may still take. -/
def dapRead (staged : Bool) : List DapItem → Nat → Device → Octets × Device
  | [], _, d => ([], d)
  | x :: xs, room, d =>
    let (c, v) := if x.value.isEmpty then d.readObj staged x.index x.sub else (0x03, [])
    if room < v.length then ((x :: xs).flatMap (fun y => dapItem y 0x09 []), d)
    else
      let d := if c = 0 then d.readDone x else d
      let (rest, d) := dapRead staged xs (room - v.length) d
      (dapItem x c v ++ rest, d)

/-- READ_INDEX (R35): the subindices of an index while each one's header fits in `room`; a value that does not fit has CODE 0x09. Gives the number of items too. -/
def dapReadIndex (staged : Bool) (index : Nat) : List Nat → Nat → Device → Nat × Octets × Device
  | [], _, d => (0, [], d)
  | s :: ss, room, d =>
    if room < 6 then (0, [], d)
    else
      let x : DapItem := ⟨index, s, []⟩
      let (c, v) := d.readObj staged index s
      let fits := decide (6 + v.length ≤ room)
      let d := if c = 0 && fits then d.readDone x else d
      let (k, rest, d) := dapReadIndex staged index ss (if fits then room - 6 - v.length else room - 6) d
      (k + 1, dapItem x (if fits then c else 0x09) v ++ rest, d)

/-- READ_SEG (R35): each item takes the bytes from its offset that fit in the room it is offered. -/
def dapReadSeg (staged : Bool) : List DapItem → Nat → Device → Octets × Device
  | [], _, d => ([], d)
  | x :: xs, room, d =>
    let (c, v) : Nat × Octets :=
      match d.findObj x.index x.sub with
      | none => (0x01, [])
      | some k =>
        if k.reg.row.acc.unreadable then (0x02, [])
        else if x.value.length ≠ 4 || k.reg.row.ty.size.isSome then (0x03, [])
        else
          let b := (d.viewVal staged k).toOctets
          let o := ofLE x.value
          if b.length < o then (0x04, [])
          else if o < b.length && room = 0 then (0x09, [])
          else (0, (b.drop o).take room)
    let d := if c = 0 then d.readDone x else d
    let (rest, d) := dapReadSeg staged xs (room - v.length) d
    (dapItem x c v ++ rest, d)

/-- One WRITE_SEG item (R35): into the session's buffer, and at the final segment the value takes effect as one write. -/
def writeSeg (d : Device) (n : Nat) (x : DapItem) (final : Bool) : Nat × Octets × Device :=
  match d.findObj x.index x.sub with
  | none => (0x01, [], d)
  | some k =>
    if d.classRefused k then (0x02, [], d)
    else if k.reg.row.ty ≠ .blob || x.value.length < 4 then (0x03, [], d)
    else
      let o := leAt x.value 0 4
      let b := x.value.drop 4
      if k.reg.maxLen < o + b.length then (0x03, [], d)
      else
        let old := match (d.session n).bind Session.seg with | some g => if g.key = k then g.segs else [] | none => []
        let buf : SegBuffer := { key := k, segs := old ++ [(o, b)] }
        if !final then (0, [], d.modSession n (fun s => { s with seg := some buf }))
        else
          let d := d.modSession n (fun s => { s with seg := none })
          if !buf.covers (o + b.length) then (0x03, [], d)
          else
            let r := d.writeObj n k (buf.built (o + b.length))
            (r.1, [], r.2)

/-- WRITE_SEG: with LAST, the last item is the final segment. -/
def dapWriteSeg (n : Nat) (last : Bool) : List DapItem → Device → Octets × Device
  | [], d => ([], d)
  | x :: xs, d =>
    let (c, v, d) := d.writeSeg n x (last && xs.isEmpty)
    let (rest, d) := dapWriteSeg n last xs d
    (dapItem x c v ++ rest, d)

/-- A SUBSCRIBE item (R38). -/
def subscribe (d : Device) (n : Nat) (x : DapItem) : Nat × Octets × Device :=
  match d.findObj x.index x.sub with
  | none => (0x01, [], d)
  | some k =>
    let mode := octet x.value 0
    let us := leAt x.value 1 4
    if k.reg.row.acc.unreadable then (0x02, [], d)
    else if x.value.length ≠ 5 then (0x03, [], d)
    else if 1 < mode || !within 1000 3600000000 us then (0x04, [], d)
    else
      let subs := ((d.session n).map Session.subs).getD []
      let total := d.sess.foldl (fun a s => a + s.subs.length) 0
      let held := subs.any (fun y => y.key = k)
      if !held && (64 ≤ subs.length || 8192 ≤ total) then (0x09, [], d)
      else (0, [], d.modSession n (fun s => s.subscribe { key := k, periodic := mode = 1, interval := us, lastTick := d.tick, lastVal := d.liveVal k }))

/-- An UNSUBSCRIBE item (R35). -/
def unsubscribe (d : Device) (n : Nat) (x : DapItem) : Nat × Octets × Device :=
  match d.findObj x.index x.sub with
  | none => (0x01, [], d)
  | some k =>
    if x.value.length ≠ 0 then (0x03, [], d)
    else (0, [], d.modSession n (fun s => { s with subs := s.subs.filter (fun y => y.key ≠ k) }))

/-- A WRITE item (R27). -/
def writeItem (n : Nat) (d : Device) (x : DapItem) : Nat × Octets × Device :=
  let r := d.write n x.index x.sub x.value
  (r.1, [], r.2)

/-- An operation of an open session (R35): the number of items of its response, their bytes, and the device. -/
def dapExec (d : Device) (g : Datagram) (its : List DapItem) : Nat × Octets × Device :=
  let p := g.payload
  let n := dapSession p
  let staged := bit (dapFlags p) 0
  let room := dapLimit g.peer - 16 - 6 * its.length
  let all (r : Octets × Device) : Nat × Octets × Device := (its.length, r.1, r.2)
  match dapOp p with
  | 0x10 => all (dapRead staged its room d)
  | 0x11 => all (eachItem (writeItem n) its d)
  | 0x12 =>
    let i := (its.headD ⟨0, 0, []⟩).index
    let r := d.readObj staged i 0
    if r.1 ≠ 0 then (1, dapItem ⟨i, 0, []⟩ r.1 [], d)
    else dapReadIndex staged i (List.range (octet r.2 0 + 1)) (dapLimit g.peer - 16) d
  | 0x13 => all (dapReadSeg staged its room d)
  | 0x14 => all (dapWriteSeg n (bit (dapFlags p) 3) its d)
  | 0x20 => all (eachItem (fun d x => d.subscribe n x) its d)
  | 0x21 => all (eachItem (fun d x => d.unsubscribe n x) its d)
  | _ => (0, [], d)

/-- A request of an open session that is newer than the last one (R36): it is executed, answered, and its response stored, unless it closes its own session. -/
def dapExecute (d : Device) (g : Datagram) (its : List DapItem) : Device :=
  let p := g.payload
  let n := dapSession p
  let (k, body, d) := (d.bump .COM_DAP_RX 0).dapExec g its
  let resp := dapBytes (dapOp p) n (dapSeq p) k 0 2 body
  let d := if dapOp p = 2 then d.closeSession n
    else d.closeOwn n |>.modSession n (fun s => { s with lastSeq := some (dapSeq p), lastResp := resp })
  (d.dapSend g resp).commandReset

/-- A request of an open session by its SEQ (R36): again, old, or new. -/
def dapRequest (d : Device) (g : Datagram) (its : List DapItem) : Device :=
  match d.session (dapSession g.payload) with
  | none => d
  | some s =>
    match s.lastSeq with
    | none => d.dapExecute g its
    | some last =>
      let diff := serialDiff 32 (dapSeq g.payload) last
      if diff = 0 then d.dapSend g s.lastResp
      else if diff < 0 then d.bump .COM_DAP_DROPS 0
      else d.dapExecute g its

/-- A datagram at DAP (R31 to R37); one that is not addressed to it, or comes on a port on which it is not served, is left alone (R32). -/
def dapReceive (d : Device) (g : Datagram) : Device :=
  if !d.dapAddressed g then d
  else
    let t := d.triage g
    let d := d.deepWake
    let d := if dapOp g.payload = 1 || t = .drop then d else d.touch g
    match t with
    | .drop => d.bump .COM_DAP_DROPS 0
    | .refuse => d.dapRefuse g
    | .take its => if dapOp g.payload = 1 then d.dapOpen g else d.dapRequest g its

/-- A datagram that is discarded or refused as a whole (R33); any other belongs to its operation's row. -/
def dapReject (d : Device) (g : Datagram) : Device :=
  match d.triage g with
  | .take _ => d
  | _ => d.dapReceive g

/-! ## Pushes (R38, R39) -/

/-- A subscription is due at the end of the tick. -/
def pushDue (d : Device) (x : Subscription) : Bool := x.lastTick + x.interval ≤ d.tick && (x.periodic || d.liveVal x.key != x.lastVal)

/-- The item that pushes a subscription; a value that fits no datagram has CODE 0x09. -/
def pushItem (d : Device) (limit : Nat) (x : Subscription) : Octets :=
  let v := encodeVal x.key.reg.row.ty (d.liveVal x.key)
  dapItem ⟨x.key.index, x.key.sub, []⟩ (if limit < 22 + v.length then 0x09 else 0) v

/-- Items packed, in order, into as few datagrams as the limit allows: the number of items and the bytes of each. -/
def packPush (limit : Nat) : List Octets → List (Nat × Octets)
  | [] => []
  | b :: bs =>
    match packPush limit bs with
    | [] => [(1, b)]
    | (k, c) :: rest => if 16 + b.length + c.length ≤ limit then (k + 1, b ++ c) :: rest else (1, b) :: (k, c) :: rest

/-- PUSH datagrams sent (R33, R39): each advances the push SEQ. -/
def sendPushes (n : Nat) (s : Session) : List (Nat × Octets) → Device → Device
  | [], d => d
  | (k, b) :: rest, d =>
    let seq := (s.pushSeq + 1) % 2 ^ 32
    let d := (d.modSession n (fun s => { s with pushSeq := seq })).emit (.dap s.eth s.peer s.port (dapBytes 0x30 n seq k 0 4 b))
    sendPushes n { s with pushSeq := seq } rest d

/-- The pushes of a session at the end of a tick (R39). -/
def pushAll (d : Device) (n : Nat) : Device :=
  match d.session n with
  | none => d
  | some s =>
    let due := s.subs.filter d.pushDue
    let ps := packPush (dapLimit s.peer) (due.map (d.pushItem (dapLimit s.peer)))
    let upd (x : Subscription) : Subscription := if d.pushDue x then { x with lastTick := d.tick, lastVal := d.liveVal x.key } else x
    sendPushes n s ps (d.modSession n (fun s => { s with subs := s.subs.map upd }))

end Device

/-! ## The commands -/

/-- DAP_OPEN (R37). -/
def execDapOpen (d : Datagram) (s : State) : Host.Outcome State Fault Refusal := runAs (dapRank d.payload) (WF.dapOpen d) s fun x => x.dapReceive d

/-- DAP_CLOSE (R36, R37). -/
def execDapClose (d : Datagram) (s : State) : Host.Outcome State Fault Refusal := runAs (dapRank d.payload) (WF.dapClose d) s fun x => x.dapReceive d

/-- DAP_KEEPALIVE (R37). -/
def execDapKeepalive (d : Datagram) (s : State) : Host.Outcome State Fault Refusal := runAs (dapRank d.payload) (WF.dapKeepalive d) s fun x => x.dapReceive d

/-- DAP_READ (R34). -/
def execDapRead (d : Datagram) (s : State) : Host.Outcome State Fault Refusal := runAs (dapRank d.payload) (WF.dapRead d) s fun x => x.dapReceive d

/-- DAP_WRITE (R27). -/
def execDapWrite (d : Datagram) (s : State) : Host.Outcome State Fault Refusal := runAs (dapRank d.payload) (WF.dapWrite d) s fun x => x.dapReceive d

/-- DAP_READ_INDEX (R35). -/
def execDapReadIndex (d : Datagram) (s : State) : Host.Outcome State Fault Refusal := runAs (dapRank d.payload) (WF.dapReadIndex d) s fun x => x.dapReceive d

/-- DAP_READ_SEG (R35). -/
def execDapReadSeg (d : Datagram) (s : State) : Host.Outcome State Fault Refusal := runAs (dapRank d.payload) (WF.dapReadSeg d) s fun x => x.dapReceive d

/-- DAP_WRITE_SEG (R35). -/
def execDapWriteSeg (d : Datagram) (s : State) : Host.Outcome State Fault Refusal := runAs (dapRank d.payload) (WF.dapWriteSeg d) s fun x => x.dapReceive d

/-- DAP_SUBSCRIBE (R38). -/
def execDapSubscribe (d : Datagram) (s : State) : Host.Outcome State Fault Refusal := runAs (dapRank d.payload) (WF.dapSubscribe d) s fun x => x.dapReceive d

/-- DAP_UNSUBSCRIBE (R35). -/
def execDapUnsubscribe (d : Datagram) (s : State) : Host.Outcome State Fault Refusal := runAs (dapRank d.payload) (WF.dapUnsubscribe d) s fun x => x.dapReceive d

/-- DAP_DATAGRAM_REFUSED (R33). -/
def execDapDatagramRefused (d : Datagram) (s : State) : Host.Outcome State Fault Refusal := run (WF.dapDatagramRefused d) s fun x => x.dapReject d

/-- SUBSCRIPTION_PUSH (R39): the end of a tick, for one session. -/
def execSubscriptionPush (n : Nat) (s : State) : Host.Outcome State Fault Refusal := run (WF.subscriptionPush n) s fun d => if d.dapServed 0 || d.dapServed 1 then d.pushAll n else d

/-- SESSION_TIMEOUT (R37): 10 s have passed without a datagram from the session's peer. -/
def execSessionTimeout (n : Nat) (s : State) : Host.Outcome State Fault Refusal := run (WF.sessionTimeout n) s fun d => d.closeSession n

end Sys2Proof.Machine
end

