-- ==== Sys2Proof/Machine/Commands.lean ====
section
/-!
DEFINITION. The commands that a session gives by writing an object of class CMD, or one that acts when it is written, and the rest of the BAR0 window (R27, R41, R44).
Each is the write of its object, with its checks, its journal entry and its effect as `Device.write` has them; the abort code leaves as `Out.result`.
-/
namespace Sys2Proof.Machine

/-- OBJECT_WRITE (R27): a write of bytes by a session; the value and any refusal as R27 orders them. -/
def execObjectWrite (session : Nat) (staged : Bool) (index sub : Nat) (value : Octets) (s : State) : Host.Outcome State Fault Refusal :=
  runAs session (WF.objectWrite session staged index sub value) s fun d => d.sessionWrite session staged index sub value

/-- SES_CLOSE (R37). -/
def execSesClose (session n value : Nat) (s : State) : Host.Outcome State Fault Refusal :=
  runAs session (WF.sesClose session n value) s fun d => d.command session .SES_CLOSE n value

/-- BAR0_WIDE_READ (R43, R44): a read of the slot at an offset of BAR0, of which `enables` [3:0] selects bytes; a 64-bit request selects bytes of the slot after it
with [7:4]. -/
def execBar0WideRead (r : WideRead) (s : State) : Host.Outcome State Fault Refusal :=
  runAs 0 (WF.bar0WideRead r) s fun d => d.bar0Read r.offset r.enables

/-- BAR0_BULK_GO (R44): the host has filled the mailbox and writes the length. -/
def execBar0BulkGo (fill : Octets) (length : Nat) (s : State) : Host.Outcome State Fault Refusal :=
  runAs 0 (WF.bar0BulkGo fill length) s fun d => (if d.bar0Up then { d with mailbox := overlay d.mailbox 0 fill } else d).command 0 .COM_BAR0_BULK_GO 0 length

/-- BAR0_REACHABILITY_CHANGE (R41): the speed and width of the link (0 down) and Memory Space Enable. -/
def execBar0ReachabilityChange (speed width : Nat) (ctl : PcieControl) (s : State) : Host.Outcome State Fault Refusal :=
  run (WF.bar0ReachabilityChange speed width ctl) s fun d => d.reachabilityChange speed width ctl.memEnable ctl.relaxed

/-- DEV_COMMIT (R45). -/
def execDevCommit (session gen : Nat) (s : State) : Host.Outcome State Fault Refusal :=
  runAs session (WF.devCommit session gen) s fun d => d.command session .DEV_COMMIT 0 gen

/-- CH_COMMIT (R45). -/
def execChCommit (session n gen : Nat) (s : State) : Host.Outcome State Fault Refusal :=
  runAs session (WF.chCommit session n gen) s fun d => d.command session .CH_COMMIT n gen

/-- DEV_STAGE_DISCARD (R46). -/
def execDevStageDiscard (session value : Nat) (s : State) : Host.Outcome State Fault Refusal :=
  runAs session (WF.devStageDiscard session value) s fun d => d.command session .DEV_STAGE_DISCARD 0 value

/-- CH_STAGE_DISCARD (R46). -/
def execChStageDiscard (session n value : Nat) (s : State) : Host.Outcome State Fault Refusal :=
  runAs session (WF.chStageDiscard session n value) s fun d => d.command session .CH_STAGE_DISCARD n value

/-- NVS_SAVE (R51). -/
def execNvsSave (session value : Nat) (s : State) : Host.Outcome State Fault Refusal :=
  runAs session (WF.nvsSave session value) s fun d => d.command session .NVS_SAVE 0 value

/-- NVS_ERASE (R53). -/
def execNvsErase (session value : Nat) (s : State) : Host.Outcome State Fault Refusal :=
  runAs session (WF.nvsErase session value) s fun d => d.command session .NVS_ERASE 0 value

/-- LNK_TEST_START (R74): a non-zero write of LNK_TEST. -/
def execLnkTestStart (session l value : Nat) (s : State) : Host.Outcome State Fault Refusal :=
  runAs session (WF.lnkTestStart session l value) s fun d => d.command session .LNK_TEST l value

/-- LNK_TEST_STOP (R74): a write of 0 to LNK_TEST. -/
def execLnkTestStop (session l : Nat) (s : State) : Host.Outcome State Fault Refusal :=
  runAs session (WF.lnkTestStop session l) s fun d => d.command session .LNK_TEST l 0

/-- CREG_READ (R104): CH_CREG_GO = 1. -/
def execCregRead (session n : Nat) (s : State) : Host.Outcome State Fault Refusal :=
  runAs session (WF.cregRead session n) s fun d => d.command session .CH_CREG_GO n 1

/-- CREG_WRITE (R104): CH_CREG_GO = 2. -/
def execCregWrite (session n : Nat) (s : State) : Host.Outcome State Fault Refusal :=
  runAs session (WF.cregWrite session n) s fun d => d.command session .CH_CREG_GO n 2

/-- POS_REARM (R133). -/
def execPosRearm (session value : Nat) (s : State) : Host.Outcome State Fault Refusal :=
  runAs session (WF.posRearm session value) s fun d => d.command session .POS_REARM 0 value

/-- POS_GRID_SET (R168). -/
def execPosGridSet (session value : Nat) (s : State) : Host.Outcome State Fault Refusal :=
  runAs session (WF.posGridSet session value) s fun d => d.command session .POS_GRID_SET 0 value

/-- HFT_LOAD_BEGIN (R220). -/
def execHftLoadBegin (session job : Nat) (s : State) : Host.Outcome State Fault Refusal :=
  runAs session (WF.hftLoadBegin session job) s fun d => d.command session .HFT_LOAD_BEGIN 0 job

/-- HFT_LOAD_END (R223). -/
def execHftLoadEnd (session job : Nat) (s : State) : Host.Outcome State Fault Refusal :=
  runAs session (WF.hftLoadEnd session job) s fun d => d.command session .HFT_LOAD_END 0 job

/-- HFT_LOAD_ABORT (R220). -/
def execHftLoadAbort (session value : Nat) (s : State) : Host.Outcome State Fault Refusal :=
  runAs session (WF.hftLoadAbort session value) s fun d => d.command session .HFT_LOAD_ABORT 0 value

/-- CH_CAL_START (R284). -/
def execChCalStart (session n value : Nat) (s : State) : Host.Outcome State Fault Refusal :=
  runAs session (WF.chCalStart session n value) s fun d => d.command session .CH_CAL_START n value

/-- CH_CAL_ABORT (R285). -/
def execChCalAbort (session n value : Nat) (s : State) : Host.Outcome State Fault Refusal :=
  runAs session (WF.chCalAbort session n value) s fun d => d.command session .CH_CAL_ABORT n value

/-- CH_CAL_SEED (R294). -/
def execChCalSeed (session n value : Nat) (s : State) : Host.Outcome State Fault Refusal :=
  runAs session (WF.chCalSeed session n value) s fun d => d.command session .CH_CAL_SEED n value

/-- MEM_RETRAIN_REQ (R317). -/
def execMemRetrainReq (session value : Nat) (s : State) : Host.Outcome State Fault Refusal :=
  runAs session (WF.memRetrainReq session value) s fun d => d.command session .MEM_RETRAIN_REQ 0 value

/-- FLC_JOB_START (R327): FLC_JOB_GO = 1. -/
def execFlcJobStart (session j : Nat) (s : State) : Host.Outcome State Fault Refusal :=
  runAs session (WF.flcJobStart session j) s fun d => d.command session .FLC_JOB_GO j 1

/-- FLC_JOB_RESUME (R327): FLC_JOB_GO = 2. -/
def execFlcJobResume (session j : Nat) (s : State) : Host.Outcome State Fault Refusal :=
  runAs session (WF.flcJobResume session j) s fun d => d.command session .FLC_JOB_GO j 2

/-- CRC_START (R330): CRC_CMD = 1. -/
def execCrcStart (session u : Nat) (s : State) : Host.Outcome State Fault Refusal :=
  runAs session (WF.crcStart session u) s fun d => d.command session .CRC_CMD u 1

/-- CRC_END (R331): CRC_CMD = 2. -/
def execCrcEnd (session u : Nat) (s : State) : Host.Outcome State Fault Refusal :=
  runAs session (WF.crcEnd session u) s fun d => d.command session .CRC_CMD u 2

/-- CRC_FEED8 (R329). -/
def execCrcFeed8 (session u value : Nat) (s : State) : Host.Outcome State Fault Refusal :=
  runAs session (WF.crcFeed8 session u value) s fun d => d.command session .CRC_FEED8 u value

/-- CRC_FEED16 (R329). -/
def execCrcFeed16 (session u value : Nat) (s : State) : Host.Outcome State Fault Refusal :=
  runAs session (WF.crcFeed16 session u value) s fun d => d.command session .CRC_FEED16 u value

/-- CRC_FEED24 (R329). -/
def execCrcFeed24 (session u value : Nat) (s : State) : Host.Outcome State Fault Refusal :=
  runAs session (WF.crcFeed24 session u value) s fun d => d.command session .CRC_FEED24 u value

/-- CRC_FEED32 (R329). -/
def execCrcFeed32 (session u value : Nat) (s : State) : Host.Outcome State Fault Refusal :=
  runAs session (WF.crcFeed32 session u value) s fun d => d.command session .CRC_FEED32 u value

/-- CRC_CONTEXT_WRITE (R332). -/
def execCrcContextWrite (session u value : Nat) (s : State) : Host.Outcome State Fault Refusal :=
  runAs session (WF.crcContextWrite session u value) s fun d => d.command session .CRC_CONTEXT u value

/-- DMA_DOORBELL (R350). -/
def execDmaDoorbell (session c value : Nat) (s : State) : Host.Outcome State Fault Refusal :=
  runAs session (WF.dmaDoorbell session c value) s fun d => d.command session .DMA_DOORBELL c value

/-- DMA_ENABLE (R356): DMA_ENABLE = 1. -/
def execDmaEnable (session c : Nat) (s : State) : Host.Outcome State Fault Refusal :=
  runAs session (WF.dmaEnable session c) s fun d => d.command session .DMA_ENABLE c 1

/-- DMA_DISABLE (R356): DMA_ENABLE = 0. -/
def execDmaDisable (session c : Nat) (s : State) : Host.Outcome State Fault Refusal :=
  runAs session (WF.dmaDisable session c) s fun d => d.command session .DMA_ENABLE c 0

/-- DMA_FINISH (R356): DMA_CMD = 1. -/
def execDmaFinish (session c : Nat) (s : State) : Host.Outcome State Fault Refusal :=
  runAs session (WF.dmaFinish session c) s fun d => d.command session .DMA_CMD c 1

/-- DMA_CLEAR_FAULT (R356): DMA_CMD = 2. -/
def execDmaClearFault (session c : Nat) (s : State) : Host.Outcome State Fault Refusal :=
  runAs session (WF.dmaClearFault session c) s fun d => d.command session .DMA_CMD c 2

/-- BAR2_WINDOW_WRITE (R359): a write of PCI_BAR2_WIN. -/
def execBar2WindowWrite (session value : Nat) (s : State) : Host.Outcome State Fault Refusal :=
  runAs session (WF.bar2WindowWrite session value) s fun d => d.command session .PCI_BAR2_WIN 0 value

/-- TRU_FW_STAGE (R372). -/
def execTruFwStage (session value : Nat) (s : State) : Host.Outcome State Fault Refusal :=
  runAs session (WF.truFwStage session value) s fun d => d.command session .TRU_FW_STAGE 0 value

/-- TRU_SVN_LOCK (R372). -/
def execTruSvnLock (session value : Nat) (s : State) : Host.Outcome State Fault Refusal :=
  runAs session (WF.truSvnLock session value) s fun d => d.command session .TRU_SVN_LOCK 0 value

/-- TRU_HOLD_SET (R380). -/
def execTruHoldSet (session value : Nat) (s : State) : Host.Outcome State Fault Refusal :=
  runAs session (WF.truHoldSet session value) s fun d => d.command session .TRU_HOLD_SET 0 value

/-- TRU_HOLD_RELEASE (R380). -/
def execTruHoldRelease (session value : Nat) (s : State) : Host.Outcome State Fault Refusal :=
  runAs session (WF.truHoldRelease session value) s fun d => d.command session .TRU_HOLD_RELEASE 0 value

/-- TIM_SET (R386). -/
def execTimSet (session value : Nat) (s : State) : Host.Outcome State Fault Refusal :=
  runAs session (WF.timSet session value) s fun d => d.command session .TIM_SET 0 value

/-- TIM_STEP (R386): a write of TIM_STEP_NS. -/
def execTimStep (session value : Nat) (s : State) : Host.Outcome State Fault Refusal :=
  runAs session (WF.timStep session value) s fun d => d.command session .TIM_STEP_NS 0 value

/-- TIM_TT_ARM (R394). -/
def execTimTtArm (session n value : Nat) (s : State) : Host.Outcome State Fault Refusal :=
  runAs session (WF.timTtArm session n value) s fun d => d.command session .TIM_TT_ARM n value

/-- EVT_TASK_CLEAR (R404): EVT_TASK_CLEAR = 1. -/
def execEvtTaskClear (session k : Nat) (s : State) : Host.Outcome State Fault Refusal :=
  runAs session (WF.evtTaskClear session k) s fun d => d.command session .EVT_TASK_CLEAR k 1

/-- CLK_RETURN (R438). -/
def execClkReturn (session value : Nat) (s : State) : Host.Outcome State Fault Refusal :=
  runAs session (WF.clkReturn session value) s fun d => d.command session .CLK_RETURN 0 value

/-- PWR_SLEEP (R444). -/
def execPwrSleep (session value : Nat) (s : State) : Host.Outcome State Fault Refusal :=
  runAs session (WF.pwrSleep session value) s fun d => d.command session .PWR_SLEEP 0 value

/-- PWR_RESET (R447). -/
def execPwrReset (session value : Nat) (s : State) : Host.Outcome State Fault Refusal :=
  runAs session (WF.pwrReset session value) s fun d => d.command session .PWR_RESET 0 value

/-- FLT_CLEAR (R453). -/
def execFltClear (session value : Nat) (s : State) : Host.Outcome State Fault Refusal :=
  runAs session (WF.fltClear session value) s fun d => d.command session .FLT_CLEAR 0 value

/-- TWI_T_GO (R470). -/
def execTwiTGo (session value : Nat) (s : State) : Host.Outcome State Fault Refusal :=
  runAs session (WF.twiTGo session value) s fun d => d.command session .TWI_T_GO 0 value

/-- TWI_FLAG_CLEAR (R474). -/
def execTwiFlagClear (session value : Nat) (s : State) : Host.Outcome State Fault Refusal :=
  runAs session (WF.twiFlagClear session value) s fun d => d.command session .TWI_FLAG_CLEAR 0 value

end Sys2Proof.Machine
end

