-- ==== Sys2Proof/Machine/Dispatch.lean ====
section
/-!
DEFINITION. The effect of each command: one arm per constructor, each a direct call of its meaning.
-/
namespace Sys2Proof.Machine

/-- What a command does to everything but the queue (R27 and the rule of each row). -/
def exec (i : Instr) (s : State) : Host.Outcome State Fault Refusal :=
  match i with
  | .objectWrite session staged index sub value => Sys2Proof.Machine.execObjectWrite session staged index sub value s
  | .dapOpen d => Sys2Proof.Machine.execDapOpen d s
  | .dapClose d => Sys2Proof.Machine.execDapClose d s
  | .dapKeepalive d => Sys2Proof.Machine.execDapKeepalive d s
  | .dapRead d => Sys2Proof.Machine.execDapRead d s
  | .dapWrite d => Sys2Proof.Machine.execDapWrite d s
  | .dapReadIndex d => Sys2Proof.Machine.execDapReadIndex d s
  | .dapReadSeg d => Sys2Proof.Machine.execDapReadSeg d s
  | .dapWriteSeg d => Sys2Proof.Machine.execDapWriteSeg d s
  | .dapSubscribe d => Sys2Proof.Machine.execDapSubscribe d s
  | .dapUnsubscribe d => Sys2Proof.Machine.execDapUnsubscribe d s
  | .dapDatagramRefused d => Sys2Proof.Machine.execDapDatagramRefused d s
  | .subscriptionPush n => Sys2Proof.Machine.execSubscriptionPush n s
  | .sessionTimeout n => Sys2Proof.Machine.execSessionTimeout n s
  | .sesClose session n value => Sys2Proof.Machine.execSesClose session n value s
  | .bar0WideRead r => Sys2Proof.Machine.execBar0WideRead r s
  | .bar0BulkGo fill length => Sys2Proof.Machine.execBar0BulkGo fill length s
  | .bar0ReachabilityChange speed width ctl => Sys2Proof.Machine.execBar0ReachabilityChange speed width ctl s
  | .devCommit session gen => Sys2Proof.Machine.execDevCommit session gen s
  | .chCommit session n gen => Sys2Proof.Machine.execChCommit session n gen s
  | .devStageDiscard session value => Sys2Proof.Machine.execDevStageDiscard session value s
  | .chStageDiscard session n value => Sys2Proof.Machine.execChStageDiscard session n value s
  | .chHandoverTimeout n => Sys2Proof.Machine.execChHandoverTimeout n s
  | .nvsSave session value => Sys2Proof.Machine.execNvsSave session value s
  | .nvsSaveDone firstOk retryOk => Sys2Proof.Machine.execNvsSaveDone firstOk retryOk s
  | .nvsErase session value => Sys2Proof.Machine.execNvsErase session value s
  | .discoverSend l => Sys2Proof.Machine.execDiscoverSend l s
  | .commaLockAcquire l inverted => Sys2Proof.Machine.execCommaLockAcquire l inverted s
  | .commaLockLoss l errors => Sys2Proof.Machine.execCommaLockLoss l errors s
  | .discoverRx l f => Sys2Proof.Machine.execDiscoverRx l f s
  | .identRx l f => Sys2Proof.Machine.execIdentRx l f s
  | .rungReqSend l => Sys2Proof.Machine.execRungReqSend l s
  | .rungReqRx l f => Sys2Proof.Machine.execRungReqRx l f s
  | .rungAckRx l f => Sys2Proof.Machine.execRungAckRx l f s
  | .eqRx l f => Sys2Proof.Machine.execEqRx l f s
  | .rxReadySet l snr => Sys2Proof.Machine.execRxReadySet l snr s
  | .eqStepTimeout l => Sys2Proof.Machine.execEqStepTimeout l s
  | .presetRotate l => Sys2Proof.Machine.execPresetRotate l s
  | .identTimeout l => Sys2Proof.Machine.execIdentTimeout l s
  | .rungAckTimeout l => Sys2Proof.Machine.execRungAckTimeout l s
  | .train1Timeout l => Sys2Proof.Machine.execTrain1Timeout l s
  | .step2Start l => Sys2Proof.Machine.execStep2Start l s
  | .step2Retry l => Sys2Proof.Machine.execStep2Retry l s
  | .train2Timeout l => Sys2Proof.Machine.execTrain2Timeout l s
  | .recoverTimeout l => Sys2Proof.Machine.execRecoverTimeout l s
  | .relockTimeout l => Sys2Proof.Machine.execRelockTimeout l s
  | .superframeRx l follows levels => Sys2Proof.Machine.execSuperframeRx l follows levels s
  | .signalDetectLoss l long => Sys2Proof.Machine.execSignalDetectLoss l long s
  | .abortRx l f => Sys2Proof.Machine.execAbortRx l f s
  | .lnkTestStart session l value => Sys2Proof.Machine.execLnkTestStart session l value s
  | .lnkTestStop session l => Sys2Proof.Machine.execLnkTestStop session l s
  | .testReqRx l f => Sys2Proof.Machine.execTestReqRx l f s
  | .testAckRx l f => Sys2Proof.Machine.execTestAckRx l f s
  | .testNakRx l f => Sys2Proof.Machine.execTestNakRx l f s
  | .testReqTimeout l => Sys2Proof.Machine.execTestReqTimeout l s
  | .testExpire l => Sys2Proof.Machine.execTestExpire l s
  | .sleepReqRx l f => Sys2Proof.Machine.execSleepReqRx l f s
  | .sleepAckRx l f => Sys2Proof.Machine.execSleepAckRx l f s
  | .sleepNakRx l f => Sys2Proof.Machine.execSleepNakRx l f s
  | .sleepNowRx l f => Sys2Proof.Machine.execSleepNowRx l f s
  | .sleepWakeRx l f => Sys2Proof.Machine.execSleepWakeRx l f s
  | .sleepReqRepeat l => Sys2Proof.Machine.execSleepReqRepeat l s
  | .laneAutoSleep l => Sys2Proof.Machine.execLaneAutoSleep l s
  | .laneTxWake l => Sys2Proof.Machine.execLaneTxWake l s
  | .wakeLockTimeout l => Sys2Proof.Machine.execWakeLockTimeout l s
  | .packetRx l direct => Sys2Proof.Machine.execPacketRx l direct s
  | .packetLossDeclare k vc => Sys2Proof.Machine.execPacketLossDeclare k vc s
  | .lineSegmentRx n => Sys2Proof.Machine.execLineSegmentRx n s
  | .darkBlockRx n => Sys2Proof.Machine.execDarkBlockRx n s
  | .cameraStatusRx n => Sys2Proof.Machine.execCameraStatusRx n s
  | .temperatureRx n => Sys2Proof.Machine.execTemperatureRx n s
  | .creditUpdateRx k => Sys2Proof.Machine.execCreditUpdateRx k s
  | .testPacketRx k => Sys2Proof.Machine.execTestPacketRx k s
  | .creditUpdateSend k => Sys2Proof.Machine.execCreditUpdateSend k s
  | .firstCreditTimeout n => Sys2Proof.Machine.execFirstCreditTimeout n s
  | .controlRetransmit n => Sys2Proof.Machine.execControlRetransmit n s
  | .controlBusyRetry n => Sys2Proof.Machine.execControlBusyRetry n s
  | .getInfoDone n => Sys2Proof.Machine.execGetInfoDone n s
  | .settingsDone n => Sys2Proof.Machine.execSettingsDone n s
  | .activateDone n => Sys2Proof.Machine.execActivateDone n s
  | .modeDone n => Sys2Proof.Machine.execModeDone n s
  | .timeEchoSend n => Sys2Proof.Machine.execTimeEchoSend n s
  | .timeEchoDone n => Sys2Proof.Machine.execTimeEchoDone n s
  | .cregRead session n => Sys2Proof.Machine.execCregRead session n s
  | .cregWrite session n => Sys2Proof.Machine.execCregWrite session n s
  | .regReadDone n => Sys2Proof.Machine.execRegReadDone n s
  | .regWriteDone n => Sys2Proof.Machine.execRegWriteDone n s
  | .frontEndLine n => Sys2Proof.Machine.execFrontEndLine n s
  | .camsetBusyTimeout n => Sys2Proof.Machine.execCamsetBusyTimeout n s
  | .channelDrainDone n => Sys2Proof.Machine.execChannelDrainDone n s
  | .sliceDrainDone n => Sys2Proof.Machine.execSliceDrainDone n s
  | .positionEdge src code t => Sys2Proof.Machine.execPositionEdge src code t s
  | .encFailsafeDetect src => Sys2Proof.Machine.execEncFailsafeDetect src s
  | .posRearm session value => Sys2Proof.Machine.execPosRearm session value s
  | .indexPulse src t => Sys2Proof.Machine.execIndexPulse src t s
  | .emuScheduledEmit e => Sys2Proof.Machine.execEmuScheduledEmit e s
  | .emuPinEmit e => Sys2Proof.Machine.execEmuPinEmit e s
  | .decSyncEdge rising t => Sys2Proof.Machine.execDecSyncEdge rising t s
  | .posGridSet session value => Sys2Proof.Machine.execPosGridSet session value s
  | .stitchLine set => Sys2Proof.Machine.execStitchLine set s
  | .overlapMeasure n => Sys2Proof.Machine.execOverlapMeasure n s
  | .compareLine set => Sys2Proof.Machine.execCompareLine set s
  | .heftBlockWrite set plane br bc => Sys2Proof.Machine.execHeftBlockWrite set plane br bc s
  | .heftBlockVerified set plane br bc ok => Sys2Proof.Machine.execHeftBlockVerified set plane br bc ok s
  | .hftLoadBegin session job => Sys2Proof.Machine.execHftLoadBegin session job s
  | .hftLoadEnd session job => Sys2Proof.Machine.execHftLoadEnd session job s
  | .hftLoadAbort session value => Sys2Proof.Machine.execHftLoadAbort session value s
  | .labelLine set => Sys2Proof.Machine.execLabelLine set s
  | .edgeRx k => Sys2Proof.Machine.execEdgeRx k s
  | .linkRx k => Sys2Proof.Machine.execLinkRx k s
  | .watermarkRx k => Sys2Proof.Machine.execWatermarkRx k s
  | .aliasRx k => Sys2Proof.Machine.execAliasRx k s
  | .fragRx k => Sys2Proof.Machine.execFragRx k s
  | .componentTimeout tag => Sys2Proof.Machine.execComponentTimeout tag s
  | .snippetWrite handle => Sys2Proof.Machine.execSnippetWrite handle s
  | .rejectRepredict station => Sys2Proof.Machine.execRejectRepredict station s
  | .rejectPulseStart out => Sys2Proof.Machine.execRejectPulseStart out s
  | .rejectPulseEnd out => Sys2Proof.Machine.execRejectPulseEnd out s
  | .calBuildDone n => Sys2Proof.Machine.execCalBuildDone n s
  | .chCalStart session n value => Sys2Proof.Machine.execChCalStart session n value s
  | .chCalAbort session n value => Sys2Proof.Machine.execChCalAbort session n value s
  | .chCalSeed session n value => Sys2Proof.Machine.execChCalSeed session n value s
  | .stackTempRead t => Sys2Proof.Machine.execStackTempRead t s
  | .memRetrainReq session value => Sys2Proof.Machine.execMemRetrainReq session value s
  | .refreshWindow r => Sys2Proof.Machine.execRefreshWindow r s
  | .dramTrainingDone ready repaired => Sys2Proof.Machine.execDramTrainingDone ready repaired s
  | .flcJobStart session j => Sys2Proof.Machine.execFlcJobStart session j s
  | .flcJobResume session j => Sys2Proof.Machine.execFlcJobResume session j s
  | .flcJobBlockDone j => Sys2Proof.Machine.execFlcJobBlockDone j s
  | .crcStart session u => Sys2Proof.Machine.execCrcStart session u s
  | .crcEnd session u => Sys2Proof.Machine.execCrcEnd session u s
  | .crcFeed8 session u value => Sys2Proof.Machine.execCrcFeed8 session u value s
  | .crcFeed16 session u value => Sys2Proof.Machine.execCrcFeed16 session u value s
  | .crcFeed24 session u value => Sys2Proof.Machine.execCrcFeed24 session u value s
  | .crcFeed32 session u value => Sys2Proof.Machine.execCrcFeed32 session u value s
  | .crcContextWrite session u value => Sys2Proof.Machine.execCrcContextWrite session u value s
  | .queueDrainEnd q => Sys2Proof.Machine.execQueueDrainEnd q s
  | .ethItemTransmit q => Sys2Proof.Machine.execEthItemTransmit q s
  | .ingressFragmentRx dst d => Sys2Proof.Machine.execIngressFragmentRx dst d s
  | .queueCreditSend q => Sys2Proof.Machine.execQueueCreditSend q s
  | .dmaDoorbell session c value => Sys2Proof.Machine.execDmaDoorbell session c value s
  | .dmaDescriptorFetch c desc data => Sys2Proof.Machine.execDmaDescriptorFetch c desc data s
  | .dmaStaleReread c desc data => Sys2Proof.Machine.execDmaStaleReread c desc data s
  | .dmaItemWaitExpire c => Sys2Proof.Machine.execDmaItemWaitExpire c s
  | .dmaDescriptorComplete c good => Sys2Proof.Machine.execDmaDescriptorComplete c good s
  | .dmaEnable session c => Sys2Proof.Machine.execDmaEnable session c s
  | .dmaDisable session c => Sys2Proof.Machine.execDmaDisable session c s
  | .dmaFinish session c => Sys2Proof.Machine.execDmaFinish session c s
  | .dmaClearFault session c => Sys2Proof.Machine.execDmaClearFault session c s
  | .bar2Read offset n good => Sys2Proof.Machine.execBar2Read offset n good s
  | .bar2Write offset data => Sys2Proof.Machine.execBar2Write offset data s
  | .bar2WindowWrite session value => Sys2Proof.Machine.execBar2WindowWrite session value s
  | .msixVectorUnmask v => Sys2Proof.Machine.execMsixVectorUnmask v s
  | .truFwStage session value => Sys2Proof.Machine.execTruFwStage session value s
  | .truSvnLock session value => Sys2Proof.Machine.execTruSvnLock session value s
  | .truHoldSet session value => Sys2Proof.Machine.execTruHoldSet session value s
  | .truHoldRelease session value => Sys2Proof.Machine.execTruHoldRelease session value s
  | .bootImageCheck slot0 slot1 => Sys2Proof.Machine.execBootImageCheck slot0 slot1 s
  | .bootRetry slot0 slot1 => Sys2Proof.Machine.execBootRetry slot0 slot1 s
  | .timSet session value => Sys2Proof.Machine.execTimSet session value s
  | .timStep session value => Sys2Proof.Machine.execTimStep session value s
  | .syncRx port m t te => Sys2Proof.Machine.execSyncRx port m t te s
  | .followUpRx port m => Sys2Proof.Machine.execFollowUpRx port m s
  | .delayReqRx port m t te => Sys2Proof.Machine.execDelayReqRx port m t te s
  | .delayRespRx port m => Sys2Proof.Machine.execDelayRespRx port m s
  | .pdelayReqRx port m t te => Sys2Proof.Machine.execPdelayReqRx port m t te s
  | .pdelayRespRx port m t => Sys2Proof.Machine.execPdelayRespRx port m t s
  | .pdelayRespFollowUpRx port m => Sys2Proof.Machine.execPdelayRespFollowUpRx port m s
  | .announceRx port m => Sys2Proof.Machine.execAnnounceRx port m s
  | .delayReqSend te => Sys2Proof.Machine.execDelayReqSend te s
  | .pdelayReqSend port te => Sys2Proof.Machine.execPdelayReqSend port te s
  | .syncSend te => Sys2Proof.Machine.execSyncSend te s
  | .ttPulseStart n => Sys2Proof.Machine.execTtPulseStart n s
  | .ttPulseEnd n => Sys2Proof.Machine.execTtPulseEnd n s
  | .timTtArm session n value => Sys2Proof.Machine.execTimTtArm session n value s
  | .tcInEdge n falling t => Sys2Proof.Machine.execTcInEdge n falling t s
  | .tcFifoRead n => Sys2Proof.Machine.execTcFifoRead n s
  | .taskInputEdge k => Sys2Proof.Machine.execTaskInputEdge k s
  | .taskConsume k => Sys2Proof.Machine.execTaskConsume k s
  | .evtTaskClear session k => Sys2Proof.Machine.execEvtTaskClear session k s
  | .cellClockEdge c => Sys2Proof.Machine.execCellClockEdge c s
  | .joinRx k => Sys2Proof.Machine.execJoinRx k s
  | .joinAnswerRx k => Sys2Proof.Machine.execJoinAnswerRx k s
  | .timeSend t1 => Sys2Proof.Machine.execTimeSend t1 s
  | .timeReqRx k t2 t3 => Sys2Proof.Machine.execTimeReqRx k t2 t3 s
  | .timeAnswerRx k t4 => Sys2Proof.Machine.execTimeAnswerRx k t4 s
  | .posReqRx k => Sys2Proof.Machine.execPosReqRx k s
  | .posAnswerRx k => Sys2Proof.Machine.execPosAnswerRx k s
  | .beaconRx k => Sys2Proof.Machine.execBeaconRx k s
  | .statusRx k => Sys2Proof.Machine.execStatusRx k s
  | .repeatRx k => Sys2Proof.Machine.execRepeatRx k s
  | .gridRx k => Sys2Proof.Machine.execGridRx k s
  | .qitemRx k => Sys2Proof.Machine.execQitemRx k s
  | .relayRx k => Sys2Proof.Machine.execRelayRx k s
  | .foldPacketForward k => Sys2Proof.Machine.execFoldPacketForward k s
  | .foldRequestRetry dt => Sys2Proof.Machine.execFoldRequestRetry dt s
  | .memberLost m => Sys2Proof.Machine.execMemberLost m s
  | .refMonitorWindow c0 c1 c2 => Sys2Proof.Machine.execRefMonitorWindow c0 c1 c2 s
  | .clkReturn session value => Sys2Proof.Machine.execClkReturn session value s
  | .pllLockLoss k => Sys2Proof.Machine.execPllLockLoss k s
  | .clockSwitchDone which => Sys2Proof.Machine.execClockSwitchDone which s
  | .clockSwitchForced which => Sys2Proof.Machine.execClockSwitchForced which s
  | .dvfsVoltageReached mv => Sys2Proof.Machine.execDvfsVoltageReached mv s
  | .vddCoreLow mv => Sys2Proof.Machine.execVddCoreLow mv s
  | .vddCoreHigh mv => Sys2Proof.Machine.execVddCoreHigh mv s
  | .supplyRailFault rail => Sys2Proof.Machine.execSupplyRailFault rail s
  | .pwrSleep session value => Sys2Proof.Machine.execPwrSleep session value s
  | .dieTempRead t => Sys2Proof.Machine.execDieTempRead t s
  | .pwrReset session value => Sys2Proof.Machine.execPwrReset session value s
  | .leaseExpire kind holder => Sys2Proof.Machine.execLeaseExpire kind holder s
  | .fltClear session value => Sys2Proof.Machine.execFltClear session value s
  | .twiTGo session value => Sys2Proof.Machine.execTwiTGo session value s
  | .twiTransactionStart lost => Sys2Proof.Machine.execTwiTransactionStart lost s
  | .twiTransactionEnd outcome done rise slow data => Sys2Proof.Machine.execTwiTransactionEnd outcome done rise slow data s
  | .twiArbRetry lost => Sys2Proof.Machine.execTwiArbRetry lost s
  | .twiStretchTimeout freed => Sys2Proof.Machine.execTwiStretchTimeout freed s
  | .twiRecoveryRetry freed => Sys2Proof.Machine.execTwiRecoveryRetry freed s
  | .twiTargetAddressed kind n => Sys2Proof.Machine.execTwiTargetAddressed kind n s
  | .twiFlagClear session value => Sys2Proof.Machine.execTwiFlagClear session value s
  | .signalDetectReturn l => Sys2Proof.Machine.execSignalDetectReturn l s
  | .prbsCheckerLock l bits => Sys2Proof.Machine.execPrbsCheckerLock l bits s
  | .signalingManagementRx port m => Sys2Proof.Machine.execSignalingManagementRx port m s
  | .arpNdReplyRx port addr mac => Sys2Proof.Machine.execArpNdReplyRx port addr mac s
  | .foldSyncEdge rise => Sys2Proof.Machine.execFoldSyncEdge rise s
  | .twiStartStopObserved stop => Sys2Proof.Machine.execTwiStartStopObserved stop s
  | .supplyRailReturn rail => Sys2Proof.Machine.execSupplyRailReturn rail s
  | .devHandoverTimeout => Sys2Proof.Machine.execDevHandoverTimeout s
  | .nvsAutoSave => Sys2Proof.Machine.execNvsAutoSave s
  | .coastEnd => Sys2Proof.Machine.execCoastEnd s
  | .speedStop => Sys2Proof.Machine.execSpeedStop s
  | .markMissed => Sys2Proof.Machine.execMarkMissed s
  | .heftLoadItem => Sys2Proof.Machine.execHeftLoadItem s
  | .penClassify => Sys2Proof.Machine.execPenClassify s
  | .tallyBlockSigned => Sys2Proof.Machine.execTallyBlockSigned s
  | .subscriberResolve => Sys2Proof.Machine.execSubscriberResolve s
  | .functionLevelReset => Sys2Proof.Machine.execFunctionLevelReset s
  | .pciePerstAssert => Sys2Proof.Machine.execPciePerstAssert s
  | .journalEntryWrite => Sys2Proof.Machine.execJournalEntryWrite s
  | .journalBudgetRefill => Sys2Proof.Machine.execJournalBudgetRefill s
  | .fwStageDone => Sys2Proof.Machine.execFwStageDone s
  | .refWaitLimit => Sys2Proof.Machine.execRefWaitLimit s
  | .secondRollover => Sys2Proof.Machine.execSecondRollover s
  | .announceReceiptTimeout => Sys2Proof.Machine.execAnnounceReceiptTimeout s
  | .announceSend => Sys2Proof.Machine.execAnnounceSend s
  | .servoHoldover => Sys2Proof.Machine.execServoHoldover s
  | .relayLineEdge => Sys2Proof.Machine.execRelayLineEdge s
  | .joinSend => Sys2Proof.Machine.execJoinSend s
  | .beaconSend => Sys2Proof.Machine.execBeaconSend s
  | .statusSend => Sys2Proof.Machine.execStatusSend s
  | .beaconTimeout => Sys2Proof.Machine.execBeaconTimeout s
  | .foldFormTimeout => Sys2Proof.Machine.execFoldFormTimeout s
  | .foldTwiPoll => Sys2Proof.Machine.execFoldTwiPoll s
  | .dvfsPllLocked => Sys2Proof.Machine.execDvfsPllLocked s
  | .dvfsTimeout => Sys2Proof.Machine.execDvfsTimeout s
  | .deepSleepWake => Sys2Proof.Machine.execDeepSleepWake s
  | .thermalTrip => Sys2Proof.Machine.execThermalTrip s
  | .powerOnReset => Sys2Proof.Machine.execPowerOnReset s
  | .systemResetPin => Sys2Proof.Machine.execSystemResetPin s
  | .watchdogConfirm => Sys2Proof.Machine.execWatchdogConfirm s
  | .watchdogExpire => Sys2Proof.Machine.execWatchdogExpire s
  | .watchdogReset => Sys2Proof.Machine.execWatchdogReset s
  | .standbyWakeLimit => Sys2Proof.Machine.execStandbyWakeLimit s
  | .twiBusIdle => Sys2Proof.Machine.execTwiBusIdle s
  | .twiSleepMatch => Sys2Proof.Machine.execTwiSleepMatch s
  | .twiTargetIdle => Sys2Proof.Machine.execTwiTargetIdle s
  | .pciePerstRelease => Sys2Proof.Machine.execPciePerstRelease s

end Sys2Proof.Machine
end

