-- ==== Sys2Proof/Safety.lean ====
section
/-!
DEFINITION. What counts as a safe state and a safe run of the block.
-/
namespace Sys2Proof.Machine

/-- The canonical form of what the state holds as lists: both copies of the dictionary, every pending set, and the stack. -/
def State.Canonical (s : State) : Prop :=
  Store.wf s.dev.ident s.dev.live = true ∧ Store.wf s.dev.ident s.dev.staged = true ∧
    (∀ p ∈ s.dev.pend, Store.wf s.dev.ident p.values = true) ∧ Memory.wf s.dev.dram = true

/-- Every command that waits is well formed. -/
def State.QueueOk (s : State) : Prop := ∀ c ∈ s.pending, c.wf = true

/-- A session can write now (R31, R36, R43, R444, R448): no access of a higher session has come in this tick, the dictionary is reachable, the device is not in DEEP_SLEEP,
the session is open (session 0 where BAR0 can be reached), and the journal has room for two entries of external writes (R375). -/
abbrev Device.Reaches (d : Device) (session : Nat) : Prop :=
  d.lastAccess ≤ session ∧ d.reachable = true ∧ d.num .PWR_STATE 0 ≠ 2 ∧ d.jrn.buf.length + 1 < 384 ∧ 1 < d.jrn.budget ∧
    (if session = 0 then d.bar0Up = true else (d.session session).isSome = true)

/-- A request of an open session that is executed (R32, R33, R36, R37): it comes from the session's peer to DAP where it is served, is well formed with these items, and
its SEQ is newer than the last one; no access of a higher session has come in this tick (R31). -/
abbrev Device.Hears (d : Device) (g : Datagram) (x : Session) (its : List DapItem) : Prop :=
  d.lastAccess ≤ dapSession g.payload ∧ dapSession g.payload < 1024 ∧ d.dapAddressed g = true ∧ d.num .PWR_STATE 0 ≠ 2 ∧ d.triage g = .take its ∧ d.session (dapSession g.payload) = some x ∧
    x.lastSeq.all (fun last => 0 < serialDiff 32 (dapSeq g.payload) last) = true

/-- The device as an access of a session in its place finds it (R31). -/
def Device.asked (d : Device) (session : Nat) : Device := { d.begin with lastAccess := session }

/-- The device as the items of a request that is executed find it: the session heard, the request counted (R36, R37, R41). -/
def Device.heard (d : Device) (g : Datagram) : Device := ((d.asked (dapSession g.payload)).touch g).bump .COM_DAP_RX 0

/-- Every live object but those listed has the value it had. -/
def Device.keeps (d e : Device) (but : List (Reg × Nat)) : Prop := ∀ r i, (r, i) ∉ but → e.val r i = d.val r i

/-- The objects of the event fabric that follow what its lines and cells do (R399 to R401). -/
def fabricRegs : List Reg := [.EVT_LINE_EDGES, .EVT_LINE_SUPPRESSED, .EVT_LINE_LEVEL, .EVT_CELL_OUT]

/-- Every live object outside the event fabric but those listed has the value it had: a source that pulses, or a level that changes, runs through the fabric. -/
def Device.keepsBeside (d e : Device) (but : List (Reg × Nat)) : Prop := ∀ r i, r ∉ fabricRegs → (r, i) ∉ but → e.val r i = d.val r i

/-- The next packet for the device of a VC and data type leaves the receive window of a fold link (R414, R416): `e` is the device without it, `x` what it holds. -/
def Device.Takes (d e : Device) (k vc dt : Nat) (first : Option Nat) (x : FoldMsg) : Prop := d.begin.foldTake k vc dt first = (e, some x)

/-- A training frame with a valid CRC has left on a lane (R63), of which `p` holds. -/
def Device.sends (d : Device) (l : Nat) (p : Octets → Prop) : Prop := ∃ f, Out.frame l f ∈ d.outs ∧ frameOk f = true ∧ p f

/-! ## What a verifier checks (R381) -/

/-- Journal entries follow one another by PREV, from the BOOT entry on. -/
def chained : List Octets → Bool
  | a :: b :: t => slice b 96 32 == sha256 a && chained (b :: t)
  | _ => true

/-- The records of a block, when all of them are held: those with RSEQ from RSEQ_FIRST on. -/
def recordsOf (b : Octets) (records : List Octets) : Option (List Octets) :=
  (List.range (leAt b 16 2)).mapM (fun k => records.find? (fun r => leAt r 0 4 == (leAt b 12 4 + k) % 2 ^ 32))

/-- One block against the key, the boot's BOOT entry, the entries, the records, and the TSEQ and PREV that it must have. -/
def blockOk (key boot : Octets) (entries records : List Octets) (tseq : Nat) (prev b : Octets) : Bool :=
  b.length == 668 && Ecdsa.verify key (slice b 0 604) (slice b 604 64) && leAt b 4 4 == leAt boot 28 4 && leAt b 8 4 == tseq % 2 ^ 32
    && slice b 120 32 == prev && slice b 88 32 == slice boot 32 32
    && entries.any (fun e => leAt e 0 4 == leAt b 52 4 && slice b 56 32 == sha256 e)
    && (match recordsOf b records with | some rs => slice b 152 32 == sha256 rs.flatten | none => true)

/-- The blocks of a boot in TSEQ order. -/
def blocksOk (key boot : Octets) (entries records : List Octets) : Nat → Octets → List Octets → Bool
  | _, _, [] => true
  | tseq, prev, b :: t => blockOk key boot entries records tseq prev b && blocksOk key boot entries records (tseq + 1) (sha256 b) t

/-- The verifier's checks (R381), under the public key of a device certificate whose path it has validated: `entries` go from the boot's BOOT entry to the greatest
JSEQ that the blocks name. A block of which records are missing is checked in everything but RDIGEST. -/
def verifies (key : Octets) (entries blocks records : List Octets) : Bool :=
  match entries.head?, blocks.head? with
  | some boot, some b => octet boot 8 == 4 && chained entries && blocksOk key boot entries records (leAt b 8 4) (List.replicate 32 0) blocks
  | _, _ => false

/-- A step neither faults nor is refused. -/
def State.Goes (s : State) : Prop := ∃ t, step s = .next t

end Sys2Proof.Machine
end

