-- ==== Sys2Proof/Certificates/Slice0/Obligations.lean ====
section
/-!
DEFINITION. The statements for the provers.
-/
open Sys2Proof Sys2Proof.Machine

/-- The command at the front of the queue is the one that a step runs, with the rest of the queue. -/
def Obligations.StepRunsTheFrontCommand : Prop :=
  ∀ (c : Instr) (rest : List Instr) (s : State), step { s with pending := c :: rest } = exec c { s with pending := rest }

/-- With no command waiting, a step is the end of a dictionary tick of 1 µs (log entry 21; the model's choice): the tick count goes up by one, the scopes
released in the tick can commit again, accesses of any session can follow, and, with no deep sleep to wake from, the stack, the staging copy and the journal stay. -/
def Obligations.IdleStepEndsATick : Prop :=
  ∀ s : State, s.pending = [] → ∃ t, step s = .next t ∧ t.pending = [] ∧ t.dev.tick = s.dev.tick + 1 ∧ t.dev.lastAccess = 0 ∧
    (s.dev.num .PWR_STATE 0 ≠ 2 → t.dev.raisedNow = 0 ∧ t.dev.wakeNow = false ∧ t.dev.released = [] ∧ t.dev.dram = s.dev.dram ∧ t.dev.staged = s.dev.staged ∧ t.dev.jrn = s.dev.jrn)

/-- R26, R28, R37, R45, R49, R373, R375, R384, R448: what reset leaves. Every object has its default in both copies, no session is open, nothing is pending, the stack and the
journal are empty, the local clock is 0, and the boot ROM's check comes first. The queue at reset is one of well-formed commands. The copies of the dictionary and the stack are in their canonical form at reset. -/
def Obligations.ResetHasTheDefaults : Prop :=
  ((∀ r i, State.reset.dev.val r i = State.reset.dev.ident.dflt r i ∧ State.reset.dev.stg r i = State.reset.dev.ident.dflt r i) ∧
  State.reset.pending = [] ∧ State.reset.dev.sess = [] ∧ State.reset.dev.pend = [] ∧ State.reset.dev.dram = [] ∧
  (∀ sc, State.reset.dev.genLive sc = 0 ∧ State.reset.dev.genStaged sc = 1) ∧
  State.reset.dev.jrn = {} ∧ State.reset.dev.clk = {} ∧ State.reset.dev.bring = .boot ∧
  State.reset.dev.num .COM_IP4_ADDR 0 = 0xC0A80A32 ∧ State.reset.dev.num .COM_DAP_PORT 0 = 24680 ∧ State.reset.dev.num .MEM_REFRESH_NS 0 = 3900) ∧
  (State.reset.QueueOk) ∧
  (State.reset.Canonical)

/-- Every command of the operation table, with every operand that is well formed, completes from every state: `exec` answers a next state, and the queue is left as it is. So a
queue of well-formed commands never stalls: a step of it gives a next state, and the rest of the queue is what then waits. -/
def Obligations.QueueOfCommandsNeverStalls : Prop :=
  (∀ (c : Instr) (s : State), c.wf = true → ∃ t, exec c s = .next t ∧ t.pending = s.pending) ∧
  ∀ s : State, s.QueueOk → ∃ t, step s = .next t ∧ t.pending = s.pending.tail ∧ t.QueueOk

/-- The canonical form of the dictionary's copies, the pending sets and the stack is kept by every step, from every state that has it. -/
def Obligations.EveryStepKeepsTheCanonicalForm : Prop :=
  ∀ s t : State, s.Canonical → step s = .next t → t.Canonical

/-- R27: a write of a number to an RWS object by a DAP session, with the length of its type, in its range and with nothing that refuses it, goes to the staging copy alone;
no live object changes, and the journal takes one entry. R27: a write that a DAP session makes of an absent object, of a class that forbids it, of a wrong length or out of range gives 0x01, 0x02, 0x03 or 0x04, in this order,
and nothing is written. R31: the accesses of a tick are applied in ascending session number: one that comes behind an access of a higher session is applied in the next tick. -/
def Obligations.WritesFollowTheirChecks : Prop :=
  (∀ (s : State) (session index sub x sz : Nat) (k : Key), session < 1024 → session ≠ 0 → index < 2 ^ 16 → sub < 2 ^ 8 →
    s.dev.Reaches session → s.dev.heldNow = false → s.dev.num .FLD_STATE 0 ≠ 1 →
    s.dev.findObj index sub = some k → k.reg.row.acc = .rws → k.reg.row.ty.size = some sz → x < 2 ^ (8 * sz) →
    s.dev.classRefused k = false → numInRange k x = true → s.dev.hallFixed k (.num x) = false →
    ∃ t, exec (.objectWrite session false index sub (le sz x)) s = .next t ∧ t.pending = s.pending ∧
      t.dev.stgNum k.reg k.inst = x ∧ (∀ r i, ¬(r = k.reg ∧ i = k.inst) → t.dev.stg r i = s.dev.stg r i) ∧
      s.dev.keeps t.dev [] ∧ t.dev.dram = s.dev.dram ∧ t.dev.pend = s.dev.pend ∧ t.dev.outs = [.result 0] ∧
      t.dev.jrn.head = (s.dev.jrn.head + 1) % 2 ^ 32) ∧
  (∀ (s : State) (session index sub : Nat) (b : Octets), session < 1024 → session ≠ 0 → index < 2 ^ 16 → sub < 2 ^ 8 → (∀ x ∈ b, x < 256) →
    s.dev.Reaches session →
    let after (code : Nat) : Prop := ∃ t, exec (.objectWrite session false index sub b) s = .next t ∧
      t = { s with dev := { s.dev.asked session with outs := [.result code] } }
    (s.dev.findObj index sub = none → after 0x01) ∧
    (∀ k, s.dev.findObj index sub = some k → k.reg ≠ .COM_BAR0_BULK_GO →
      (k.reg.row.acc.unwritable = true → after 0x02) ∧
      (s.dev.classRefused k = false → lengthOk k.reg b.length = false → after 0x03) ∧
      (s.dev.classRefused k = false → lengthOk k.reg b.length = true → inRange k (decodeVal k.reg.row.ty b) = false → after 0x04))) ∧
  (∀ (s : State) (session index sub : Nat) (staged : Bool) (b : Octets), WF.objectWrite session staged index sub b = true →
    (s.dev.lastAccess ≤ session → exec (.objectWrite session staged index sub b) s =
      .next { s with dev := (s.dev.asked session).sessionWrite session staged index sub b }) ∧
    (session < s.dev.lastAccess → exec (.objectWrite session staged index sub b) s =
      .next { s with dev := ({ s.dev.begin.tickEnd with lastAccess := session }).sessionWrite session staged index sub b }))

/-- R37: an OPEN request takes the lowest free session from 1 to 1023 and binds it to the peer's address and UDP port, and is answered with the session's number; with none
free it is answered with STATUS 0x08 and no item. R37: CLOSE, a write of SES_CLOSE by another session and 10 s of silence end a session, the last two leaving every other session as it is, and KEEPALIVE keeps it open.
CLOSE and KEEPALIVE are answered without items. -/
def Obligations.SessionsOpenAndEnd : Prop :=
  (∀ (s : State) (g : Datagram) (its : List DapItem), WF.dapOpen g = true → s.dev.lastAccess ≤ 1024 → s.dev.dapAddressed g = true → s.dev.num .PWR_STATE 0 ≠ 2 → s.dev.triage g = .take its →
    (∀ n, 1 ≤ n → n ≤ 1023 → s.dev.session n = none → (∀ m, 1 ≤ m → m < n → (s.dev.session m).isSome = true) →
      ∃ t, exec (.dapOpen g) s = .next t ∧ t.pending = s.pending ∧
        t.dev.session n = some { n := n, peer := g.peer, port := g.udp, eth := g.port, lastRx := s.dev.tick } ∧
        (∀ m, m ≠ n → t.dev.session m = s.dev.session m) ∧
        t.dev.num .COM_DAP_RX 0 = (s.dev.num .COM_DAP_RX 0 + 1) % 2 ^ 32 ∧ s.dev.keeps t.dev [(.COM_DAP_RX, 0)] ∧
        t.dev.outs = [.dap g.port g.peer g.udp
          ([2, 1] ++ le 2 (dapSession g.payload) ++ le 4 (dapSeq g.payload) ++ [1, 0, 6, 0, 0, 2, 0, 0] ++ le 2 (0x9000 + n) ++ [0, 0, 0, 0])]) ∧
    ((∀ n, 1 ≤ n → n ≤ 1023 → (s.dev.session n).isSome = true) →
      ∃ t, exec (.dapOpen g) s = .next t ∧ t.dev.sess = s.dev.sess ∧
        t.dev.outs = [.dap g.port g.peer g.udp ([2, 1] ++ le 2 (dapSession g.payload) ++ le 4 (dapSeq g.payload) ++ [0, 0, 0, 0, 0x08, 2, 0, 0])])) ∧
  ((∀ (s : State) (g : Datagram) (x : Session), WF.dapClose g = true → s.dev.Hears g x [] →
    ∃ t, exec (.dapClose g) s = .next t ∧ t.dev.session (dapSession g.payload) = none ∧
      t.dev.outs = [.dap g.port g.peer g.udp ([2, 2] ++ le 2 (dapSession g.payload) ++ le 4 (dapSeq g.payload) ++ [0, 0, 0, 0, 0, 2, 0, 0])]) ∧
  (∀ (s : State) (g : Datagram) (x : Session), WF.dapKeepalive g = true → s.dev.Hears g x [] →
    ∃ t y, exec (.dapKeepalive g) s = .next t ∧ t.dev.session (dapSession g.payload) = some y ∧ y.lastRx = s.dev.tick ∧ y.lastSeq = some (dapSeq g.payload) ∧
      y.subs = x.subs ∧ y.seg = x.seg ∧
      t.dev.outs = [.dap g.port g.peer g.udp ([2, 3] ++ le 2 (dapSession g.payload) ++ le 4 (dapSeq g.payload) ++ [0, 0, 0, 0, 0, 2, 0, 0])]) ∧
  (∀ (s : State) (n : Nat), 1 ≤ n → n < 1024 →
    ∃ t, exec (.sessionTimeout n) s = .next t ∧ t.dev.session n = none ∧ (∀ m, m ≠ n → t.dev.session m = s.dev.session m) ∧ s.dev.keeps t.dev []) ∧
  (∀ (s : State) (session n : Nat), session < 1024 → 1 ≤ n → n < 1024 → session ≠ n → s.dev.Reaches session → s.dev.heldNow = false →
    ∃ t, exec (.sesClose session n 1) s = .next t ∧ t.dev.session n = none ∧ (∀ m, m ≠ n → t.dev.session m = s.dev.session m) ∧ s.dev.keeps t.dev [] ∧
      t.dev.outs = [.result 0]))

/-- R34, R35: a READ of a present, readable object whose value fits is answered with that value; READ_INDEX of an absent index gives 0x01, and of 0x1000 gives subindex 0x00
first and then its entries; a READ_SEG gives the bytes of a STR or BLOB from its offset as far as the room goes. -/
def Obligations.ReadsReturnTheValue : Prop :=
  (∀ (s : State) (g : Datagram) (x : Session) (k : Key) (index sub : Nat), WF.dapRead g = true → s.dev.Hears g x [⟨index, sub, []⟩] →
    s.dev.findObj index sub = some k → k.reg.row.acc.unreadable = false →
    let v := encodeVal k.reg.row.ty ((s.dev.heard g).viewVal (bit (dapFlags g.payload) 0) k)
    v.length ≤ dapLimit g.peer - 22 →
    ∃ t, exec (.dapRead g) s = .next t ∧
      t.dev.outs = [.dap g.port g.peer g.udp (dapBytes 0x10 (dapSession g.payload) (dapSeq g.payload) 1 0 2 (dapItem ⟨index, sub, []⟩ 0 v))] ∧
      t.dev.num .COM_DAP_RX 0 = (s.dev.num .COM_DAP_RX 0 + 1) % 2 ^ 32 ∧ t.dev.staged = s.dev.staged ∧ t.dev.dram = s.dev.dram) ∧
  (∀ (s : State) (g : Datagram) (x : Session) (index : Nat), WF.dapReadIndex g = true → s.dev.Hears g x [⟨index, 0, []⟩] → (s.dev.findObj index 0).isSome = false →
    ∃ t, exec (.dapReadIndex g) s = .next t ∧
      t.dev.outs = [.dap g.port g.peer g.udp (dapBytes 0x12 (dapSession g.payload) (dapSeq g.payload) 1 0 2 (dapItem ⟨index, 0, []⟩ 1 []))]) ∧
  (∀ (s : State) (g : Datagram) (x : Session), WF.dapReadIndex g = true → s.dev.Hears g x [⟨0x1000, 0, []⟩] →
    ∃ t rest, exec (.dapReadIndex g) s = .next t ∧
      t.dev.outs = [.dap g.port g.peer g.udp (dapBytes 0x12 (dapSession g.payload) (dapSeq g.payload) 9 0 2
        (dapItem ⟨0x1000, 0, []⟩ 0 [8] ++ dapItem ⟨0x1000, 1, []⟩ 0 (ascii "Palluhal") ++ rest))]) ∧
  (∀ (s : State) (g : Datagram) (x : Session) (k : Key) (index sub off : Nat), WF.dapReadSeg g = true → s.dev.Hears g x [⟨index, sub, le 4 off⟩] → off < 2 ^ 32 →
    s.dev.findObj index sub = some k → k.reg.row.acc.unreadable = false → k.reg.row.ty.size = none → k.reg ≠ .TIM_TC_FIFO →
    let v := ((s.dev.heard g).viewVal (bit (dapFlags g.payload) 0) k).toOctets
    off < v.length →
    ∃ t, exec (.dapReadSeg g) s = .next t ∧
      t.dev.outs = [.dap g.port g.peer g.udp (dapBytes 0x13 (dapSession g.payload) (dapSeq g.payload) 1 0 2
        (dapItem ⟨index, sub, []⟩ 0 ((v.drop off).take (dapLimit g.peer - 22))))])

/-- R35, R36: each item of a WRITE is a write by its session, answered with its code; a WRITE_SEG item without LAST goes into the session's buffer and changes no object; the
final segment of a value without gaps is one write of the whole value. -/
def Obligations.WritesAnswerEachItem : Prop :=
  (∀ (s : State) (g : Datagram) (x : Session) (it : DapItem), WF.dapWrite g = true → s.dev.Hears g x [it] →
    let r := (s.dev.heard g).write (dapSession g.payload) it.index it.sub it.value
    r.2.closing = false → r.2.resetDue = false →
    ∃ t, exec (.dapWrite g) s = .next t ∧ t.dev.live = r.2.live ∧ t.dev.staged = r.2.staged ∧ t.dev.jrn = r.2.jrn ∧
      t.dev.outs = r.2.outs ++ [.dap g.port g.peer g.udp (dapBytes 0x11 (dapSession g.payload) (dapSeq g.payload) 1 0 2 (dapItem it r.1 []))]) ∧
  (∀ (s : State) (g : Datagram) (x : Session) (k : Key) (index sub off : Nat) (b : Octets), WF.dapWriteSeg g = true →
    s.dev.Hears g x [⟨index, sub, le 4 off ++ b⟩] → off < 2 ^ 32 → s.dev.findObj index sub = some k → s.dev.classRefused k = false → k.reg.row.ty = .blob →
    off + b.length ≤ k.reg.maxLen → bit (dapFlags g.payload) 3 = false →
    ∃ t y, exec (.dapWriteSeg g) s = .next t ∧ t.dev.session (dapSession g.payload) = some y ∧
      y.seg = some { key := k, segs := (match x.seg with | some q => if q.key = k then q.segs else [] | none => []) ++ [(off, b)] } ∧
      s.dev.keeps t.dev [(.COM_DAP_RX, 0)] ∧ t.dev.staged = s.dev.staged ∧ t.dev.jrn = s.dev.jrn) ∧
  (∀ (s : State) (g : Datagram) (x : Session) (k : Key) (index sub : Nat) (b : Octets), WF.dapWriteSeg g = true →
    s.dev.Hears g x [⟨index, sub, le 4 0 ++ b⟩] → s.dev.findObj index sub = some k → s.dev.classRefused k = false → k.reg.row.ty = .blob →
    b.length ≤ k.reg.maxLen → bit (dapFlags g.payload) 3 = true → x.seg = none →
    let r := ((s.dev.heard g).modSession (dapSession g.payload) (fun y => { y with seg := none })).writeObj (dapSession g.payload) k b
    r.2.closing = false → r.2.resetDue = false →
    ∃ t, exec (.dapWriteSeg g) s = .next t ∧ t.dev.live = r.2.live ∧ t.dev.staged = r.2.staged ∧ t.dev.fronts = r.2.fronts ∧ t.dev.jrn = r.2.jrn ∧
      t.dev.outs = r.2.outs ++ [.dap g.port g.peer g.udp (dapBytes 0x14 (dapSession g.payload) (dapSeq g.payload) 1 0 2 (dapItem ⟨index, sub, []⟩ r.1 []))])

/-- R36: a request whose SEQ is the last one's is not executed again: the stored response is sent again and no object changes. One whose SEQ is older is discarded and counted. R33: a datagram that is a fragment, has a bad checksum, is longer than a datagram may be or shorter than 16 bytes is discarded and counted; one of another version is
answered with STATUS 0x03. -/
def Obligations.RequestsThatAreNotExecuted : Prop :=
  (∀ (s : State) (g : Datagram) (c : Instr) (x : Session) (its : List DapItem) (last : Nat),
    (c, octet g.payload 1) ∈ [(Instr.dapClose g, 0x02), (.dapKeepalive g, 0x03), (.dapRead g, 0x10), (.dapWrite g, 0x11), (.dapReadIndex g, 0x12), (.dapReadSeg g, 0x13),
      (.dapWriteSeg g, 0x14), (.dapSubscribe g, 0x20), (.dapUnsubscribe g, 0x21)] → WF.dapOp (octet g.payload 1) g = true →
    s.dev.lastAccess ≤ dapSession g.payload → dapSession g.payload < 1024 →
    s.dev.dapAddressed g = true → s.dev.num .PWR_STATE 0 ≠ 2 → s.dev.triage g = .take its → s.dev.session (dapSession g.payload) = some x → x.lastSeq = some last →
    (dapSeq g.payload = last → ∃ t, exec c s = .next t ∧ s.dev.keeps t.dev [] ∧ t.dev.staged = s.dev.staged ∧ t.dev.jrn = s.dev.jrn ∧
      t.dev.outs = [.dap g.port g.peer g.udp x.lastResp]) ∧
    (serialDiff 32 (dapSeq g.payload) last < 0 → ∃ t, exec c s = .next t ∧ s.dev.keeps t.dev [(.COM_DAP_DROPS, 0)] ∧ t.dev.staged = s.dev.staged ∧ t.dev.jrn = s.dev.jrn ∧
      t.dev.num .COM_DAP_DROPS 0 = (s.dev.num .COM_DAP_DROPS 0 + 1) % 2 ^ 32 ∧ t.dev.outs = [])) ∧
  (∀ (s : State) (g : Datagram), WF.dgram g = true → s.dev.dapAddressed g = true → s.dev.num .PWR_STATE 0 ≠ 2 →
    (g.fragment = true ∨ g.sumOk = false ∨ g.payload.length < 16 ∨ dapLimit g.peer < g.payload.length →
      ∃ t, exec (.dapDatagramRefused g) s = .next t ∧ t.dev.num .COM_DAP_DROPS 0 = (s.dev.num .COM_DAP_DROPS 0 + 1) % 2 ^ 32 ∧ t.dev.outs = [] ∧
        s.dev.keeps t.dev [(.COM_DAP_DROPS, 0)] ∧ t.dev.sess = s.dev.sess) ∧
    (g.fragment = false → g.sumOk = true → 16 ≤ g.payload.length → g.payload.length ≤ dapLimit g.peer → octet g.payload 0 ≠ 2 →
      ∃ t, exec (.dapDatagramRefused g) s = .next t ∧ s.dev.keeps t.dev [] ∧
        t.dev.outs = [.dap g.port g.peer g.udp ([2, octet g.payload 1 % 256] ++ le 2 (dapSession g.payload) ++ le 4 (dapSeq g.payload) ++ [0, 0, 0, 0, 3, 2, 0, 0])]))

/-- R38, R39: SUBSCRIBE adds a subscription with its mode and interval or replaces it, UNSUBSCRIBE removes it, and a session's only subscription, when it is due, goes out in one PUSH
whose SEQ is one more than the last. -/
def Obligations.SubscriptionsPush : Prop :=
  (∀ (s : State) (g : Datagram) (x : Session) (k : Key) (index sub mode us : Nat), WF.dapSubscribe g = true → s.dev.Hears g x [⟨index, sub, [mode] ++ le 4 us⟩] →
    s.dev.findObj index sub = some k → k.reg.row.acc.unreadable = false → mode ≤ 1 → 1000 ≤ us → us ≤ 3600000000 → x.subs.length < 64 →
    s.dev.sess.foldl (fun a y => a + y.subs.length) 0 < 8192 →
    ∃ t y z, exec (.dapSubscribe g) s = .next t ∧ t.dev.session (dapSession g.payload) = some y ∧ z ∈ y.subs ∧ z.key = k ∧ z.periodic = (mode == 1) ∧ z.interval = us ∧
      z.lastTick = s.dev.tick ∧ (∀ w ∈ y.subs, w.key = k → w = z) ∧ (∀ w, w.key ≠ k → (w ∈ y.subs ↔ w ∈ x.subs))) ∧
  (∀ (s : State) (g : Datagram) (x : Session) (k : Key) (index sub : Nat), WF.dapUnsubscribe g = true → s.dev.Hears g x [⟨index, sub, []⟩] → s.dev.findObj index sub = some k →
    ∃ t y, exec (.dapUnsubscribe g) s = .next t ∧ t.dev.session (dapSession g.payload) = some y ∧ (∀ w, w ∈ y.subs ↔ w ∈ x.subs ∧ w.key ≠ k)) ∧
  (∀ (s : State) (n : Nat) (x : Session) (z : Subscription), 1 ≤ n → n < 1024 → (s.dev.dapServed 0 = true ∨ s.dev.dapServed 1 = true) → s.dev.session n = some x →
    x.subs = [z] → s.dev.begin.pushDue z = true → (encodeVal z.key.reg.row.ty (s.dev.begin.liveVal z.key)).length + 22 ≤ dapLimit x.peer →
    ∃ t y, exec (.subscriptionPush n) s = .next t ∧ t.dev.session n = some y ∧ y.pushSeq = (x.pushSeq + 1) % 2 ^ 32 ∧
      y.subs = [{ z with lastTick := s.dev.tick, lastVal := s.dev.begin.liveVal z.key }] ∧ s.dev.keeps t.dev [] ∧
      t.dev.outs = [.dap x.eth x.peer x.port (dapBytes 0x30 n ((x.pushSeq + 1) % 2 ^ 32) 1 0 4
        (dapItem ⟨z.key.index, z.key.sub, []⟩ 0 (encodeVal z.key.reg.row.ty (s.dev.begin.liveVal z.key))))])

/-- R42, R43, R44: a read of the bytes that are enabled in the slot of a U48 or U64 returns them from its low half and latches the upper half; an offset outside every range
reads 0xFFFF_FFFF, in both halves of a 64-bit request, and records abort 0x01; a write of an RWS object's slot by session 0 goes to the staging copy; COM_BAR0_BULK_GO applies the first bytes of the mailbox to the object that COM_BAR0_BULK_SEL names; and BAR0 is up exactly with the link and Memory Space Enable, when DAP is not
served with COM_DAP_PORTS = 0 (R41). -/
def Obligations.BarZeroWindow : Prop :=
  (∀ (s : State) (index sub : Nat) (k : Key) (o en : Nat), 1 ≤ en → en < 16 → s.dev.lastAccess = 0 → s.dev.bar0Up = true → s.dev.num .PWR_STATE 0 ≠ 2 → slotOffset index sub = some o → sub < 256 → index < 2 ^ 16 →
    s.dev.findObj index sub = some k → k.reg.row.acc.unreadable = false → k.reg.row.ty = .u64 ∨ k.reg.row.ty = .u48 →
    let v := (s.dev.begin.viewVal false k).toNat
    ∃ t, exec (.bar0WideRead ⟨o, en⟩) s = .next t ∧ t.dev.num .COM_BAR0_HI 0 = v / 2 ^ 32 % 2 ^ 32 ∧
      t.dev.outs = [.completion (((le 4 (v % 2 ^ 32)).zipIdx.filter (fun e => bit en e.2)).map Prod.fst) false] ∧
      s.dev.keeps t.dev [(.COM_BAR0_HI, 0)] ∧ t.dev.staged = s.dev.staged) ∧
  (∀ (s : State) (o en : Nat), (en = 0x0F ∨ en = 0xFF ∧ o % 8 = 0) → s.dev.lastAccess = 0 → s.dev.bar0Up = true → s.dev.num .PWR_STATE 0 ≠ 2 →
    0xF10000 ≤ o → o % 4 = 0 → o < 0x1000000 →
    ∃ t, exec (.bar0WideRead ⟨o, en⟩) s = .next t ∧ t.dev.num .COM_BAR0_ABORT 0 = 1 ∧
      t.dev.outs = [.completion (List.replicate (if en = 0x0F then 4 else 8) 0xFF) false] ∧
      s.dev.keeps t.dev [(.COM_BAR0_ABORT, 0), (.COM_BAR0_ABORT_AT, 0)]) ∧
  (∀ (s : State) (index sub x sz : Nat) (k : Key), index < 2 ^ 16 → sub < 2 ^ 8 →
    s.dev.Reaches 0 → s.dev.heldNow = false → s.dev.num .FLD_STATE 0 ≠ 1 →
    s.dev.findObj index sub = some k → k.reg.row.acc = .rws → k.reg.row.ty ∈ [ObjType.bool, .u8, .u16, .u24, .u32] → k.reg.row.ty.size = some sz → x < 2 ^ (8 * sz) →
    s.dev.classRefused k = false → numInRange k x = true → s.dev.hallFixed k (.num x) = false →
    ∃ t, exec (.objectWrite 0 false index sub (le 4 x)) s = .next t ∧ t.pending = s.pending ∧
      t.dev.stgNum k.reg k.inst = x ∧ (∀ r i, ¬(r = k.reg ∧ i = k.inst) → t.dev.stg r i = s.dev.stg r i) ∧
      s.dev.keeps t.dev [] ∧ t.dev.dram = s.dev.dram ∧ t.dev.outs = [.result 0]) ∧
  (∀ (s : State) (fill : Octets), fill.length = 16 → (∀ x ∈ fill, x < 256) → s.dev.Reaches 0 → s.dev.heldNow = false → s.dev.num .FLD_STATE 0 ≠ 1 →
    s.dev.num .COM_BAR0_BULK_SEL 0 = 0x110007 →
    ∃ t, exec (.bar0BulkGo fill 16) s = .next t ∧ t.dev.stgOct .COM_IP6_ADDR 0 = fill ∧ s.dev.keeps t.dev [] ∧ t.dev.outs = [.result 0] ∧
      t.dev.jrn.head = ((s.dev.jrn.head + 1) % 2 ^ 32 + 1) % 2 ^ 32) ∧
  (∀ (s : State) (speed width : Nat) (mem relaxed : Bool), WF.bar0ReachabilityChange speed width ⟨mem, relaxed⟩ = true → s.dev.pcie.perst = false → s.dev.rings = [] →
    ∃ t, exec (.bar0ReachabilityChange speed width ⟨mem, relaxed⟩) s = .next t ∧ t.dev.pcie.memEnable = mem ∧ t.dev.pcie.relaxed = relaxed ∧
      (t.dev.bar0Up = true ↔ s.dev.reachable = true ∧ speed ≠ 0 ∧ width ≠ 0 ∧ mem = true) ∧
      (s.dev.reachable = true → s.dev.sdUp = true → s.dev.num .COM_DAP_PORTS 0 = 0 → ∀ p, p < 2 → (t.dev.dapServed p = true ↔ t.dev.bar0Up = false)))

/-- R45: a commit with the right generation, with no set of the scope pending or handed over in this tick, no hold, no forming fold and a consistent staging copy is accepted: the
set is pending with that generation and live objects stay; for the device scope the pending set is the staging copy's objects of the scope, and the journal takes one entry. A wrong generation gives 0x04 and a
second commit of a scope 0x06, with nothing changed. R46: a stage discard resets the staging copy of its scope to the pending set, or to the live copy when nothing is pending; nothing live changes. R47, R48, R49: at its hand-over a pending set becomes live as a whole and leaves the pending copy, and the live generation is its generation. -/
def Obligations.CommitsAndHandOvers : Prop :=
  ((∀ (s : State) (session g : Nat), session < 1024 → g < 2 ^ 32 → s.dev.Reaches session → s.dev.heldNow = false → s.dev.num .FLD_STATE 0 ≠ 1 →
    s.dev.pendOf .device = none → s.dev.released = [] → g = s.dev.genStaged .device →
    (s.dev.asked session).inconsistent .device ((s.dev.asked session).changedKeys .device) = ([], false) →
    ∃ t, exec (.devCommit session g) s = .next t ∧ t.dev.genPending .device = g ∧ t.dev.genLive .device = s.dev.genLive .device ∧
      t.dev.pendOf .device = some { scope := .device, gen := g, values := s.dev.staged.ofScope .device, since := s.dev.tick } ∧ t.dev.staged = s.dev.staged ∧
      s.dev.keeps t.dev [] ∧ t.dev.jrn.head = (s.dev.jrn.head + 1) % 2 ^ 32 ∧ t.dev.outs = [.result 0]) ∧
  (∀ (s : State) (session n g : Nat), session < 1024 → n < 16 → g < 2 ^ 32 → s.dev.Reaches session → s.dev.ident.hasChan n = true → s.dev.heldNow = false →
    s.dev.pendOf (.channel n) = none → s.dev.released = [] → g = s.dev.genStaged (.channel n) → s.dev.on .CH_CAMSET_BUSY n = false →
    (s.dev.asked session).inconsistent (.channel n) ((s.dev.asked session).changedKeys (.channel n)) = ([], false) →
    ∃ t, exec (.chCommit session n g) s = .next t ∧ t.dev.genPending (.channel n) = g ∧ t.dev.genLive (.channel n) = s.dev.genLive (.channel n) ∧
      t.dev.staged = s.dev.staged) ∧
  (∀ (s : State) (session n g : Nat) (sc : Scope) (c : Instr), session < 1024 → session ≠ 0 → g < 2 ^ 32 →
    (c, sc) = (Instr.devCommit session g, Scope.device) ∨ (n < 16 ∧ s.dev.ident.hasChan n = true ∧ (c, sc) = (Instr.chCommit session n g, Scope.channel n)) → s.dev.Reaches session →
    ((s.dev.pendOf sc).isSome = true → exec c s = .next { s with dev := { s.dev.asked session with outs := [.result 0x06] } }) ∧
    (s.dev.pendOf sc = none → s.dev.released = [] → (∀ m, s.dev.on .CH_CAMSET_BUSY m = false) → g ≠ s.dev.genStaged sc →
      exec c s = .next { s with dev := { s.dev.asked session with outs := [.result 0x04] } }))) ∧
  (∀ (s : State) (session n : Nat) (sc : Scope) (c : Instr), session < 1024 →
    (c, sc) = (Instr.devStageDiscard session 1, Scope.device) ∨ (n < 16 ∧ s.dev.ident.hasChan n = true ∧ (c, sc) = (Instr.chStageDiscard session n 1, Scope.channel n)) →
    s.dev.Reaches session → s.dev.heldNow = false →
    ∃ t, exec c s = .next t ∧ s.dev.keeps t.dev [] ∧ t.dev.pend = s.dev.pend ∧ t.dev.outs = [.result 0] ∧
      t.dev.staged = s.dev.staged.takeScope (match s.dev.pendOf sc with | some p => p.values | none => s.dev.live.ofScope sc) sc) ∧
  ((∀ (s : State) (p : PendingSet), s.dev.pendOf .device = some p → Store.rising p.values = true → s.dev.num .FLD_COMMIT_AT 0 = 0 →
    ∃ t, exec .devHandoverTimeout s = .next t ∧ t.dev.pendOf .device = none ∧ t.dev.genLive .device = p.gen % 2 ^ 32 ∧ t.dev.staged = s.dev.staged ∧
      (∀ k v, (k, v) ∈ p.values → k.inScope .device = true → t.dev.val k.reg k.inst = v)) ∧
  (∀ (s : State) (n : Nat) (p : PendingSet), n < 16 → s.dev.pendOf (.channel n) = some p → Store.rising p.values = true → s.dev.pointWaits = false →
    ∃ t, exec (.chHandoverTimeout n) s = .next t ∧ t.dev.pendOf (.channel n) = none ∧ t.dev.genLive (.channel n) = p.gen % 2 ^ 32 ∧
      (∀ k v, (k, v) ∈ p.values → k.inScope (.channel n) = true → t.dev.val k.reg k.inst = v)))

/-- R51, R52, R53: NVS_SAVE begins a save into the bank that is not active, with SEQ one more; when it reads back as valid that bank is active, and when it does not twice the save has
failed; NVS_ERASE
clears the MAGIC of both banks; an automatic save begins after a change, and not after an erase. -/
def Obligations.NonVolatileStore : Prop :=
  (∀ (s : State) (session : Nat), session < 1024 → s.dev.Reaches session → s.dev.heldNow = false → s.dev.nvs.saving = none →
    ∃ t img, exec (.nvsSave session 1) s = .next t ∧ t.dev.nvs.saving = some (if s.dev.num .NVS_ACTIVE 0 = 0 then 1 else 0, img) ∧ bankSeq img = (s.dev.num .NVS_SEQ 0 + 1) % 2 ^ 32 ∧
      t.dev.num .NVS_STATE 0 = 1 ∧ s.dev.keeps t.dev [(.NVS_STATE, 0), (.NVS_VALID, 0)]) ∧
  (∀ (s : State) (session : Nat), session < 1024 → s.dev.Reaches session → s.dev.heldNow = false → s.dev.nvs.saving = none →
    ∃ t, exec (.nvsErase session 0xA5) s = .next t ∧ t.dev.num .NVS_ACTIVE 0 = 0xFF ∧ t.dev.num .NVS_STATE 0 = 4 ∧ t.dev.num .NVS_VALID 0 = 0 ∧ t.dev.nvs.erased = true ∧
      (4 ≤ s.dev.nvs.bank0.length → slice t.dev.nvs.bank0 0 4 = [0, 0, 0, 0]) ∧ (4 ≤ s.dev.nvs.bank1.length → slice t.dev.nvs.bank1 0 4 = [0, 0, 0, 0])) ∧
  (∀ (s : State), s.dev.nvs.erased = true → s.dev.num .NVS_STATE 0 = 4 →
    ∃ t, exec .nvsAutoSave s = .next t ∧ t.dev.nvs = s.dev.nvs ∧ s.dev.keeps t.dev []) ∧
  (∀ (s : State), s.dev.nvs.erased = false → s.dev.nvs.saving = none → s.dev.nvs.dirty = true → s.dev.on .NVS_AUTO 0 = true →
    (match s.dev.nvs.autoAt with | some u => u + 1000000 ≤ s.dev.tick | none => True) →
    ∃ t img, exec .nvsAutoSave s = .next t ∧ t.dev.nvs.saving = some (if s.dev.num .NVS_ACTIVE 0 = 0 then 1 else 0, img) ∧ bankSeq img = (s.dev.num .NVS_SEQ 0 + 1) % 2 ^ 32 ∧
      t.dev.nvs.dirty = false ∧ t.dev.nvs.autoAt = some s.dev.tick ∧ t.dev.num .NVS_STATE 0 = 1 ∧ s.dev.keeps t.dev [(.NVS_STATE, 0), (.NVS_VALID, 0)]) ∧
  (∀ (s : State) (b : Nat) (img : Octets), b < 2 → s.dev.nvs.saving = some (b, img) → s.dev.nvs.held = false → s.dev.nvs.eraseWaits = false →
    (∀ first retry, (first || retry) = true → bankOk img = true →
      ∃ t, exec (.nvsSaveDone first retry) s = .next t ∧ t.dev.bank b = img ∧ t.dev.num .NVS_ACTIVE 0 = b ∧ t.dev.num .NVS_SEQ 0 = bankSeq img ∧ t.dev.num .NVS_STATE 0 = 0 ∧
        t.dev.num .NVS_SAVES 0 = (s.dev.num .NVS_SAVES 0 + 1) % 2 ^ 32 ∧ t.dev.nvs.saving = none ∧
        s.dev.keeps t.dev [(.NVS_ACTIVE, 0), (.NVS_SEQ, 0), (.NVS_STATE, 0), (.NVS_SAVES, 0), (.NVS_VALID, 0)]) ∧
    (∃ t, exec (.nvsSaveDone false false) s = .next t ∧ t.dev.num .NVS_STATE 0 = 3 ∧ t.dev.num .NVS_ACTIVE 0 = s.dev.num .NVS_ACTIVE 0 ∧
      bit (t.dev.num .FLT_LATCHED 0) 12 = true))

/-- R58: the limits of the lane states. IDENT, TRAIN1 and RELOCK that last too long fail to SEEK at rung 0, TRAIN2 and RECOVER to RELOCK at rung 1; each counts one training failure. A lane in
another state does not change. R58, R61: a RUNG_REQ without RUNG_ACK is abandoned with the exit of its state: STEP1 fails to SEEK, STEP2 to LOW with the 10 s retry wait. -/
def Obligations.LaneTimeLimits : Prop :=
  (∀ (s : State) (l st : Nat) (c : Instr), l < 36 →
    (c, st) ∈ [(Instr.identTimeout l, LS.ident), (.train1Timeout l, LS.train1), (.relockTimeout l, LS.relock), (.train2Timeout l, LS.train2), (.recoverTimeout l, LS.recover)] →
    (s.dev.lstate l = st →
      ∃ t, exec c s = .next t ∧ t.pending = s.pending ∧
        t.dev.lstate l = (if st = LS.train2 ∨ st = LS.recover then LS.relock else LS.seek) ∧ t.dev.lrung l = (if st = LS.train2 ∨ st = LS.recover then 1 else 0) ∧
        t.dev.num .LNK_TRAIN_FAILS l = (s.dev.num .LNK_TRAIN_FAILS l + 1) % 2 ^ 32 ∧ t.dev.staged = s.dev.staged ∧ t.dev.dram = s.dev.dram) ∧
    (s.dev.lstate l ≠ st → exec c s = .next { s with dev := s.dev.begin })) ∧
  (∀ (s : State) (l : Nat) (x : RungChange), l < 36 → (s.dev.lane l).change = some x → x.acked = false →
    (s.dev.lstate l = LS.step1 → ∃ t, exec (.rungAckTimeout l) s = .next t ∧ t.dev.lstate l = LS.seek ∧ t.dev.num .LNK_TRAIN_FAILS l = (s.dev.num .LNK_TRAIN_FAILS l + 1) % 2 ^ 32) ∧
    (s.dev.lstate l = LS.step2 → ∃ t, exec (.rungAckTimeout l) s = .next t ∧ t.dev.lstate l = LS.low ∧ (t.dev.lane l).retryWait = true ∧
      t.dev.num .LNK_TRAIN_FAILS l = (s.dev.num .LNK_TRAIN_FAILS l + 1) % 2 ^ 32))

/-- R58, R63: in SEEK a lane sends DISCOVER; with comma lock a valid DISCOVER takes it to IDENT, where it sends its own IDENT; a valid IDENT of a capable far end takes it on to STEP1
with a RUNG_REQ to rung 1 and COUNT 8 of the end that leads, on a camera lane the device and on a fold lane the member of the lower FOLD_ID (log entry 53); comma lock at rung 1
takes STEP1 to TRAIN1. R59, R61, R70: the step from LOW begins with a RUNG_REQ of COUNT 8 to the chosen rung; each repeat counts down; a RUNG_REQ is answered with a RUNG_ACK that echoes COUNT and one to a
rung the device does not have with ABORT; one that crosses the request of the end that leads is left without an answer (log entry 53); a RUNG_ACK marks the request answered. -/
def Obligations.LanesClimb : Prop :=
  (∀ (s : State) (l : Nat) (f : Octets), l < 36 → WF.frame f = true →
    (s.dev.lstate l = LS.seek → s.dev.sdUp = true →
      ∃ t, exec (.discoverSend l) s = .next t ∧ t.dev.sends l (fun q => octet q 0 = 0x01 ∧ octet q 3 = LS.seek) ∧ s.dev.keeps t.dev []) ∧
    (s.dev.lstate l = LS.seek → s.dev.sdUp = true → (s.dev.lane l).comma = true → frameIs 0x01 f = true →
      ∃ t, exec (.discoverRx l f) s = .next t ∧ t.dev.lstate l = LS.ident ∧ t.dev.sends l (fun q => octet q 0 = 0x02) ∧
        s.dev.keeps t.dev [(.LNK_STATE, l), (.LNK_RUNG, l)]) ∧
    (s.dev.lstate l = LS.ident → frameIs 0x02 f = true → Device.capable l (slice f 4 26) = true →
      ∃ t, exec (.identRx l f) s = .next t ∧ t.dev.lstate l = LS.step1 ∧ t.dev.oct .LNK_FAR_ID l = slice f 4 26 ∧
        (l < 32 ∨ s.dev.num .FLD_ID 0 ≤ octet f 21 → t.dev.sends l (fun q => octet q 0 = 0x03 ∧ octet q 4 = 1 ∧ octet q 5 = 8))) ∧
    (s.dev.lstate l = LS.step1 → s.dev.lrung l = 1 →
      ∃ t, exec (.commaLockAcquire l false) s = .next t ∧ t.dev.lstate l = LS.train1 ∧ t.dev.lrung l = 1 ∧ t.dev.num .LNK_TX_EQ l = 0x00400000)) ∧
  (∀ (s : State) (l : Nat) (f : Octets), l < 36 → WF.frame f = true →
    (∀ i, s.dev.lstate l = LS.low → s.dev.leads l = true → (s.dev.lane l).retryWait = false → (s.dev.lane l).test = none → (s.dev.lane l).ident = some i → octet i 14 % 4 = 2 →
      s.dev.num .LNK_RUNG_MAX l = 2 → (s.dev.lane l).failed2 = false →
      ∃ t x, exec (.step2Start l) s = .next t ∧ t.dev.lstate l = LS.step2 ∧ (t.dev.lane l).change = some x ∧ x.target = 2 ∧ x.count = 8 ∧
        t.dev.sends l (fun q => octet q 0 = 0x03 ∧ octet q 4 = 2 ∧ octet q 5 = 8)) ∧
    (∀ i, s.dev.lstate l = LS.low → (s.dev.lane l).retryWait = true → (s.dev.lane l).ident = some i → octet i 14 % 4 = 3 → s.dev.num .LNK_RUNG_MAX l = 3 →
      ∃ t x, exec (.step2Retry l) s = .next t ∧ t.dev.lstate l = LS.step2 ∧ (t.dev.lane l).change = some x ∧ x.target = 3 ∧ x.count = 8 ∧ (t.dev.lane l).retryWait = false) ∧
    (∀ x, (s.dev.lane l).change = some x → x.asks = true → x.switched = false → 2 ≤ x.count → x.count ≤ 8 → x.target < 256 →
      ∃ t, exec (.rungReqSend l) s = .next t ∧ (t.dev.lane l).change = some { x with count := x.count - 1, sentZero := false } ∧
        t.dev.sends l (fun q => octet q 0 = 0x03 ∧ octet q 4 = x.target ∧ octet q 5 = x.count - 1) ∧ s.dev.keeps t.dev []) ∧
    (s.dev.lstate l = LS.low → (s.dev.lane l).change = none → frameIs 0x03 f = true → 1 ≤ octet f 4 → octet f 4 ≤ 3 → octet f 5 ≠ 0 →
      ∃ t, exec (.rungReqRx l f) s = .next t ∧ t.dev.sends l (fun q => octet q 0 = 0x04 ∧ octet q 4 = octet f 4 ∧ octet q 5 = octet f 5) ∧ t.dev.lstate l = LS.low) ∧
    (∀ x, (s.dev.lane l).change = some x → x.asks = true → s.dev.leads l = true → frameIs 0x03 f = true → 1 ≤ octet f 4 → octet f 4 ≤ 3 →
      exec (.rungReqRx l f) s = .next { s with dev := s.dev.begin }) ∧
    (s.dev.lstate l = LS.low → frameIs 0x03 f = true → octet f 4 = 0 ∨ 4 ≤ octet f 4 →
      ∃ t, exec (.rungReqRx l f) s = .next t ∧ t.dev.sends l (fun q => octet q 0 = 0x08 ∧ octet q 4 = 1) ∧ t.dev.lstate l = LS.seek) ∧
    (∀ x, (s.dev.lane l).change = some x → x.asks = true → x.switched = false → x.sentZero = false → frameIs 0x04 f = true → octet f 4 = x.target →
      ∃ t, exec (.rungAckRx l f) s = .next t ∧ (t.dev.lane l).change = some { x with acked := true } ∧ s.dev.keeps t.dev []))

/-- R61, R62, R63, R67: violations count, and 16 or more within 1,024 characters lose comma lock; ABORT and 1 ms without a signal take a lane to SEEK; a signal lost for 1 µs takes SERVICE to RECOVER; an ABORT
of reason 1 in STEP2 leaves the request unanswered, with the exit to LOW. R67: a superframe without a valid marker, received in SERVICE, counts one missed marker; the fourth in a row loses marker lock and takes the lane to RECOVER. -/
def Obligations.LanesFallBack : Prop :=
  (∀ (s : State) (l errors : Nat) (f : Octets), l < 36 → WF.frame f = true → s.dev.lstate l ≠ LS.off →
    (s.dev.lrung l ≤ 1 → WF.commaLockLoss l errors = true →
      ∃ t, exec (.commaLockLoss l errors) s = .next t ∧ (t.dev.lane l).comma = (if 16 ≤ errors then false else (s.dev.lane l).comma) ∧ t.dev.num .LNK_CODE_VIOL l = (s.dev.num .LNK_CODE_VIOL l + errors) % 2 ^ 32 ∧
        s.dev.keeps t.dev [(.LNK_CODE_VIOL, l)]) ∧
    (frameIs 0x08 f = true → octet f 4 ≠ 1 → ∃ t, exec (.abortRx l f) s = .next t ∧ t.dev.lstate l = LS.seek ∧ t.dev.lrung l = 0) ∧
    (frameIs 0x08 f = true → octet f 4 = 1 → s.dev.lstate l = LS.step2 →
      ∃ t, exec (.abortRx l f) s = .next t ∧ t.dev.lstate l = LS.low ∧ (t.dev.lane l).retryWait = true ∧
        t.dev.num .LNK_TRAIN_FAILS l = (s.dev.num .LNK_TRAIN_FAILS l + 1) % 2 ^ 32) ∧
    (bit (s.dev.num .LNK_SLEEP_STATE l) 1 = false → ∃ t, exec (.signalDetectLoss l true) s = .next t ∧ t.dev.lstate l = LS.seek) ∧
    (bit (s.dev.num .LNK_SLEEP_STATE l) 1 = false → s.dev.lstate l = LS.service →
      ∃ t, exec (.signalDetectLoss l false) s = .next t ∧ t.dev.lstate l = LS.recover ∧ t.dev.num .LNK_RECOVERIES l = (s.dev.num .LNK_RECOVERIES l + 1) % 2 ^ 32)) ∧
  (∀ (s : State) (l : Nat) (follows : Bool) (levels : List Nat), l < 36 → WF.levels levels = true → s.dev.lstate l = LS.service →
    (s.dev.lane l).marker = true → (s.dev.lane l).missed = 3 → 
    (superframe (s.dev.lane l).lastP (if s.dev.on .LNK_RX_INVERTED l then levels.map (fun p => 3 - p) else levels)).1 = false →
    ∃ t, exec (.superframeRx l follows levels) s = .next t ∧ t.dev.lstate l = LS.recover ∧ t.dev.num .LNK_RECOVERIES l = (s.dev.num .LNK_RECOVERIES l + 1) % 2 ^ 32)

/-- R69, R70, R71: an EQ frame's request for preset 2 sets the device's transmitter to it and is answered; a step that is not acknowledged is asked again, and the third timeout fails TRAIN1 to
SEEK; without marker lock the preset rotates 1, 2, 3, 1; a receiver that is satisfied sends RX_READY. -/
def Obligations.EqualiserExchange : Prop :=
  ∀ (s : State) (l : Nat) (f : Octets), l < 36 → WF.frame f = true →
    (s.dev.lstate l = LS.train1 → frameIs 0x05 f = true → octet f 4 = 0 → octet f 5 = 2 → (s.dev.lane l).eqStatus = 0 → (s.dev.lane l).ready = false →
      ∃ t, exec (.eqRx l f) s = .next t ∧ t.dev.num .LNK_TX_EQ l = presetEq 2 ∧ t.dev.num .LNK_FAR_TX_EQ l = leAt f 10 4 ∧ (t.dev.lane l).eqStatus = 0x54 ∧
        t.dev.sends l (fun q => octet q 0 = 0x05 ∧ octet q 6 = 0x54)) ∧
    (s.dev.lstate l = LS.train1 → (s.dev.lane l).eqAcked = false → (s.dev.lane l).eqTimeouts < 2 →
      ∃ t, exec (.eqStepTimeout l) s = .next t ∧ (t.dev.lane l).eqTimeouts = (s.dev.lane l).eqTimeouts + 1 ∧ t.dev.sends l (fun q => octet q 0 = 0x05) ∧ s.dev.keeps t.dev []) ∧
    (s.dev.lstate l = LS.train1 → (s.dev.lane l).eqAcked = false → 2 ≤ (s.dev.lane l).eqTimeouts →
      ∃ t, exec (.eqStepTimeout l) s = .next t ∧ t.dev.lstate l = LS.seek) ∧
    (s.dev.lstate l = LS.train2 → (s.dev.lane l).marker = false → (s.dev.lane l).rotations < 3 → 1 ≤ (s.dev.lane l).preset → (s.dev.lane l).preset ≤ 3 →
      let p := (s.dev.lane l).preset % 3 + 1
      ∃ t, exec (.presetRotate l) s = .next t ∧ (t.dev.lane l).preset = p ∧ t.dev.num .LNK_TX_EQ l = presetEq p ∧ s.dev.keeps t.dev [(.LNK_TX_EQ, l)]) ∧
    (∀ snr, snr < 256 → s.dev.lstate l = LS.train1 → (s.dev.lane l).comma = true → (s.dev.lane l).eqAcked = true → (s.dev.lane l).violMark = s.dev.num .LNK_CODE_VIOL l →
      (s.dev.lane l).readyGot < 3 →
      ∃ t, exec (.rxReadySet l snr) s = .next t ∧ (t.dev.lane l).ready = true ∧ t.dev.num .LNK_RX_SNR l = snr ∧ t.dev.sends l (fun q => octet q 0 = 0x05 ∧ octet q 7 = 1))

/-- R72, R74: LNK_TEST starts a test with a TEST REQ; an ACK runs it and clears LNK_TEST_ERR; a NAK or 1 ms of silence ends a PRBS test with LNK_TEST_ERR all ones; a TEST REQ received in
LOW is answered with ACK and runs; a test that expires retrains; LNK_TEST = 0 ends a running test in SEEK; wrong bits of a locked checker count. -/
def Obligations.LaneTests : Prop :=
  ∀ (s : State) (l : Nat) (f : Octets), l < 36 → WF.frame f = true →
    (∀ session, session < 1024 → s.dev.Reaches session → s.dev.heldNow = false → s.dev.lstate l = LS.low → s.dev.lrung l = 1 →
      ∃ t, exec (.lnkTestStart session l 1) s = .next t ∧ t.dev.num .LNK_TEST l = 1 ∧ t.dev.sends l (fun q => octet q 0 = 0x07 ∧ octet q 4 = 1 ∧ octet q 7 = 1) ∧
        s.dev.keeps t.dev [(.LNK_TEST, l)]) ∧
    (∀ session, session < 1024 → s.dev.Reaches session → s.dev.heldNow = false → s.dev.lstate l = LS.test →
      ∃ t, exec (.lnkTestStop session l) s = .next t ∧ t.dev.num .LNK_TEST l = 0 ∧ t.dev.lstate l = LS.seek) ∧
    (∀ x, (s.dev.lane l).test = some x → x.running = false → x.far = false → testFrame 2 f = true →
      ∃ t, exec (.testAckRx l f) s = .next t ∧ t.dev.lstate l = LS.test ∧ t.dev.num .LNK_TEST_ERR l = 0) ∧
    (∀ x c, (s.dev.lane l).test = some x → x.running = false → x.far = false → 1 ≤ x.code → x.code ≤ 4 →
      c = Instr.testReqTimeout l ∨ (testFrame 3 f = true ∧ c = Instr.testNakRx l f) →
      ∃ t, exec c s = .next t ∧ t.dev.num .LNK_TEST l = 0 ∧ t.dev.num .LNK_TEST_ERR l = 0xFFFFFFFF ∧ (t.dev.lane l).test = none ∧
        s.dev.keeps t.dev [(.LNK_TEST, l), (.LNK_TEST_ERR, l)]) ∧
    (s.dev.lstate l = LS.low → s.dev.lrung l = 1 → (s.dev.lane l).change = none → testFrame 1 f = true → octet f 4 = 2 →
      ∃ t, exec (.testReqRx l f) s = .next t ∧ t.dev.lstate l = LS.test ∧ t.dev.sends l (fun q => octet q 0 = 0x07 ∧ octet q 7 = 2)) ∧
    (∀ x, (s.dev.lane l).test = some x → s.dev.lstate l = LS.test → s.dev.lrung l = 1 → x.saved < 2 ^ 32 →
      ∃ t, exec (.testExpire l) s = .next t ∧ t.dev.lstate l = LS.train1 ∧ t.dev.num .LNK_TX_EQ l = x.saved ∧ t.dev.num .LNK_TEST l = 0) ∧
    (∀ x b, (s.dev.lane l).test = some x → x.running = true → x.code = 1 → s.dev.lrung l = 1 → (s.dev.lane l).checker.locked = true → (s.dev.lane l).checker.recent = [] → b < 2 →
      (if s.dev.on .LNK_RX_INVERTED l then 1 - b else b) ≠ prbsNext 1 (s.dev.lane l).checker.reg →
      ∃ t, exec (.prbsCheckerLock l [b]) s = .next t ∧ t.dev.num .LNK_TEST_ERR l = (s.dev.num .LNK_TEST_ERR l + 1) % 2 ^ 32 ∧ s.dev.keeps t.dev [(.LNK_TEST_ERR, l)])

/-- R75, R76, R77: a SLEEP REQ for the device's transmitter is answered with ACK, and the transmitter begins to fall asleep: 20 µs of idles or two superframes of idle fill come first;
during a rung change or a test it is answered with NAK, and one for the far transmitter with ACK where R77 lets it sleep; an ACK of the device's own request puts its transmitter to
sleep, a NAK ends the request; SLEEP NOW is the far transmitter's, which rung 0 does not have; WAKE wakes the device's, with idle fill of 64 µs or 12 superframes before packets; an unanswered request is repeated and lapses after eight repeats; LNK_TX_SLEEP_AUTO begins
sleep; a packet wakes; the return of the signal waits for lock, and 2 ms without it is RELOCK at rung 1 and RECOVER above; behind SLEEP NOW the transmitter is asleep. -/
def Obligations.LanesSleepAndWake : Prop :=
  ∀ (s : State) (l : Nat) (f : Octets), l < 36 → WF.frame f = true →
    let sleep := s.dev.num .LNK_SLEEP_STATE l
    let idles := if s.dev.lrung l ≤ 1 then 20 else 2
    let fill := if s.dev.lrung l ≤ 1 then 64 else 12
    (s.dev.lstate l ≠ LS.off → s.dev.lrung l ≠ 0 → s.dev.laneBusy l = false → s.dev.busyTx l = false → sleepFrame 1 f = true → octet f 5 = 1 →
      ∃ t, exec (.sleepReqRx l f) s = .next t ∧ (t.dev.lane l).tx.nod = some idles ∧ t.dev.sends l (fun q => octet q 0 = 0x06 ∧ octet q 4 = 2 ∧ octet q 5 = 1) ∧
        s.dev.keeps t.dev []) ∧
    (s.dev.lstate l ≠ LS.off → s.dev.lrung l ≠ 0 → s.dev.laneBusy l = true → (s.dev.lane l).sleepReq = none → sleepFrame 1 f = true → octet f 5 ≤ 1 →
      ∃ t, exec (.sleepReqRx l f) s = .next t ∧ t.dev.sends l (fun q => octet q 0 = 0x06 ∧ octet q 4 = 3 ∧ octet q 5 = octet f 5) ∧
        (t.dev.lane l).tx.nod = (s.dev.lane l).tx.nod ∧ s.dev.keeps t.dev []) ∧
    (s.dev.lstate l ≠ LS.off → s.dev.lrung l ≠ 0 → s.dev.laneBusy l = false → (s.dev.lane l).sleepReq = none → s.dev.mayFarSleep l = true → sleepFrame 1 f = true → octet f 5 = 0 →
      ∃ t, exec (.sleepReqRx l f) s = .next t ∧ t.dev.sends l (fun q => octet q 0 = 0x06 ∧ octet q 4 = 2 ∧ octet q 5 = 0) ∧ s.dev.keeps t.dev []) ∧
    (∀ dir n, (s.dev.lane l).sleepReq = some (dir, n) → sleepFrame 2 f = true →
      ∃ t, exec (.sleepAckRx l f) s = .next t ∧ (t.dev.lane l).sleepReq = none ∧ s.dev.keeps t.dev [] ∧
        (dir = 0 → (t.dev.lane l).tx.nod = some idles) ∧ (dir ≠ 0 → (t.dev.lane l).sleepAcked = true)) ∧
    (sleepFrame 3 f = true → ∃ t, exec (.sleepNakRx l f) s = .next t ∧ (t.dev.lane l).sleepReq = none ∧ s.dev.keeps t.dev []) ∧
    (s.dev.lstate l ≠ LS.off → sleepFrame 4 f = true → sleep < 4 →
      ∃ t, exec (.sleepNowRx l f) s = .next t ∧ t.dev.num .LNK_SLEEP_STATE l = (if s.dev.lrung l = 0 then sleep else sleep % 2 + 2) ∧
        s.dev.keeps t.dev [(.LNK_SLEEP_STATE, l)]) ∧
    (∀ c, (c = Instr.laneTxWake l ∨ (c = Instr.sleepWakeRx l f ∧ sleepFrame 5 f = true ∧ octet f 5 = 1)) → (sleep = 1 ∨ sleep = 3) →
      ∃ t, exec c s = .next t ∧ t.dev.num .LNK_SLEEP_STATE l = sleep - 1 ∧ (t.dev.lane l).tx.fill = fill ∧ (t.dev.lane l).tx.lastP = 0 ∧
        Out.lane l "wake" ∈ t.dev.outs ∧ s.dev.keeps t.dev [(.LNK_SLEEP_STATE, l)]) ∧
    (∀ dir n, (s.dev.lane l).sleepReq = some (dir, n) →
      ∃ t, exec (.sleepReqRepeat l) s = .next t ∧ (t.dev.lane l).sleepReq = (if 8 ≤ n then none else some (dir, n + 1)) ∧ s.dev.keeps t.dev [] ∧
        (n < 8 → dir < 256 → t.dev.sends l (fun q => octet q 0 = 0x06 ∧ octet q 4 = 1 ∧ octet q 5 = dir))) ∧
    (l < 32 → s.dev.on .LNK_TX_SLEEP_AUTO l = true → s.dev.maySleep l = true → sleep = 0 →
      ∃ t, exec (.laneAutoSleep l) s = .next t ∧ (t.dev.lane l).tx.nod = some idles ∧ s.dev.keeps t.dev []) ∧
    (sleep = 2 → ∃ t, exec (.signalDetectReturn l) s = .next t ∧ t.dev.num .LNK_SLEEP_STATE l = 0 ∧ (t.dev.lane l).wakeWait = true ∧ s.dev.keeps t.dev [(.LNK_SLEEP_STATE, l)]) ∧
    ((s.dev.lane l).wakeWait = true →
      ∃ t, exec (.wakeLockTimeout l) s = .next t ∧ t.dev.lstate l = (if s.dev.lrung l ≤ 1 then LS.relock else LS.recover) ∧ (t.dev.lane l).wakeWait = false) ∧
    (s.dev.lstate l ≠ LS.off → sleep = 0 → s.dev.lrung l ≤ 1 → (s.dev.lane l).tx.rung = s.dev.lrung l → (s.dev.lane l).tx.hush = 0 → (s.dev.lane l).tx.closing = true →
      (s.dev.lane l).tx.drained = true → (s.dev.lane l).tx.chars = [] → (s.dev.lane l).tx.pattern = false →
      (s.dev.wireTick l).num .LNK_SLEEP_STATE l = 1 ∧ (s.dev.wireTick l).outs = s.dev.outs ++ [.lane l "sleep"])

/-- R79, R83 to R86: a status packet of a camera (DT 0x30 on VC1), framed as R79 lays it out with the next count of its VC and within the credits, is released in order and counts in CH_PKT_RX;
a header that fails its check counts in CH_PKT_HDR and delivers nothing. R81, R86, R87, R88: a count declared lost counts in CH_PKT_LOST and the next count is expected; a credit update raises the limit it names; a test packet gives its credits back; a credit
update of the device goes out on the lowest usable lane. -/
def Obligations.PacketsAndCredits : Prop :=
  ((∀ (s : State) (l k t0 : Nat) (b : Octets), l < 32 → k < 16 → s.dev.lrung l = 1 → s.dev.linkOfLane l = some k → (s.dev.link k).usable.any (fun e => e.1 == l) = true →
    (s.dev.rxOf k 1).held = [] → (s.dev.rxOf k 1).expect < 2 ^ 32 → (s.dev.rxOf k 1).cr = [{ used := 0, limit := 256 }, {}] →
    b.length = 16 → (∀ x ∈ b, x < 256) → t0 < 2 ^ 64 →
    ∃ t q, exec (.packetRx l (some (Device.wirePacket 1 0x30 0x30 (s.dev.rxOf k 1).expect b, t0))) s = .next t ∧
      (t.dev.rxOf k 1).released = (s.dev.rxOf k 1).released ++ [q] ∧ q.dt = 0x30 ∧ q.first = true ∧ q.last = true ∧ q.payload = some b ∧ q.time = t0 ∧
      (t.dev.rxOf k 1).expect = ((s.dev.rxOf k 1).expect + 1) % 2 ^ 32 ∧ t.dev.num .CH_PKT_RX k = (s.dev.num .CH_PKT_RX k + 1) % 2 ^ 32 ∧
      s.dev.keeps t.dev [(.CH_PKT_RX, k)]) ∧
  (∀ (s : State) (l k t0 : Nat) (p : Octets), WF.packetRx l (some (p, t0)) = true → k < 16 → s.dev.lrung l = 1 → s.dev.linkOfLane l = some k →
    (s.dev.link k).usable.any (fun e => e.1 == l) = true → octet p 0 ≠ 0x5C →
    ∃ t, exec (.packetRx l (some (p, t0))) s = .next t ∧ t.dev.num .CH_PKT_HDR k = (s.dev.num .CH_PKT_HDR k + 1) % 2 ^ 32 ∧ s.dev.keeps t.dev [(.CH_PKT_HDR, k)] ∧
      t.dev.links = s.dev.links)) ∧
  (∀ (s : State) (k : Nat), k < 16 →
    (∀ vc q, 1 ≤ vc → vc < 4 → (s.dev.rxOf k vc).held = [((s.dev.rxOf k vc).expect + 5, q)] → (s.dev.rxOf k vc).expect < 2 ^ 31 →
      ∃ t, exec (.packetLossDeclare k vc) s = .next t ∧ (t.dev.rxOf k vc).expect = (s.dev.rxOf k vc).expect + 1 ∧
        t.dev.num .CH_PKT_LOST k = (s.dev.num .CH_PKT_LOST k + 1) % 2 ^ 32 ∧ s.dev.keeps t.dev [(.CH_PKT_LOST, k)]) ∧
    (∀ p b a c, (s.dev.rxOf k 2).released = [p] → p.dt = 0x3D → p.payload = some b → b.length = 16 → (s.dev.link k).credited = true → (s.dev.txOf k 0).cr = [a, c] →
      (∀ vc, vc < 4 → (s.dev.txOf k vc).waiting = []) → 0 < serialDiff 32 (leAt b 0 4) a.limit →
      ∃ t, exec (.creditUpdateRx k) s = .next t ∧ (t.dev.txOf k 0).cr = [{ a with limit := leAt b 0 4 }, c] ∧ s.dev.keeps t.dev []) ∧
    (∀ p a c, (s.dev.rxOf k 3).released = [p] → p.dt = 0x3F → p.cls = 0 → (s.dev.rxOf k 3).cr = [a, c] →
      ∃ t, exec (.testPacketRx k) s = .next t ∧ (t.dev.rxOf k 3).released = [] ∧ (t.dev.rxOf k 3).cr = [{ a with freed := (a.freed + p.cost) % 2 ^ 32 }, c] ∧ s.dev.keeps t.dev []) ∧
    (∀ l r us, (s.dev.link k).up = true → (s.dev.link k).usable = (l, r) :: us →
      ∃ t, exec (.creditUpdateSend k) s = .next t ∧ t.dev.outs = [.packet l (Device.wirePacket 2 0 0x3D (s.dev.txOf k 2).count (s.dev.creditPayload k))] ∧
        (t.dev.txOf k 2).count = ((s.dev.txOf k 2).count + 1) % 2 ^ 32 ∧ s.dev.keeps t.dev [(.CH_CREDIT_VC0, k)]))

/-- R89, R90, R93: a line of one good segment, the first since the link formed, joins the ingest buffer with its generation, number and samples, and nothing is counted as damaged. R92, R94, R117: the first dark block of a mono camera sets the black level from its mean; a status packet gives CH_CAM_DROPS, a temperature packet the camera's readings. -/
def Obligations.CameraLinesAndReports : Prop :=
  (∀ (s : State) (n : Nat) (p : Packet) (b : Octets), n < 16 →
    (s.dev.rxOf n 0).released = [p] → p.dt = 0x22 → p.first = true → p.last = true → p.bin = false → p.payload = some b → (s.dev.link n).asm = none →
    s.dev.num .CH_LINK_STATE n = 3 → ((s.dev.link n).hist.getD 0 {}).lastLine = none → b.length = 16 + sampleOctets (s.dev.chPixels n) 1 14 →
    (s.dev.link n).sent.any (fun e => e.1 == leAt b 0 4 && e.2.1 == 0x22) = true →
    ∃ t x, exec (.lineSegmentRx n) s = .next t ∧ (t.dev.link n).ingest = (s.dev.link n).ingest ++ [x] ∧ x.gen = leAt b 0 4 ∧ x.line = leAt b 4 4 ∧ x.blind = false ∧
      x.samples = Device.unpackSamples 14 (s.dev.chPixels n) (b.drop 16) ∧ ((t.dev.link n).hist.getD 0 {}).lastLine = some (leAt b 4 4) ∧ s.dev.keeps t.dev [] ∧
      t.dev.dram = s.dev.dram) ∧
  (∀ (s : State) (n : Nat) (p : Packet) (b : Octets), n < 16 → p.payload = some b →
    ((s.dev.rxOf n 0).released = [p] → p.dt = 0x2F → p.first = true → p.last = true → (s.dev.link n).lineDt = 0x22 → 1 ≤ s.dev.chDark n →
      b.length = 16 + sampleOctets (s.dev.chDark n) 1 14 → (s.dev.link n).black = [none, none, none] →
      let sum := (Device.unpackSamples 14 (s.dev.chDark n) (b.drop 16)).foldl (· + ·) 0
      ∃ t, exec (.darkBlockRx n) s = .next t ∧ (t.dev.link n).black = [some ((sum * 1024 + s.dev.chDark n / 2) / s.dev.chDark n, leAt b 0 4), none, none] ∧ s.dev.keeps t.dev []) ∧
    ((s.dev.rxOf n 1).released = [p] → p.dt = 0x30 →
      ∃ t, exec (.cameraStatusRx n) s = .next t ∧ t.dev.num .CH_CAM_DROPS n = leAt b 4 4 % 2 ^ 32 ∧ (t.dev.link n).camFlags = leAt b 0 4 ∧ (t.dev.link n).camLines = leAt b 8 4 ∧
        s.dev.keeps t.dev [(.CH_CAM_DROPS, n)]) ∧
    ((s.dev.rxOf n 1).released = [p] → p.dt = 0x31 → b.length = 4 →
      ∃ t, exec (.temperatureRx n) s = .next t ∧ (t.dev.link n).temps.length = 2 ∧ (t.dev.rxOf n 1).released = [] ∧ s.dev.keeps t.dev []))

/-- R95, R97, R100: a control request without answer goes again with the same TAG and counts in CH_CTRL_RETRY, and after the third repeat it counts as a timeout; a BUSY answer waits, and
then the request goes with a new TAG; a camera whose first credits do not come counts as a timeout. R97, R98, R100, R104: the answers of a camera to the request outstanding. GET_INFO fills CH_CAM_INFO, SETTINGS is acknowledged, ACTIVATE and MODE end their requests, an ACTIVATE answered with status 0x04 sends SETTINGS for its generation again with the values it was sent with, an acknowledged MODE FULL
clears the stride, and register accesses end DONE with the data read, or REFUSED with the camera's code. R99, R104: TIME_ECHO is asked for every 1 ms once bring-up is past ACTIVATE, and T1 in it is the device's time as it leaves; CH_CREG_GO asks the camera for a register access, or ends at once as TIMEOUT on a channel
whose link is down. -/
def Obligations.CameraControl : Prop :=
  (∀ (s : State) (n : Nat) (r : Request), n < 16 →
    ((s.dev.link n).out = some r → r.waitBusy = false → r.retries < 3 →
      ∃ t, exec (.controlRetransmit n) s = .next t ∧ t.dev.num .CH_CTRL_RETRY n = (s.dev.num .CH_CTRL_RETRY n + 1) % 2 ^ 32 ∧
        (t.dev.link n).out = some { r with retries := r.retries + 1 } ∧ s.dev.keeps t.dev [(.CH_CTRL_RETRY, n)]) ∧
    ((s.dev.link n).out = some r → r.waitBusy = false → 3 ≤ r.retries → r.op = 0x06 → (s.dev.link n).queue = [] →
      ∃ t, exec (.controlRetransmit n) s = .next t ∧ t.dev.num .CH_CTRL_TIMEOUT n = (s.dev.num .CH_CTRL_TIMEOUT n + 1) % 2 ^ 32 ∧ t.dev.num .CH_CREG_STATUS n = 3 ∧
        (t.dev.link n).out = none) ∧
    ((s.dev.link n).out = some r → r.waitBusy = true →
      ∃ t, exec (.controlBusyRetry n) s = .next t ∧ (t.dev.link n).out = some { r with tag := ((s.dev.link n).tag + 1) % 65536, waitBusy := false, retries := 0 } ∧ s.dev.keeps t.dev []) ∧
    ((s.dev.link n).up = true → (s.dev.link n).credited = false →
      ∃ t, exec (.firstCreditTimeout n) s = .next t ∧ t.dev.num .CH_CTRL_TIMEOUT n = (s.dev.num .CH_CTRL_TIMEOUT n + 1) % 2 ^ 32)) ∧
  (∀ (s : State) (n : Nat) (r : Request) (p : Packet) (b : Octets) (op : Nat), n < 16 →
    (s.dev.rxOf n 2).released = [p] → p.dt = 0x38 → p.payload = some b → octet b 2 = op → (s.dev.link n).out = some r → r.op = op → r.tag = leAt b 0 2 → r.waitBusy = false →
    (s.dev.link n).queue = [] →
    (op = 0x01 → octet b 3 = 0 → ∃ t, exec (.getInfoDone n) s = .next t ∧ t.dev.oct .CH_CAM_INFO n = slice b 4 21 ∧ t.dev.oct .CH_CAM_ID n = slice (s.dev.link n).refIdent 0 18) ∧
    (op = 0x02 → octet b 3 = 0 → (s.dev.link n).activateDue.contains (leAt r.args 0 4) = false →
      ∃ t, exec (.settingsDone n) s = .next t ∧ (t.dev.link n).ackedGen = some (leAt r.args 0 4) ∧ (t.dev.link n).out = none ∧ s.dev.keeps t.dev []) ∧
    (op = 0x03 → octet b 3 = 0 → (s.dev.link n).step = 6 → ∃ t, exec (.activateDone n) s = .next t ∧ (t.dev.link n).out = none ∧ s.dev.keeps t.dev []) ∧
    (∀ g a, op = 0x03 → octet b 3 = 4 → leAt r.args 0 4 = g → (s.dev.link n).sentArgs.find? (fun e => e.1 == g) = some (g, a) →
      ∃ t q, exec (.activateDone n) s = .next t ∧ (t.dev.link n).out = some q ∧ q.op = 0x02 ∧ q.args = a ∧ g ∈ (t.dev.link n).activateDue ∧ s.dev.keeps t.dev []) ∧
    (op = 0x04 → octet b 3 = 0 → octet r.args 0 = 2 →
      ∃ t, exec (.modeDone n) s = .next t ∧ (t.dev.link n).modeAcked = 2 ∧ t.dev.num .CH_PREVIEW_STRIDE n = 0 ∧ (t.dev.link n).out = none ∧
        s.dev.keeps t.dev [(.CH_PREVIEW_STRIDE, n), (.CH_LINK_STATE, n)]) ∧
    (op = 0x05 → octet b 3 = 0 → (s.dev.link n).echoes = [] →
      let e := (Device.echoOf (s.dev.link n).echoT1 (leAt b 4 6) (leAt b 10 6) (p.time % 2 ^ 48)).1
      ∃ t, exec (.timeEchoDone n) s = .next t ∧ (t.dev.link n).echoes = [e] ∧ t.dev.num .CH_TIME_OFFSET n = e.offset % 2 ^ 48 ∧ (t.dev.link n).out = none) ∧
    (op = 0x06 → octet b 3 = 0 →
      ∃ t, exec (.regReadDone n) s = .next t ∧ t.dev.oct .CH_CREG_DATA n = slice b 4 (octet r.args 4) ∧ t.dev.num .CH_CREG_STATUS n = 2 ∧ (t.dev.link n).out = none ∧
        s.dev.keeps t.dev [(.CH_CREG_DATA, n), (.CH_CREG_STATUS, n)]) ∧
    (op = 0x07 → octet b 3 = 0 → ∃ t, exec (.regWriteDone n) s = .next t ∧ t.dev.num .CH_CREG_STATUS n = 2 ∧ (t.dev.link n).out = none ∧ s.dev.keeps t.dev [(.CH_CREG_STATUS, n)]) ∧
    (op = 0x07 → octet b 3 = 5 → ∃ t, exec (.regWriteDone n) s = .next t ∧ t.dev.num .CH_CREG_STATUS n = 4 ∧ t.dev.num .CH_CREG_CAMCODE n = 5 ∧ (t.dev.link n).out = none)) ∧
  (∀ (s : State) (n : Nat), n < 16 →
    ((s.dev.link n).up = true → 5 ≤ (s.dev.link n).step → (s.dev.link n).out = none → (s.dev.link n).queue = [] →
      ∃ t r, exec (.timeEchoSend n) s = .next t ∧ (t.dev.link n).out = some r ∧ r.op = 0x05 ∧ r.tag = ((s.dev.link n).tag + 1) % 65536 ∧ s.dev.keeps t.dev [] ∧
        (∀ l rung us, (s.dev.link n).usable = (l, rung) :: us → (∀ vc, vc < 4 → (s.dev.txOf n vc).waiting = []) →
          s.dev.mayStart n 2 { dt := 0x39, ctl := 0, cls := 0, payload := le 2 r.tag ++ [0x05, 0] ++ le 6 0 } = true →
          (t.dev.link n).echoT1 = s.dev.now % 2 ^ 48 ∧
            t.dev.outs = [.packet l (Device.wirePacket 2 0 0x39 (s.dev.txOf n 2).count (le 2 r.tag ++ [0x05, 0] ++ le 6 (s.dev.now % 2 ^ 48)))])) ∧
    (∀ session v c, session < 1024 → s.dev.ident.hasChan n = true → s.dev.Reaches session → s.dev.heldNow = false → s.dev.num .CH_CREG_STATUS n ≠ 1 →
      (c, v) ∈ [(Instr.cregRead session n, 0x06), (.cregWrite session n, 0x07)] →
      ((s.dev.link n).up = false → ∃ t, exec c s = .next t ∧ t.dev.num .CH_CREG_STATUS n = 3 ∧ s.dev.keeps t.dev [(.CH_CREG_STATUS, n)]) ∧
      ((s.dev.link n).up = true → (s.dev.link n).out = none →
        ∃ t r, exec c s = .next t ∧ t.dev.num .CH_CREG_STATUS n = 1 ∧ (t.dev.link n).out = some r ∧ r.op = v ∧
          r.args.take 5 = le 4 (s.dev.num .CH_CREG_ADDR n) ++ [s.dev.num .CH_CREG_LEN n] ∧ s.dev.keeps t.dev [(.CH_CREG_STATUS, n)])))

/-- R47, R109, R124: a line of a channel that is not ON is discarded: it leaves the ingest buffer and CH_DISC_OFF counts. A line of an ON channel goes through the front end, the resampler and
the stitcher; a line of a channel whose partner is to take their slice first waits. R109, R112, R123: when the last sample of a draining channel has left the compare its slices are free and the channel is OFF; a change of a camera set is over 10 ms after its hand-over at
the latest; slices released by a hand-over are free when they have drained. -/
def Obligations.FrontEndLines : Prop :=
  (∀ (s : State) (n : Nat) (r : RawLine) (rest : List RawLine), n < 16 → (s.dev.link n).ingest = r :: rest →
    s.dev.pendOf (.channel n) = none →
    (s.dev.num .CH_SLICE_PARTNER n = 0xFF → s.dev.num .CH_STATE n ≠ 1 →
      ∃ t, exec (.frontEndLine n) s = .next t ∧ (t.dev.link n).ingest = rest ∧ t.dev.num .CH_DISC_OFF n = (s.dev.num .CH_DISC_OFF n + 1) % 2 ^ 32 ∧
        s.dev.keeps t.dev [(.CH_DISC_OFF, n)] ∧ t.dev.dram = s.dev.dram ∧ t.dev.staged = s.dev.staged) ∧
    (s.dev.num .CH_SLICE_PARTNER n = 0xFF → s.dev.num .CH_STATE n = 1 →
      exec (.frontEndLine n) s = .next { s with dev :=
        (((s.dev.begin.modLink n (fun x => { x with ingest := rest })).freeCredits n 0 0 r.credits).passLine n r) }) ∧
    (∀ p, s.dev.num .CH_SLICE_PARTNER n = p → p < 16 → (s.dev.link p).ingest ≠ [] → getKeyed Prod.fst (Nat.min n p) s.dev.sliceLast = some (Nat.min n p, n) →
      exec (.frontEndLine n) s = .next { s with dev := s.dev.begin })) ∧
  (∀ (s : State) (n : Nat), n < 16 →
    (s.dev.num .CH_STATE n = 2 → (s.dev.front n).enableHeld = false →
      ∃ t, exec (.channelDrainDone n) s = .next t ∧ t.dev.num .CH_STATE n = 0 ∧ (t.dev.front n).drainSlices = 0 ∧ t.dev.staged = s.dev.staged ∧ t.dev.dram = s.dev.dram) ∧
    (s.dev.num .CH_STATE n ≠ 2 → exec (.channelDrainDone n) s = .next { s with dev := s.dev.begin }) ∧
    (∃ t, exec (.camsetBusyTimeout n) s = .next t ∧ t.dev.num .CH_CAMSET_BUSY n = 0 ∧ s.dev.keeps t.dev [(.CH_CAMSET_BUSY, n)] ∧ t.dev.staged = s.dev.staged ∧
      t.dev.dram = s.dev.dram) ∧
    (∃ t, exec (.sliceDrainDone n) s = .next t ∧ (t.dev.front n).drainSlices = 0 ∧ (∀ m, m ≠ n → t.dev.front m = s.dev.front m) ∧ s.dev.keeps t.dev [] ∧
      t.dev.staged = s.dev.staged))

/-- R168, R170: an accepted edge of DEC_SYNC counts and, with POS_DECSYNC_EN, makes the position at the edge the new grid origin; the other edge and a member of a fold leave everything. POS_GRID_SET captures the position written and makes it the origin: at once with every channel disabled, pending on the channels that are enabled. -/
def Obligations.GridOrigin : Prop :=
  (∀ (s : State) (t0 : Nat), t0 < 2 ^ 64 → s.dev.bellwether = true → s.dev.inFold = false → s.dev.num .POS_DECSYNC_EDGE 0 = 0 → s.dev.num .STI_MARK_SRC 0 ≠ 9 → s.dev.wiredLines = [] →
    s.dev.num .POS_DECSYNC_EN 0 = 1 → (∀ n, n < 16 → s.dev.on .CH_ENABLE n = false) →
    ∃ t, exec (.decSyncEdge true t0) s = .next t ∧ t.dev.num .POS_DECSYNC_COUNT 0 = (s.dev.num .POS_DECSYNC_COUNT 0 + 1) % 2 ^ 32 ∧
      t.dev.num .POS_DECSYNC_POS 0 = s.dev.reading t0 ∧ t.dev.num .POS_GRID_ORIGIN 0 = s.dev.reading t0 ∧
      s.dev.keeps t.dev [(.POS_DECSYNC_COUNT, 0), (.POS_DECSYNC_POS, 0), (.POS_GRID_ORIGIN, 0)]) ∧
  (∀ (s : State) (t0 : Nat), t0 < 2 ^ 64 → s.dev.num .POS_DECSYNC_EDGE 0 = 0 → exec (.decSyncEdge false t0) s = .next { s with dev := s.dev.begin }) ∧
  (∀ (s : State) (t0 : Nat), t0 < 2 ^ 64 → s.dev.bellwether = false → exec (.decSyncEdge true t0) s = .next { s with dev := s.dev.begin }) ∧
  (∀ (s : State) (session g : Nat), session < 1024 → session ≠ 0 → g < 2 ^ 64 → s.dev.Reaches session → s.dev.heldNow = false → s.dev.bellwether = true →
    s.dev.inFold = false → s.dev.wiredLines = [] →
    ((∀ n, n < 16 → s.dev.on .CH_ENABLE n = false) →
      ∃ t, exec (.posGridSet session g) s = .next t ∧ t.dev.num .POS_GRID_ORIGIN 0 = g ∧ t.dev.gridPend = none ∧ t.dev.num .POS_DECSYNC_POS 0 = g ∧
        s.dev.keeps t.dev [(.POS_GRID_ORIGIN, 0), (.POS_DECSYNC_POS, 0)] ∧
        t.dev.outs = [.result 0] ∧ t.dev.jrn.head = (s.dev.jrn.head + 1) % 2 ^ 32) ∧
    (∀ n, n < 16 → s.dev.on .CH_ENABLE n = true →
      ∃ t, exec (.posGridSet session g) s = .next t ∧ t.dev.gridPend = some (toSigned 64 g) ∧ (t.dev.rsOf n).pending = some (toSigned 64 g) ∧ s.dev.keeps t.dev [(.POS_DECSYNC_POS, 0)]))

/-- R129, R131, R132, R135, R137: accepted levels of the active source. A legal transition moves the counter by the source's step with or against its direction, stamps it, counts in
POS_ENC_RAW and ends a stop; an illegal one counts in POS_ERR and leaves the counter, and the fourth in a row fails the source. R141, R142: a scheduled count joins the counts that wait for the pins of its output; the oldest count waiting reaches the pins and counts in POS_EMU_OUT. -/
def Obligations.EncodersAndTheirEmulation : Prop :=
  (∀ (s : State) (src a b t0 : Nat), WF.positionEdge src b t0 = true → s.dev.num .POS_QUALITY 0 ≠ 0 → (s.dev.source src).code = some a →
    s.dev.pos.active = some src →
    (∀ f, transition src a b = .legal f →
      let fwd := f != s.dev.on .POS_ENC_INVERT src
      let p := s.dev.num .POS_POSITION 0
      let step := s.dev.num .POS_ENC_STEP src
      ∃ t, exec (.positionEdge src b t0) s = .next t ∧ t.dev.num .POS_POSITION 0 = (if fwd then (p + step) % 2 ^ 64 else ofSigned 64 ((p : Int) - step)) ∧
        t.dev.num .POS_TIME 0 = t0 ∧ t.dev.num .POS_DIR 0 = (if fwd then 0 else if s.dev.num .POS_DIR 0 = 0 then 1 else s.dev.num .POS_DIR 0) ∧ t.dev.num .POS_STOPPED 0 = 0 ∧
        t.dev.num .POS_ENC_RAW src = ofSigned 32 ((s.dev.num .POS_ENC_RAW src : Int) + if fwd then 1 else -1) ∧ (t.dev.source src).code = some b ∧
        s.dev.keepsBeside t.dev ([(.POS_POSITION, 0), (.POS_TIME, 0), (.POS_DIR, 0), (.POS_DIR_CHANGES, 0), (.POS_STOPPED, 0), (.POS_ENC_RAW, src), (.POS_ENC_STATE, src)] ++
          (List.range 4).flatMap (fun e => [(.POS_EMU_BACKLOG, e), (.POS_EMU_DROPS, e)])) ∧ t.dev.dram = s.dev.dram ∧ t.dev.staged = s.dev.staged) ∧
    (transition src a b = .illegal → (s.dev.source src).run < 3 → s.dev.num .POS_ENC_STATE src ≠ 2 →
      ∃ t, exec (.positionEdge src b t0) s = .next t ∧ t.dev.num .POS_ERR src = (s.dev.num .POS_ERR src + 1) % 2 ^ 32 ∧ t.dev.num .POS_ENC_STATE src = 1 ∧
        (t.dev.source src).run = (s.dev.source src).run + 1 ∧ s.dev.keepsBeside t.dev [(.POS_ERR, src), (.POS_ENC_STATE, src)]) ∧
    (transition src a b = .illegal → (s.dev.source src).run = 3 → s.dev.num .POS_ENC_STATE src ≠ 2 → s.dev.num .POS_SRC_BACKUP 0 = 0xFF →
      ∃ t, exec (.positionEdge src b t0) s = .next t ∧ t.dev.num .POS_ERR src = (s.dev.num .POS_ERR src + 1) % 2 ^ 32 ∧ t.dev.num .POS_ENC_STATE src = 2 ∧
        t.dev.num .POS_QUALITY 0 = 3 ∧ t.dev.pos.active = none ∧ s.dev.keepsBeside t.dev [(.POS_ERR, src), (.POS_ENC_STATE, src), (.POS_QUALITY, 0)])) ∧
  (∀ (s : State) (e : Nat), e < 4 →
    (∀ ts, (s.dev.emu e).sched = some ts → (s.dev.emu e).backlog.length < 65535 →
      ∃ t, exec (.emuScheduledEmit e) s = .next t ∧ (t.dev.emu e).backlog = (s.dev.emu e).backlog ++ [(true, ts)] ∧ (t.dev.emu e).sched = none ∧
        (t.dev.emu e).a = (s.dev.emu e).a - s.dev.num .POS_EMU_M e ∧ t.dev.num .POS_EMU_BACKLOG e = (s.dev.emu e).backlog.length + 1 ∧
        s.dev.keeps t.dev [(.POS_EMU_BACKLOG, e)]) ∧
    (∀ f ts rest, (s.dev.emu e).backlog = (f, ts) :: rest →
      ∃ t, exec (.emuPinEmit e) s = .next t ∧ (t.dev.emu e).backlog = rest ∧ t.dev.num .POS_EMU_OUT e = (s.dev.num .POS_EMU_OUT e + 1) % 2 ^ 32 ∧
        s.dev.keepsBeside t.dev [(.POS_EMU_BACKLOG, e), (.POS_EMU_OUT, e)] ∧
        (s.dev.num .POS_EMU_ENABLE e = 1 → ∃ z, Out.emu e f z ∈ t.dev.outs)))

/-- R132 to R134, R138, R139: a broken pair fails its source, and the backup takes over; POS_REARM makes a FAILED source OK; coasting ends with the counter held and the speed 0; without
counts the web is stopped, but while the interface coasts its speed is held; an index pulse records its position and time. -/
def Obligations.PositionSourcesFail : Prop :=
  ∀ (s : State),
    (∀ src b, src < 2 → b < 3 → b ≠ src → s.dev.num .POS_QUALITY 0 ≠ 0 → s.dev.num .POS_ENC_STATE src ≠ 2 → s.dev.pos.active = some src → s.dev.num .POS_SRC_BACKUP 0 = b →
      s.dev.num .POS_ENC_STATE b ≠ 2 →
      ∃ t, exec (.encFailsafeDetect src) s = .next t ∧ t.dev.num .POS_ENC_STATE src = 2 ∧ t.dev.pos.active = some b ∧ t.dev.num .POS_QUALITY 0 = 2 ∧
        t.dev.num .POS_FAILOVERS 0 = (s.dev.num .POS_FAILOVERS 0 + 1) % 2 ^ 32 ∧ s.dev.keepsBeside t.dev [(.POS_ENC_STATE, src), (.POS_QUALITY, 0), (.POS_FAILOVERS, 0)]) ∧
    (∀ session src, session < 1024 → src < 3 → s.dev.Reaches session → s.dev.heldNow = false → s.dev.num .POS_ENC_STATE src = 2 →
      ∃ t, exec (.posRearm session src) s = .next t ∧ t.dev.num .POS_ENC_STATE src = 0 ∧ (t.dev.source src).run = 0 ∧ s.dev.keeps t.dev [(.POS_ENC_STATE, src)] ∧
        t.dev.outs = [.result 0]) ∧
    (s.dev.num .POS_QUALITY 0 = 3 →
      ∃ t, exec .coastEnd s = .next t ∧ t.dev.num .POS_QUALITY 0 = 4 ∧ t.dev.pos.vNum = 0 ∧
        t.dev.num .POS_POSITION 0 = s.dev.posAt (s.dev.pos.coastT + 1000000 * s.dev.num .POS_COAST_MS 0) % 2 ^ 64 ∧
        s.dev.keepsBeside t.dev [(.POS_QUALITY, 0), (.POS_POSITION, 0), (.POS_TIME, 0)]) ∧
    (s.dev.num .POS_QUALITY 0 = 3 → exec .speedStop s = .next { s with dev := s.dev.begin }) ∧
    (s.dev.num .POS_STOPPED 0 = 0 → s.dev.num .POS_QUALITY 0 ≠ 3 →
      ∃ t, exec .speedStop s = .next t ∧ t.dev.num .POS_STOPPED 0 = 1 ∧ t.dev.pos.vNum = 0 ∧ s.dev.keepsBeside t.dev [(.POS_STOPPED, 0)]) ∧
    (∀ src t0, WF.indexPulse src t0 = true → s.dev.num .POS_ENC_Z_MODE src = 1 →
      ∃ t, exec (.indexPulse src t0) s = .next t ∧ t.dev.num .POS_Z_POS src = s.dev.posAt t0 % 2 ^ 64 ∧ t.dev.num .POS_Z_TIME src = t0 ∧
        t.dev.num .POS_Z_COUNT src = (s.dev.num .POS_Z_COUNT src + 1) % 2 ^ 32 ∧ s.dev.keepsBeside t.dev [(.POS_Z_POS, src), (.POS_Z_TIME, src), (.POS_Z_COUNT, src)])

/-- R178, R179: when every ON member's line j has arrived the stitched line j is made and enters the set's delay buffer, and the set goes on to j + 1; while one is missing and none is judged late,
nothing happens. R182: the sums of an overlap that has gathered STI_REFINE_LINES lines give its offset, in sixteenths of a sample, as CH_STI_OVL_OFFSET of its left member; with fewer lines nothing changes. R186: without a mark by the end of its window the next repeat starts where the last one predicts it, and STI_MARKS_MISSED counts; a device whose repeats take no marks misses none. -/
def Obligations.StitchingAndItsMarks : Prop :=
  (∀ (s : State) (set j : Nat) (got : List (Nat × OutLine)), set < 8 → s.dev.takeGrid set = s.dev → s.dev.currentJ set = some j → Device.rowDue j (s.dev.st set).buf.getLast? = false →
    (s.dev.lineReady set j = (got, [], true) →
      ∃ t line, exec (.stitchLine set) s = .next t ∧ (t.dev.st set).buf = (s.dev.st set).buf ++ [line] ∧ line.j = j ∧ line.planes.length = s.dev.setPlanes set ∧
        (t.dev.st set).next = some ((j + 1) % 2 ^ 32) ∧ (t.dev.st set).waiting = (s.dev.st set).waiting.filter (fun e => !s.dev.onGrid set e.2 || decide (0 < serialDiff 32 e.2.j j)) ∧
        s.dev.keeps t.dev ((List.range 16).map (fun n => (.CH_STI_FLAGS, n))) ∧ t.dev.dram = s.dev.dram ∧ t.dev.staged = s.dev.staged) ∧
    ((s.dev.lineReady set j).2.2 = false → exec (.stitchLine set) s = .next { s with dev := s.dev.begin })) ∧
  (∀ (s : State) (n set : Nat) (o : Overlap), n < 16 → s.dev.num .CH_STI_SET n = set → set < 8 →
    (∀ del : Int, (s.dev.st set).overlaps.filter (fun p => p.left = n && s.dev.num .STI_REFINE_LINES 0 ≤ p.lines) = [o] → overlapPeak o.sums = some del → del.natAbs < 2 ^ 15 →
      ∃ t, exec (.overlapMeasure n) s = .next t ∧ t.dev.int .CH_STI_OVL_OFFSET n = del ∧
        s.dev.keeps t.dev ((.CH_STI_OVL_OFFSET, n) :: (List.range 16).map (fun m => (.CH_STI_FLAGS, m))) ∧
        (∃ p ∈ (t.dev.st set).overlaps, p.left = n ∧ p.right = o.right ∧ p.lines = 0 ∧ p.sums = List.replicate 17 0)) ∧
    ((∀ p ∈ (s.dev.st set).overlaps, p.delta = none ∧ (p.left = n → p.lines < s.dev.num .STI_REFINE_LINES 0)) → exec (.overlapMeasure n) s = .next { s with dev := s.dev.begin })) ∧
  (∀ (s : State),
    (∀ r rest, s.dev.num .STI_MARK_SRC 0 ≠ 0 → s.dev.followsRepeats = false → s.dev.inFold = false → s.dev.rep.opened = true → s.dev.rep.starts = r :: rest → rest.length < 1000 →
      ∃ t, exec .markMissed s = .next t ∧ t.dev.rep.starts = { k := (r.k + 1) % 2 ^ 32, y := r.y + stretched s.dev.lRep r.e, e := r.e } :: r :: rest ∧
        t.dev.num .STI_MARKS_MISSED 0 = (s.dev.num .STI_MARKS_MISSED 0 + 1) % 2 ^ 32 ∧ s.dev.keeps t.dev [(.STI_MARKS_MISSED, 0)]) ∧
    (s.dev.num .STI_MARK_SRC 0 = 0 → exec .markMissed s = .next { s with dev := s.dev.begin }))

/-- R189, R196, R233: a line enters the compare once 128 lines have entered the delay buffer after it, not before. In a repeat that has begun it leaves the buffer, and what the compare found of it
joins what waits for segmentation (a line that needs a block whose last write is in flight waits for it, R217); with no heft in force all of it is masked and counts in CMP_MASKED. -/
def Obligations.LinesAreCompared : Prop :=
  ∀ (s : State) (set : Nat), set < 8 → (s.dev.st set).flushing = false →
    (∀ bad, WF.compareLine ⟨set, bad⟩ = true → (s.dev.st set).buf.length < 129 → exec (.compareLine ⟨set, bad⟩) s = .next { s with dev := s.dev.begin }) ∧
    (∀ l rest r bad, WF.compareLine ⟨set, bad⟩ = true → (s.dev.st set).buf = l :: rest → 128 ≤ rest.length → s.dev.num .STI_MARK_SRC 0 ≠ 0 → s.dev.followsRepeats = false → s.dev.startOf l.y = some r →
      (s.dev.st set).k = some r.k → (s.dev.st set).prev.bind (fun p => s.dev.startOf p.y) = some r → s.dev.awaitsSeal set (s.dev.lineView set l (some r)) = false →
      ∃ t x, exec (.compareLine ⟨set, bad⟩) s = .next t ∧ (t.dev.st set).buf = rest ∧ (t.dev.st set).prev = some l ∧ (t.dev.segOf set).queue = (s.dev.segOf set).queue ++ [x] ∧
        x.j = l.j ∧ x.y = l.y ∧ x.k = r.k ∧ x.first = false ∧
        (s.dev.forceAt r.k = none → l.blind.any id = false →
          x.px.length = l.blind.length ∧ t.dev.num .CMP_MASKED 0 = (s.dev.num .CMP_MASKED 0 + l.blind.length) % 2 ^ 64 ∧ t.dev.dram = s.dev.dram ∧
            s.dev.keeps t.dev [(.CMP_MASKED, 0), (.CMP_RESOLUTION, 0)]))

/-- R220, R222, R223: an artwork load opens in a standby paddock that is not loading or learning, and is refused with 0x06 in one that is; a load of masks closes as MASK; a load whose blocks are
not all there is refused with 0x05 and says how many are missing; an abort empties the paddock; a load item whose header is wrong is taken and counted as refused, a good one is stored. R215, R219: a block of the seed that its repeat has left behind is written by `Device.writeBlock` and waits for its check; a block written that reads back as it was written enters the
directory; a block that does not is written once more. -/
def Obligations.ArtworkAndHefts : Prop :=
  (∀ (s : State) (session job : Nat), session < 1024 → session ≠ 0 → job < 2 ^ 32 → s.dev.Reaches session → s.dev.heldNow = false →
    let k := s.dev.standby
    (∀ ls, s.dev.padState k ≠ 1 → s.dev.padState k ≠ 2 → s.dev.jobPending = false → s.dev.loadLayers = some ls → s.dev.ident.heftFits ls = true →
      ∃ t, exec (.hftLoadBegin session job) s = .next t ∧ t.dev.num .HFT_PD_STATE k = 1 ∧ t.dev.num .HFT_PD_JOB k = job ∧ t.dev.num .HFT_LOAD_BLOCKS 0 = 0 ∧
        t.dev.num .HFT_PD_GEN k = 0 ∧ t.dev.layersOf k = ls ∧ (∃ m, t.dev.dram = Memory.writes m (s.dev.ident.paddockBase k) (t.dev.descriptor k)) ∧ t.dev.staged = s.dev.staged ∧ t.dev.jrn.head = ((s.dev.jrn.head + 1) % 2 ^ 32 + 1) % 2 ^ 32 ∧ t.dev.outs = [.result 0] ∧
        (∀ a, a < s.dev.ident.paddockBase k ∨ s.dev.ident.paddockBase k + s.dev.ident.paddockSize k ≤ a → Memory.read t.dev.dram a = Memory.read s.dev.dram a) ∧
        s.dev.keeps t.dev ([(.HFT_PD_STATE, k), (.HFT_PD_JOB, k), (.HFT_PD_GEN, k), (.HFT_PD_ORIGIN, k), (.HFT_PD_DIGEST, k), (.HFT_PD_SAMPLES, k), (.HFT_PD_CONF_PPM, k),
          (.HFT_PD_BYTES, k), (.HFT_LOAD_BLOCKS, 0), (.MEM_WR_BYTES, 0), (.MEM_PD_WR, k)] ++ (List.range 8).flatMap (fun x => [(.HFT_RUN_COLS, x), (.HFT_RUN_LINES, x), (.HFT_SB_COLS, x)]))) ∧
    (s.dev.padState k = 1 ∨ s.dev.padState k = 2 → exec (.hftLoadBegin session job) s = .next { s with dev := { s.dev.asked session with outs := [.result 0x06] } }) ∧
    (s.dev.padState k = 1 → s.dev.num .HFT_PD_JOB k = job → s.dev.heft.loadMask = some true →
      ∃ t, exec (.hftLoadEnd session job) s = .next t ∧ t.dev.num .HFT_PD_STATE k = 4 ∧ t.dev.num .HFT_PD_JOB k = job ∧ s.dev.keeps t.dev [(.HFT_PD_STATE, k), (.MEM_WR_BYTES, 0), (.MEM_PD_WR, k)] ∧
        t.dev.dram = Memory.writes s.dev.dram (s.dev.ident.paddockBase k) (t.dev.descriptor k) ∧ t.dev.jrn.head = ((s.dev.jrn.head + 1) % 2 ^ 32 + 1) % 2 ^ 32) ∧
    (s.dev.padState k = 1 → s.dev.num .HFT_PD_JOB k = job → s.dev.heft.loadMask ≠ some true →
      let missing := ((allBlocks (s.dev.layersOf k)).filter (fun b => (s.dev.dirEntry k b).isNone)).length
      missing ≠ 0 → exec (.hftLoadEnd session job) s = .next { s with dev := { (s.dev.asked session).set .HFT_LOAD_MISSING 0 missing with outs := [.result 0x05] } }) ∧
    (s.dev.padState k = 1 →
      ∃ t, exec (.hftLoadAbort session 1) s = .next t ∧ t.dev.num .HFT_PD_STATE k = 0 ∧ t.dev.num .HFT_PD_JOB k = 0 ∧ t.dev.layersOf k = [] ∧ t.dev.staged = s.dev.staged ∧ (∀ a, a < s.dev.ident.paddockBase k ∨ s.dev.ident.paddockBase k + s.dev.ident.paddockSize k ≤ a → Memory.read t.dev.dram a = Memory.read s.dev.dram a) ∧
        s.dev.keeps t.dev ([(.HFT_PD_STATE, k), (.HFT_PD_JOB, k), (.HFT_PD_GEN, k), (.HFT_PD_ORIGIN, k), (.HFT_PD_DIGEST, k), (.HFT_PD_SAMPLES, k), (.HFT_PD_CONF_PPM, k),
          (.HFT_PD_BYTES, k), (.MEM_WR_BYTES, 0), (.MEM_PD_WR, k)] ++ (List.range 8).flatMap (fun x => [(.HFT_RUN_COLS, x), (.HFT_RUN_LINES, x), (.HFT_SB_COLS, x)]))) ∧
    (∀ q it rest, s.dev.num .HFT_LOAD_QUEUE 0 = q → q < 4096 → (s.dev.ring q).dir = 1 → (s.dev.ring q).items = it :: rest → octet it.payload 0 ≠ 1 →
      ∃ t, exec .heftLoadItem s = .next t ∧ (t.dev.ring q).items = rest ∧ t.dev.num .HFT_LOAD_REFUSED 0 = (s.dev.num .HFT_LOAD_REFUSED 0 + 1) % 2 ^ 32 ∧
        s.dev.keepsBeside t.dev [(.HFT_LOAD_REFUSED, 0), (.MEM_RD_BYTES, 0), (.MEM_PD_RD, 4)] ∧ t.dev.dram = s.dev.dram) ∧
    (∀ q it rest l b, s.dev.num .HFT_LOAD_QUEUE 0 = q → q < 4096 → (s.dev.ring q).dir = 1 → (s.dev.ring q).items = it :: rest → s.dev.padState k = 1 → s.dev.heft.loadMask = none →
      b = { set := octet it.payload 2, plane := octet it.payload 3, br := leAt it.payload 12 4, bc := leAt it.payload 8 4 } → layerIn (s.dev.layersOf k) b.set = some l →
      blockIn (s.dev.layersOf k) b = true → 32 ≤ it.payload.length → octet it.payload 0 = 1 → octet it.payload 1 ≤ 2 → leAt it.payload 4 4 = s.dev.num .HFT_PD_JOB k →
      leAt it.payload 24 8 = 0 → leAt it.payload 16 4 = (it.payload.drop 32).length → crc32c (it.payload.drop 32) = leAt it.payload 20 4 →
      exec .heftLoadItem s = .next { s with dev := (s.dev.begin.takeItem q).storeItem k l b (octet it.payload 1) (it.payload.drop 32) })) ∧
  (∀ (s : State) (set plane br bc : Nat) (b : BlockAt), WF.heftBlockWrite set plane br bc = true → b = { set := set, plane := plane, br := br, bc := bc } →
    (∀ r e, s.dev.heft.runs.find? (fun x => Device.unwritten x b && s.dev.tilePassed x) = none → s.dev.heft.rebuilds.find? (fun r => r.seed && r.block == b) = some r →
      r.rep ≠ s.dev.heft.seedRep →
      s.dev.begin.writeBlock { rep := r.rep, block := b, pad := r.pad, off := 0, bytes := [], words := r.words, seals := false, seed := true } (s.dev.num .HFT_LEARN_EFFORT 0) = (e, true) →
      ∃ t w, exec (.heftBlockWrite set plane br bc) s = .next t ∧ t.dev.heft.writes = s.dev.heft.writes ++ [w] ∧ w.block = b ∧ w.words = r.words ∧ w.pad = r.pad ∧
        t.dev.dram = e.dram ∧ t.dev.heft.rebuilds.find? (fun r => r.seed && r.block == b && decide (r.rep ≠ s.dev.heft.seedRep)) ≠ some r ∧ t.dev.staged = s.dev.staged) ∧
    (s.dev.heft.runs = [] → s.dev.heft.rebuilds = [] → exec (.heftBlockWrite set plane br bc) s = .next { s with dev := s.dev.begin }) ∧
    (∀ w, s.dev.heft.writes.find? (fun x => x.block == b) = some w → w.load = true ∨ w.seed = true →
      decodeBlock (s.dev.dramPeek (s.dev.ident.paddockBase w.pad + w.off) w.bytes.length) = .ok 0 w.words →
      ∃ t, exec (.heftBlockVerified set plane br bc true) s = .next t ∧ t.dev.heft.writes = s.dev.heft.writes.filter (fun x => x ≠ w) ∧
        t.dev.dram = (s.dev.setDir w.pad b w.off w.bytes.length).dram ∧
        s.dev.keeps t.dev ([(.HFT_PD_BYTES, w.pad), (.HFT_LOAD_BLOCKS, 0), (.FLC_DEC_SAMPLES, 0), (.MEM_WR_BYTES, 0)] ++ (List.range 5).map (fun k => (.MEM_PD_WR, k)))) ∧
    (∀ w, s.dev.heft.writes.find? (fun x => x.block == b) = some w → w.retried = false →
      ∃ t, exec (.heftBlockVerified set plane br bc false) s = .next t ∧ t.dev.num .FLC_VERIFY_FAILS 0 = (s.dev.num .FLC_VERIFY_FAILS 0 + 1) % 2 ^ 32 ∧
        t.dev.dram = (s.dev.dramWrite (s.dev.ident.paddockBase w.pad + w.off) w.bytes).dram ∧ { w with retried := true } ∈ t.dev.heft.writes ∧
        s.dev.keeps t.dev ([(.FLC_VERIFY_FAILS, 0), (.FLC_DEC_SAMPLES, 0), (.MEM_WR_BYTES, 0)] ++ (List.range 5).map (fun k => (.MEM_PD_WR, k)))))

/-- R238 to R240, R243, R246, R269: the next compared line of a set is labelled and counts in the open tally block and, where it is blind, in PEN_SET_BLIND; a run that touches nothing opens a pen. R253: a component that is still incomplete when its time is over is passed to the classifier from what it holds, marked PARTIAL, and counts. -/
def Obligations.LabellingAndComponents : Prop :=
  (∀ (s : State) (set : Nat), set < 8 →
    ((s.dev.segOf set).queue = [] → exec (.labelLine set) s = .next { s with dev := s.dev.begin }) ∧
    (∀ l rest, (s.dev.segOf set).queue = l :: rest → l.first = false →
      let blind := s.dev.num .PEN_SET_BLIND set
      let after := if l.blind then (blind + 1) % 2 ^ 32 else blind
      ∃ t, exec (.labelLine set) s = .next t ∧ (t.dev.segOf set).queue = rest ∧ t.dev.num .PEN_SET_BLIND set = after ∧
        t.dev.rdl.tally.sets.getD set (0, 0) = ((s.dev.rdl.tally.sets.getD set (0, 0)).1 + 1, (s.dev.rdl.tally.sets.getD set (0, 0)).2 + b2n l.blind) ∧
        t.dev.dram = s.dev.dram ∧ t.dev.staged = s.dev.staged ∧
        (∀ r i own m, (s.dev.segOf set).runs = [] → (s.dev.segOf set).carry = [] → (∀ p ∈ s.dev.seg.pens, p.set ≠ set) → (s.dev.st set).flushing = false →
          s.dev.sharedEdges set = (false, false) → runsOf (carryLine (s.dev.num .PEN_BLIND_BRIDGE 0) false [] l.px) = [r] → s.dev.takePen set = some (i, own) →
          (∀ p ∈ s.dev.seg.pens, p.idx ≠ i) → penOfRun set l blind after r = some m →
          { m with idx := i, own := own } ∈ t.dev.seg.pens ∧ t.dev.num .PEN_SET_OPEN set = 1))) ∧
  (∀ (s : State) (tag : Nat) (c : Component) (p : Pen), tag < 2 ^ 32 → s.dev.compOf tag = some c → c.frags ≠ [] → Device.joinFrags c.frags = some p →
    ∃ t, exec (.componentTimeout tag) s = .next t ∧ t.dev.seg.closed = s.dev.seg.closed ++ [(p, true, true)] ∧ t.dev.seg.comps = s.dev.seg.comps.filter (fun e => e ≠ c) ∧
      t.dev.num .PEN_PARTIAL 0 = (s.dev.num .PEN_PARTIAL 0 + 1) % 2 ^ 32 ∧ s.dev.keeps t.dev [(.PEN_PARTIAL, 0), (.PEN_XDEV_OPEN, 0)] ∧ t.dev.staged = s.dev.staged)

/-- R259, R262, R271: the classifier takes the oldest closed pen. A pen whose rule gives no record, or any pen with RDL_EN = 0, counts as suppressed; one with a record takes the next RSEQ and joins the
open tally block as 64 bytes. -/
def Obligations.PensAreClassified : Prop :=
  ∀ (s : State) (p : Pen) (cross part : Bool) (rest : List (Pen × Bool × Bool)), s.dev.seg.closed = (p, cross, part) :: rest →
    let v := s.dev.matchRule p (penFlags p cross part ||| b2n (s.dev.on .RDL_STORM 0 && !s.dev.rdl.stormTold) * 8192)
    v.reject = 0 →
    (bit v.action 0 = false ∨ s.dev.num .RDL_EN 0 = 0 →
      ∃ t, exec .penClassify s = .next t ∧ t.dev.seg.closed = rest ∧ t.dev.num .RDL_SUPPRESSED 0 = (s.dev.num .RDL_SUPPRESSED 0 + 1) % 2 ^ 32 ∧
        t.dev.rdl.tally.records = s.dev.rdl.tally.records ∧ t.dev.num .RDL_RSEQ 0 = s.dev.num .RDL_RSEQ 0 ∧
        s.dev.keeps t.dev ([(.RDL_SUPPRESSED, 0), (.RDL_R_HITS, v.rule), (.PEN_OPEN, 0), (.PEN_OPEN_PEAK, 0)] ++
          (List.range 8).flatMap (fun x => [(.PEN_SET_OPEN, x), (.PEN_SET_OVF, x)]))) ∧
    (bit v.action 0 = true → bit v.action 1 = false → s.dev.num .RDL_EN 0 = 1 → s.dev.num .RDL_STORM 0 = 0 → s.dev.destQueues = [] → s.dev.rdl.tally.records.length < 255 →
      ∃ t rec, exec .penClassify s = .next t ∧ t.dev.seg.closed = rest ∧ t.dev.num .RDL_RSEQ 0 = (s.dev.num .RDL_RSEQ 0 + 1) % 2 ^ 32 ∧
        t.dev.num .RDL_RECORDS 0 = (s.dev.num .RDL_RECORDS 0 + 1) % 2 ^ 32 ∧ t.dev.rdl.tally.records = s.dev.rdl.tally.records ++ [rec] ∧ rec.length = 64 ∧
        leAt rec 0 4 = s.dev.num .RDL_RSEQ 0 % 2 ^ 32 ∧ leAt rec 4 4 = s.dev.rdl.tally.tseq % 2 ^ 32 ∧ octet rec 8 = v.cls ∧ octet rec 9 = v.sev ∧
        s.dev.keepsBeside t.dev ([(.RDL_RSEQ, 0), (.RDL_RECORDS, 0), (.RDL_R_HITS, v.rule), (.PEN_OPEN, 0), (.PEN_OPEN_PEAK, 0)] ++
          (List.range 8).flatMap (fun x => [(.PEN_SET_OPEN, x), (.PEN_SET_OVF, x)])))

/-- R266, R273: a snippet whose last line is in the ring is written and counts in RDL_SNIP_MADE, and waits otherwise; the oldest closed tally block is signed once its journal head is durable, and
its hash links the next one. R276, R397: a pulse that waits is predicted again from the position and speed of now; it starts on its output at its time and counts in TIM_TT_FIRED, and ends after its width. -/
def Obligations.RecordsAndRejects : Prop :=
  ((∀ (s : State) (h : Nat) (x : Snippet) (bad : List Nat), WF.snippetWrite ⟨h, bad⟩ = true → s.dev.rdl.snips.find? (fun x => x.handle = h && x.state = 1) = some x →
    (x.parts.all (s.dev.partWhole) = true →
      ∃ t n, exec (.snippetWrite ⟨h, bad⟩) s = .next t ∧ t.dev.num .RDL_SNIP_MADE 0 = (s.dev.num .RDL_SNIP_MADE 0 + 1) % 2 ^ 32 ∧ { x with state := 2, len := n } ∈ t.dev.rdl.snips ∧
        s.dev.keeps t.dev ([(.RDL_SNIP_MADE, 0), (.MEM_WR_BYTES, 0), (.MEM_ECC_UNCORR, 0), (.FLC_ENC_SAMPLES, 0), (.FLC_ENC_BYTES, 0), (.FLC_DEC_SAMPLES, 0), (.FLC_STORED, 0), (.FLC_VERIFY_FAILS, 0)] ++ (List.range 5).map (fun k => (.MEM_PD_WR, k))) ∧
        (∀ a, a < s.dev.ident.paddockBase 3 → Memory.read t.dev.dram a = Memory.read s.dev.dram a)) ∧
    (x.parts.all (s.dev.partWhole) = false → exec (.snippetWrite ⟨h, bad⟩) s = .next { s with dev := s.dev.begin })) ∧
  (∀ (s : State) (b : Tally) (rest : List Tally), s.dev.rdl.signing = b :: rest →
    (s.dev.jrn.buf.any (fun e => decide (serialDiff 32 e.jseq b.jseq ≤ 0)) = false → s.dev.destQueues = [] → s.dev.keyOk = true →
      let body := b.bytes s.dev.foldId s.dev.ctr.boot s.dev.fwMeasurement s.dev.rdl.prev
      ∃ t, exec .tallyBlockSigned s = .next t ∧ t.dev.rdl.signing = rest ∧ t.dev.rdl.prev = sha256 (body ++ Ecdsa.signWith (Config.privateKey s.dev.ident.serial) body) ∧
        t.dev.num .TRU_SIGNED 0 = (s.dev.num .TRU_SIGNED 0 + 1) % 2 ^ 32 ∧ s.dev.keepsBeside t.dev [(.TRU_SIGNED, 0), (.RDL_TALLY_BACKLOG, 0), (.RDL_STORM, 0)]) ∧
    (s.dev.jrn.buf.any (fun e => decide (serialDiff 32 e.jseq b.jseq ≤ 0)) = true → exec .tallyBlockSigned s = .next { s with dev := s.dev.begin }))) ∧
  (∀ (s : State) (p : Pulse), s.dev.rdl.pulses = [p] →
    (∀ st, st < 8 → p.ends = none → p.fixed = false → p.parts.any (fun x => x.station = st) = true →
      let q : Pulse := { p with parts := p.parts.map s.dev.rePart }
      ∃ t, exec (.rejectRepredict st) s = .next t ∧
        t.dev.rdl.pulses = [{ q with fixed := match q.start with | some x => decide (x < s.dev.now + 100000) | none => false }] ∧
        s.dev.keeps t.dev ((List.range 8).map (fun x => (.RDL_ST_PENDING, x)))) ∧
    (∀ t0, p.out < 16 → p.ends = none → p.start = some t0 →
      ∃ t e, exec (.rejectPulseStart p.out) s = .next t ∧ t.dev.rdl.pulses = [{ p with fixed := true, ends := some e }] ∧
        t.dev.num .TIM_TT_FIRED p.out = (s.dev.num .TIM_TT_FIRED p.out + 1) % 2 ^ 32 ∧
        Out.pin ("TT_OUT" ++ toString p.out) (s.dev.ttLevel p.out true) (Nat.max t0 s.dev.now) ∈ t.dev.outs ∧
        s.dev.keepsBeside t.dev ((.TIM_TT_FIRED, p.out) :: (List.range 8).map (fun x => (.RDL_ST_PENDING, x)) ++ p.parts.map (fun x => (.RDL_ST_FIRED, x.station)))) ∧
    (∀ e, p.out < 16 → p.ends = some e →
      ∃ t, exec (.rejectPulseEnd p.out) s = .next t ∧ t.dev.rdl.pulses = [] ∧ t.dev.outs = [.pin ("TT_OUT" ++ toString p.out) (s.dev.ttLevel p.out false) e] ∧
        s.dev.keeps t.dev ((List.range 8).map (fun x => (.RDL_ST_PENDING, x)))))

/-- R283 to R285, R290, R291, R294: CH_CAL_START begins a cycle in an IDLE channel, and is held while one runs; CH_CAL_ABORT discards a cycle under way; CH_CAL_SEED marks the next apply as a seed; a
build that is done waits for the line boundary as READY. R298, R313, R315, R317, R318: a refresh window counts and takes the interval that the stack's temperature asks for; with a retraining under way it does one piece; a retraining asked for starts with every
piece to do, or is held while one runs; a stack reading more than 5 °C from the last reference asks for one. -/
def Obligations.CalibrationAndRefresh : Prop :=
  (∀ (s : State) (session n : Nat), session < 1024 → n < 16 → s.dev.ident.hasChan n = true →
    (s.dev.Reaches session → s.dev.heldNow = false →
      (s.dev.num .CH_CAL_STATE n = 1 →
        ∃ t, exec (.chCalStart session n 1) s = .next t ∧ t.dev.num .CH_CAL_STATE n = 2 ∧ t.dev.num .CH_CAL_CYCLES n = (s.dev.num .CH_CAL_CYCLES n + 1) % 2 ^ 32 ∧
          t.dev.num .CH_CAL_DONE_REPEATS n = 0 ∧ (t.dev.calOf n).accs = [] ∧ (t.dev.calOf n).params = calRegs.map (fun r => (⟨r, n⟩, s.dev.val r n)) ∧
          s.dev.keeps t.dev [(.CH_CAL_STATE, n), (.CH_CAL_CYCLES, n), (.CH_CAL_DONE_REPEATS, n), (.CH_CAL_GEN, n), (.CH_CAL_T_REF, n)] ∧ t.dev.outs = [.result 0]) ∧
      (2 ≤ s.dev.num .CH_CAL_STATE n → s.dev.num .CH_CAL_STATE n ≤ 5 →
        ∃ t, exec (.chCalStart session n 1) s = .next t ∧ t.dev.num .CH_CAL_PENDING n = 1 ∧ s.dev.keeps t.dev [(.CH_CAL_PENDING, n)]) ∧
      (2 ≤ s.dev.num .CH_CAL_STATE n → s.dev.num .CH_CAL_STATE n ≤ 5 → s.dev.num .CH_CAL_PENDING n = 0 →
        ∃ t, exec (.chCalAbort session n 1) s = .next t ∧ t.dev.num .CH_CAL_STATE n = 1 ∧ t.dev.num .CH_CAL_DISCARDS n = (s.dev.num .CH_CAL_DISCARDS n + 1) % 2 ^ 32 ∧
          (t.dev.calOf n).accs = [] ∧ (t.dev.calOf n).build = none ∧ s.dev.keeps t.dev [(.CH_CAL_STATE, n), (.CH_CAL_DISCARDS, n)]) ∧
      (∃ t, exec (.chCalSeed session n 0xA5) s = .next t ∧ (t.dev.calOf n).seedMark = true ∧ s.dev.keeps t.dev [] ∧ t.dev.outs = [.result 0] ∧ t.dev.staged = s.dev.staged)) ∧
    (s.dev.num .CH_CAL_STATE n = 4 →
      ∃ t, exec (.calBuildDone n) s = .next t ∧ t.dev.num .CH_CAL_STATE n = 5 ∧ (t.dev.calOf n).build = some (s.dev.calBuild n) ∧ s.dev.keeps t.dev [(.CH_CAL_STATE, n)] ∧
        t.dev.fronts = s.dev.fronts) ∧
    (s.dev.num .CH_CAL_STATE n ≠ 4 → exec (.calBuildDone n) s = .next { s with dev := s.dev.begin })) ∧
  (∀ s : State,
    (∀ bad corr lat, WF.refreshWindow ⟨bad, corr, lat⟩ = true → s.dev.num .PWR_STATE 0 ≠ 2 → (s.dev.refs.getD 0 {}).inUse = true →
      (s.dev.ctl.pieces = [] →
        ∃ t, exec (.refreshWindow ⟨bad, corr, lat⟩) s = .next t ∧ t.dev.num .MEM_REFRESHES 0 = (s.dev.num .MEM_REFRESHES 0 + 1) % 2 ^ 64 ∧
          t.dev.num .MEM_REFRESH_NS 0 = s.dev.ctl.interval % 2 ^ 16 ∧ t.dev.num .MEM_ECC_CORR 0 = (s.dev.num .MEM_ECC_CORR 0 + corr) % 2 ^ 32 ∧
          (∀ q, q < 8 → t.dev.num .MEM_RQ_LAT_MAX_NS q = Nat.max (s.dev.num .MEM_RQ_LAT_MAX_NS q) (lat.getD q 0)) ∧ t.dev.num .MEM_LAT_MAX_NS 0 = Nat.max (s.dev.num .MEM_LAT_MAX_NS 0) (maxNat lat) ∧
          s.dev.keeps t.dev ([(.MEM_REFRESHES, 0), (.MEM_REFRESH_NS, 0), (.MEM_ECC_CORR, 0), (.MEM_LAT_MAX_NS, 0)] ++ (List.range 8).map (fun q => (.MEM_RQ_LAT_MAX_NS, q))) ∧ t.dev.dram = s.dev.dram) ∧
      (∀ k l rest, s.dev.ctl.pieces = k :: l :: rest →
        ∃ t, exec (.refreshWindow ⟨bad, corr, lat⟩) s = .next t ∧ t.dev.ctl.pieces = l :: rest ∧
          t.dev.num .MEM_RETRAIN_FAIL 0 = (if bad then (s.dev.num .MEM_RETRAIN_FAIL 0 + 1) % 2 ^ 32 else s.dev.num .MEM_RETRAIN_FAIL 0) ∧
          s.dev.keeps t.dev ([(.MEM_REFRESHES, 0), (.MEM_REFRESH_NS, 0), (.MEM_RETRAIN_FAIL, 0), (.MEM_ECC_CORR, 0), (.MEM_LAT_MAX_NS, 0)] ++ (List.range 8).map (fun q => (.MEM_RQ_LAT_MAX_NS, q))))) ∧
    (∀ session, session < 1024 → s.dev.Reaches session → s.dev.heldNow = false →
      (s.dev.num .MEM_RETRAIN_STATE 0 = 0 → s.dev.ctl.failed = [] →
        ∃ t, exec (.memRetrainReq session 1) s = .next t ∧ t.dev.num .MEM_RETRAIN_STATE 0 = 1 ∧ t.dev.ctl.pieces = List.range 128 ∧ s.dev.keeps t.dev [(.MEM_RETRAIN_STATE, 0)]) ∧
      (s.dev.num .MEM_RETRAIN_STATE 0 = 1 →
        ∃ t, exec (.memRetrainReq session 1) s = .next t ∧ t.dev.num .MEM_RETRAIN_STATE 0 = 2 ∧ t.dev.ctl.pieces = s.dev.ctl.pieces ∧ s.dev.keeps t.dev [(.MEM_RETRAIN_STATE, 0)])) ∧
    (∀ raw, raw < 2 ^ 16 →
      let v := toSigned 16 raw
      let far := 80 < (v - s.dev.int .CAL_STACK_REF 0).natAbs
      ∃ t, exec (.stackTempRead raw) s = .next t ∧ t.dev.int .CAL_STACK_TEMP 0 = v ∧ t.dev.ctl.interval = (if 1360 < v then 1950 else 3900) ∧
        (far → t.dev.int .CAL_STACK_REF 0 = v ∧ t.dev.num .CAL_RETRAINS 0 = (s.dev.num .CAL_RETRAINS 0 + 1) % 2 ^ 32) ∧
        (1440 < v → v < 1520 → s.dev.keeps t.dev [(.CAL_STACK_TEMP, 0), (.CAL_STACK_REF, 0), (.CAL_RETRAINS, 0), (.MEM_RETRAIN_STATE, 0)])))

/-- R329, R330: a feed of one, two, three or four bytes takes them least significant first; a unit not started is started first with its settings, and CRC_BYTES counts
the bytes fed since the start. No other live object, no staged one, no other unit and no byte of the stack changes. R330, R331: a start gives the unit its initial value and the bytes of its settings; an end gives the result with its final XOR, checks it where CRC_MODE says so, and leaves the unit not started. -/
def Obligations.CrcUnits : Prop :=
  (∀ (s : State) (session u v k : Nat) (c : Instr),
    (c, k) ∈ [(Instr.crcFeed8 session u v, 1), (.crcFeed16 session u v, 2), (.crcFeed24 session u v, 3), (.crcFeed32 session u v, 4)] →
    session < 1024 → u < 8 → v < 2 ^ (8 * k) → s.dev.Reaches session → s.dev.heldNow = false →
    let x := s.dev.crcUnit u
    let alg := s.dev.num .CRC_ALG u
    let mode := s.dev.num .CRC_MODE u
    let head := (if bit mode 0 then le 8 (s.dev.num .CRC_ADDR u) else []) ++ (if bit mode 1 then le 4 (s.dev.num .CRC_SEQ u) else [])
    ∃ t, exec c s = .next t ∧ t.pending = s.pending ∧
      (t.dev.crcUnit u).started = true ∧
      (t.dev.crcUnit u).reg = crcRun alg (if x.started then x.reg else crcRun alg (crcInit alg) head) (le k v) ∧
      t.dev.num .CRC_BYTES u = ((if x.started then s.dev.num .CRC_BYTES u else 0) + k) % 2 ^ 32 ∧
      (∀ w, w ≠ u → t.dev.crcUnit w = s.dev.crcUnit w) ∧
      s.dev.keeps t.dev [(.CRC_BYTES, u)] ∧ t.dev.dram = s.dev.dram ∧ t.dev.staged = s.dev.staged ∧ t.dev.jrn.head = (s.dev.jrn.head + 1) % 2 ^ 32) ∧
  (∀ (s : State) (session u : Nat), session < 1024 → u < 8 → s.dev.Reaches session → s.dev.heldNow = false →
    let alg := s.dev.num .CRC_ALG u
    let mode := s.dev.num .CRC_MODE u
    let head := (if bit mode 0 then le 8 (s.dev.num .CRC_ADDR u) else []) ++ (if bit mode 1 then le 4 (s.dev.num .CRC_SEQ u) else [])
    (∃ t, exec (.crcStart session u) s = .next t ∧ t.dev.crcUnit u = { started := true, reg := crcRun alg (crcInit alg) head } ∧ t.dev.num .CRC_BYTES u = 0 ∧
      (∀ w, w ≠ u → t.dev.crcUnit w = s.dev.crcUnit w) ∧ s.dev.keeps t.dev [(.CRC_BYTES, u)] ∧ t.dev.outs = [.result 0]) ∧
    ((s.dev.crcUnit u).started = true →
      let r := crcFinal alg (s.dev.crcUnit u).reg
      ∃ t, exec (.crcEnd session u) s = .next t ∧ (t.dev.crcUnit u).started = false ∧ t.dev.num .CRC_RESULT u = r % 2 ^ 32 ∧
        t.dev.num .CRC_CHECK u = (if bit mode 3 then (if r = s.dev.num .CRC_EXPECT u then 1 else 2) else 0) ∧
        t.dev.num .CRC_SEQ u = (if bit mode 2 then (s.dev.num .CRC_SEQ u + 1) % 2 ^ 32 else s.dev.num .CRC_SEQ u) ∧
        s.dev.keepsBeside t.dev [(.CRC_RESULT, u), (.CRC_CHECK, u), (.CRC_SEQ, u)] ∧ t.dev.staged = s.dev.staged))

/-- R327: GO = 1 starts a job at block 0, refused with 0x06 while it runs and with 0x04 for a destination outside scratch; GO = 2 goes on with a job that is FULL, and is refused with 0x04 otherwise.
The next block of a running job is written behind the last one and counted where it fits; where it does not the job is FULL, and a block that does not decode, or whose source the stack delivers poisoned (R318), ends it in error. -/
def Obligations.CodecJobs : Prop :=
  ∀ (s : State) (session j : Nat), session < 1024 → j < 4 →
    (s.dev.Reaches session → s.dev.heldNow = false →
      (s.dev.jobDstBad j = false → s.dev.num .FLC_JOB_STATE j ≠ 1 →
        ∃ t, exec (.flcJobStart session j) s = .next t ∧ t.dev.num .FLC_JOB_STATE j = (if s.dev.num .FLC_JOB_BLOCKS j = 0 then 2 else 1) ∧ t.dev.num .FLC_JOB_CONSUMED j = 0 ∧
          t.dev.num .FLC_JOB_PRODUCED j = 0 ∧ t.dev.num .FLC_JOB_ERROR j = 0 ∧ (t.dev.job j).src = s.dev.num .FLC_JOB_SRC j ∧ (t.dev.job j).dst = s.dev.num .FLC_JOB_DST j ∧
          (t.dev.job j).taken = 0 ∧ s.dev.keeps t.dev [(.FLC_JOB_STATE, j), (.FLC_JOB_CONSUMED, j), (.FLC_JOB_PRODUCED, j), (.FLC_JOB_ERROR, j)] ∧ t.dev.dram = s.dev.dram) ∧
      (session ≠ 0 → s.dev.jobDstBad j = true → exec (.flcJobStart session j) s = .next { s with dev := { s.dev.asked session with outs := [.result 0x04] } }) ∧
      (session ≠ 0 → s.dev.jobDstBad j = false → s.dev.num .FLC_JOB_STATE j = 1 →
        exec (.flcJobStart session j) s = .next { s with dev := { s.dev.asked session with outs := [.result 0x06] } }) ∧
      (s.dev.jobDstBad j = false → s.dev.num .FLC_JOB_STATE j = 3 →
        ∃ t, exec (.flcJobResume session j) s = .next t ∧ t.dev.num .FLC_JOB_STATE j = 1 ∧ t.dev.num .FLC_JOB_PRODUCED j = 0 ∧ (t.dev.job j).dst = s.dev.num .FLC_JOB_DST j ∧
          (t.dev.job j).taken = (s.dev.job j).taken ∧ s.dev.keeps t.dev [(.FLC_JOB_STATE, j), (.FLC_JOB_PRODUCED, j), (.FLC_JOB_ERROR, j)] ∧ t.dev.dram = s.dev.dram) ∧
      (session ≠ 0 → s.dev.num .FLC_JOB_STATE j ≠ 3 → exec (.flcJobResume session j) s = .next { s with dev := { s.dev.asked session with outs := [.result 0x04] } })) ∧
    (∀ bad, s.dev.num .FLC_JOB_STATE j ≠ 1 → exec (.flcJobBlockDone ⟨j, bad⟩) s = .next { s with dev := s.dev.begin }) ∧
    let touches : List (Reg × Nat) := [(.FLC_JOB_STATE, j), (.FLC_JOB_CONSUMED, j), (.FLC_JOB_PRODUCED, j), (.FLC_JOB_ERROR, j), (.FLC_DEC_SAMPLES, 0), (.FLC_READ_ERR, 0), (.MEM_RD_BYTES, 0),
      (.MEM_WR_BYTES, 0)] ++ (List.range 5).flatMap (fun k => [(.MEM_PD_RD, k), (.MEM_PD_WR, k)])
    (s.dev.num .FLC_JOB_STATE j = 1 →
      ∃ t, exec (.flcJobBlockDone ⟨j, true⟩) s = .next t ∧ t.dev.num .FLC_JOB_STATE j = 4 ∧ t.dev.num .MEM_ECC_UNCORR 0 = (s.dev.num .MEM_ECC_UNCORR 0 + 1) % 2 ^ 32 ∧
        t.dev.dram = s.dev.dram ∧ s.dev.keeps t.dev [(.FLC_JOB_STATE, j), (.FLC_JOB_ERROR, j), (.MEM_ECC_UNCORR, 0)]) ∧
    (s.dev.num .FLC_JOB_STATE j = 1 → (s.dev.job j).op = 1 →
      let x := s.dev.job j
      let h := s.dev.dramSee (x.src + x.taken + 2) 2
      let len := ofLE h.1
      let got := decodeBlock (h.2.dramSee (x.src + x.taken) len).1
      let made := s.dev.num .FLC_JOB_PRODUCED j
      (∀ xs, got = .ok x.kind xs →
        let b := storedBlock x.effort x.kind xs
        (made + pad8 b.length ≤ x.dstLen →
          ∃ t, exec (.flcJobBlockDone ⟨j, false⟩) s = .next t ∧ t.dev.dram = Memory.writes s.dev.dram (x.dst + made) (b ++ List.replicate (pad8 b.length - b.length) 0) ∧
            t.dev.num .FLC_JOB_CONSUMED j = (s.dev.num .FLC_JOB_CONSUMED j + 1) % 2 ^ 32 ∧ t.dev.num .FLC_JOB_PRODUCED j = (made + pad8 b.length) % 2 ^ 32 ∧
            t.dev.num .FLC_JOB_STATE j = (if (s.dev.num .FLC_JOB_CONSUMED j + 1) % 2 ^ 32 = x.blocks then 2 else 1) ∧ (t.dev.job j).taken = x.taken + pad8 len ∧ s.dev.keeps t.dev touches) ∧
        (x.dstLen < made + pad8 b.length →
          ∃ t, exec (.flcJobBlockDone ⟨j, false⟩) s = .next t ∧ t.dev.num .FLC_JOB_STATE j = 3 ∧ t.dev.dram = s.dev.dram ∧ t.dev.num .FLC_JOB_CONSUMED j = s.dev.num .FLC_JOB_CONSUMED j ∧ s.dev.keeps t.dev touches)) ∧
      (got = .malformed → ∃ t, exec (.flcJobBlockDone ⟨j, false⟩) s = .next t ∧ t.dev.num .FLC_JOB_STATE j = 4 ∧ t.dev.num .FLC_JOB_ERROR j = 1 ∧ t.dev.dram = s.dev.dram ∧ s.dev.keeps t.dev touches) ∧
      (got = .badCrc → ∃ t, exec (.flcJobBlockDone ⟨j, false⟩) s = .next t ∧ t.dev.num .FLC_JOB_STATE j = 4 ∧ t.dev.num .FLC_JOB_ERROR j = 2 ∧ t.dev.dram = s.dev.dram ∧ s.dev.keeps t.dev touches))

/-- R344, R347 to R349: a drain that ends discards what is left into QUE_DROPS and returns the pages; an item of an Ethernet queue goes to its subscriber in Device.fragments and leaves the ring, or counts in
QUE_ETH_DROPS while the address is not resolved; the reply of a subscriber's address resolves it; a fragment that follows on joins the item it is of, and one with a wrong sum is discarded; a
credit datagram gives NEXT and LIMIT. -/
def Obligations.QueueTraffic : Prop :=
  ∀ (s : State) (q : Nat), q < 4096 →
    (s.dev.num .QUE_STATE q = 2 → s.dev.num .QUE_ENABLE q = 0 → s.dev.num .QUE_DROPS q < 2 ^ 32 →
      ∃ t, exec (.queueDrainEnd q) s = .next t ∧ t.dev.num .QUE_STATE q = 0 ∧ (t.dev.ring q).items = [] ∧ (t.dev.ring q).pages = 0 ∧
        t.dev.num .QUE_DROPS q = (s.dev.num .QUE_DROPS q + (s.dev.ring q).items.length) % 2 ^ 32 ∧ s.dev.keepsBeside t.dev [(.QUE_STATE, q), (.QUE_DROPS, q)]) ∧
    (s.dev.num .QUE_STATE q ≠ 2 → exec (.queueDrainEnd q) s = .next { s with dev := s.dev.begin }) ∧
    (s.dev.ethSends = false → exec (.ethItemTransmit q) s = .next { s with dev := s.dev.begin } ∧ exec .subscriberResolve s = .next { s with dev := s.dev.begin } ∧
      exec (.queueCreditSend q) s = .next { s with dev := s.dev.begin }) ∧
    (∀ it rest e p, s.dev.ethSends = true → s.dev.num .QUE_STATE q = 1 → (s.dev.ring q).dir = 0 → (s.dev.ring q).peer = 1 → (s.dev.ring q).items = it :: rest → s.dev.subscribers q = [e] →
      Device.subPorts e = [p] →
      let fs := Device.fragments q it.iseq (if (Device.subAddr e).length = 4 then 1456 else 1436) 0 (it.wire q).length (it.wire q)
      (s.dev.resolved p (Device.subAddr e) = true →
        ∃ t more, exec (.ethItemTransmit q) s = .next t ∧ t.dev.outs = fs.map (fun f => .eth p ((s.dev.num .COM_DAP_PORT 0 + 1) % 65536) (Device.subAddr e) (leAt e 2 2) f) ++ more ∧ (t.dev.ring q).items = rest ∧
          s.dev.keepsBeside t.dev [(.MEM_RD_BYTES, 0), (.MEM_PD_RD, 4)]) ∧
      (s.dev.resolved p (Device.subAddr e) = false →
        ∃ t more, exec (.ethItemTransmit q) s = .next t ∧ t.dev.outs = .resolve p (Device.subAddr e) :: more ∧ (t.dev.ring q).items = rest ∧
          t.dev.num .QUE_ETH_DROPS q = (s.dev.num .QUE_ETH_DROPS q + fs.length) % 2 ^ 32 ∧ s.dev.keepsBeside t.dev [(.QUE_ETH_DROPS, q), (.MEM_RD_BYTES, 0), (.MEM_PD_RD, 4)])) ∧
    (∀ e p, s.dev.ethSends = true → s.dev.subscribed = [q] → s.dev.subscribers q = [e] → Device.subPorts e = [p] →
      (∃ t, exec .subscriberResolve s = .next t ∧ t.dev.outs = [.resolve p (Device.subAddr e)] ∧ s.dev.keeps t.dev []) ∧
      (∀ mac, WF.arpNdReplyRx p (Device.subAddr e) mac = true →
        ∃ t, exec (.arpNdReplyRx p (Device.subAddr e) mac) s = .next t ∧ t.dev.resolved p (Device.subAddr e) = true ∧ s.dev.keeps t.dev [])) ∧
    (∀ dst g, WF.ingressFragmentRx dst g = true →
      (g.sumOk = false → exec (.ingressFragmentRx dst g) s = .next { s with dev := s.dev.begin }) ∧
      (g.sumOk = true → g.fragment = false → s.dev.ethUp = true → s.dev.ownAddress g.port g.dst = true → 16 ≤ g.payload.length → leAt g.payload 0 2 = 0x5156 → octet g.payload 2 = 0 → leAt g.payload 6 2 = (g.payload.drop 16).length →
        leAt g.payload 4 2 = q → s.dev.num .QUE_STATE q = 1 → (s.dev.ring q).dir = 1 → (s.dev.ring q).peer = 1 → s.dev.num .QUE_RX_PORT q = dst →
        leAt g.payload 8 4 = s.dev.num .QUE_ISEQ q → leAt g.payload 12 4 = (s.dev.ring q).ingress.got.length → s.dev.ingressRoom q ≠ 0 → bit (octet g.payload 3) 1 = false →
        ∃ t, exec (.ingressFragmentRx dst g) s = .next t ∧ (t.dev.ring q).ingress = { got := (s.dev.ring q).ingress.got ++ g.payload.drop 16, from_ := some (g.port, g.peer, g.udp) } ∧
          s.dev.keeps t.dev [])) ∧
    (∀ port peer udp, s.dev.ethSends = true → s.dev.num .QUE_STATE q = 1 → (s.dev.ring q).dir = 1 → (s.dev.ring q).peer = 1 → (s.dev.ring q).ingress.from_ = some (port, peer, udp) →
      let n := s.dev.num .QUE_ISEQ q
      ∃ t, exec (.queueCreditSend q) s = .next t ∧ s.dev.keeps t.dev [] ∧
        t.dev.outs = [.eth port (s.dev.num .QUE_RX_PORT q) peer udp (Device.streamHeader 1 0 q 8 0 0 ++ le 4 n ++ le 4 ((n + s.dev.ingressRoom q) % 2 ^ 32))])

/-- R350, R356: an enable starts a channel with its head and counts at 0, a doorbell that moves the tail forward sets it running, a disable stops it, a finish leaves it idle, a clear ends a fault. R350 to R355: the descriptor at the head starts when its phase is the expected one, is read again when it is stale and faults the channel at the ninth stale read, and faults it when its read fails;
a transfer between host addresses writes its bytes, then its record, and moves the head on; a queue descriptor whose wait has run out completes with what it copied. -/
def Obligations.Drovers : Prop :=
  (∀ (s : State) (session c : Nat), session < 1024 → c < 32 → s.dev.Reaches session → s.dev.heldNow = false →
    (s.dev.num .DMA_STATE c = 0 →
      ∃ t, exec (.dmaEnable session c) s = .next t ∧ t.dev.num .DMA_STATE c = 1 ∧ t.dev.num .DMA_ENABLE c = 1 ∧ t.dev.num .DMA_HEAD c = 0 ∧ t.dev.num .DMA_BYTES c = 0 ∧
        t.dev.num .DMA_DESCS c = 0 ∧ t.dev.num .DMA_FAULT c = 0 ∧ t.dev.drover c = { c := c } ∧
        s.dev.keeps t.dev [(.DMA_STATE, c), (.DMA_ENABLE, c), (.DMA_HEAD, c), (.DMA_BYTES, c), (.DMA_DESCS, c), (.DMA_FAULT, c)] ∧ t.dev.outs = [.result 0]) ∧
    (∀ v n h, v < n → s.dev.num .DMA_RING_ENTRIES c = n → s.dev.num .DMA_HEAD c = h → h < n → n < 2 ^ 32 → s.dev.num .DMA_STATE c = 1 → (s.dev.drover c).tail = h → v ≠ h →
      ∃ t, exec (.dmaDoorbell session c v) s = .next t ∧ t.dev.num .DMA_STATE c = 2 ∧ (t.dev.drover c).tail = v ∧ s.dev.keeps t.dev [(.DMA_STATE, c)] ∧ t.dev.outs = [.result 0]) ∧
    (s.dev.num .DMA_STATE c ≠ 0 → (s.dev.drover c).cur = none →
      ∃ t, exec (.dmaDisable session c) s = .next t ∧ t.dev.num .DMA_STATE c = 0 ∧ t.dev.num .DMA_ENABLE c = 0 ∧ t.dev.drover c = { c := c } ∧ t.dev.dram = s.dev.dram ∧
        s.dev.keeps t.dev [(.DMA_STATE, c), (.DMA_ENABLE, c), (.DMA_HEAD, c), (.DMA_BYTES, c), (.DMA_DESCS, c)]) ∧
    (s.dev.num .DMA_STATE c = 2 → (s.dev.drover c).cur = none →
      ∃ t, exec (.dmaFinish session c) s = .next t ∧ t.dev.num .DMA_STATE c = 1 ∧ s.dev.keeps t.dev [(.DMA_STATE, c)] ∧ t.dev.dram = s.dev.dram) ∧
    (s.dev.num .DMA_STATE c = 4 → (s.dev.drover c).skip = false →
      ∃ t, exec (.dmaClearFault session c) s = .next t ∧ t.dev.num .DMA_STATE c = 1 ∧ t.dev.num .DMA_FAULT c = 0 ∧ s.dev.keeps t.dev [(.DMA_STATE, c), (.DMA_FAULT, c)])) ∧
  (∀ (s : State) (c : Nat) (b data : Octets), c < 32 → WF.octets b = true → WF.octets data = true → s.dev.num .DMA_STATE c = 2 →
    (s.dev.num .DMA_RING_SPACE c = 1 → (s.dev.drover c).cur = none → (s.dev.drover c).stale = 0 → (s.dev.drover c).tail ≠ s.dev.num .DMA_HEAD c →
      (b.length = 32 → bit (leAt b 20 2) 15 = (s.dev.drover c).phase → s.dev.badDesc b (.ofBytes b data) = false → (Descriptor.ofBytes b data).queued = false →
        ∃ t, exec (.dmaDescriptorFetch c b data) s = .next t ∧ (t.dev.drover c).cur = some (.ofBytes b data) ∧ s.dev.keeps t.dev [] ∧ t.dev.outs = []) ∧
      (b.length = 32 → bit (leAt b 20 2) 15 ≠ (s.dev.drover c).phase →
        ∃ t, exec (.dmaDescriptorFetch c b data) s = .next t ∧ (t.dev.drover c).stale = 1 ∧ (t.dev.drover c).cur = none ∧ s.dev.keeps t.dev []) ∧
      (b.length ≠ 32 →
        ∃ t, exec (.dmaDescriptorFetch c b data) s = .next t ∧ t.dev.num .DMA_STATE c = 4 ∧ t.dev.num .DMA_FAULT c = 2 ∧
          t.dev.num .PCI_CPL_ERR 0 = (s.dev.num .PCI_CPL_ERR 0 + 1) % 2 ^ 32 ∧ s.dev.keeps t.dev [(.DMA_STATE, c), (.DMA_FAULT, c), (.PCI_CPL_ERR, 0)])) ∧
    (s.dev.num .DMA_RING_SPACE c = 1 → (s.dev.drover c).cur = none → b.length = 32 → bit (leAt b 20 2) 15 ≠ (s.dev.drover c).phase →
      (1 ≤ (s.dev.drover c).stale → (s.dev.drover c).stale < 8 →
        ∃ t, exec (.dmaStaleReread c b data) s = .next t ∧ (t.dev.drover c).stale = (s.dev.drover c).stale + 1 ∧
          t.dev.num .PCI_STALE_REREADS 0 = (s.dev.num .PCI_STALE_REREADS 0 + 1) % 2 ^ 32 ∧ s.dev.keeps t.dev [(.PCI_STALE_REREADS, 0)]) ∧
      ((s.dev.drover c).stale = 8 →
        ∃ t, exec (.dmaStaleReread c b data) s = .next t ∧ t.dev.num .DMA_STATE c = 4 ∧ t.dev.num .DMA_FAULT c = 1 ∧
          s.dev.keeps t.dev [(.DMA_STATE, c), (.DMA_FAULT, c), (.PCI_STALE_REREADS, 0)])) ∧
    (∀ x good, (s.dev.drover c).cur = some x → good < 2 ^ 32 → x.from = 1 → x.into = 1 → x.swap = 0 → bit x.ctl 13 = false → bit x.ctl 14 = false → x.length ≤ x.data.length →
      s.dev.num .DMA_RING_SPACE c = 1 → s.dev.num .DMA_HEAD c + 1 < s.dev.num .DMA_RING_ENTRIES c → s.dev.num .DMA_HEAD c + 1 < 2 ^ 32 →
      let h := s.dev.num .DMA_HEAD c
      ∃ t, exec (.dmaDescriptorComplete c good) s = .next t ∧ t.dev.num .DMA_HEAD c = h + 1 ∧ t.dev.num .DMA_DESCS c = (s.dev.num .DMA_DESCS c + 1) % 2 ^ 32 ∧
        t.dev.num .DMA_BYTES c = (s.dev.num .DMA_BYTES c + x.length) % 2 ^ 64 ∧ (t.dev.drover c).cur = none ∧
        t.dev.outs = [.host x.dst (slice x.data 0 x.length) (s.dev.on .PCI_RELAXED 0 && s.dev.pcie.relaxed), .host (s.dev.num .DMA_CPL_BASE c + 16 * h) (Device.completionRecord { x with bytes := x.length } 0 (h + 1)) false] ∧
        t.dev.num .DMA_STATE c = (if (s.dev.drover c).tail = h + 1 then 1 else 2) ∧ t.dev.dram = s.dev.dram ∧
        s.dev.keeps t.dev [(.DMA_HEAD, c), (.DMA_DESCS, c), (.DMA_BYTES, c), (.DMA_STATE, c)]) ∧
    (∀ x, (s.dev.drover c).cur = some x → x.from = 2 → x.items ≠ 0 → bit x.ctl 13 = false → s.dev.num .DMA_RING_SPACE c = 1 →
      ∃ t, exec (.dmaItemWaitExpire c) s = .next t ∧ (t.dev.drover c).cur = none ∧ t.dev.num .DMA_DESCS c = (s.dev.num .DMA_DESCS c + 1) % 2 ^ 32 ∧
        s.dev.keeps t.dev [(.DMA_HEAD, c), (.DMA_DESCS, c), (.DMA_STATE, c)] ∧ t.dev.dram = s.dev.dram))

/-- R338, R359, R361, R362: a read through BAR2 returns the stack's bytes at the window, poisoned where a granule is; a write reaches scratch alone, and one of a protected address counts as discarded;
the window moves where it is written; a vector unmasked sends the message it kept; A memory request wakes a device in DEEP_SLEEP first (R445), and one that comes without the link or Memory Space Enable does nothing (R358). Function Level Reset clears the window and the mask and counts. -/
def Obligations.EndpointAccess : Prop :=
  ∀ s : State,
    let w := s.dev.begin.deepWake
    (∀ o n good b, WF.bar2Read o n good = true → WF.bar2Write o b = true → s.dev.bar2Up = false →
      exec (.bar2Read o n good) s = .next { s with dev := s.dev.begin } ∧ exec (.bar2Write o b) s = .next { s with dev := s.dev.begin }) ∧
    (∀ o n good, WF.bar2Read o n good = true → s.dev.bar2Up = true → w.num .PCI_BAR2_WIN 0 + o + n ≤ w.ident.dramSize →
      ∃ t, exec (.bar2Read o n good) s = .next t ∧ t.dev.outs = w.outs ++ [.completion (w.dramSee (w.num .PCI_BAR2_WIN 0 + o) n).1 (decide (good < n))] ∧
        t.dev.num .PCI_POISONED 0 = (if good < n then (w.num .PCI_POISONED 0 + 1) % 2 ^ 32 else w.num .PCI_POISONED 0) ∧ t.dev.dram = w.dram ∧
        w.keeps t.dev ([(.PCI_POISONED, 0), (.MEM_ECC_UNCORR, 0), (.MEM_RD_BYTES, 0)] ++ (List.range 5).map (fun k => (.MEM_PD_RD, k)))) ∧
    (∀ o b, WF.bar2Write o b = true → s.dev.bar2Up = true →
      let a := w.num .PCI_BAR2_WIN 0 + o
      (w.ident.inScratch a b.length = true →
        ∃ t, exec (.bar2Write o b) s = .next t ∧ t.dev.dram = Memory.writes w.dram a b ∧
          w.keeps t.dev ((.MEM_WR_BYTES, 0) :: (List.range 5).map (fun k => (.MEM_PD_WR, k)))) ∧
      (w.ident.inScratch a b.length = false → a < w.ident.dramSize →
        ∃ t, exec (.bar2Write o b) s = .next t ∧ t.dev.dram = w.dram ∧ t.dev.num .PCI_BAR2_WRDISC 0 = (w.num .PCI_BAR2_WRDISC 0 + 1) % 2 ^ 32 ∧
          w.keeps t.dev [(.PCI_BAR2_WRDISC, 0)])) ∧
    (∀ session v, session < 1024 → session ≠ 0 → v < 2 ^ 64 → v % 0x100000 = 0 → s.dev.Reaches session → s.dev.heldNow = false →
      ∃ t, exec (.bar2WindowWrite session v) s = .next t ∧ t.dev.num .PCI_BAR2_WIN 0 = v ∧ s.dev.keeps t.dev [(.PCI_BAR2_WIN, 0)] ∧ t.dev.outs = [.result 0]) ∧
    (∀ v, v < 256 →
      ∃ t, exec (.msixVectorUnmask v) s = .next t ∧ v ∈ t.dev.pcie.unmasked ∧ t.dev.pcie.pendingBits = w.pcie.pendingBits.filter (· != v) ∧ w.keeps t.dev [] ∧
        t.dev.outs = w.outs ++ (if w.pcie.pendingBits.contains v then [.msix v] else [])) ∧
    (∃ t, exec .functionLevelReset s = .next t ∧ t.dev.num .PCI_BAR2_WIN 0 = 0 ∧ t.dev.num .COM_BAR0_HI 0 = 0 ∧ t.dev.num .PCI_FLRS 0 = (s.dev.num .PCI_FLRS 0 + 1) % 2 ^ 32 ∧
      t.dev.mailbox = [] ∧ t.dev.pcie.unmasked = [] ∧
      (s.dev.drovers = [] → s.dev.keeps t.dev [(.PCI_BAR2_WIN, 0), (.COM_BAR0_HI, 0), (.PCI_FLRS, 0)]))

/-- R373 to R376, R378: an applied write makes one entry, with the next JSEQ, the session, the object and the value padded to 32 bytes, whose PREV is the hash of the entry before
it and whose SHA-256 is the new head hash; the oldest entry of the buffer is written, and the oldest retained one goes when the mirror and MRAM have overwritten it, and its 128 bytes count as written where the stack is ready (R334); the
budget refills by one entry, to at most 4,096. -/
def Obligations.JournalEntriesAreChainedAndWritten : Prop :=
  (∀ (s : State) (session v : Nat), 0 < session → session < 1024 → v ≤ 1 → s.dev.Reaches session → s.dev.heldNow = false →
    ∃ t e, exec (.objectWrite session false 0xC000 0x03 [v]) s = .next t ∧ t.dev.jrn.buf = s.dev.jrn.buf ++ [e] ∧ e.jseq = (s.dev.jrn.head + 1) % 2 ^ 32 ∧
      e.boot = s.dev.ctr.boot ∧ e.ty = 1 ∧ e.flags = 0 ∧ e.session = session ∧ e.sec = s.dev.clk.sec ∧ e.ns = s.dev.clk.ns ∧ e.index = 0xC000 ∧ e.sub = 0x03 ∧ e.vlen = 1 ∧
      e.value = v :: List.replicate 31 0 ∧ e.prev = s.dev.jrn.headHash ∧ t.dev.jrn.head = e.jseq ∧ t.dev.jrn.headHash = sha256 e.bytes ∧ t.dev.jrn.kept = s.dev.jrn.kept ∧
      t.dev.jrn.budget = s.dev.jrn.budget - 1 ∧ t.dev.num .TRU_CERT_SEL 0 = v ∧ s.dev.keeps t.dev [(.TRU_CERT_SEL, 0)] ∧ t.dev.outs = [.result 0]) ∧
  (∀ (s : State) (e : JEntry) (rest : List JEntry), s.dev.jrn.buf = e :: rest →
    let counted (d : Device) : Device := if s.dev.num .MEM_STATE 0 = 2 then d.poolWrite e.bytes.length else d
    (s.dev.jrn.kept.length < s.dev.ident.mirrorEntries →
      exec .journalEntryWrite s = .next { s with dev := counted { s.dev.begin with jrn := { s.dev.jrn with buf := rest, kept := s.dev.jrn.kept ++ [e] } } }) ∧
    (∀ o kept, s.dev.jrn.kept = o :: kept → s.dev.jrn.kept.length = s.dev.ident.mirrorEntries →
      exec .journalEntryWrite s = .next { s with dev := counted { s.dev.begin with jrn := { s.dev.jrn with buf := rest, kept := kept ++ [e] } } })) ∧
  (∀ s : State, s.dev.jrn.buf = [] → exec .journalEntryWrite s = .next { s with dev := s.dev.begin }) ∧
  (∀ s : State, exec .journalBudgetRefill s = .next { s with dev := { s.dev.begin with jrn := { s.dev.jrn with budget := Nat.min 4096 (s.dev.jrn.budget + 1) } } })

/-- R372: TRU_FW_STAGE begins the verification of an image in scratch, and is refused with 0x06 while one is under way and with 0x04 for a source outside scratch; an image that
passes is written into the slot that is not running, and one that does not leaves the flash unchanged; TRU_SVN_LOCK burns the minimum up to the running SVN, and
is refused with 0x04 for any other. -/
def Obligations.FirmwareStaging : Prop :=
  (∀ (s : State) (session n : Nat), session < 1024 → n < 2 ^ 32 → s.dev.Reaches session → s.dev.heldNow = false →
    (s.dev.num .TRU_FW_STATE 0 ≠ 1 → s.dev.num .TRU_FW_STATE 0 ≠ 2 → s.dev.ident.inScratch (s.dev.num .TRU_FW_SRC 0) n = true →
      let img := s.dev.dramPeek (s.dev.num .TRU_FW_SRC 0) n
      ∃ t, exec (.truFwStage session n) s = .next t ∧ t.dev.num .TRU_FW_STATE 0 = 1 ∧ t.dev.staging = some (img, leAt img 12 2) ∧ s.dev.keeps t.dev [(.TRU_FW_STATE, 0)] ∧
        t.dev.dram = s.dev.dram ∧ t.dev.outs = [.result 0]) ∧
    (session ≠ 0 → s.dev.num .TRU_FW_STATE 0 = 1 ∨ s.dev.num .TRU_FW_STATE 0 = 2 →
      exec (.truFwStage session n) s = .next { s with dev := { s.dev.asked session with outs := [.result 0x06] } }) ∧
    (session ≠ 0 → s.dev.num .TRU_FW_STATE 0 = 0 → s.dev.ident.inScratch (s.dev.num .TRU_FW_SRC 0) n = false →
      exec (.truFwStage session n) s = .next { s with dev := { s.dev.asked session with outs := [.result 0x04] } })) ∧
  (∀ (s : State) (img : Octets) (svn : Nat), s.dev.staging = some (img, svn) →
    (imageHeaderOk s.dev.fuses img = true → imageBodyOk img = true →
      ∃ t, exec .fwStageDone s = .next t ∧ t.dev.num .TRU_FW_STATE 0 = 3 ∧ t.dev.oct .TRU_FW_STAGED_MEAS 0 = sha256 (slice img 0 256) ∧ t.dev.staging = none ∧
        t.dev.outs = [.flash (1 - s.dev.num .DEV_FW_SLOT 0) img] ∧ t.dev.jrn.buf.length = s.dev.jrn.buf.length + 1 ∧
        s.dev.keeps t.dev [(.TRU_FW_STATE, 0), (.TRU_FW_STAGED_MEAS, 0)]) ∧
    (imageHeaderOk s.dev.fuses img = false ∨ imageBodyOk img = false →
      ∃ t, exec .fwStageDone s = .next t ∧ t.dev.num .TRU_FW_STATE 0 = 4 ∧ t.dev.staging = none ∧ t.dev.outs = [] ∧ t.dev.jrn = s.dev.jrn ∧
        s.dev.keeps t.dev [(.TRU_FW_STATE, 0)])) ∧
  (∀ (s : State) (session n : Nat), session < 1024 → n < 2 ^ 16 → s.dev.Reaches session → s.dev.heldNow = false →
    (n = s.dev.num .DEV_FW_SVN 0 →
      ∃ t, exec (.truSvnLock session n) s = .next t ∧ t.dev.fuses = { s.dev.fuses with svnMin := Nat.max s.dev.fuses.svnMin n } ∧
        t.dev.num .DEV_FW_SVN_MIN 0 = Nat.max s.dev.fuses.svnMin n % 2 ^ 16 ∧ t.dev.jrn.buf.length = s.dev.jrn.buf.length + 2 ∧ s.dev.keeps t.dev [(.DEV_FW_SVN_MIN, 0)] ∧
        t.dev.outs = [.result 0]) ∧
    (session ≠ 0 → n ≠ s.dev.num .DEV_FW_SVN 0 → exec (.truSvnLock session n) s = .next { s with dev := { s.dev.asked session with outs := [.result 0x04] } }))

/-- R379, R380: a hold begins with the repeats it is to last and its journal entry's JSEQ, and is refused with 0x06 while one is in force and with 0x04 for no scope; TRU_HOLD_RELEASE
with the hold's ID ends it, with another is refused with 0x04, and with no hold in force with 0x02; a write of an object that the hold covers is refused with 0x07 and counted. -/
def Obligations.CertifiedRunHolds : Prop :=
  ∀ (s : State) (session v : Nat), session < 1024 → v < 2 ^ 32 → s.dev.Reaches session →
    (s.dev.heldNow = false → s.dev.pend = [] → s.dev.num .TRU_HOLD_SCOPE 0 ≠ 0 →
      ∃ t, exec (.truHoldSet session 1) s = .next t ∧ t.dev.heldNow = true ∧ t.dev.num .TRU_HOLD_LEFT 0 = s.dev.num .TRU_HOLD_REPEATS 0 % 2 ^ 32 ∧
        t.dev.num .TRU_HOLD_JSEQ 0 = t.dev.jrn.head ∧ t.dev.jrn.buf.length = s.dev.jrn.buf.length + 2 ∧
        s.dev.keeps t.dev [(.TRU_HOLD_STATE, 0), (.TRU_HOLD_LEFT, 0), (.TRU_HOLD_JSEQ, 0)] ∧ t.dev.outs = [.result 0]) ∧
    (session ≠ 0 → s.dev.heldNow = true → exec (.truHoldSet session 1) s = .next { s with dev := { s.dev.asked session with outs := [.result 0x06] } }) ∧
    (session ≠ 0 → s.dev.heldNow = false → s.dev.pend = [] → s.dev.num .TRU_HOLD_SCOPE 0 = 0 →
      exec (.truHoldSet session 1) s = .next { s with dev := { s.dev.asked session with outs := [.result 0x04] } }) ∧
    (s.dev.heldNow = true → v = s.dev.num .TRU_HOLD_ID 0 →
      ∃ t, exec (.truHoldRelease session v) s = .next t ∧ t.dev.heldNow = false ∧ t.dev.num .TRU_HOLD_LEFT 0 = 0 ∧ t.dev.num .TRU_HOLD_JSEQ 0 = 0 ∧
        t.dev.jrn.buf.length = s.dev.jrn.buf.length + 2 ∧ s.dev.keeps t.dev [(.TRU_HOLD_STATE, 0), (.TRU_HOLD_LEFT, 0), (.TRU_HOLD_JSEQ, 0)] ∧ t.dev.outs = [.result 0]) ∧
    (session ≠ 0 → s.dev.heldNow = true → v ≠ s.dev.num .TRU_HOLD_ID 0 →
      exec (.truHoldRelease session v) s = .next { s with dev := { s.dev.asked session with outs := [.result 0x04] } }) ∧
    (session ≠ 0 → s.dev.heldNow = false → exec (.truHoldRelease session v) s = .next { s with dev := { s.dev.asked session with outs := [.result 0x02] } }) ∧
    (session ≠ 0 → s.dev.heldNow = true →
      ∃ t, exec (.objectWrite session false 0xC002 0x02 (le 4 v)) s = .next t ∧ t.dev.num .TRU_HOLD_REFUSED 0 = (s.dev.num .TRU_HOLD_REFUSED 0 + 1) % 2 ^ 32 ∧
        s.dev.keeps t.dev [(.TRU_HOLD_REFUSED, 0)] ∧ t.dev.jrn = s.dev.jrn ∧ t.dev.outs = [.result 0x07])

/-- R384, R386, R390: at the rollover the seconds advance and the nanoseconds are 0; TIM_SET sets the clock to a time and TIM_STEP_NS moves it, and each counts in TIM_STEPS; HOLDOVER
holds the rate at the integral. R394 to R396: an armed ONCE output fires at its start, a PERIODIC one at its next edge, and the pulse lasts TIM_TT_WIDTH; its end releases the pin; TIM_TT_ARM arms a ONCE output,
which fires at once and late when the time is past, and is refused with 0x04 in another mode. -/
def Obligations.ClockAndTimeTriggers : Prop :=
  ((∀ s : State, ∃ t, exec .secondRollover s = .next t ∧ t.dev.clk = { sec := (s.dev.clk.sec + 1) % 2 ^ 48, ns := 0, frac := 0 } ∧ s.dev.keepsBeside t.dev [] ∧
    t.dev.jrn = s.dev.jrn ∧ t.dev.staged = s.dev.staged) ∧
  (∀ (s : State) (session v : Nat), session < 1024 → s.dev.Reaches session → s.dev.heldNow = false → (∀ n, n < 16 → s.dev.num .TIM_TT_MODE n = 0) → s.dev.rdl.pulses = [] →
    (v < 2 ^ 64 →
      ∃ t, exec (.timSet session v) s = .next t ∧ t.dev.clk = { sec := v / 1000000000, ns := v % 1000000000, frac := 0 } ∧
        t.dev.num .TIM_STEPS 0 = (s.dev.num .TIM_STEPS 0 + 1) % 2 ^ 32 ∧ s.dev.keepsBeside t.dev [(.TIM_STEPS, 0), (.COM_BAR0_HI, 0)] ∧ t.dev.staged = s.dev.staged) ∧
    (v < 2 ^ 32 →
      ∃ t, exec (.timStep session v) s = .next t ∧ t.dev.clk = Clock.ofUnits ((s.dev.clk.units : Int) + toSigned 32 v * 2 ^ 32) ∧
        t.dev.num .TIM_STEPS 0 = (s.dev.num .TIM_STEPS 0 + 1) % 2 ^ 32 ∧ s.dev.keepsBeside t.dev [(.TIM_STEPS, 0)] ∧ t.dev.staged = s.dev.staged)) ∧
  (∀ s : State,
    (s.dev.num .TIM_SERVO_STATE 0 = 1 ∨ s.dev.num .TIM_SERVO_STATE 0 = 2 →
      ∃ t, exec .servoHoldover s = .next t ∧ t.dev.num .TIM_SERVO_STATE 0 = 3 ∧ t.dev.int .TIM_RATE 0 = Device.rateOf s.dev.servo.integral ∧ t.dev.clk = s.dev.clk ∧
        s.dev.keepsBeside t.dev [(.TIM_SERVO_STATE, 0), (.TIM_RATE, 0)]) ∧
    (s.dev.num .TIM_SERVO_STATE 0 = 0 ∨ s.dev.num .TIM_SERVO_STATE 0 = 3 → exec .servoHoldover s = .next { s with dev := s.dev.begin }))) ∧
  (∀ (s : State) (n : Nat), n < 16 →
    (∀ t0, s.dev.num .TIM_TT_MODE n = 1 → (s.dev.ttOf n).armed = some t0 →
      ∃ t, exec (.ttPulseStart n) s = .next t ∧ t.dev.ttOf n = { (s.dev.ttOf n) with armed := none, activeUntil := some (t0 + s.dev.num .TIM_TT_WIDTH n) } ∧
        Out.pin ("TT_OUT" ++ toString n) (s.dev.ttLevel n true) t0 ∈ t.dev.outs ∧ t.dev.num .TIM_TT_FIRED n = (s.dev.num .TIM_TT_FIRED n + 1) % 2 ^ 32 ∧
        s.dev.keepsBeside t.dev [(.TIM_TT_FIRED, n)]) ∧
    (s.dev.num .TIM_TT_MODE n = 2 →
      let k := (s.dev.ttOf n).edge
      let t0 := s.dev.num .TIM_TT_START n + (k * (s.dev.num .TIM_TT_PERIOD n * 65536 + s.dev.num .TIM_TT_PERIOD_FRAC n) + 65535) / 65536
      ∃ t, exec (.ttPulseStart n) s = .next t ∧ t.dev.ttOf n = { (s.dev.ttOf n) with edge := k + 1, activeUntil := some (t0 + s.dev.num .TIM_TT_WIDTH n) } ∧
        t.dev.num .TIM_TT_FIRED n = (s.dev.num .TIM_TT_FIRED n + 1) % 2 ^ 32 ∧ s.dev.keepsBeside t.dev [(.TIM_TT_FIRED, n)]) ∧
    (s.dev.num .TIM_TT_MODE n = 0 ∨ (s.dev.num .TIM_TT_MODE n = 1 ∧ (s.dev.ttOf n).armed = none) → exec (.ttPulseStart n) s = .next { s with dev := s.dev.begin }) ∧
    (∀ e, (s.dev.ttOf n).activeUntil = some e →
      ∃ t, exec (.ttPulseEnd n) s = .next t ∧ t.dev.ttOf n = { (s.dev.ttOf n) with activeUntil := none, lastEnd := some e } ∧
        t.dev.outs = [.pin ("TT_OUT" ++ toString n) (s.dev.ttLevel n false) e] ∧ s.dev.keeps t.dev []) ∧
    (∀ session v, session < 1024 → v < 2 ^ 64 → s.dev.Reaches session → s.dev.heldNow = false →
      (s.dev.num .TIM_TT_MODE n = 1 → s.dev.now ≤ v →
        ∃ t, exec (.timTtArm session n v) s = .next t ∧ t.dev.ttOf n = { (s.dev.ttOf n) with armed := some v } ∧ s.dev.keeps t.dev [(.COM_BAR0_HI, 0)]) ∧
      (s.dev.num .TIM_TT_MODE n = 1 → v < s.dev.now →
        ∃ t, exec (.timTtArm session n v) s = .next t ∧ (t.dev.ttOf n).armed = none ∧ t.dev.num .TIM_TT_FIRED n = (s.dev.num .TIM_TT_FIRED n + 1) % 2 ^ 32 ∧
          t.dev.num .TIM_TT_LATE n = (s.dev.num .TIM_TT_LATE n + 1) % 2 ^ 32 ∧ s.dev.keepsBeside t.dev [(.TIM_TT_FIRED, n), (.TIM_TT_LATE, n), (.COM_BAR0_HI, 0)]) ∧
      (session ≠ 0 → s.dev.num .TIM_TT_MODE n ≠ 1 → exec (.timTtArm session n v) s = .next { s with dev := { s.dev.asked session with outs := [.result 0x04] } })))

/-- R398, R400, R403, R404: a captured edge sets TIM_TC_LAST, counts and joins a FIFO of sixteen, and a read of the FIFO empties it; an edge at a task input joins its pending tasks, or is
lost in EVT_TASK_OVERFLOW with three of them pending; the oldest task is consumed by what the input drives; EVT_TASK_CLEAR discards them; the flip-flop of a cell takes
its look-up output at its CLK edge, as D or as T. -/
def Obligations.CaptureTasksAndCells : Prop :=
  (∀ (s : State) (n t0 : Nat) (falling : Bool), n < 8 → t0 < 2 ^ 64 → s.dev.num .STI_MARK_SRC 0 ≠ n + 1 →
    (s.dev.num .TIM_TC_EDGE n = 2 ∨ s.dev.num .TIM_TC_EDGE n = (if falling then 1 else 0) →
      let q := s.dev.tcFifo.getD n []
      ∃ t, exec (.tcInEdge n falling t0) s = .next t ∧ t.dev.num .TIM_TC_LAST n = t0 ∧ t.dev.num .TIM_TC_EDGES n = (s.dev.num .TIM_TC_EDGES n + 1) % 2 ^ 32 ∧
        t.dev.tcFifo.getD n [] = (if q.length < 16 then q ++ [(t0, if falling then 1 else 0)] else q) ∧
        (16 ≤ q.length → t.dev.num .TIM_TC_OVERFLOW n = (s.dev.num .TIM_TC_OVERFLOW n + 1) % 2 ^ 32) ∧
        s.dev.keepsBeside t.dev ([(.TIM_TC_LAST, n), (.TIM_TC_EDGES, n)] ++ if q.length < 16 then [] else [(.TIM_TC_OVERFLOW, n)])) ∧
    (s.dev.num .TIM_TC_EDGE n = (if falling then 0 else 1) → exec (.tcInEdge n falling t0) s = .next { s with dev := s.dev.begin }) ∧
    (∃ t, exec (.tcFifoRead n) s = .next t ∧ t.dev.tcFifo.getD n [] = [] ∧ (∀ m, m ≠ n → t.dev.tcFifo.getD m [] = s.dev.tcFifo.getD m []) ∧ s.dev.keeps t.dev [] ∧
      t.dev.outs = [.completion ((s.dev.tcFifo.getD n []).flatMap (fun e => le 8 e.1 ++ [e.2] ++ List.replicate 7 0)) false])) ∧
  (∀ (s : State) (k : Nat), k < 33 →
    (∀ pre post t0, s.dev.evt.taskEdges = pre ++ (k, t0) :: post → (∀ e ∈ pre, e.1 ≠ k) →
      ((s.dev.evt.tasks.getD k []).length < 3 →
        ∃ t, exec (.taskInputEdge k) s = .next t ∧ t.dev.evt.taskEdges = pre ++ post ∧ t.dev.evt.tasks.getD k [] = s.dev.evt.tasks.getD k [] ++ [t0] ∧
          t.dev.num .EVT_TASK_PENDING k = (s.dev.evt.tasks.getD k []).length + 1 ∧ s.dev.keeps t.dev [(.EVT_TASK_PENDING, k)]) ∧
      (3 ≤ (s.dev.evt.tasks.getD k []).length →
        ∃ t, exec (.taskInputEdge k) s = .next t ∧ t.dev.evt.taskEdges = pre ++ post ∧ t.dev.evt.tasks = s.dev.evt.tasks ∧ t.dev.on .EVT_TASK_OVERFLOW k = true ∧
          s.dev.keeps t.dev [(.EVT_TASK_OVERFLOW, k)])) ∧
    (∀ t0 rest, s.dev.evt.tasks.getD k [] = t0 :: rest → rest.length < 3 →
      (k = 24 → ∃ t, exec (.taskConsume k) s = .next t ∧ t.dev.num .TIM_SNAP_TIME 0 = t0 % 2 ^ 64 ∧ t.dev.evt.tasks.getD k [] = rest ∧ t.dev.num .EVT_TASK_PENDING k = rest.length ∧
        s.dev.keeps t.dev [(.TIM_SNAP_TIME, 0), (.EVT_TASK_PENDING, k)]) ∧
      (16 ≤ k → k < 24 → (s.dev.tcFifo.getD (k - 16) []).length < 16 →
        ∃ t, exec (.taskConsume k) s = .next t ∧ t.dev.tcFifo.getD (k - 16) [] = s.dev.tcFifo.getD (k - 16) [] ++ [(t0, 2)] ∧ t.dev.evt.tasks.getD k [] = rest ∧
          s.dev.keeps t.dev [(.EVT_TASK_PENDING, k)]) ∧
      (25 ≤ k → s.dev.num .EVT_TASK_ARG k < 256 → s.dev.pcie.unmasked.contains (s.dev.num .EVT_TASK_ARG k) = true →
        ∃ t, exec (.taskConsume k) s = .next t ∧ t.dev.outs = [.msix (s.dev.num .EVT_TASK_ARG k)] ∧ t.dev.evt.tasks.getD k [] = rest ∧
          s.dev.keeps t.dev [(.EVT_TASK_PENDING, k)]) ∧
      (k < 16 → s.dev.num .TIM_TT_MODE k = 3 → (s.dev.ttOf k).activeUntil = none → (s.dev.ttOf k).lastEnd = none →
        let at_ := Nat.max (t0 + s.dev.num .TIM_TT_DELAY k) s.dev.now
        ∃ t, exec (.taskConsume k) s = .next t ∧ (t.dev.ttOf k).activeUntil = some (at_ + s.dev.num .TIM_TT_WIDTH k) ∧
          t.dev.num .TIM_TT_FIRED k = (s.dev.num .TIM_TT_FIRED k + 1) % 2 ^ 32) ∧
      (k < 16 → s.dev.num .TIM_TT_MODE k = 3 → (s.dev.ttOf k).activeUntil ≠ none → exec (.taskConsume k) s = .next { s with dev := s.dev.begin })) ∧
    (∀ session, session < 1024 → s.dev.Reaches session → s.dev.heldNow = false →
      ∃ t, exec (.evtTaskClear session k) s = .next t ∧ t.dev.evt.tasks.getD k [] = [] ∧ t.dev.num .EVT_TASK_PENDING k = 0 ∧ t.dev.on .EVT_TASK_OVERFLOW k = false ∧
        s.dev.keeps t.dev [(.EVT_TASK_PENDING, k), (.EVT_TASK_OVERFLOW, k)] ∧ t.dev.outs = [.result 0])) ∧
  (∀ (s : State) (c : Nat), c < 32 →
    (s.dev.evt.clkEdges.contains c = true → s.dev.num .EVT_CELL_FF c = 1 ∨ s.dev.num .EVT_CELL_FF c = 2 →
      ∃ t, exec (.cellClockEdge c) s = .next t ∧ s.dev.keepsBeside t.dev [] ∧
        (t.dev.evt.cells.getD c {}).q = (if s.dev.num .EVT_CELL_FF c = 1 then s.dev.cellLut c else ((s.dev.evt.cells.getD c {}).q != s.dev.cellLut c))) ∧
    (s.dev.evt.clkEdges.contains c = false → exec (.cellClockEdge c) s = .next { s with dev := s.dev.begin }))

/-- R387 to R390: the ordinary clock as slave. A Sync of the master waits for its Follow_Up or gives a sample at once, with t2 − t1 less the corrections; TIM_OFFSET shows it less the
path delay, and the servo steps the clock past TIM_STEP_THRESH; Delay_Req and Delay_Resp measure the path delay, filtered by a sixteenth; a foreign master with two Announces in
its window is chosen, and is lost without them. R391: as a master the clock sends Sync, in two steps with its Follow_Up, and Announce, and answers Delay_Req with Delay_Resp carrying t4. -/
def Obligations.PtpOrdinaryClock : Prop :=
  ((∀ (s : State) (p tr : Nat) (m : Octets) (t2 te : Nat), WF.syncRx p ⟨tr, m⟩ t2 te = true → ptpValid m = true → s.dev.ethUp = true → tr = s.dev.num .TIM_PTP_TRANSPORT 0 → ptpDomain m = s.dev.num .TIM_PTP_DOMAIN 0 → s.dev.on .TIM_TC_EN 0 = false →
    s.dev.fromMaster p m = true →
    let corr := ptpCorr m + s.dev.asym p + (if s.dev.peerDelay then s.dev.int .TIM_PORT_LINK_DELAY p else 0)
    let diff := (t2 : Int) - ptpStamp m - corr
    let th := diff - (if s.dev.peerDelay then 0 else s.dev.ptp.pathDelay.getD 0)
    (ptpTwoStep m = true →
      ∃ t, exec (.syncRx p ⟨tr, m⟩ t2 te) s = .next t ∧ t.dev.num .TIM_PORT_RX p = (s.dev.num .TIM_PORT_RX p + 1) % 2 ^ 32 ∧ s.dev.keeps t.dev [(.TIM_PORT_RX, p)] ∧
        t.dev.ptp = { s.dev.ptp with syncWait := [{ port := p, source := ptpSource m, seq := ptpSeq m, t2 := t2, corr := corr, add := 0, at_ := s.dev.now }] }) ∧
    (ptpTwoStep m = false → s.dev.num .TIM_SRC 0 ≠ 1 →
      ∃ t, exec (.syncRx p ⟨tr, m⟩ t2 te) s = .next t ∧ t.dev.ptp = { s.dev.ptp with lastDiff := some diff } ∧ t.dev.int .TIM_OFFSET 0 = clampI (-2147483648) 2147483647 (th / 65536) ∧
        s.dev.keeps t.dev [(.TIM_PORT_RX, p), (.TIM_OFFSET, 0)]) ∧
    (ptpTwoStep m = false → s.dev.num .TIM_SRC 0 = 1 → s.dev.on .TIM_CLOCK_OK 0 = true → s.dev.num .TIM_STEP_THRESH 0 ≠ 0 →
      s.dev.num .TIM_STEP_THRESH 0 * 65536 < th.natAbs →
      ∃ t, exec (.syncRx p ⟨tr, m⟩ t2 te) s = .next t ∧ t.dev.num .TIM_SERVO_STATE 0 = 1 ∧ t.dev.servo.run = 0)) ∧
  (∀ (s : State) (p tr : Nat) (m : Octets) (w : SyncWait), WF.followUpRx p ⟨tr, m⟩ = true → ptpValid m = true → s.dev.ethUp = true → tr = s.dev.num .TIM_PTP_TRANSPORT 0 → ptpDomain m = s.dev.num .TIM_PTP_DOMAIN 0 → s.dev.on .TIM_TC_EN 0 = false →
    s.dev.fromMaster p m = true → s.dev.ptp.syncWait = [w] → w.source = ptpSource m → w.seq = ptpSeq m → s.dev.num .TIM_SRC 0 ≠ 1 →
    let diff := w.t2 - ptpStamp m - w.corr - ptpCorr m
    ∃ t, exec (.followUpRx p ⟨tr, m⟩) s = .next t ∧ t.dev.ptp = { s.dev.ptp with syncWait := [], lastDiff := some diff } ∧
      t.dev.int .TIM_OFFSET 0 = clampI (-2147483648) 2147483647 ((diff - (if s.dev.peerDelay then 0 else s.dev.ptp.pathDelay.getD 0)) / 65536) ∧
      s.dev.keeps t.dev [(.TIM_PORT_RX, p), (.TIM_OFFSET, 0)]) ∧
  (∀ (s : State) (te : Nat), te < 2 ^ 80 → s.dev.ethSends = true → s.dev.num .TIM_PTP_ROLE 0 = 1 → s.dev.peerDelay = false → s.dev.oct .TIM_PTP_MASTER 0 ≠ [] →
    let p := s.dev.num .TIM_PTP_PORT 0
    ∃ t m, exec (.delayReqSend te) s = .next t ∧ t.dev.outs = [.ptp p (s.dev.num .TIM_PTP_TRANSPORT 0) m] ∧ m.length = 44 ∧ octet m 0 = 1 ∧ ptpSource m = s.dev.portIdentity p ∧
      t.dev.ptp = { s.dev.ptp with seqDelay := (s.dev.ptp.seqDelay + 1) % 65536, delayReq := some (s.dev.ptp.seqDelay, (te : Int)) } ∧
      t.dev.num .TIM_PORT_TX p = (s.dev.num .TIM_PORT_TX p + 1) % 2 ^ 32 ∧ s.dev.keeps t.dev [(.TIM_PORT_TX, p)]) ∧
  (∀ (s : State) (p tr seq : Nat) (m : Octets) (t3 diff : Int), WF.delayRespRx p ⟨tr, m⟩ = true → ptpValid m = true → s.dev.ethUp = true → tr = s.dev.num .TIM_PTP_TRANSPORT 0 → ptpDomain m = s.dev.num .TIM_PTP_DOMAIN 0 →
    s.dev.on .TIM_TC_EN 0 = false → s.dev.fromMaster p m = true → s.dev.peerDelay = false → ptpRequester m = s.dev.portIdentity p → s.dev.ptp.delayReq = some (seq, t3) →
    s.dev.ptp.lastDiff = some diff → seq = ptpSeq m →
    let dm := (diff + (ptpStamp m - t3 - ptpCorr m)) / 2
    let v := match s.dev.ptp.pathDelay with | none => dm | some x => x + (dm - x) / 16
    (0 ≤ dm → ∃ t, exec (.delayRespRx p ⟨tr, m⟩) s = .next t ∧ t.dev.ptp = { s.dev.ptp with delayReq := none, pathDelay := some v } ∧
      t.dev.int .TIM_MEAN_PATH 0 = clampI (-2147483648) 2147483647 (v / 65536) ∧ s.dev.keeps t.dev [(.TIM_PORT_RX, p), (.TIM_MEAN_PATH, 0)]) ∧
    (dm < 0 → ∃ t, exec (.delayRespRx p ⟨tr, m⟩) s = .next t ∧ t.dev.ptp = { s.dev.ptp with delayReq := none } ∧ s.dev.keeps t.dev [(.TIM_PORT_RX, p)])) ∧
  (∀ (s : State) (p tr t0 : Nat) (m : Octets) (f : Foreign), WF.announceRx p ⟨tr, m⟩ = true → ptpValid m = true → s.dev.ethUp = true → tr = s.dev.num .TIM_PTP_TRANSPORT 0 → ptpDomain m = s.dev.num .TIM_PTP_DOMAIN 0 →
    s.dev.on .TIM_TC_EN 0 = false → s.dev.num .TIM_PTP_ROLE 0 = 1 → p = s.dev.num .TIM_PTP_PORT 0 → slice m 20 8 ≠ (s.dev.portIdentity 0).take 8 → s.dev.ptp.foreign = [f] →
    f.ident = ptpSource m → f.times = [t0] → s.dev.now ≤ t0 + 4 * secondsLog (ptpLog m) → beAt m 61 2 < 255 →
    ∃ t, exec (.announceRx p ⟨tr, m⟩) s = .next t ∧ t.dev.oct .TIM_PTP_MASTER 0 = ptpSource m ∧ t.dev.int .TIM_UTC_OFFSET 0 = beSigned m 44 2 ∧
      s.dev.keeps t.dev [(.TIM_PORT_RX, p), (.TIM_PTP_MASTER, 0), (.TIM_UTC_OFFSET, 0)]) ∧
  (∀ s : State,
    (s.dev.oct .TIM_PTP_MASTER 0 = [] → exec .announceReceiptTimeout s = .next { s with dev := s.dev.begin }) ∧
    (s.dev.oct .TIM_PTP_MASTER 0 ≠ [] → (∀ f ∈ s.dev.ptp.foreign, f.ident = s.dev.oct .TIM_PTP_MASTER 0) → s.dev.num .TIM_SRC 0 = 1 → s.dev.num .TIM_SERVO_STATE 0 = 2 →
      ∃ t, exec .announceReceiptTimeout s = .next t ∧ t.dev.oct .TIM_PTP_MASTER 0 = [] ∧ t.dev.ptp.foreign = [] ∧ t.dev.num .TIM_SERVO_STATE 0 = 3 ∧
        s.dev.keepsBeside t.dev [(.TIM_PTP_MASTER, 0), (.TIM_SERVO_STATE, 0), (.TIM_RATE, 0)]))) ∧
  (∀ (s : State), s.dev.num .TIM_PTP_ROLE 0 = 2 → s.dev.ethSends = true →
    let p := s.dev.num .TIM_PTP_PORT 0
    (∀ te, te < 2 ^ 80 →
      (s.dev.on .TIM_PTP_TWO_STEP 0 = false →
        ∃ t m, exec (.syncSend te) s = .next t ∧ t.dev.outs = [.ptp p (s.dev.num .TIM_PTP_TRANSPORT 0) m] ∧ m.length = 44 ∧ octet m 0 = 0 ∧ ptpTwoStep m = false ∧ slice m 34 10 = stampOctets te ∧
          ptpCorr m = te % 65536 ∧ t.dev.ptp = { s.dev.ptp with seqSync := (s.dev.ptp.seqSync + 1) % 65536 } ∧ s.dev.keeps t.dev [(.TIM_PORT_TX, p)]) ∧
      (s.dev.on .TIM_PTP_TWO_STEP 0 = true →
        ∃ t m f, exec (.syncSend te) s = .next t ∧ t.dev.outs = [.ptp p (s.dev.num .TIM_PTP_TRANSPORT 0) m, .ptp p (s.dev.num .TIM_PTP_TRANSPORT 0) f] ∧ octet m 0 = 0 ∧ ptpTwoStep m = true ∧ octet f 0 = 8 ∧ ptpSeq f = ptpSeq m ∧
          slice f 34 10 = stampOctets te ∧ ptpCorr f = te % 65536 ∧ s.dev.keeps t.dev [(.TIM_PORT_TX, p)])) ∧
    (∃ t m, exec .announceSend s = .next t ∧ t.dev.outs = [.ptp p (s.dev.num .TIM_PTP_TRANSPORT 0) m] ∧ m.length = 64 ∧ octet m 0 = 11 ∧ octet m 47 = s.dev.num .TIM_PTP_PRIORITY 0 / 256 ∧
      octet m 48 = s.dev.num .TIM_PTP_CLOCK_CLASS 0 ∧ octet m 52 = s.dev.num .TIM_PTP_PRIORITY 0 % 256 ∧ slice m 53 8 = (s.dev.portIdentity 0).take 8 ∧
      t.dev.ptp = { s.dev.ptp with seqAnnounce := (s.dev.ptp.seqAnnounce + 1) % 65536 } ∧ t.dev.num .TIM_PORT_TX p = (s.dev.num .TIM_PORT_TX p + 1) % 2 ^ 32 ∧
      s.dev.keeps t.dev [(.TIM_PORT_TX, p)]) ∧
    (∀ tr m t4 te, WF.delayReqRx p ⟨tr, m⟩ t4 te = true → ptpValid m = true → tr = s.dev.num .TIM_PTP_TRANSPORT 0 → ptpDomain m = s.dev.num .TIM_PTP_DOMAIN 0 → s.dev.on .TIM_TC_EN 0 = false → s.dev.peerDelay = false →
      ∃ t r, exec (.delayReqRx p ⟨tr, m⟩ t4 te) s = .next t ∧ t.dev.outs = [.ptp p (s.dev.num .TIM_PTP_TRANSPORT 0) r] ∧ r.length = 54 ∧ octet r 0 = 9 ∧ ptpSeq r = ptpSeq m ∧ slice r 34 10 = stampOctets t4 ∧
        ptpRequester r = ptpSource m ∧ beAt r 8 8 = ofSigned 64 (ptpCorr m - (t4 % 65536 : Nat)) ∧ s.dev.keeps t.dev [(.TIM_PORT_RX, p), (.TIM_PORT_TX, p)]))

/-- R387, R392: peer delay and the transparent clock. A port answers Pdelay_Req in one step or in two, and measures its link with its own; the transparent clock adds the residence to
a one-step Sync and forwards every other message unchanged out of the other port; a message that is malformed or that nothing uses is discarded and counted. -/
def Obligations.PeerDelayAndTransparentClock : Prop :=
  ∀ (s : State) (p tr : Nat) (m : Octets), p < 2 →
    (∀ t2 te, WF.pdelayReqRx p ⟨tr, m⟩ t2 te = true → ptpValid m = true → s.dev.ethSends = true → tr = s.dev.num .TIM_PTP_TRANSPORT 0 → ptpDomain m = s.dev.num .TIM_PTP_DOMAIN 0 → s.dev.peerDelay = true →
      (s.dev.on .TIM_PTP_TWO_STEP 0 = false →
        ∃ t r, exec (.pdelayReqRx p ⟨tr, m⟩ t2 te) s = .next t ∧ t.dev.outs = [.ptp p (s.dev.num .TIM_PTP_TRANSPORT 0) r] ∧ r.length = 54 ∧ octet r 0 = 3 ∧ ptpSeq r = ptpSeq m ∧ ptpRequester r = ptpSource m ∧
          beAt r 8 8 = ofSigned 64 (ptpCorr m + ((te : Int) - t2)) ∧ s.dev.keeps t.dev [(.TIM_PORT_RX, p), (.TIM_PORT_TX, p)]) ∧
      (s.dev.on .TIM_PTP_TWO_STEP 0 = true →
        ∃ t a b, exec (.pdelayReqRx p ⟨tr, m⟩ t2 te) s = .next t ∧ t.dev.outs = [.ptp p (s.dev.num .TIM_PTP_TRANSPORT 0) a, .ptp p (s.dev.num .TIM_PTP_TRANSPORT 0) b] ∧ octet a 0 = 3 ∧ octet b 0 = 10 ∧ slice a 34 10 = stampOctets t2 ∧
          slice b 34 10 = stampOctets te ∧ ptpSeq a = ptpSeq m ∧ ptpSeq b = ptpSeq m ∧ s.dev.keeps t.dev [(.TIM_PORT_RX, p), (.TIM_PORT_TX, p)])) ∧
    (∀ te, te < 2 ^ 80 → s.dev.ethSends = true → s.dev.peerDelay = true →
      ∃ t r, exec (.pdelayReqSend p te) s = .next t ∧ t.dev.outs = [.ptp p (s.dev.num .TIM_PTP_TRANSPORT 0) r] ∧ r.length = 54 ∧ octet r 0 = 2 ∧ (p, s.dev.ptp.seqPdelay, (te : Int)) ∈ t.dev.ptp.pdelayReq ∧
        t.dev.ptp.seqPdelay = (s.dev.ptp.seqPdelay + 1) % 65536 ∧ s.dev.keeps t.dev [(.TIM_PORT_TX, p)]) ∧
    (∀ (t4 seq : Nat) (t1 : Int), WF.pdelayRespRx p ⟨tr, m⟩ t4 = true → ptpValid m = true → s.dev.ethUp = true → tr = s.dev.num .TIM_PTP_TRANSPORT 0 → ptpDomain m = s.dev.num .TIM_PTP_DOMAIN 0 → s.dev.peerDelay = true →
      ptpRequester m = s.dev.portIdentity p → s.dev.ptp.pdelayReq = [(p, seq, t1)] → seq = ptpSeq m →
      (ptpTwoStep m = false →
        ∃ t, exec (.pdelayRespRx p ⟨tr, m⟩ t4) s = .next t ∧
          t.dev.int .TIM_PORT_LINK_DELAY p = clampI (-2147483648) 2147483647 (((t4 : Int) - t1 - (ptpCorr m + s.dev.asym p)) / 2) ∧
          t.dev.ptp = { s.dev.ptp with pdelayReq := [] } ∧ s.dev.keeps t.dev [(.TIM_PORT_RX, p), (.TIM_PORT_LINK_DELAY, p)]) ∧
      (ptpTwoStep m = true → s.dev.ptp.pdelayResp = [] →
        ∃ t, exec (.pdelayRespRx p ⟨tr, m⟩ t4) s = .next t ∧ t.dev.ptp = { s.dev.ptp with pdelayResp := [(p, seq, (t4 : Int), ptpStamp m, ptpCorr m + s.dev.asym p)] } ∧
          s.dev.keeps t.dev [(.TIM_PORT_RX, p)])) ∧
    (∀ (seq : Nat) (t1 t2 t4 corr : Int), WF.pdelayRespFollowUpRx p ⟨tr, m⟩ = true → ptpValid m = true → s.dev.ethUp = true → tr = s.dev.num .TIM_PTP_TRANSPORT 0 → ptpDomain m = s.dev.num .TIM_PTP_DOMAIN 0 → s.dev.peerDelay = true →
      ptpRequester m = s.dev.portIdentity p → s.dev.ptp.pdelayReq = [(p, seq, t1)] → s.dev.ptp.pdelayResp = [(p, seq, t4, t2, corr)] → seq = ptpSeq m →
      ∃ t, exec (.pdelayRespFollowUpRx p ⟨tr, m⟩) s = .next t ∧
        t.dev.int .TIM_PORT_LINK_DELAY p = clampI (-2147483648) 2147483647 (((t4 - t1) - (ptpStamp m - t2) - corr - ptpCorr m) / 2) ∧
        t.dev.ptp = { s.dev.ptp with pdelayReq := [], pdelayResp := [] } ∧ s.dev.keeps t.dev [(.TIM_PORT_RX, p), (.TIM_PORT_LINK_DELAY, p)]) ∧
    (∀ t2 te, WF.syncRx p ⟨tr, m⟩ t2 te = true → ptpValid m = true → s.dev.on .TIM_TC_EN 0 = true → s.dev.ethSends = true → s.dev.num .TIM_PTP_ROLE 0 = 0 → ptpTwoStep m = false →
      ∃ t, exec (.syncRx p ⟨tr, m⟩ t2 te) s = .next t ∧ t.dev.outs = [.ptp (1 - p) tr (ptpWithCorr m (ptpCorr m + ((te : Int) - t2 + s.dev.linkAdd p)))] ∧
        t.dev.num .TIM_PORT_FWD (1 - p) = (s.dev.num .TIM_PORT_FWD (1 - p) + 1) % 2 ^ 32 ∧
        s.dev.keeps t.dev [(.TIM_PORT_RX, p), (.TIM_PORT_TX, 1 - p), (.TIM_PORT_FWD, 1 - p)]) ∧
    (WF.signalingManagementRx p ⟨tr, m⟩ = true → s.dev.ethUp = true →
      (ptpValid m = true → s.dev.on .TIM_TC_EN 0 = true → s.dev.ethSends = true →
        ∃ t, exec (.signalingManagementRx p ⟨tr, m⟩) s = .next t ∧ t.dev.outs = [.ptp (1 - p) tr m] ∧ s.dev.keeps t.dev [(.TIM_PORT_RX, p), (.TIM_PORT_TX, 1 - p), (.TIM_PORT_FWD, 1 - p)]) ∧
      (ptpValid m = false ∨ s.dev.on .TIM_TC_EN 0 = false →
        ∃ t, exec (.signalingManagementRx p ⟨tr, m⟩) s = .next t ∧ t.dev.outs = [] ∧ t.dev.num .TIM_PORT_BAD p = (s.dev.num .TIM_PORT_BAD p + 1) % 2 ^ 32 ∧
          s.dev.keeps t.dev [(.TIM_PORT_RX, p), (.TIM_PORT_BAD, p)]))

/-- R415 to R418: a member that has not joined sends JOIN and waits for its answer; the bellwether makes a member whose JOIN passes every check PENDING and one that does not REFUSED with the reason,
and answers it; an answer with reason 0 acknowledges the JOIN. R413, R417 to R419, R423: STATUS carries the member's state, and BEACON takes the next message number; a member named in a BEACON after its ACK joins and takes the repeat it begins with; a member that falls silent is LOST, a member
without BEACON ISOLATED; a bellwether that has waited FLD_FORM_MS forms; it polls the expected members that have not joined on the two-wire bus. -/
def Obligations.FoldMembers : Prop :=
  ((∀ s : State, s.dev.bellwether = false → s.dev.num .FLD_STATE 0 = 1 ∨ s.dev.num .FLD_STATE 0 = 4 → s.dev.fold.acked = false →
    exec .joinSend s = .next { s with dev := s.dev.begin.foldAsk 0 0x40 s.dev.begin.joinBody }) ∧
  (∀ (s : State) (k hops : Nat) (e : Device) (x : FoldMsg), WF.joinRx k = true → s.dev.Takes e k 2 0x40 (some 0) x →
    hops = ((s.dev.rxOf k 2).released.find? (fun p => p.dt == 0x40)).elim 0 (fun p => octet (p.payload.getD []) 2) →
    e.bellwether = true → 0 < x.src → x.src < 8 → e.num .FLD_STATE 0 = 2 →
    let why := e.joinReason k x.src hops x.body
    (why = 0 →
      ∃ t, exec (.joinRx k) s = .next t ∧ t.dev.num .FLD_M_STATE x.src = 1 ∧ t.dev.num .FLD_M_REFUSE x.src = 0 ∧ t.dev.oct .FLD_M_SERIAL x.src = slice x.body 2 16 ∧
        e.keeps t.dev [(.FLD_M_STATE, x.src), (.FLD_M_REFUSE, x.src), (.FLD_M_SERIAL, x.src), (.FLD_LOST, 0)]) ∧
    (1 < why →
      ∃ t, exec (.joinRx k) s = .next t ∧ t.dev.num .FLD_M_STATE x.src = 4 ∧ t.dev.num .FLD_M_REFUSE x.src = why ∧
        e.keeps t.dev [(.FLD_M_STATE, x.src), (.FLD_M_REFUSE, x.src), (.FLD_M_SERIAL, x.src), (.FLD_LOST, 0)])) ∧
  (∀ (s : State) (k : Nat) (e : Device) (x : FoldMsg) (r : FoldRequest), WF.joinAnswerRx k = true → s.dev.Takes e k 2 0x40 (some 1) x →
    e.fold.reqs.find? (fun q => q.dt = 0x40) = some r → octet x.body 1 = 0 →
    ∃ t, exec (.joinAnswerRx k) s = .next t ∧ t.dev.fold.acked = true ∧ (∀ q ∈ t.dev.fold.reqs, q.dt ≠ 0x40) ∧ e.keeps t.dev [])) ∧
  (∀ s : State,
    (s.dev.bellwether = true → s.dev.num .FLD_STATE 0 ≠ 0 →
      ∃ t, exec .beaconSend s = .next t ∧ t.dev.fold.mseq = modTab 4 0 s.dev.fold.mseq 2 (fun m => (m + 1) % 2 ^ 32) ∧ s.dev.keeps t.dev [(.FLD_LOST, 0)]) ∧
    (s.dev.bellwether = false →
      let body := [s.dev.num .FLD_STATE 0, s.dev.num .TIM_SERVO_STATE 0] ++ le 4 (s.dev.num .TIM_OFFSET 0)
      exec .statusSend s = .next { s with dev := s.dev.begin.foldSend 0 0x44 2 body }) ∧
    (∀ k e x, WF.beaconRx k = true → s.dev.Takes e k 2 0x43 none x → e.bellwether = false → e.num .FLD_STATE 0 = 1 → e.fold.acked = true → bit (octet x.body 1) e.foldId = true →
      e.stepNow = 0 →
      ∃ t, exec (.beaconRx k) s = .next t ∧ t.dev.num .FLD_STATE 0 = 3 ∧ t.dev.num .FLD_JOINS 0 = (e.num .FLD_JOINS 0 + 1) % 2 ^ 32 ∧
        t.dev.num .STI_REPEAT 0 = leAt x.body 2 4 % 2 ^ 32 ∧ t.dev.num .FLD_EXPECT 0 = octet x.body 22 % 2 ^ 8 ∧ t.dev.num .FLD_TJ_MAX 0 = octet x.body 25 % 2 ^ 8) ∧
    (∀ k e x, WF.statusRx k = true → s.dev.Takes e k 2 0x44 none x → e.bellwether = true → 0 < x.src → x.src < 8 →
      ∃ t, exec (.statusRx k) s = .next t ∧ t.dev.int .FLD_M_THETA x.src = toSigned 32 (leAt x.body 2 4) ∧ (t.dev.fold.members.getD x.src {}).heard = e.tick ∧
        (t.dev.fold.members.getD x.src {}).state = octet x.body 0 ∧ e.keeps t.dev [(.FLD_M_THETA, x.src)]) ∧
    (∀ m, 1 ≤ m → m < 8 → s.dev.bellwether = true → s.dev.num .FLD_M_STATE m = 2 → s.dev.seg.comps = [] → s.dev.num .FLD_MEMBERS 0 < 256 →
      ∃ t, exec (.memberLost m) s = .next t ∧ t.dev.num .FLD_M_STATE m = 3 ∧ t.dev.num .FLD_LOSSES 0 = (s.dev.num .FLD_LOSSES 0 + 1) % 2 ^ 32 ∧
        bit (t.dev.num .FLD_MEMBERS 0) m = false ∧ s.dev.keepsBeside t.dev [(.FLD_M_STATE, m), (.FLD_LOSSES, 0), (.FLD_MEMBERS, 0), (.FLD_TJ_MAX, 0)]) ∧
    (s.dev.bellwether = false → s.dev.num .FLD_STATE 0 = 3 → ∃ t, exec .beaconTimeout s = .next t ∧ t.dev.num .FLD_STATE 0 = 4 ∧ t.dev.fold.acked = false) ∧
    (s.dev.bellwether = true → s.dev.num .FLD_STATE 0 = 1 → s.dev.reachable = true → ∃ t, exec .foldFormTimeout s = .next t ∧ t.dev.num .FLD_STATE 0 = 2) ∧
    (s.dev.bellwether = true → s.dev.num .FLD_EXPECT 0 = 3 → s.dev.num .FLD_M_STATE 1 = 0 →
      exec .foldTwiPoll s = .next { s with dev := s.dev.begin.twiAsk { who := 1, addr := 0x59, wr := [], rd := 2 } }) ∧
    (∀ rise, ∃ t, exec (.foldSyncEdge rise) s = .next t ∧ t.dev.fold.sync = rise ∧ s.dev.keepsBeside t.dev []))

/-- R421, R422: TIME goes to the upstream neighbour and its answer feeds the servo; a position request is answered with the bellwether's reading of the time it names, and the answer gives a member
its FLD_POS_OFFSET; a request without answer is sent again up to three times. -/
def Obligations.FoldTimeAndPosition : Prop :=
  (∀ (s : State) (t1 l : Nat), t1 < 2 ^ 80 → s.dev.upstream = some l →
    ∃ t r, exec (.timeSend t1) s = .next t ∧ r ∈ t.dev.fold.reqs ∧ r.dt = 0x41 ∧ r.body = 0 :: le 10 t1 ∧ r.mseq = s.dev.fold.mseq.getD 2 0 ∧ s.dev.keeps t.dev [(.FLD_LOST, 0)]) ∧
  (∀ (s : State) (k t2 t3 : Nat) (e : Device) (x : FoldMsg), WF.timeReqRx k t2 t3 = true → s.dev.Takes e k 2 0x41 (some 0) x →
    exec (.timeReqRx k t2 t3) s = .next { s with dev := (e.nextMseq 2).2.sendNext k x.src 0x41 (e.fold.mseq.getD 2 0) ([1] ++ le 10 t2 ++ le 10 t3) }) ∧
  (∀ (s : State) (k t4 : Nat) (e : Device) (x : FoldMsg) (r : FoldRequest), WF.timeAnswerRx k t4 = true → s.dev.Takes e k 2 0x41 (some 1) x →
    e.fold.reqs.find? (fun q => q.dt = 0x41) = some r → e.num .TIM_SRC 0 = 2 → e.num .TIM_CLOCK_OK 0 = 0 → e.fold.acked = false →
    let th : Int := (((leAt r.body 1 10 : Int) - (leAt x.body 1 10 : Int)) + ((t4 : Int) - (leAt x.body 11 10 : Int))) / 2
    ∃ t, exec (.timeAnswerRx k t4) s = .next t ∧ (∀ q ∈ t.dev.fold.reqs, q.dt ≠ 0x41) ∧ t.dev.live = (e.showOffset th).live ∧ t.dev.clk = e.clk) ∧
  (∀ (s : State) (k : Nat) (e : Device) (x : FoldMsg), WF.posReqRx k = true → s.dev.Takes e k 2 0x42 (some 0) x → e.bellwether = true → x.src < 8 →
    ∃ t, exec (.posReqRx k) s = .next t ∧ (t.dev.fold.members.getD x.src {}).posSet = true ∧ e.keeps t.dev [(.FLD_LOST, 0)] ∧
      t.dev.fold.mseq.getD 2 0 = (modTab 4 0 e.fold.mseq 2 (fun m => (m + 1) % 2 ^ 32)).getD 2 0) ∧
  (∀ (s : State) (k : Nat) (e : Device) (x : FoldMsg) (r : FoldRequest), WF.posAnswerRx k = true → s.dev.Takes e k 2 0x42 (some 1) x →
    e.fold.reqs.find? (fun q => q.dt = 0x42) = some r → e.num .FLD_STATE 0 ≠ 3 →
    let own : Int := ((((e.readingPast (leAt r.body 1 8)).map Prod.fst).getD (e.reading (leAt r.body 1 8)) : Nat) : Int) - e.offsetNow
    ∃ t, exec (.posAnswerRx k) s = .next t ∧ t.dev.num .FLD_POS_OFFSET 0 = ofSigned 64 (e.roundStep (toSigned 64 (ofSigned 64 ((leAt x.body 9 8 : Int) - own)))) ∧
      t.dev.fold.held = some e.offsetNow ∧ t.dev.fold.posKnown = true ∧ e.keeps t.dev [(.FLD_POS_OFFSET, 0)]) ∧
  (∀ (s : State) (dt : Nat) (r : FoldRequest), dt = 0x40 ∨ dt = 0x42 → s.dev.fold.reqs = [r] → r.dt = dt →
    (r.tries < 3 →
      ∃ t, exec (.foldRequestRetry dt) s = .next t ∧ t.dev.fold.reqs = [{ r with tries := r.tries + 1 }] ∧ s.dev.keeps t.dev [(.FLD_LOST, 0)]) ∧
    (3 ≤ r.tries → ∃ t, exec (.foldRequestRetry dt) s = .next t ∧ t.dev.fold.reqs = [] ∧ s.dev.keeps t.dev [] ∧ t.dev.links = s.dev.links))

/-- R424 to R426: REPEAT gives a member the start of a repeat, GRID the pending origin; a relayed edge appears on line 63 5 µs after its time; a member's queue item is placed in the bellwether's
queue of the same number, or dropped and counted where that queue is not there; an edge of FLD_RELAY_LINE is relayed. R251 to R253, R414: what the fold says of pens reaches the part that joins them: EDGE the edges of the set, LINK and ALIAS the tags that are one component, WATERMARK the line an edge has reached,
FRAG a fragment, which is passed on alone when its component has gone; a packet for another device goes on when the next link's credits last. -/
def Obligations.FoldRelaysAndPens : Prop :=
  (∀ s : State,
    (∀ k e x h rest, WF.repeatRx k = true → s.dev.Takes e k 1 0x45 none x → e.bellwether = false → e.num .FLD_STATE 0 = 3 → e.rep.starts = h :: rest → rest.length < 1000 →
      let r : RepeatStart := { k := leAt x.body 0 4, y := toSigned 64 (leAt x.body 4 8), e := toSigned 32 (leAt x.body 12 4) }
      ∃ t, exec (.repeatRx k) s = .next t ∧ t.dev.rep.starts = (if serialDiff 32 r.k h.k ≤ 0 then h :: rest else r :: h :: rest) ∧ e.keeps t.dev []) ∧
    (∀ k e x, WF.gridRx k = true → s.dev.Takes e k 1 0x46 none x → e.bellwether = false → (∀ n, n < 16 → e.on .CH_ENABLE n = false) → leAt x.body 0 8 < 2 ^ 64 →
      ∃ t, exec (.gridRx k) s = .next t ∧ t.dev.num .POS_GRID_ORIGIN 0 = leAt x.body 0 8 ∧ e.keeps t.dev [(.POS_GRID_ORIGIN, 0)]) ∧
    (∀ k e x, WF.relayRx k = true → s.dev.Takes e k 1 0x4D none x → e.now < leAt x.body 0 8 + 5000 →
      ∃ t, exec (.relayRx k) s = .next t ∧ t.dev.fold.relays = e.fold.relays ++ [leAt x.body 0 8 + 5000] ∧ e.keeps t.dev []) ∧
    (∀ k e x, WF.qitemRx k = true → s.dev.Takes e k 3 0x4C none x → e.bellwether = true → leAt x.body 6 2 < 4096 →
      (e.num .QUE_STATE (leAt x.body 6 2) ≠ 1 →
        ∃ t, exec (.qitemRx k) s = .next t ∧ t.dev.num .QUE_DROPS (leAt x.body 6 2) = (e.num .QUE_DROPS (leAt x.body 6 2) + 1) % 2 ^ 32 ∧
          e.keeps t.dev [(.QUE_DROPS, leAt x.body 6 2)]) ∧
      (e.num .QUE_STATE (leAt x.body 6 2) = 1 → (e.ring (leAt x.body 6 2)).dir = 0 → (e.ring (leAt x.body 6 2)).peer ≤ 1 →
        exec (.qitemRx k) s = .next { s with dev := e.placeItem (leAt x.body 6 2) 0x4C x.body })) ∧
    (∀ t0 rest, s.dev.evt.relayEdges = t0 :: rest → s.dev.bellwether = true → s.dev.inFold = true → s.dev.now < t0 + 5000 →
      ∃ t, exec .relayLineEdge s = .next t ∧ t.dev.evt.relayEdges = rest ∧ t.dev.fold.relays = s.dev.fold.relays ++ [t0 + 5000] ∧ s.dev.keeps t.dev [(.FLD_LOST, 0)])) ∧
  (∀ s : State,
    (∀ k e x, WF.edgeRx k = true → s.dev.Takes e k 0 0x47 none x →
      let es : List EdgeEntry :=
        (List.range 32).map (fun i => { j := (leAt x.body 1 4 + i) % 2 ^ 32, blind := bit (leAt x.body 5 4) i, tag := leAt x.body (9 + 4 * i) 4 })
      exec (.edgeRx k) s = .next { s with dev := e.edgeIn (octet x.body 0 % 8) (leAt x.body 1 4) es }) ∧
    (∀ k e x, WF.linkRx k = true → s.dev.Takes e k 1 0x48 none x → e.bellwether = true → e.seg.comps = [] → leAt x.body 0 4 ≠ leAt x.body 4 4 →
      ∃ t c, exec (.linkRx k) s = .next t ∧ t.dev.seg.comps = [c] ∧ c.tags = [leAt x.body 0 4, leAt x.body 4 4] ∧ c.frags = [] ∧ e.keeps t.dev [(.PEN_XDEV_OPEN, 0)]) ∧
    (∀ k e x, WF.aliasRx k = true → s.dev.Takes e k 1 0x4A none x → e.bellwether = true → e.seg.comps = [] → leAt x.body 0 4 ≠ leAt x.body 4 4 →
      ∃ t c, exec (.aliasRx k) s = .next t ∧ t.dev.seg.comps = [c] ∧ c.tags = [leAt x.body 4 4] ∧ c.dead = [leAt x.body 0 4] ∧ e.keeps t.dev [(.PEN_XDEV_OPEN, 0)]) ∧
    (∀ k e x, WF.watermarkRx k = true → s.dev.Takes e k 1 0x49 none x → e.bellwether = true →
      ∃ t, exec (.watermarkRx k) s = .next t ∧ (x.src, octet x.body 0, leAt x.body 1 4) ∈ t.dev.seg.marks ∧ (e.seg.comps = [] → e.keeps t.dev [])) ∧
    (∀ k e x p, WF.fragRx k = true → s.dev.Takes e k 1 0x4B none x → e.bellwether = true → e.seg.passed.contains (leAt x.body 0 4) = true →
      Device.joinFrags [(leAt x.body 0 4, penOfBytes (slice x.body 4 32) (toSigned 32 (leAt x.body 36 4)) (leAt x.body 40 4) (leAt x.body 44 8) (leAt x.body 52 4)
        (toSigned 64 (leAt x.body 56 8)))] = some p →
      ∃ t, exec (.fragRx k) s = .next t ∧ t.dev.seg.closed = e.seg.closed ++ [(p, true, true)] ∧ t.dev.num .PEN_PARTIAL 0 = (e.num .PEN_PARTIAL 0 + 1) % 2 ^ 32 ∧
        e.keeps t.dev [(.PEN_PARTIAL, 0)]) ∧
    (∀ k e p, WF.foldPacketForward k = true →
      s.dev.begin.takeFree k 0 (fun p => p.dt != 0x3D && p.dt != 0x3F && 8 ≤ (p.payload.getD []).length && octet (p.payload.getD []) 0 != s.dev.foldId && octet (p.payload.getD []) 0 != 0xFF &&
          Nat.min 1 (octet (p.payload.getD []) 3) == 0) = some (p, e) → s.dev.begin.mayPass k 0 p = true →
      exec (.foldPacketForward k) s = .next { s with dev := e.passOn k 0 p }))

/-- R436 to R439: a monitor window counts each reference and judges it; the time clock's reference fails on its second bad window, or when its PLL loses lock, and the time clock
is no longer good; CLK_RETURN returns a usable failed reference; a switch that completes, forced or not, changes its output, and a forced one is recorded. -/
def Obligations.ReferencesAndSwitches : Prop :=
  ∀ s : State,
    (∀ c0 c1 c2, c0 < 2 ^ 16 → c1 < 2 ^ 16 → c2 < 2 ^ 16 → s.dev.bring = .up → (∀ k, k < 3 → (s.dev.refOf k).failed = false) → (s.dev.refOf 2).inUse = true →
      windowGood 0 c0 = true → windowGood 1 c1 = true →
      (windowGood 2 c2 = true →
        ∃ t, exec (.refMonitorWindow c0 c1 c2) s = .next t ∧ (∀ k, k < 3 → t.dev.num .CLK_REF_WINDOW k = [c0, c1, c2].getD k 0) ∧ (∀ k, k < 3 → (t.dev.refOf k).bad = 0) ∧
          (∀ k, k < 3 → t.dev.num .CLK_REF_STATE k = (if 16384 ≤ (s.dev.refOf k).cycles + [c0, c1, c2].getD k 0 then 2 else 1)) ∧
          s.dev.keeps t.dev ((List.range 3).map (fun k => (.CLK_REF_WINDOW, k)) ++ (List.range 3).map (fun k => (.CLK_REF_STATE, k)))) ∧
      (windowGood 2 c2 = false → (s.dev.refOf 2).bad = 0 →
        ∃ t, exec (.refMonitorWindow c0 c1 c2) s = .next t ∧ (t.dev.refOf 2).bad = 1 ∧ t.dev.num .TIM_CLOCK_OK 0 = s.dev.num .TIM_CLOCK_OK 0 ∧
          t.dev.num .CLK_REF_STATE 2 = s.dev.num .CLK_REF_STATE 2) ∧
      (windowGood 2 c2 = false → (s.dev.refOf 2).bad = 1 →
        ∃ t, exec (.refMonitorWindow c0 c1 c2) s = .next t ∧ (t.dev.refOf 2).failed = true ∧ t.dev.num .CLK_REF_STATE 2 = 3 ∧ t.dev.on .TIM_CLOCK_OK 0 = false ∧
          t.dev.num .CLK_REF_FAILS 2 = (s.dev.num .CLK_REF_FAILS 2 + 1) % 2 ^ 32 ∧ bit (t.dev.num .FLT_ACTIVE 0) 2 = true ∧
          (ClockSwitch.mk 1 1) ∈ t.dev.switches)) ∧
    ((s.dev.refOf 2).inUse = true →
      ∃ t, exec (.pllLockLoss 2) s = .next t ∧ t.dev.num .CLK_REF_STATE 2 = 3 ∧ t.dev.on .TIM_CLOCK_OK 0 = false ∧ bit (t.dev.num .FLT_ACTIVE 0) 3 = true) ∧
    (∀ k, k < 3 → (s.dev.refOf k).inUse = false → exec (.pllLockLoss k) s = .next { s with dev := s.dev.begin }) ∧
    (∀ session, session < 1024 → s.dev.Reaches session → s.dev.heldNow = false → s.dev.refUsable 0 = false → s.dev.refUsable 1 = false → s.dev.refUsable 2 = true →
      ∃ t, exec (.clkReturn session 1) s = .next t ∧ (t.dev.refOf 2).failed = false ∧ (t.dev.refOf 2).inUse = true ∧ (ClockSwitch.mk 1 0) ∈ t.dev.switches ∧
        bit (t.dev.num .FLT_ACTIVE 0) 2 = false ∧ s.dev.keeps t.dev [(.FLT_ACTIVE, 0)] ∧ t.dev.outs = [.result 0]) ∧
    (∀ x, x < 2 → s.dev.switches = [{ which := 1, target := x }] →
      (∃ t, exec (.clockSwitchDone 1) s = .next t ∧ t.dev.switches = [] ∧ t.dev.num .CLK_TIME_SRC 0 = x ∧ t.dev.on .TIM_CLOCK_OK 0 = decide (x = 0) ∧
        s.dev.keeps t.dev [(.CLK_TIME_SRC, 0), (.TIM_CLOCK_OK, 0)]) ∧
      (∃ t, exec (.clockSwitchForced 1) s = .next t ∧ t.dev.switches = [] ∧ t.dev.num .CLK_TIME_SRC 0 = x ∧ bit (t.dev.num .CLK_FORCED 0) 1 = true ∧
        s.dev.keeps t.dev [(.CLK_TIME_SRC, 0), (.TIM_CLOCK_OK, 0), (.CLK_FORCED, 0)])) ∧
    (∀ x, s.dev.switches = [{ which := 2, target := x }] →
      exec (.clockSwitchDone 2) s = .next { s with dev := { s.dev.begin with switches := [], clkOut := if s.dev.clkReady x then x else s.dev.clkOut } }) ∧
    (∀ w, w < 3 → s.dev.switches = [] → exec (.clockSwitchDone w) s = .next { s with dev := s.dev.begin } ∧ exec (.clockSwitchForced w) s = .next { s with dev := s.dev.begin })

/-- R441, R449: raising the point waits for the voltage, then for the idle PLL, then for the switch, at which the core runs at its new frequency; a wait that times out keeps the old
point and raises DVFS; a low VDD_CORE drops the core to 250 MHz and forces STANDBY (`Device.force`), a high one raises SUPPLY, as a rail out of range does, until the last returns. -/
def Obligations.OperatingPointsAndSupplies : Prop :=
  ∀ s : State,
    (∀ p, s.dev.dvfs = .raisePll p → s.dev.switches = [] →
      exec .dvfsPllLocked s = .next { s with dev := { s.dev.begin with dvfs := .raiseSwitch p, switches := [{ which := 0, target := p }] } }) ∧
    (s.dev.dvfs = .idle → exec .dvfsPllLocked s = .next { s with dev := s.dev.begin } ∧ exec .dvfsTimeout s = .next { s with dev := s.dev.begin }) ∧
    (∀ p, p < 4 → s.dev.dvfs = .raiseSwitch p → s.dev.switches = [{ which := 0, target := p }] → s.dev.num .CLK_CORE_PLL 0 ≤ 1 →
      ∃ t, exec (.clockSwitchDone 0) s = .next t ∧ t.dev.num .PWR_POINT 0 = p ∧ t.dev.num .CLK_CORE_HZ 0 = pointMhz p * 1000000 ∧
        t.dev.num .CLK_CORE_PLL 0 = 1 - s.dev.num .CLK_CORE_PLL 0 ∧ t.dev.num .PWR_DVFS_MOVES 0 = (s.dev.num .PWR_DVFS_MOVES 0 + 1) % 2 ^ 32) ∧
    (∀ mv, mv < 2 ^ 16 →
      (∀ p, s.dev.dvfs = .raiseVolt p → pointMv p ≤ mv + 15 →
        ∃ t, exec (.dvfsVoltageReached mv) s = .next t ∧ t.dev.dvfs = .raisePll p ∧ t.dev.num .PWR_VDD_CORE_MV 0 = mv ∧ s.dev.keeps t.dev [(.PWR_VDD_CORE_MV, 0)]) ∧
      (∀ p, s.dev.dvfs = .raiseVolt p → mv + 15 < pointMv p →
        ∃ t, exec (.dvfsVoltageReached mv) s = .next t ∧ t.dev.dvfs = .raiseVolt p ∧ t.dev.num .PWR_VDD_CORE_MV 0 = mv ∧ s.dev.keeps t.dev [(.PWR_VDD_CORE_MV, 0)]) ∧
      (s.dev.dvfs = .idle → mv + 30 < s.dev.pointVolt →
        let low : Device := { s.dev.begin.set .PWR_VDD_CORE_MV 0 mv with rails := (0 :: s.dev.rails).eraseDups }
        exec (.vddCoreLow mv) s = .next { s with dev := ((low.faultOn .supply).setPoint 4).force (fun f => { f with supply := true }) }) ∧
      (s.dev.dvfs = .idle → s.dev.pointVolt ≤ mv + 30 →
        ∃ t, exec (.vddCoreLow mv) s = .next t ∧ t.dev.num .PWR_VDD_CORE_MV 0 = mv ∧ s.dev.keeps t.dev [(.PWR_VDD_CORE_MV, 0)] ∧ t.dev.rails = s.dev.rails) ∧
      (s.dev.dvfs = .idle → s.dev.pointVolt + 30 < mv →
        ∃ t, exec (.vddCoreHigh mv) s = .next t ∧ t.dev.num .PWR_VDD_CORE_MV 0 = mv ∧ 0 ∈ t.dev.rails ∧ bit (t.dev.num .FLT_ACTIVE 0) 4 = true ∧
          t.dev.num .PWR_POINT 0 = s.dev.num .PWR_POINT 0)) ∧
    (∀ p, s.dev.dvfs = .raiseVolt p →
      ∃ t, exec .dvfsTimeout s = .next t ∧ t.dev.dvfs = .idle ∧ bit (t.dev.num .FLT_LATCHED 0) 8 = true ∧ t.dev.num .PWR_POINT 0 = s.dev.num .PWR_POINT 0 ∧
        s.dev.keepsBeside t.dev [(.FLT_LATCHED, 0), (.FLT_RAISED, 0), (.FLT_LAST, 0), (.FLT_LAST_TIME, 0)]) ∧
    (∀ r, r < 7 → s.dev.bring = .up →
      (∃ t, exec (.supplyRailFault r) s = .next t ∧ r ∈ t.dev.rails ∧ bit (t.dev.num .FLT_ACTIVE 0) 4 = true ∧
        s.dev.keepsBeside t.dev [(.FLT_ACTIVE, 0), (.FLT_LATCHED, 0), (.FLT_RAISED, 0), (.FLT_LAST, 0), (.FLT_LAST_TIME, 0)]) ∧
      (s.dev.rails = [r] → s.dev.forced.supply = false →
        ∃ t, exec (.supplyRailReturn r) s = .next t ∧ t.dev.rails = [] ∧ bit (t.dev.num .FLT_ACTIVE 0) 4 = false ∧ s.dev.keeps t.dev [(.FLT_ACTIVE, 0)]) ∧
      (s.dev.rails.contains r = false → exec (.supplyRailReturn r) s = .next { s with dev := s.dev.begin }))

/-- R16, R444 to R446: PWR_SLEEP enters DEEP_SLEEP from STANDBY with the two-wire block at rest and is refused with 0x06 otherwise; a wake source returns the device; a reading of the die
is kept with its peak and raises TJ_WARN at L − 10 °C, and at L TJ_MAX with forced STANDBY; 50 ms after the lanes wake without every link FULL the device is in LAMBING. -/
def Obligations.SleepAndTemperature : Prop :=
  (∀ (s : State) (session : Nat), session < 1024 → s.dev.Reaches session → s.dev.heldNow = false →
    (s.dev.num .PWR_STATE 0 = 1 → s.dev.twi.pending = [] → s.dev.twi.cur = none →
      ∃ t, exec (.pwrSleep session 1) s = .next t ∧ t.dev.num .PWR_STATE 0 = 2 ∧ t.dev.twi.powered = false ∧ t.dev.staged = s.dev.staged) ∧
    (session ≠ 0 → s.dev.num .PWR_STATE 0 = 0 → exec (.pwrSleep session 1) s = .next { s with dev := { s.dev.asked session with outs := [.result 0x06] } })) ∧
  (∀ s : State,
    (s.dev.num .PWR_STATE 0 = 2 → s.dev.num .DEV_RUN_REQ 0 = 0 → ∃ t, exec .deepSleepWake s = .next t ∧ t.dev.num .PWR_STATE 0 = 1) ∧
    (s.dev.num .PWR_STATE 0 ≠ 2 → exec .deepSleepWake s = .next { s with dev := s.dev.begin })) ∧
  (∀ (s : State) (raw : Nat), raw < 2 ^ 16 →
    let v := toSigned 16 raw
    let l : Int := s.dev.tjLimit * 16
    (v < l - 208 → s.dev.forced.tj = false →
      ∃ t, exec (.dieTempRead raw) s = .next t ∧ t.dev.int .PWR_TJ 0 = v ∧ t.dev.int .PWR_TJ_PEAK 0 = max (s.dev.int .PWR_TJ_PEAK 0) v ∧
        bit (t.dev.num .FLT_ACTIVE 0) 5 = false ∧ bit (t.dev.num .FLT_ACTIVE 0) 6 = false ∧ s.dev.keeps t.dev [(.PWR_TJ, 0), (.PWR_TJ_PEAK, 0), (.FLT_ACTIVE, 0)]) ∧
    (l - 160 ≤ v → v < l - 80 → s.dev.forced.tj = false →
      ∃ t, exec (.dieTempRead raw) s = .next t ∧ t.dev.int .PWR_TJ 0 = v ∧ bit (t.dev.num .FLT_ACTIVE 0) 5 = true ∧ bit (t.dev.num .FLT_ACTIVE 0) 6 = false ∧
        s.dev.keepsBeside t.dev [(.PWR_TJ, 0), (.PWR_TJ_PEAK, 0), (.FLT_ACTIVE, 0), (.FLT_LATCHED, 0), (.FLT_RAISED, 0), (.FLT_LAST, 0), (.FLT_LAST_TIME, 0)]) ∧
    (l ≤ v → s.dev.int .PWR_TJ_PEAK 0 < v →
      let hot := (s.dev.begin.setI .PWR_TJ 0 v).setI .PWR_TJ_PEAK 0 v
      exec (.dieTempRead raw) s = .next { s with dev := ((hot.faultOn .tjWarn).faultOn .tjMax).force (fun f => { f with tj := true }) })) ∧
  (∀ s : State,
    (s.dev.wakeReady = true → s.dev.allFull = false →
      ∃ t, exec .standbyWakeLimit s = .next t ∧ t.dev.num .DEV_STATE 0 = 0 ∧ t.dev.wakeAt = none ∧ t.dev.num .PWR_STATE 0 = 0 ∧
        t.dev.num .DEV_STATE_ENTRIES 0 = (s.dev.num .DEV_STATE_ENTRIES 0 + 1) % 2 ^ 32) ∧
    (s.dev.wakeReady = false ∨ s.dev.allFull = true → exec .standbyWakeLimit s = .next { s with dev := s.dev.begin }))

/-- R450, R451, R453: the watchdog that expires raises WATCHDOG, and a confirmation ends its condition; a lease that runs out is counted and recorded with its kind and holder; FLT_CLEAR
clears the named latched bits whose conditions are not active, and CLK_FORCED. -/
def Obligations.WatchdogLeasesAndFaults : Prop :=
  ∀ s : State,
    (s.dev.bring = .up →
      ∃ t, exec .watchdogExpire s = .next t ∧ t.dev.wdog = true ∧ bit (t.dev.num .FLT_ACTIVE 0) 9 = true ∧
        s.dev.keepsBeside t.dev [(.FLT_ACTIVE, 0), (.FLT_LATCHED, 0), (.FLT_RAISED, 0), (.FLT_LAST, 0), (.FLT_LAST_TIME, 0)]) ∧
    (s.dev.wdog = true → ∃ t, exec .watchdogConfirm s = .next t ∧ t.dev.wdog = false ∧ bit (t.dev.num .FLT_ACTIVE 0) 9 = false ∧ s.dev.keeps t.dev [(.FLT_ACTIVE, 0)]) ∧
    (s.dev.wdog = false → exec .watchdogConfirm s = .next { s with dev := s.dev.begin }) ∧
    (∀ j, j < 4 → s.dev.num .FLC_JOB_STATE j = 1 →
      ∃ t, exec (.leaseExpire 6 j) s = .next t ∧ t.dev.num .FLC_JOB_STATE j = 4 ∧ t.dev.num .FLT_LEASE_REVOKED 0 = (s.dev.num .FLT_LEASE_REVOKED 0 + 1) % 2 ^ 32 ∧
        t.dev.num .FLT_LEASE_LAST 0 = 6 * 2 ^ 24 + j ∧ bit (t.dev.num .FLT_LATCHED 0) 10 = true ∧
        s.dev.keepsBeside t.dev [(.FLC_JOB_STATE, j), (.FLC_JOB_ERROR, j), (.FLT_LEASE_REVOKED, 0), (.FLT_LEASE_LAST, 0), (.FLT_LATCHED, 0), (.FLT_RAISED, 0),
          (.FLT_LAST, 0), (.FLT_LAST_TIME, 0)]) ∧
    (∀ session mask, session < 1024 → mask < 2 ^ 32 → s.dev.Reaches session → s.dev.heldNow = false →
      ∃ t, exec (.fltClear session mask) s = .next t ∧ t.dev.num .CLK_FORCED 0 = 0 ∧
        (∀ k, k < 16 → bit (t.dev.num .FLT_LATCHED 0) k = (bit (s.dev.num .FLT_LATCHED 0) k && !(bit mask k && !bit (s.dev.num .FLT_ACTIVE 0) k && !bit s.dev.raisedNow k))) ∧
        s.dev.keepsBeside t.dev [(.FLT_LATCHED, 0), (.CLK_FORCED, 0)])

/-- R447, R448, R451: every reset leaves the defaults with its cause and keeps the fuses and the counters in MRAM, and all but PWR_RESET keep exactly the journal's durable entries;
the boot ROM's check follows; a thermal
trip holds the device, and SYSRST_N does not release it; PWR_RESET resets after its response. -/
def Obligations.Resets : Prop :=
  ∀ s : State,
    let after (t : State) (cause : Nat) : Prop := t.pending = s.pending ∧ t.dev.num .PWR_RESET_CAUSE 0 = cause ∧ t.dev.num .DEV_FW_SVN_MIN 0 = s.dev.fuses.svnMin % 2 ^ 16 ∧
      (∀ r i, (r, i) ∉ [(Reg.PWR_RESET_CAUSE, 0), (.DEV_FW_SVN_MIN, 0)] → t.dev.val r i = s.dev.ident.dflt r i) ∧ (∀ r i, t.dev.stg r i = s.dev.ident.dflt r i) ∧
      t.dev.ident = s.dev.ident ∧ t.dev.fuses = s.dev.fuses ∧ t.dev.ctr = s.dev.ctr ∧ t.dev.sess = [] ∧ t.dev.pend = [] ∧ t.dev.dram = [] ∧ t.dev.clk = {}
    (∃ t, exec .powerOnReset s = .next t ∧ after t 1 ∧ t.dev.bring = .boot ∧ t.dev.thermalHeld = false ∧ t.dev.jrn = { kept := s.dev.jrn.kept }) ∧
    (s.dev.thermalHeld = false → ∃ t, exec .systemResetPin s = .next t ∧ after t 2 ∧ t.dev.bring = .boot ∧ t.dev.jrn = { kept := s.dev.jrn.kept }) ∧
    (s.dev.thermalHeld = true → exec .systemResetPin s = .next { s with dev := s.dev.begin }) ∧
    (s.dev.wdog = true → ∃ t, exec .watchdogReset s = .next t ∧ after t 8 ∧ t.dev.bring = .boot ∧ t.dev.jrn = { kept := s.dev.jrn.kept }) ∧
    (s.dev.wdog = false → exec .watchdogReset s = .next { s with dev := s.dev.begin }) ∧
    (∃ t, exec .thermalTrip s = .next t ∧ after t 16 ∧ t.dev.bring = .held ∧ t.dev.thermalHeld = true ∧ t.dev.jrn = { kept := s.dev.jrn.kept }) ∧
    (∀ session, session < 1024 → s.dev.Reaches session → s.dev.heldNow = false →
      ∃ t, exec (.pwrReset session 0xA5) s = .next t ∧ after t 4 ∧ t.dev.bring = .boot ∧ t.dev.outs = [.result 0])

/-- R16, R52, R371, R442, R448, R484: bring-up. The boot ROM runs the slot it chooses and BOOT advances, and waits with none; a wait for the references that ends with all of them ready takes the highest point that the monitor confirms and leads to DRAM
training; the end of training makes the dictionary reachable in LAMBING; PCIE_PERST_N holds the endpoint in Function Level Reset. -/
def Obligations.BringUp : Prop :=
  (∀ (s : State) (a b : Octets) (c : Instr), (c = .bootImageCheck a b ∨ c = .bootRetry a b) → (∀ x ∈ a ++ b, x < 256) → s.dev.bring = .boot → s.dev.rails = [] →
    (chooseSlot s.dev.fuses a b = none → exec c s = .next { s with dev := s.dev.begin }) ∧
    (∀ n img, chooseSlot s.dev.fuses a b = some (n, img) → s.dev.selectBank = none → s.dev.keyOk = true →
      ∃ t, exec c s = .next t ∧ t.dev.bring = .refs ∧ t.dev.fwMeas = some (sha256 (slice img 0 256)) ∧ t.dev.oct .DEV_FW_MEAS 0 = sha256 (slice img 0 256) ∧
        t.dev.num .DEV_FW_SLOT 0 = n ∧ t.dev.num .DEV_FW_VERSION 0 = imageVersion img % 2 ^ 32 ∧ t.dev.num .DEV_FW_SVN 0 = imageSvn img % 2 ^ 16 ∧
        t.dev.num .DEV_BOOT 0 = (s.dev.ctr.boot + 1) % 2 ^ 32 ∧ t.dev.ctr.boot = (s.dev.ctr.boot + 1) % 2 ^ 32 ∧ t.dev.num .NVS_STATE 0 = 2)) ∧
  (∀ (s : State), (s.dev.bring ≠ .refs → exec .refWaitLimit s = .next { s with dev := s.dev.begin }) ∧
    (s.dev.bring = .refs → s.dev.rails = [] → (∀ k, k < 3 → 16384 ≤ (s.dev.refOf k).cycles) →
      ∃ t, exec .refWaitLimit s = .next t ∧ t.dev.bring = .train ∧ t.dev.num .MEM_STATE 0 = 1 ∧ t.dev.num .PWR_POINT 0 = t.dev.confirmedPoint ∧
        t.dev.num .CLK_CORE_HZ 0 = pointMhz t.dev.confirmedPoint * 1000000 ∧ 770 ≤ t.dev.num .PWR_VDD_CORE_MV 0 ∧ t.dev.num .PWR_VDD_CORE_MV 0 ≤ 830 ∧
        t.dev.num .CLK_CORE_PLL 0 = 0 ∧ t.dev.on .TIM_CLOCK_OK 0 = true ∧ (∀ k, k < 3 → (t.dev.refOf k).inUse = true))) ∧
  (∀ (s : State) (ready : Bool) (n : Nat), n < 2 ^ 16 →
    (s.dev.bring ≠ .train → exec (.dramTrainingDone ready n) s = .next { s with dev := s.dev.begin }) ∧
    (s.dev.bring = .train → s.dev.rails = [] →
      (ready = true → exec (.dramTrainingDone ready n) s = .next { s with dev := ((s.dev.begin.set .MEM_LANES_REPAIRED 0 n).set .MEM_STATE 0 2).comeUp }) ∧
      (ready = false → exec (.dramTrainingDone ready n) s =
        .next { s with dev := (((s.dev.begin.set .MEM_LANES_REPAIRED 0 n).set .MEM_STATE 0 3).faultOn .memTrain).comeUp }))) ∧
  (∀ s : State,
    (s.dev.drovers = [] →
      ∃ t, exec .pciePerstAssert s = .next t ∧ t.dev.pcie.perst = true ∧ t.dev.pcie.memEnable = false ∧ t.dev.bar0Up = false ∧ t.dev.mailbox = [] ∧ t.dev.pcie.unmasked = [] ∧
        t.dev.num .PCI_BAR2_WIN 0 = 0 ∧ t.dev.num .PCI_FLRS 0 = (s.dev.num .PCI_FLRS 0 + 1) % 2 ^ 32 ∧ t.dev.dram = s.dev.dram ∧
        s.dev.keeps t.dev [(.PCI_BAR2_WIN, 0), (.COM_BAR0_HI, 0), (.PCI_FLRS, 0), (.PCI_LINK_SPEED, 0), (.PCI_LINK_WIDTH, 0)]) ∧
    exec .pciePerstRelease s = .next { s with dev := { s.dev.begin with pcie := { s.dev.pcie with perst := false } } })

/-- R459, R461, R463, R464, R470, R475: a software transaction is queued by TWI_T_GO, refused with 0x06 while one is queued or in progress; the arbiter starts a pending request of the
first requester from its pointer on a free bus, and moves past it; its end sets the status and the data, with a wrong packet error code as status 7; lost arbitration counts,
and the transaction is retried up to TWI_RETRY times. -/
def Obligations.TwoWireController : Prop :=
  (∀ (s : State) (session : Nat), session < 1024 → s.dev.Reaches session → s.dev.heldNow = false →
    (s.dev.num .TWI_T_STATUS 0 ≠ 1 → s.dev.num .TWI_BUS_STATE 0 ≠ 5 →
      ∃ t, exec (.twiTGo session 1) s = .next t ∧ t.dev.num .TWI_T_STATUS 0 = 1 ∧ s.dev.keeps t.dev [(.TWI_T_STATUS, 0)] ∧ t.dev.outs = [.result 0] ∧
        t.dev.twi = { s.dev.twi with pending := s.dev.twi.pending ++ [{ who := 2, addr := s.dev.num .TWI_T_ADDR 0, wr := s.dev.oct .TWI_T_WR 0, rd := s.dev.num .TWI_T_RD_LEN 0,
                                                                         pec := s.dev.on .TWI_T_PEC 0 }] }) ∧
    (session ≠ 0 → s.dev.num .TWI_T_STATUS 0 = 1 → exec (.twiTGo session 1) s = .next { s with dev := { s.dev.asked session with outs := [.result 0x06] } })) ∧
  (∀ (s : State) (r : TwiReq), s.dev.num .TWI_BUS_STATE 0 = 0 → s.dev.twi.cur = none → s.dev.num .PWR_STATE 0 ≠ 2 → s.dev.twi.pending = [r] → r.who < 3 →
    ∃ t, exec (.twiTransactionStart 0) s = .next t ∧ t.dev.num .TWI_BUS_STATE 0 = 2 ∧ t.dev.outs = [.twi r.addr (Device.twiBytes r) (Device.twiReads r)] ∧
      t.dev.twi = { s.dev.twi with pending := [], cur := some r, tries := 0, retryWait := false, pointer := (r.who + 1) % 3, fresh := false } ∧
      s.dev.keeps t.dev [(.TWI_BUS_STATE, 0)]) ∧
  (∀ (s : State) (r : TwiReq) (outcome done rise ov : Nat) (data : Octets), WF.twiTransactionEnd outcome done rise ov data = true → s.dev.num .TWI_BUS_STATE 0 = 2 →
    s.dev.twi.cur = some r → r.who = 2 → s.dev.twi.pending = [] → rise ≤ s.dev.twi.settings.getD 1 300 → r.wr.length < 2 ^ 8 →
    (outcome = 0 → r.rd ≠ 0 → r.pec = false →
      ∃ t, exec (.twiTransactionEnd outcome done rise ov data) s = .next t ∧ t.dev.num .TWI_T_STATUS 0 = 2 ∧ t.dev.oct .TWI_T_RD 0 = slice data 0 r.rd ∧
        t.dev.num .TWI_T_DONE_BYTES 0 = r.wr.length ∧ t.dev.num .TWI_BUS_STATE 0 = 0 ∧ t.dev.twi.cur = none ∧ t.dev.num .TWI_RISE_MEAS_NS 0 = rise ∧
        s.dev.keeps t.dev [(.TWI_T_STATUS, 0), (.TWI_T_RD, 0), (.TWI_T_DONE_BYTES, 0), (.TWI_BUS_STATE, 0), (.TWI_RISE_MEAS_NS, 0)]) ∧
    (outcome = 0 → r.rd ≠ 0 → r.pec = true → Device.pecOk r data = false →
      ∃ t, exec (.twiTransactionEnd outcome done rise ov data) s = .next t ∧ t.dev.num .TWI_T_STATUS 0 = 7 ∧ t.dev.num .TWI_BUS_STATE 0 = 0) ∧
    (outcome ≠ 0 →
      ∃ t, exec (.twiTransactionEnd outcome done rise ov data) s = .next t ∧ t.dev.num .TWI_T_STATUS 0 = 2 + outcome ∧
        t.dev.num .TWI_T_DONE_BYTES 0 = Nat.min done r.wr.length ∧ t.dev.num .TWI_BUS_STATE 0 = 0 ∧ t.dev.oct .TWI_T_RD 0 = s.dev.oct .TWI_T_RD 0)) ∧
  (∀ (s : State) (r : TwiReq), s.dev.num .TWI_BUS_STATE 0 = 0 → s.dev.num .PWR_STATE 0 ≠ 2 → s.dev.twi.cur = some r → s.dev.twi.retryWait = true →
    (∃ t, exec (.twiArbRetry 0) s = .next t ∧ t.dev.num .TWI_BUS_STATE 0 = 2 ∧ t.dev.twi = { s.dev.twi with retryWait := false, tries := s.dev.twi.tries + 1 } ∧
      t.dev.outs = [.twi r.addr (Device.twiBytes r) (Device.twiReads r)] ∧ s.dev.keeps t.dev [(.TWI_BUS_STATE, 0)]) ∧
    (s.dev.twi.tries + 1 < s.dev.twi.settings.getD 5 3 →
      ∃ t, exec (.twiArbRetry 1) s = .next t ∧ t.dev.num .TWI_BUS_STATE 0 = 1 ∧ t.dev.twi = { s.dev.twi with retryWait := true, tries := s.dev.twi.tries + 1, raisedNow := setBit s.dev.twi.raisedNow 0 } ∧
        bit (t.dev.num .TWI_FLAGS 0) 0 = true ∧ t.dev.num .TWI_ARB_LOST 0 = (s.dev.num .TWI_ARB_LOST 0 + 1) % 2 ^ 32 ∧
        s.dev.keeps t.dev [(.TWI_BUS_STATE, 0), (.TWI_FLAGS, 0), (.TWI_ARB_LOST, 0)]) ∧
    (r.who = 2 → s.dev.twi.settings.getD 5 3 ≤ s.dev.twi.tries + 1 →
      ∃ t, exec (.twiArbRetry 1) s = .next t ∧ t.dev.num .TWI_T_STATUS 0 = 5 ∧ t.dev.twi.cur = none))

/-- R413, R463, R465 to R469, R472 to R474: SCL held low ends the transaction with TIMEOUT, and the recovery that follows frees the bus or leaves it STUCK until a retry does; a quiet bus is free
after reset; as target the device answers a read with its two status bytes and ones, and counts a protocol error; in DEEP_SLEEP a match powers the block, and a second
without one removes its power; another controller's START makes the bus busy and its STOP frees it; TWI_FLAG_CLEAR clears the named flags. -/
def Obligations.TwoWireBusAndTarget : Prop :=
  ∀ s : State,
    (∀ (r : TwiReq) (freed : Bool), s.dev.num .TWI_BUS_STATE 0 = 2 → s.dev.twi.cur = some r → r.who = 2 →
      ∃ t, exec (.twiStretchTimeout freed) s = .next t ∧ t.dev.num .TWI_T_STATUS 0 = 6 ∧ t.dev.twi.cur = none ∧ bit (t.dev.num .TWI_FLAGS 0) 2 = true ∧
        t.dev.num .TWI_TIMEOUTS 0 = (s.dev.num .TWI_TIMEOUTS 0 + 1) % 2 ^ 32 ∧ t.dev.num .FLT_LEASE_LAST 0 = 4 * 2 ^ 24 ∧
        t.dev.num .TWI_BUS_STATE 0 = (if freed then 0 else 5) ∧
        t.dev.num .TWI_RECOVERIES 0 = (if freed then (s.dev.num .TWI_RECOVERIES 0 + 1) % 2 ^ 32 else s.dev.num .TWI_RECOVERIES 0)) ∧
    (s.dev.num .TWI_BUS_STATE 0 = 3 → ∀ freed, ∃ t, exec (.twiStretchTimeout freed) s = .next t ∧ t.dev.num .TWI_BUS_STATE 0 = 1 ∧
      s.dev.keeps t.dev [(.TWI_BUS_STATE, 0), (.TWI_FLAGS, 0), (.TWI_TIMEOUTS, 0)]) ∧
    (s.dev.num .TWI_BUS_STATE 0 = 5 →
      (∃ t, exec (.twiRecoveryRetry true) s = .next t ∧ t.dev.num .TWI_BUS_STATE 0 = 0 ∧ s.dev.keeps t.dev [(.TWI_BUS_STATE, 0), (.TWI_RECOVERIES, 0)]) ∧
      (∃ t, exec (.twiRecoveryRetry false) s = .next t ∧ t.dev.num .TWI_BUS_STATE 0 = 5 ∧ bit (t.dev.num .TWI_FLAGS 0) 3 = true ∧
        s.dev.keeps t.dev [(.TWI_FLAGS, 0), (.TWI_BUS_STATE, 0)])) ∧
    (s.dev.twi.fresh = true → s.dev.num .TWI_BUS_STATE 0 = 1 →
      ∃ t, exec .twiBusIdle s = .next t ∧ t.dev.num .TWI_BUS_STATE 0 = 0 ∧ s.dev.keeps t.dev [(.TWI_BUS_STATE, 0)] ∧ t.dev.twi.settings = s.dev.twiSettings) ∧
    (s.dev.num .TWI_BUS_STATE 0 ≠ 2 → s.dev.bring = .up → s.dev.num .PWR_STATE 0 ≠ 2 →
      (∀ n, 2 ≤ n → n < 2 ^ 16 →
        ∃ t, exec (.twiTargetAddressed 0 n) s = .next t ∧ t.dev.num .TWI_TGT_READS 0 = (s.dev.num .TWI_TGT_READS 0 + 1) % 2 ^ 32 ∧
          t.dev.outs = [.twiRead ([s.dev.num .FLD_STATE 0, (if s.dev.num .TIM_SERVO_STATE 0 = 2 then 1 else 0) + (if s.dev.holdsSync then 2 else 0)] ++ List.replicate (n - 2) 0xFF)] ∧
          s.dev.keeps t.dev [(.TWI_TGT_READS, 0), (.TWI_BUS_STATE, 0)]) ∧
      (∀ n, n < 2 ^ 16 →
        (∃ t, exec (.twiTargetAddressed 2 n) s = .next t ∧ t.dev.outs = [] ∧ t.dev.num .TWI_BUS_STATE 0 = 0 ∧ s.dev.keeps t.dev [(.TWI_BUS_STATE, 0)]) ∧
        (∃ t, exec (.twiTargetAddressed 3 n) s = .next t ∧ bit (t.dev.num .TWI_FLAGS 0) 1 = true ∧ t.dev.num .TWI_BUS_STATE 0 = 1 ∧
          t.dev.num .TWI_PROTO_ERR 0 = (s.dev.num .TWI_PROTO_ERR 0 + 1) % 2 ^ 32 ∧ s.dev.keeps t.dev [(.TWI_FLAGS, 0), (.TWI_PROTO_ERR, 0), (.TWI_BUS_STATE, 0)]))) ∧
    (s.dev.num .PWR_STATE 0 = 2 →
      (s.dev.twi.powered = false → ∃ t, exec .twiSleepMatch s = .next t ∧ t.dev.twi = { s.dev.twi with powered := true } ∧
        t.dev.num .TWI_SLEEP_NACKS 0 = (s.dev.num .TWI_SLEEP_NACKS 0 + 1) % 2 ^ 32 ∧ s.dev.keeps t.dev [(.TWI_SLEEP_NACKS, 0)]) ∧
      exec .twiTargetIdle s = .next { s with dev := { s.dev.begin with twi := { s.dev.twi with powered := false } } }) ∧
    (s.dev.num .PWR_STATE 0 ≠ 2 → exec .twiSleepMatch s = .next { s with dev := s.dev.begin } ∧ exec .twiTargetIdle s = .next { s with dev := s.dev.begin }) ∧
    (s.dev.num .TWI_BUS_STATE 0 ≠ 2 →
      (∃ t, exec (.twiStartStopObserved true) s = .next t ∧ t.dev.num .TWI_BUS_STATE 0 = 0 ∧ t.dev.twi.fresh = false ∧ s.dev.keeps t.dev [(.TWI_BUS_STATE, 0)]) ∧
      (s.dev.num .TWI_BUS_STATE 0 ≠ 5 →
        ∃ t, exec (.twiStartStopObserved false) s = .next t ∧ t.dev.num .TWI_BUS_STATE 0 = 1 ∧ t.dev.twi.fresh = false ∧ s.dev.keeps t.dev [(.TWI_BUS_STATE, 0)])) ∧
    (∀ session mask, session < 1024 → mask ≤ 15 → s.dev.Reaches session → s.dev.heldNow = false →
      ∃ t, exec (.twiFlagClear session mask) s = .next t ∧ (∀ k, k < 4 → bit (t.dev.num .TWI_FLAGS 0) k = (bit (s.dev.num .TWI_FLAGS 0) k && (!bit mask k || bit s.dev.twi.raisedNow k))) ∧
        s.dev.keeps t.dev [(.TWI_FLAGS, 0)] ∧ t.dev.outs = [.result 0])

/-- R332: CRC_CONTEXT reads the running register in its low half and CRC_BYTES in its upper half; a write loads both and leaves the unit started, with no pseudo-header; and a
write of CRC_CONTEXT, CRC_ALG or CRC_MODE while a drover feeds the unit aborts 0x06. -/
def Obligations.CrcContextSavesAndRestores : Prop :=
  (∀ (s : State) (u : Nat), u < 8 → s.dev.liveVal ⟨.CRC_CONTEXT, u⟩ = .num ((s.dev.crcUnit u).reg % 2 ^ 32 + 2 ^ 32 * s.dev.num .CRC_BYTES u)) ∧
  (∀ (s : State) (session u v : Nat), session < 1024 → u < 8 → v < 2 ^ 64 → s.dev.Reaches session → s.dev.heldNow = false →
    (s.dev.crcFed u = false →
      ∃ t, exec (.crcContextWrite session u v) s = .next t ∧ t.dev.crcUnit u = { started := true, reg := v % 2 ^ 32 } ∧ t.dev.num .CRC_BYTES u = v / 2 ^ 32 ∧
        (∀ w, w ≠ u → t.dev.crcUnit w = s.dev.crcUnit w) ∧ s.dev.keeps t.dev [(.CRC_BYTES, u), (.COM_BAR0_HI, 0)] ∧
        t.dev.liveVal ⟨.CRC_CONTEXT, u⟩ = .num v) ∧
    (session ≠ 0 → s.dev.crcFed u = true → exec (.crcContextWrite session u v) s = .next { s with dev := { s.dev.asked session with outs := [.result 0x06] } }) ∧
    (session ≠ 0 → s.dev.crcFed u = true → ∀ x, x < 2 → exec (.objectWrite session false (0x7201 + u) 0x01 [x]) s = .next { s with dev := { s.dev.asked session with outs := [.result 0x06] } }) ∧
    (session ≠ 0 → s.dev.crcFed u = true → ∀ x, x < 16 → exec (.objectWrite session false (0x7201 + u) 0x02 [x]) s = .next { s with dev := { s.dev.asked session with outs := [.result 0x06] } }))

/-- R170: in a fold only the bellwether's DEC_SYNC and POS_GRID_SET act. On a member the pin is ignored, and POS_GRID_SET aborts 0x02 and leaves the origin; on the bellwether of
a formed fold an accepted edge makes the position at the edge the origin, and POS_GRID_SET the position written (with every channel disabled at once, R168). -/
def Obligations.MembersLeaveTheGridToTheBellwether : Prop :=
  (∀ s : State, s.dev.bellwether = false →
    (∀ (rising : Bool) (t0 : Nat), t0 < 2 ^ 64 → exec (.decSyncEdge rising t0) s = .next { s with dev := s.dev.begin }) ∧
    (∀ session g, session < 1024 → g < 2 ^ 64 → s.dev.Reaches session →
      (session ≠ 0 → exec (.posGridSet session g) s = .next { s with dev := { s.dev.asked session with outs := [.result 0x02] } }) ∧
      (session = 0 → s.dev.heldNow = false →
        ∃ t, exec (.posGridSet session g) s = .next t ∧ t.dev.num .COM_BAR0_ABORT 0 = 2 ∧ t.dev.gridPend = s.dev.gridPend ∧ t.dev.rs = s.dev.rs ∧ t.dev.staged = s.dev.staged ∧
          s.dev.keeps t.dev [(.COM_BAR0_HI, 0), (.COM_BAR0_ABORT, 0), (.COM_BAR0_ABORT_AT, 0)]))) ∧
  (∀ s : State, s.dev.num .FLD_STATE 0 = 2 → s.dev.bellwether = true → (∀ n, n < 16 → s.dev.on .CH_ENABLE n = false) →
    (∀ t0, t0 < 2 ^ 64 → s.dev.num .POS_DECSYNC_EDGE 0 = 0 → s.dev.num .POS_DECSYNC_EN 0 = 1 → s.dev.num .STI_MARK_SRC 0 ≠ 9 → s.dev.wiredLines = [] →
      ∃ t, exec (.decSyncEdge true t0) s = .next t ∧ t.dev.num .POS_DECSYNC_COUNT 0 = (s.dev.num .POS_DECSYNC_COUNT 0 + 1) % 2 ^ 32 ∧
        t.dev.num .POS_DECSYNC_POS 0 = s.dev.reading t0 ∧ t.dev.num .POS_GRID_ORIGIN 0 = s.dev.reading t0) ∧
    (∀ session g, session < 1024 → g < 2 ^ 64 → s.dev.Reaches session → s.dev.heldNow = false →
      ∃ t, exec (.posGridSet session g) s = .next t ∧ t.dev.num .POS_GRID_ORIGIN 0 = g ∧ t.dev.gridPend = none))

/-- R130: the Hall triplet. Each step along the sequence 001, 011, 010, 110, 100, 101, 001 is one forward count and each step against it one reverse count (which POS_ENC_INVERT exchanges);
000 and 111 are invalid, and a change to one of them is no count. -/
def Obligations.HallTripletCounts : Prop :=
  ∀ (s : State) (t0 : Nat), t0 < 2 ^ 64 → s.dev.num .POS_QUALITY 0 ≠ 0 → s.dev.pos.active = some 2 →
    let raw : Int := s.dev.num .POS_ENC_RAW 2
    (∀ i a, i < 6 → [1, 3, 2, 6, 4, 5].getD i 0 = a → (s.dev.source 2).code = some a →
      (∃ t, exec (.positionEdge 2 ([1, 3, 2, 6, 4, 5].getD ((i + 1) % 6) 0) t0) s = .next t ∧
        t.dev.num .POS_ENC_RAW 2 = ofSigned 32 (raw + if s.dev.on .POS_ENC_INVERT 2 then -1 else 1)) ∧
      (∃ t, exec (.positionEdge 2 ([1, 3, 2, 6, 4, 5].getD ((i + 5) % 6) 0) t0) s = .next t ∧
        t.dev.num .POS_ENC_RAW 2 = ofSigned 32 (raw + if s.dev.on .POS_ENC_INVERT 2 then 1 else -1)) ∧
      (∀ b, b = 0 ∨ b = 7 → ∃ t, exec (.positionEdge 2 b t0) s = .next t ∧ t.dev.num .POS_ENC_RAW 2 = s.dev.num .POS_ENC_RAW 2 ∧
        t.dev.num .POS_ERR 2 = (s.dev.num .POS_ERR 2 + 1) % 2 ^ 32))
end

