-- ==== Sys2Proof/Laws/State.lean ====
section
/-!
SUPPORT. One lemma for each field and each primitive update of the device: the fields that the update leaves alone, and the one it changes.
-/
namespace Sys2Proof.Machine

/-! ## `Device.put` -/

@[simp] theorem Device.put_ident (d : Device) (r : Reg) (i : Nat) (v : Val) : (d.put r i v).ident = d.ident := rfl
@[simp] theorem Device.put_staged (d : Device) (r : Reg) (i : Nat) (v : Val) : (d.put r i v).staged = d.staged := rfl
@[simp] theorem Device.put_pend (d : Device) (r : Reg) (i : Nat) (v : Val) : (d.put r i v).pend = d.pend := rfl
@[simp] theorem Device.put_released (d : Device) (r : Reg) (i : Nat) (v : Val) : (d.put r i v).released = d.released := rfl
@[simp] theorem Device.put_sess (d : Device) (r : Reg) (i : Nat) (v : Val) : (d.put r i v).sess = d.sess := rfl
@[simp] theorem Device.put_mailbox (d : Device) (r : Reg) (i : Nat) (v : Val) : (d.put r i v).mailbox = d.mailbox := rfl
@[simp] theorem Device.put_nvs (d : Device) (r : Reg) (i : Nat) (v : Val) : (d.put r i v).nvs = d.nvs := rfl
@[simp] theorem Device.put_lastAccess (d : Device) (r : Reg) (i : Nat) (v : Val) : (d.put r i v).lastAccess = d.lastAccess := rfl
@[simp] theorem Device.put_tick (d : Device) (r : Reg) (i : Nat) (v : Val) : (d.put r i v).tick = d.tick := rfl
@[simp] theorem Device.put_lanes (d : Device) (r : Reg) (i : Nat) (v : Val) : (d.put r i v).lanes = d.lanes := rfl
@[simp] theorem Device.put_links (d : Device) (r : Reg) (i : Nat) (v : Val) : (d.put r i v).links = d.links := rfl
@[simp] theorem Device.put_fronts (d : Device) (r : Reg) (i : Nat) (v : Val) : (d.put r i v).fronts = d.fronts := rfl
@[simp] theorem Device.put_sliceLast (d : Device) (r : Reg) (i : Nat) (v : Val) : (d.put r i v).sliceLast = d.sliceLast := rfl
@[simp] theorem Device.put_pos (d : Device) (r : Reg) (i : Nat) (v : Val) : (d.put r i v).pos = d.pos := rfl
@[simp] theorem Device.put_emus (d : Device) (r : Reg) (i : Nat) (v : Val) : (d.put r i v).emus = d.emus := rfl
@[simp] theorem Device.put_rs (d : Device) (r : Reg) (i : Nat) (v : Val) : (d.put r i v).rs = d.rs := rfl
@[simp] theorem Device.put_gridPend (d : Device) (r : Reg) (i : Nat) (v : Val) : (d.put r i v).gridPend = d.gridPend := rfl
@[simp] theorem Device.put_gridPast (d : Device) (r : Reg) (i : Nat) (v : Val) : (d.put r i v).gridPast = d.gridPast := rfl
@[simp] theorem Device.put_stitch (d : Device) (r : Reg) (i : Nat) (v : Val) : (d.put r i v).stitch = d.stitch := rfl
@[simp] theorem Device.put_rep (d : Device) (r : Reg) (i : Nat) (v : Val) : (d.put r i v).rep = d.rep := rfl
@[simp] theorem Device.put_heft (d : Device) (r : Reg) (i : Nat) (v : Val) : (d.put r i v).heft = d.heft := rfl
@[simp] theorem Device.put_seg (d : Device) (r : Reg) (i : Nat) (v : Val) : (d.put r i v).seg = d.seg := rfl
@[simp] theorem Device.put_rdl (d : Device) (r : Reg) (i : Nat) (v : Val) : (d.put r i v).rdl = d.rdl := rfl
@[simp] theorem Device.put_cal (d : Device) (r : Reg) (i : Nat) (v : Val) : (d.put r i v).cal = d.cal := rfl
@[simp] theorem Device.put_flow (d : Device) (r : Reg) (i : Nat) (v : Val) : (d.put r i v).flow = d.flow := rfl
@[simp] theorem Device.put_dram (d : Device) (r : Reg) (i : Nat) (v : Val) : (d.put r i v).dram = d.dram := rfl
@[simp] theorem Device.put_ctl (d : Device) (r : Reg) (i : Nat) (v : Val) : (d.put r i v).ctl = d.ctl := rfl
@[simp] theorem Device.put_jobs (d : Device) (r : Reg) (i : Nat) (v : Val) : (d.put r i v).jobs = d.jobs := rfl
@[simp] theorem Device.put_crcs (d : Device) (r : Reg) (i : Nat) (v : Val) : (d.put r i v).crcs = d.crcs := rfl
@[simp] theorem Device.put_rings (d : Device) (r : Reg) (i : Nat) (v : Val) : (d.put r i v).rings = d.rings := rfl
@[simp] theorem Device.put_neigh (d : Device) (r : Reg) (i : Nat) (v : Val) : (d.put r i v).neigh = d.neigh := rfl
@[simp] theorem Device.put_drovers (d : Device) (r : Reg) (i : Nat) (v : Val) : (d.put r i v).drovers = d.drovers := rfl
@[simp] theorem Device.put_pcie (d : Device) (r : Reg) (i : Nat) (v : Val) : (d.put r i v).pcie = d.pcie := rfl
@[simp] theorem Device.put_jrn (d : Device) (r : Reg) (i : Nat) (v : Val) : (d.put r i v).jrn = d.jrn := rfl
@[simp] theorem Device.put_fuses (d : Device) (r : Reg) (i : Nat) (v : Val) : (d.put r i v).fuses = d.fuses := rfl
@[simp] theorem Device.put_ctr (d : Device) (r : Reg) (i : Nat) (v : Val) : (d.put r i v).ctr = d.ctr := rfl
@[simp] theorem Device.put_keyOk (d : Device) (r : Reg) (i : Nat) (v : Val) : (d.put r i v).keyOk = d.keyOk := rfl
@[simp] theorem Device.put_staging (d : Device) (r : Reg) (i : Nat) (v : Val) : (d.put r i v).staging = d.staging := rfl
@[simp] theorem Device.put_fwMeas (d : Device) (r : Reg) (i : Nat) (v : Val) : (d.put r i v).fwMeas = d.fwMeas := rfl
@[simp] theorem Device.put_clk (d : Device) (r : Reg) (i : Nat) (v : Val) : (d.put r i v).clk = d.clk := rfl
@[simp] theorem Device.put_ptp (d : Device) (r : Reg) (i : Nat) (v : Val) : (d.put r i v).ptp = d.ptp := rfl
@[simp] theorem Device.put_servo (d : Device) (r : Reg) (i : Nat) (v : Val) : (d.put r i v).servo = d.servo := rfl
@[simp] theorem Device.put_tt (d : Device) (r : Reg) (i : Nat) (v : Val) : (d.put r i v).tt = d.tt := rfl
@[simp] theorem Device.put_tcFifo (d : Device) (r : Reg) (i : Nat) (v : Val) : (d.put r i v).tcFifo = d.tcFifo := rfl
@[simp] theorem Device.put_evt (d : Device) (r : Reg) (i : Nat) (v : Val) : (d.put r i v).evt = d.evt := rfl
@[simp] theorem Device.put_fold (d : Device) (r : Reg) (i : Nat) (v : Val) : (d.put r i v).fold = d.fold := rfl
@[simp] theorem Device.put_closing (d : Device) (r : Reg) (i : Nat) (v : Val) : (d.put r i v).closing = d.closing := rfl
@[simp] theorem Device.put_resetDue (d : Device) (r : Reg) (i : Nat) (v : Val) : (d.put r i v).resetDue = d.resetDue := rfl
@[simp] theorem Device.put_bring (d : Device) (r : Reg) (i : Nat) (v : Val) : (d.put r i v).bring = d.bring := rfl
@[simp] theorem Device.put_refs (d : Device) (r : Reg) (i : Nat) (v : Val) : (d.put r i v).refs = d.refs := rfl
@[simp] theorem Device.put_dvfs (d : Device) (r : Reg) (i : Nat) (v : Val) : (d.put r i v).dvfs = d.dvfs := rfl
@[simp] theorem Device.put_voltMv (d : Device) (r : Reg) (i : Nat) (v : Val) : (d.put r i v).voltMv = d.voltMv := rfl
@[simp] theorem Device.put_vrExp (d : Device) (r : Reg) (i : Nat) (v : Val) : (d.put r i v).vrExp = d.vrExp := rfl
@[simp] theorem Device.put_switches (d : Device) (r : Reg) (i : Nat) (v : Val) : (d.put r i v).switches = d.switches := rfl
@[simp] theorem Device.put_forced (d : Device) (r : Reg) (i : Nat) (v : Val) : (d.put r i v).forced = d.forced := rfl
@[simp] theorem Device.put_rails (d : Device) (r : Reg) (i : Nat) (v : Val) : (d.put r i v).rails = d.rails := rfl
@[simp] theorem Device.put_raisedNow (d : Device) (r : Reg) (i : Nat) (v : Val) : (d.put r i v).raisedNow = d.raisedNow := rfl
@[simp] theorem Device.put_wakeNow (d : Device) (r : Reg) (i : Nat) (v : Val) : (d.put r i v).wakeNow = d.wakeNow := rfl
@[simp] theorem Device.put_wdog (d : Device) (r : Reg) (i : Nat) (v : Val) : (d.put r i v).wdog = d.wdog := rfl
@[simp] theorem Device.put_clkOut (d : Device) (r : Reg) (i : Nat) (v : Val) : (d.put r i v).clkOut = d.clkOut := rfl
@[simp] theorem Device.put_thermalHeld (d : Device) (r : Reg) (i : Nat) (v : Val) : (d.put r i v).thermalHeld = d.thermalHeld := rfl
@[simp] theorem Device.put_leftState (d : Device) (r : Reg) (i : Nat) (v : Val) : (d.put r i v).leftState = d.leftState := rfl
@[simp] theorem Device.put_wakeAt (d : Device) (r : Reg) (i : Nat) (v : Val) : (d.put r i v).wakeAt = d.wakeAt := rfl
@[simp] theorem Device.put_twi (d : Device) (r : Reg) (i : Nat) (v : Val) : (d.put r i v).twi = d.twi := rfl
@[simp] theorem Device.put_freeCtr (d : Device) (r : Reg) (i : Nat) (v : Val) : (d.put r i v).freeCtr = d.freeCtr := rfl
@[simp] theorem Device.put_outs (d : Device) (r : Reg) (i : Nat) (v : Val) : (d.put r i v).outs = d.outs := rfl

/-! ## `Device.putStg` -/

@[simp] theorem Device.putStg_ident (d : Device) (r : Reg) (i : Nat) (v : Val) : (d.putStg r i v).ident = d.ident := rfl
@[simp] theorem Device.putStg_live (d : Device) (r : Reg) (i : Nat) (v : Val) : (d.putStg r i v).live = d.live := rfl
@[simp] theorem Device.putStg_pend (d : Device) (r : Reg) (i : Nat) (v : Val) : (d.putStg r i v).pend = d.pend := rfl
@[simp] theorem Device.putStg_released (d : Device) (r : Reg) (i : Nat) (v : Val) : (d.putStg r i v).released = d.released := rfl
@[simp] theorem Device.putStg_sess (d : Device) (r : Reg) (i : Nat) (v : Val) : (d.putStg r i v).sess = d.sess := rfl
@[simp] theorem Device.putStg_mailbox (d : Device) (r : Reg) (i : Nat) (v : Val) : (d.putStg r i v).mailbox = d.mailbox := rfl
@[simp] theorem Device.putStg_nvs (d : Device) (r : Reg) (i : Nat) (v : Val) : (d.putStg r i v).nvs = d.nvs := rfl
@[simp] theorem Device.putStg_lastAccess (d : Device) (r : Reg) (i : Nat) (v : Val) : (d.putStg r i v).lastAccess = d.lastAccess := rfl
@[simp] theorem Device.putStg_tick (d : Device) (r : Reg) (i : Nat) (v : Val) : (d.putStg r i v).tick = d.tick := rfl
@[simp] theorem Device.putStg_lanes (d : Device) (r : Reg) (i : Nat) (v : Val) : (d.putStg r i v).lanes = d.lanes := rfl
@[simp] theorem Device.putStg_links (d : Device) (r : Reg) (i : Nat) (v : Val) : (d.putStg r i v).links = d.links := rfl
@[simp] theorem Device.putStg_fronts (d : Device) (r : Reg) (i : Nat) (v : Val) : (d.putStg r i v).fronts = d.fronts := rfl
@[simp] theorem Device.putStg_sliceLast (d : Device) (r : Reg) (i : Nat) (v : Val) : (d.putStg r i v).sliceLast = d.sliceLast := rfl
@[simp] theorem Device.putStg_pos (d : Device) (r : Reg) (i : Nat) (v : Val) : (d.putStg r i v).pos = d.pos := rfl
@[simp] theorem Device.putStg_emus (d : Device) (r : Reg) (i : Nat) (v : Val) : (d.putStg r i v).emus = d.emus := rfl
@[simp] theorem Device.putStg_rs (d : Device) (r : Reg) (i : Nat) (v : Val) : (d.putStg r i v).rs = d.rs := rfl
@[simp] theorem Device.putStg_gridPend (d : Device) (r : Reg) (i : Nat) (v : Val) : (d.putStg r i v).gridPend = d.gridPend := rfl
@[simp] theorem Device.putStg_gridPast (d : Device) (r : Reg) (i : Nat) (v : Val) : (d.putStg r i v).gridPast = d.gridPast := rfl
@[simp] theorem Device.putStg_stitch (d : Device) (r : Reg) (i : Nat) (v : Val) : (d.putStg r i v).stitch = d.stitch := rfl
@[simp] theorem Device.putStg_rep (d : Device) (r : Reg) (i : Nat) (v : Val) : (d.putStg r i v).rep = d.rep := rfl
@[simp] theorem Device.putStg_heft (d : Device) (r : Reg) (i : Nat) (v : Val) : (d.putStg r i v).heft = d.heft := rfl
@[simp] theorem Device.putStg_seg (d : Device) (r : Reg) (i : Nat) (v : Val) : (d.putStg r i v).seg = d.seg := rfl
@[simp] theorem Device.putStg_rdl (d : Device) (r : Reg) (i : Nat) (v : Val) : (d.putStg r i v).rdl = d.rdl := rfl
@[simp] theorem Device.putStg_cal (d : Device) (r : Reg) (i : Nat) (v : Val) : (d.putStg r i v).cal = d.cal := rfl
@[simp] theorem Device.putStg_flow (d : Device) (r : Reg) (i : Nat) (v : Val) : (d.putStg r i v).flow = d.flow := rfl
@[simp] theorem Device.putStg_dram (d : Device) (r : Reg) (i : Nat) (v : Val) : (d.putStg r i v).dram = d.dram := rfl
@[simp] theorem Device.putStg_ctl (d : Device) (r : Reg) (i : Nat) (v : Val) : (d.putStg r i v).ctl = d.ctl := rfl
@[simp] theorem Device.putStg_jobs (d : Device) (r : Reg) (i : Nat) (v : Val) : (d.putStg r i v).jobs = d.jobs := rfl
@[simp] theorem Device.putStg_crcs (d : Device) (r : Reg) (i : Nat) (v : Val) : (d.putStg r i v).crcs = d.crcs := rfl
@[simp] theorem Device.putStg_rings (d : Device) (r : Reg) (i : Nat) (v : Val) : (d.putStg r i v).rings = d.rings := rfl
@[simp] theorem Device.putStg_neigh (d : Device) (r : Reg) (i : Nat) (v : Val) : (d.putStg r i v).neigh = d.neigh := rfl
@[simp] theorem Device.putStg_drovers (d : Device) (r : Reg) (i : Nat) (v : Val) : (d.putStg r i v).drovers = d.drovers := rfl
@[simp] theorem Device.putStg_pcie (d : Device) (r : Reg) (i : Nat) (v : Val) : (d.putStg r i v).pcie = d.pcie := rfl
@[simp] theorem Device.putStg_jrn (d : Device) (r : Reg) (i : Nat) (v : Val) : (d.putStg r i v).jrn = d.jrn := rfl
@[simp] theorem Device.putStg_fuses (d : Device) (r : Reg) (i : Nat) (v : Val) : (d.putStg r i v).fuses = d.fuses := rfl
@[simp] theorem Device.putStg_ctr (d : Device) (r : Reg) (i : Nat) (v : Val) : (d.putStg r i v).ctr = d.ctr := rfl
@[simp] theorem Device.putStg_keyOk (d : Device) (r : Reg) (i : Nat) (v : Val) : (d.putStg r i v).keyOk = d.keyOk := rfl
@[simp] theorem Device.putStg_staging (d : Device) (r : Reg) (i : Nat) (v : Val) : (d.putStg r i v).staging = d.staging := rfl
@[simp] theorem Device.putStg_fwMeas (d : Device) (r : Reg) (i : Nat) (v : Val) : (d.putStg r i v).fwMeas = d.fwMeas := rfl
@[simp] theorem Device.putStg_clk (d : Device) (r : Reg) (i : Nat) (v : Val) : (d.putStg r i v).clk = d.clk := rfl
@[simp] theorem Device.putStg_ptp (d : Device) (r : Reg) (i : Nat) (v : Val) : (d.putStg r i v).ptp = d.ptp := rfl
@[simp] theorem Device.putStg_servo (d : Device) (r : Reg) (i : Nat) (v : Val) : (d.putStg r i v).servo = d.servo := rfl
@[simp] theorem Device.putStg_tt (d : Device) (r : Reg) (i : Nat) (v : Val) : (d.putStg r i v).tt = d.tt := rfl
@[simp] theorem Device.putStg_tcFifo (d : Device) (r : Reg) (i : Nat) (v : Val) : (d.putStg r i v).tcFifo = d.tcFifo := rfl
@[simp] theorem Device.putStg_evt (d : Device) (r : Reg) (i : Nat) (v : Val) : (d.putStg r i v).evt = d.evt := rfl
@[simp] theorem Device.putStg_fold (d : Device) (r : Reg) (i : Nat) (v : Val) : (d.putStg r i v).fold = d.fold := rfl
@[simp] theorem Device.putStg_closing (d : Device) (r : Reg) (i : Nat) (v : Val) : (d.putStg r i v).closing = d.closing := rfl
@[simp] theorem Device.putStg_resetDue (d : Device) (r : Reg) (i : Nat) (v : Val) : (d.putStg r i v).resetDue = d.resetDue := rfl
@[simp] theorem Device.putStg_bring (d : Device) (r : Reg) (i : Nat) (v : Val) : (d.putStg r i v).bring = d.bring := rfl
@[simp] theorem Device.putStg_refs (d : Device) (r : Reg) (i : Nat) (v : Val) : (d.putStg r i v).refs = d.refs := rfl
@[simp] theorem Device.putStg_dvfs (d : Device) (r : Reg) (i : Nat) (v : Val) : (d.putStg r i v).dvfs = d.dvfs := rfl
@[simp] theorem Device.putStg_voltMv (d : Device) (r : Reg) (i : Nat) (v : Val) : (d.putStg r i v).voltMv = d.voltMv := rfl
@[simp] theorem Device.putStg_vrExp (d : Device) (r : Reg) (i : Nat) (v : Val) : (d.putStg r i v).vrExp = d.vrExp := rfl
@[simp] theorem Device.putStg_switches (d : Device) (r : Reg) (i : Nat) (v : Val) : (d.putStg r i v).switches = d.switches := rfl
@[simp] theorem Device.putStg_forced (d : Device) (r : Reg) (i : Nat) (v : Val) : (d.putStg r i v).forced = d.forced := rfl
@[simp] theorem Device.putStg_rails (d : Device) (r : Reg) (i : Nat) (v : Val) : (d.putStg r i v).rails = d.rails := rfl
@[simp] theorem Device.putStg_raisedNow (d : Device) (r : Reg) (i : Nat) (v : Val) : (d.putStg r i v).raisedNow = d.raisedNow := rfl
@[simp] theorem Device.putStg_wakeNow (d : Device) (r : Reg) (i : Nat) (v : Val) : (d.putStg r i v).wakeNow = d.wakeNow := rfl
@[simp] theorem Device.putStg_wdog (d : Device) (r : Reg) (i : Nat) (v : Val) : (d.putStg r i v).wdog = d.wdog := rfl
@[simp] theorem Device.putStg_clkOut (d : Device) (r : Reg) (i : Nat) (v : Val) : (d.putStg r i v).clkOut = d.clkOut := rfl
@[simp] theorem Device.putStg_thermalHeld (d : Device) (r : Reg) (i : Nat) (v : Val) : (d.putStg r i v).thermalHeld = d.thermalHeld := rfl
@[simp] theorem Device.putStg_leftState (d : Device) (r : Reg) (i : Nat) (v : Val) : (d.putStg r i v).leftState = d.leftState := rfl
@[simp] theorem Device.putStg_wakeAt (d : Device) (r : Reg) (i : Nat) (v : Val) : (d.putStg r i v).wakeAt = d.wakeAt := rfl
@[simp] theorem Device.putStg_twi (d : Device) (r : Reg) (i : Nat) (v : Val) : (d.putStg r i v).twi = d.twi := rfl
@[simp] theorem Device.putStg_freeCtr (d : Device) (r : Reg) (i : Nat) (v : Val) : (d.putStg r i v).freeCtr = d.freeCtr := rfl
@[simp] theorem Device.putStg_outs (d : Device) (r : Reg) (i : Nat) (v : Val) : (d.putStg r i v).outs = d.outs := rfl

/-! ## `Device.set` -/

@[simp] theorem Device.set_ident (d : Device) (r : Reg) (i n : Nat) : (d.set r i n).ident = d.ident := rfl
@[simp] theorem Device.set_staged (d : Device) (r : Reg) (i n : Nat) : (d.set r i n).staged = d.staged := rfl
@[simp] theorem Device.set_pend (d : Device) (r : Reg) (i n : Nat) : (d.set r i n).pend = d.pend := rfl
@[simp] theorem Device.set_released (d : Device) (r : Reg) (i n : Nat) : (d.set r i n).released = d.released := rfl
@[simp] theorem Device.set_sess (d : Device) (r : Reg) (i n : Nat) : (d.set r i n).sess = d.sess := rfl
@[simp] theorem Device.set_mailbox (d : Device) (r : Reg) (i n : Nat) : (d.set r i n).mailbox = d.mailbox := rfl
@[simp] theorem Device.set_nvs (d : Device) (r : Reg) (i n : Nat) : (d.set r i n).nvs = d.nvs := rfl
@[simp] theorem Device.set_lastAccess (d : Device) (r : Reg) (i n : Nat) : (d.set r i n).lastAccess = d.lastAccess := rfl
@[simp] theorem Device.set_tick (d : Device) (r : Reg) (i n : Nat) : (d.set r i n).tick = d.tick := rfl
@[simp] theorem Device.set_lanes (d : Device) (r : Reg) (i n : Nat) : (d.set r i n).lanes = d.lanes := rfl
@[simp] theorem Device.set_links (d : Device) (r : Reg) (i n : Nat) : (d.set r i n).links = d.links := rfl
@[simp] theorem Device.set_fronts (d : Device) (r : Reg) (i n : Nat) : (d.set r i n).fronts = d.fronts := rfl
@[simp] theorem Device.set_sliceLast (d : Device) (r : Reg) (i n : Nat) : (d.set r i n).sliceLast = d.sliceLast := rfl
@[simp] theorem Device.set_pos (d : Device) (r : Reg) (i n : Nat) : (d.set r i n).pos = d.pos := rfl
@[simp] theorem Device.set_emus (d : Device) (r : Reg) (i n : Nat) : (d.set r i n).emus = d.emus := rfl
@[simp] theorem Device.set_rs (d : Device) (r : Reg) (i n : Nat) : (d.set r i n).rs = d.rs := rfl
@[simp] theorem Device.set_gridPend (d : Device) (r : Reg) (i n : Nat) : (d.set r i n).gridPend = d.gridPend := rfl
@[simp] theorem Device.set_gridPast (d : Device) (r : Reg) (i n : Nat) : (d.set r i n).gridPast = d.gridPast := rfl
@[simp] theorem Device.set_stitch (d : Device) (r : Reg) (i n : Nat) : (d.set r i n).stitch = d.stitch := rfl
@[simp] theorem Device.set_rep (d : Device) (r : Reg) (i n : Nat) : (d.set r i n).rep = d.rep := rfl
@[simp] theorem Device.set_heft (d : Device) (r : Reg) (i n : Nat) : (d.set r i n).heft = d.heft := rfl
@[simp] theorem Device.set_seg (d : Device) (r : Reg) (i n : Nat) : (d.set r i n).seg = d.seg := rfl
@[simp] theorem Device.set_rdl (d : Device) (r : Reg) (i n : Nat) : (d.set r i n).rdl = d.rdl := rfl
@[simp] theorem Device.set_cal (d : Device) (r : Reg) (i n : Nat) : (d.set r i n).cal = d.cal := rfl
@[simp] theorem Device.set_flow (d : Device) (r : Reg) (i n : Nat) : (d.set r i n).flow = d.flow := rfl
@[simp] theorem Device.set_dram (d : Device) (r : Reg) (i n : Nat) : (d.set r i n).dram = d.dram := rfl
@[simp] theorem Device.set_ctl (d : Device) (r : Reg) (i n : Nat) : (d.set r i n).ctl = d.ctl := rfl
@[simp] theorem Device.set_jobs (d : Device) (r : Reg) (i n : Nat) : (d.set r i n).jobs = d.jobs := rfl
@[simp] theorem Device.set_crcs (d : Device) (r : Reg) (i n : Nat) : (d.set r i n).crcs = d.crcs := rfl
@[simp] theorem Device.set_rings (d : Device) (r : Reg) (i n : Nat) : (d.set r i n).rings = d.rings := rfl
@[simp] theorem Device.set_neigh (d : Device) (r : Reg) (i n : Nat) : (d.set r i n).neigh = d.neigh := rfl
@[simp] theorem Device.set_drovers (d : Device) (r : Reg) (i n : Nat) : (d.set r i n).drovers = d.drovers := rfl
@[simp] theorem Device.set_pcie (d : Device) (r : Reg) (i n : Nat) : (d.set r i n).pcie = d.pcie := rfl
@[simp] theorem Device.set_jrn (d : Device) (r : Reg) (i n : Nat) : (d.set r i n).jrn = d.jrn := rfl
@[simp] theorem Device.set_fuses (d : Device) (r : Reg) (i n : Nat) : (d.set r i n).fuses = d.fuses := rfl
@[simp] theorem Device.set_ctr (d : Device) (r : Reg) (i n : Nat) : (d.set r i n).ctr = d.ctr := rfl
@[simp] theorem Device.set_keyOk (d : Device) (r : Reg) (i n : Nat) : (d.set r i n).keyOk = d.keyOk := rfl
@[simp] theorem Device.set_staging (d : Device) (r : Reg) (i n : Nat) : (d.set r i n).staging = d.staging := rfl
@[simp] theorem Device.set_fwMeas (d : Device) (r : Reg) (i n : Nat) : (d.set r i n).fwMeas = d.fwMeas := rfl
@[simp] theorem Device.set_clk (d : Device) (r : Reg) (i n : Nat) : (d.set r i n).clk = d.clk := rfl
@[simp] theorem Device.set_ptp (d : Device) (r : Reg) (i n : Nat) : (d.set r i n).ptp = d.ptp := rfl
@[simp] theorem Device.set_servo (d : Device) (r : Reg) (i n : Nat) : (d.set r i n).servo = d.servo := rfl
@[simp] theorem Device.set_tt (d : Device) (r : Reg) (i n : Nat) : (d.set r i n).tt = d.tt := rfl
@[simp] theorem Device.set_tcFifo (d : Device) (r : Reg) (i n : Nat) : (d.set r i n).tcFifo = d.tcFifo := rfl
@[simp] theorem Device.set_evt (d : Device) (r : Reg) (i n : Nat) : (d.set r i n).evt = d.evt := rfl
@[simp] theorem Device.set_fold (d : Device) (r : Reg) (i n : Nat) : (d.set r i n).fold = d.fold := rfl
@[simp] theorem Device.set_closing (d : Device) (r : Reg) (i n : Nat) : (d.set r i n).closing = d.closing := rfl
@[simp] theorem Device.set_resetDue (d : Device) (r : Reg) (i n : Nat) : (d.set r i n).resetDue = d.resetDue := rfl
@[simp] theorem Device.set_bring (d : Device) (r : Reg) (i n : Nat) : (d.set r i n).bring = d.bring := rfl
@[simp] theorem Device.set_refs (d : Device) (r : Reg) (i n : Nat) : (d.set r i n).refs = d.refs := rfl
@[simp] theorem Device.set_dvfs (d : Device) (r : Reg) (i n : Nat) : (d.set r i n).dvfs = d.dvfs := rfl
@[simp] theorem Device.set_voltMv (d : Device) (r : Reg) (i n : Nat) : (d.set r i n).voltMv = d.voltMv := rfl
@[simp] theorem Device.set_vrExp (d : Device) (r : Reg) (i n : Nat) : (d.set r i n).vrExp = d.vrExp := rfl
@[simp] theorem Device.set_switches (d : Device) (r : Reg) (i n : Nat) : (d.set r i n).switches = d.switches := rfl
@[simp] theorem Device.set_forced (d : Device) (r : Reg) (i n : Nat) : (d.set r i n).forced = d.forced := rfl
@[simp] theorem Device.set_rails (d : Device) (r : Reg) (i n : Nat) : (d.set r i n).rails = d.rails := rfl
@[simp] theorem Device.set_raisedNow (d : Device) (r : Reg) (i n : Nat) : (d.set r i n).raisedNow = d.raisedNow := rfl
@[simp] theorem Device.set_wakeNow (d : Device) (r : Reg) (i n : Nat) : (d.set r i n).wakeNow = d.wakeNow := rfl
@[simp] theorem Device.set_wdog (d : Device) (r : Reg) (i n : Nat) : (d.set r i n).wdog = d.wdog := rfl
@[simp] theorem Device.set_clkOut (d : Device) (r : Reg) (i n : Nat) : (d.set r i n).clkOut = d.clkOut := rfl
@[simp] theorem Device.set_thermalHeld (d : Device) (r : Reg) (i n : Nat) : (d.set r i n).thermalHeld = d.thermalHeld := rfl
@[simp] theorem Device.set_leftState (d : Device) (r : Reg) (i n : Nat) : (d.set r i n).leftState = d.leftState := rfl
@[simp] theorem Device.set_wakeAt (d : Device) (r : Reg) (i n : Nat) : (d.set r i n).wakeAt = d.wakeAt := rfl
@[simp] theorem Device.set_twi (d : Device) (r : Reg) (i n : Nat) : (d.set r i n).twi = d.twi := rfl
@[simp] theorem Device.set_freeCtr (d : Device) (r : Reg) (i n : Nat) : (d.set r i n).freeCtr = d.freeCtr := rfl
@[simp] theorem Device.set_outs (d : Device) (r : Reg) (i n : Nat) : (d.set r i n).outs = d.outs := rfl

/-! ## `Device.setI` -/

@[simp] theorem Device.setI_ident (d : Device) (r : Reg) (i : Nat) (n : Int) : (d.setI r i n).ident = d.ident := rfl
@[simp] theorem Device.setI_staged (d : Device) (r : Reg) (i : Nat) (n : Int) : (d.setI r i n).staged = d.staged := rfl
@[simp] theorem Device.setI_pend (d : Device) (r : Reg) (i : Nat) (n : Int) : (d.setI r i n).pend = d.pend := rfl
@[simp] theorem Device.setI_released (d : Device) (r : Reg) (i : Nat) (n : Int) : (d.setI r i n).released = d.released := rfl
@[simp] theorem Device.setI_sess (d : Device) (r : Reg) (i : Nat) (n : Int) : (d.setI r i n).sess = d.sess := rfl
@[simp] theorem Device.setI_mailbox (d : Device) (r : Reg) (i : Nat) (n : Int) : (d.setI r i n).mailbox = d.mailbox := rfl
@[simp] theorem Device.setI_nvs (d : Device) (r : Reg) (i : Nat) (n : Int) : (d.setI r i n).nvs = d.nvs := rfl
@[simp] theorem Device.setI_lastAccess (d : Device) (r : Reg) (i : Nat) (n : Int) : (d.setI r i n).lastAccess = d.lastAccess := rfl
@[simp] theorem Device.setI_tick (d : Device) (r : Reg) (i : Nat) (n : Int) : (d.setI r i n).tick = d.tick := rfl
@[simp] theorem Device.setI_lanes (d : Device) (r : Reg) (i : Nat) (n : Int) : (d.setI r i n).lanes = d.lanes := rfl
@[simp] theorem Device.setI_links (d : Device) (r : Reg) (i : Nat) (n : Int) : (d.setI r i n).links = d.links := rfl
@[simp] theorem Device.setI_fronts (d : Device) (r : Reg) (i : Nat) (n : Int) : (d.setI r i n).fronts = d.fronts := rfl
@[simp] theorem Device.setI_sliceLast (d : Device) (r : Reg) (i : Nat) (n : Int) : (d.setI r i n).sliceLast = d.sliceLast := rfl
@[simp] theorem Device.setI_pos (d : Device) (r : Reg) (i : Nat) (n : Int) : (d.setI r i n).pos = d.pos := rfl
@[simp] theorem Device.setI_emus (d : Device) (r : Reg) (i : Nat) (n : Int) : (d.setI r i n).emus = d.emus := rfl
@[simp] theorem Device.setI_rs (d : Device) (r : Reg) (i : Nat) (n : Int) : (d.setI r i n).rs = d.rs := rfl
@[simp] theorem Device.setI_gridPend (d : Device) (r : Reg) (i : Nat) (n : Int) : (d.setI r i n).gridPend = d.gridPend := rfl
@[simp] theorem Device.setI_gridPast (d : Device) (r : Reg) (i : Nat) (n : Int) : (d.setI r i n).gridPast = d.gridPast := rfl
@[simp] theorem Device.setI_stitch (d : Device) (r : Reg) (i : Nat) (n : Int) : (d.setI r i n).stitch = d.stitch := rfl
@[simp] theorem Device.setI_rep (d : Device) (r : Reg) (i : Nat) (n : Int) : (d.setI r i n).rep = d.rep := rfl
@[simp] theorem Device.setI_heft (d : Device) (r : Reg) (i : Nat) (n : Int) : (d.setI r i n).heft = d.heft := rfl
@[simp] theorem Device.setI_seg (d : Device) (r : Reg) (i : Nat) (n : Int) : (d.setI r i n).seg = d.seg := rfl
@[simp] theorem Device.setI_rdl (d : Device) (r : Reg) (i : Nat) (n : Int) : (d.setI r i n).rdl = d.rdl := rfl
@[simp] theorem Device.setI_cal (d : Device) (r : Reg) (i : Nat) (n : Int) : (d.setI r i n).cal = d.cal := rfl
@[simp] theorem Device.setI_flow (d : Device) (r : Reg) (i : Nat) (n : Int) : (d.setI r i n).flow = d.flow := rfl
@[simp] theorem Device.setI_dram (d : Device) (r : Reg) (i : Nat) (n : Int) : (d.setI r i n).dram = d.dram := rfl
@[simp] theorem Device.setI_ctl (d : Device) (r : Reg) (i : Nat) (n : Int) : (d.setI r i n).ctl = d.ctl := rfl
@[simp] theorem Device.setI_jobs (d : Device) (r : Reg) (i : Nat) (n : Int) : (d.setI r i n).jobs = d.jobs := rfl
@[simp] theorem Device.setI_crcs (d : Device) (r : Reg) (i : Nat) (n : Int) : (d.setI r i n).crcs = d.crcs := rfl
@[simp] theorem Device.setI_rings (d : Device) (r : Reg) (i : Nat) (n : Int) : (d.setI r i n).rings = d.rings := rfl
@[simp] theorem Device.setI_neigh (d : Device) (r : Reg) (i : Nat) (n : Int) : (d.setI r i n).neigh = d.neigh := rfl
@[simp] theorem Device.setI_drovers (d : Device) (r : Reg) (i : Nat) (n : Int) : (d.setI r i n).drovers = d.drovers := rfl
@[simp] theorem Device.setI_pcie (d : Device) (r : Reg) (i : Nat) (n : Int) : (d.setI r i n).pcie = d.pcie := rfl
@[simp] theorem Device.setI_jrn (d : Device) (r : Reg) (i : Nat) (n : Int) : (d.setI r i n).jrn = d.jrn := rfl
@[simp] theorem Device.setI_fuses (d : Device) (r : Reg) (i : Nat) (n : Int) : (d.setI r i n).fuses = d.fuses := rfl
@[simp] theorem Device.setI_ctr (d : Device) (r : Reg) (i : Nat) (n : Int) : (d.setI r i n).ctr = d.ctr := rfl
@[simp] theorem Device.setI_keyOk (d : Device) (r : Reg) (i : Nat) (n : Int) : (d.setI r i n).keyOk = d.keyOk := rfl
@[simp] theorem Device.setI_staging (d : Device) (r : Reg) (i : Nat) (n : Int) : (d.setI r i n).staging = d.staging := rfl
@[simp] theorem Device.setI_fwMeas (d : Device) (r : Reg) (i : Nat) (n : Int) : (d.setI r i n).fwMeas = d.fwMeas := rfl
@[simp] theorem Device.setI_clk (d : Device) (r : Reg) (i : Nat) (n : Int) : (d.setI r i n).clk = d.clk := rfl
@[simp] theorem Device.setI_ptp (d : Device) (r : Reg) (i : Nat) (n : Int) : (d.setI r i n).ptp = d.ptp := rfl
@[simp] theorem Device.setI_servo (d : Device) (r : Reg) (i : Nat) (n : Int) : (d.setI r i n).servo = d.servo := rfl
@[simp] theorem Device.setI_tt (d : Device) (r : Reg) (i : Nat) (n : Int) : (d.setI r i n).tt = d.tt := rfl
@[simp] theorem Device.setI_tcFifo (d : Device) (r : Reg) (i : Nat) (n : Int) : (d.setI r i n).tcFifo = d.tcFifo := rfl
@[simp] theorem Device.setI_evt (d : Device) (r : Reg) (i : Nat) (n : Int) : (d.setI r i n).evt = d.evt := rfl
@[simp] theorem Device.setI_fold (d : Device) (r : Reg) (i : Nat) (n : Int) : (d.setI r i n).fold = d.fold := rfl
@[simp] theorem Device.setI_closing (d : Device) (r : Reg) (i : Nat) (n : Int) : (d.setI r i n).closing = d.closing := rfl
@[simp] theorem Device.setI_resetDue (d : Device) (r : Reg) (i : Nat) (n : Int) : (d.setI r i n).resetDue = d.resetDue := rfl
@[simp] theorem Device.setI_bring (d : Device) (r : Reg) (i : Nat) (n : Int) : (d.setI r i n).bring = d.bring := rfl
@[simp] theorem Device.setI_refs (d : Device) (r : Reg) (i : Nat) (n : Int) : (d.setI r i n).refs = d.refs := rfl
@[simp] theorem Device.setI_dvfs (d : Device) (r : Reg) (i : Nat) (n : Int) : (d.setI r i n).dvfs = d.dvfs := rfl
@[simp] theorem Device.setI_voltMv (d : Device) (r : Reg) (i : Nat) (n : Int) : (d.setI r i n).voltMv = d.voltMv := rfl
@[simp] theorem Device.setI_vrExp (d : Device) (r : Reg) (i : Nat) (n : Int) : (d.setI r i n).vrExp = d.vrExp := rfl
@[simp] theorem Device.setI_switches (d : Device) (r : Reg) (i : Nat) (n : Int) : (d.setI r i n).switches = d.switches := rfl
@[simp] theorem Device.setI_forced (d : Device) (r : Reg) (i : Nat) (n : Int) : (d.setI r i n).forced = d.forced := rfl
@[simp] theorem Device.setI_rails (d : Device) (r : Reg) (i : Nat) (n : Int) : (d.setI r i n).rails = d.rails := rfl
@[simp] theorem Device.setI_raisedNow (d : Device) (r : Reg) (i : Nat) (n : Int) : (d.setI r i n).raisedNow = d.raisedNow := rfl
@[simp] theorem Device.setI_wakeNow (d : Device) (r : Reg) (i : Nat) (n : Int) : (d.setI r i n).wakeNow = d.wakeNow := rfl
@[simp] theorem Device.setI_wdog (d : Device) (r : Reg) (i : Nat) (n : Int) : (d.setI r i n).wdog = d.wdog := rfl
@[simp] theorem Device.setI_clkOut (d : Device) (r : Reg) (i : Nat) (n : Int) : (d.setI r i n).clkOut = d.clkOut := rfl
@[simp] theorem Device.setI_thermalHeld (d : Device) (r : Reg) (i : Nat) (n : Int) : (d.setI r i n).thermalHeld = d.thermalHeld := rfl
@[simp] theorem Device.setI_leftState (d : Device) (r : Reg) (i : Nat) (n : Int) : (d.setI r i n).leftState = d.leftState := rfl
@[simp] theorem Device.setI_wakeAt (d : Device) (r : Reg) (i : Nat) (n : Int) : (d.setI r i n).wakeAt = d.wakeAt := rfl
@[simp] theorem Device.setI_twi (d : Device) (r : Reg) (i : Nat) (n : Int) : (d.setI r i n).twi = d.twi := rfl
@[simp] theorem Device.setI_freeCtr (d : Device) (r : Reg) (i : Nat) (n : Int) : (d.setI r i n).freeCtr = d.freeCtr := rfl
@[simp] theorem Device.setI_outs (d : Device) (r : Reg) (i : Nat) (n : Int) : (d.setI r i n).outs = d.outs := rfl

/-! ## `Device.setOn` -/

@[simp] theorem Device.setOn_ident (d : Device) (r : Reg) (i : Nat) (b : Bool) : (d.setOn r i b).ident = d.ident := rfl
@[simp] theorem Device.setOn_staged (d : Device) (r : Reg) (i : Nat) (b : Bool) : (d.setOn r i b).staged = d.staged := rfl
@[simp] theorem Device.setOn_pend (d : Device) (r : Reg) (i : Nat) (b : Bool) : (d.setOn r i b).pend = d.pend := rfl
@[simp] theorem Device.setOn_released (d : Device) (r : Reg) (i : Nat) (b : Bool) : (d.setOn r i b).released = d.released := rfl
@[simp] theorem Device.setOn_sess (d : Device) (r : Reg) (i : Nat) (b : Bool) : (d.setOn r i b).sess = d.sess := rfl
@[simp] theorem Device.setOn_mailbox (d : Device) (r : Reg) (i : Nat) (b : Bool) : (d.setOn r i b).mailbox = d.mailbox := rfl
@[simp] theorem Device.setOn_nvs (d : Device) (r : Reg) (i : Nat) (b : Bool) : (d.setOn r i b).nvs = d.nvs := rfl
@[simp] theorem Device.setOn_lastAccess (d : Device) (r : Reg) (i : Nat) (b : Bool) : (d.setOn r i b).lastAccess = d.lastAccess := rfl
@[simp] theorem Device.setOn_tick (d : Device) (r : Reg) (i : Nat) (b : Bool) : (d.setOn r i b).tick = d.tick := rfl
@[simp] theorem Device.setOn_lanes (d : Device) (r : Reg) (i : Nat) (b : Bool) : (d.setOn r i b).lanes = d.lanes := rfl
@[simp] theorem Device.setOn_links (d : Device) (r : Reg) (i : Nat) (b : Bool) : (d.setOn r i b).links = d.links := rfl
@[simp] theorem Device.setOn_fronts (d : Device) (r : Reg) (i : Nat) (b : Bool) : (d.setOn r i b).fronts = d.fronts := rfl
@[simp] theorem Device.setOn_sliceLast (d : Device) (r : Reg) (i : Nat) (b : Bool) : (d.setOn r i b).sliceLast = d.sliceLast := rfl
@[simp] theorem Device.setOn_pos (d : Device) (r : Reg) (i : Nat) (b : Bool) : (d.setOn r i b).pos = d.pos := rfl
@[simp] theorem Device.setOn_emus (d : Device) (r : Reg) (i : Nat) (b : Bool) : (d.setOn r i b).emus = d.emus := rfl
@[simp] theorem Device.setOn_rs (d : Device) (r : Reg) (i : Nat) (b : Bool) : (d.setOn r i b).rs = d.rs := rfl
@[simp] theorem Device.setOn_gridPend (d : Device) (r : Reg) (i : Nat) (b : Bool) : (d.setOn r i b).gridPend = d.gridPend := rfl
@[simp] theorem Device.setOn_gridPast (d : Device) (r : Reg) (i : Nat) (b : Bool) : (d.setOn r i b).gridPast = d.gridPast := rfl
@[simp] theorem Device.setOn_stitch (d : Device) (r : Reg) (i : Nat) (b : Bool) : (d.setOn r i b).stitch = d.stitch := rfl
@[simp] theorem Device.setOn_rep (d : Device) (r : Reg) (i : Nat) (b : Bool) : (d.setOn r i b).rep = d.rep := rfl
@[simp] theorem Device.setOn_heft (d : Device) (r : Reg) (i : Nat) (b : Bool) : (d.setOn r i b).heft = d.heft := rfl
@[simp] theorem Device.setOn_seg (d : Device) (r : Reg) (i : Nat) (b : Bool) : (d.setOn r i b).seg = d.seg := rfl
@[simp] theorem Device.setOn_rdl (d : Device) (r : Reg) (i : Nat) (b : Bool) : (d.setOn r i b).rdl = d.rdl := rfl
@[simp] theorem Device.setOn_cal (d : Device) (r : Reg) (i : Nat) (b : Bool) : (d.setOn r i b).cal = d.cal := rfl
@[simp] theorem Device.setOn_flow (d : Device) (r : Reg) (i : Nat) (b : Bool) : (d.setOn r i b).flow = d.flow := rfl
@[simp] theorem Device.setOn_dram (d : Device) (r : Reg) (i : Nat) (b : Bool) : (d.setOn r i b).dram = d.dram := rfl
@[simp] theorem Device.setOn_ctl (d : Device) (r : Reg) (i : Nat) (b : Bool) : (d.setOn r i b).ctl = d.ctl := rfl
@[simp] theorem Device.setOn_jobs (d : Device) (r : Reg) (i : Nat) (b : Bool) : (d.setOn r i b).jobs = d.jobs := rfl
@[simp] theorem Device.setOn_crcs (d : Device) (r : Reg) (i : Nat) (b : Bool) : (d.setOn r i b).crcs = d.crcs := rfl
@[simp] theorem Device.setOn_rings (d : Device) (r : Reg) (i : Nat) (b : Bool) : (d.setOn r i b).rings = d.rings := rfl
@[simp] theorem Device.setOn_neigh (d : Device) (r : Reg) (i : Nat) (b : Bool) : (d.setOn r i b).neigh = d.neigh := rfl
@[simp] theorem Device.setOn_drovers (d : Device) (r : Reg) (i : Nat) (b : Bool) : (d.setOn r i b).drovers = d.drovers := rfl
@[simp] theorem Device.setOn_pcie (d : Device) (r : Reg) (i : Nat) (b : Bool) : (d.setOn r i b).pcie = d.pcie := rfl
@[simp] theorem Device.setOn_jrn (d : Device) (r : Reg) (i : Nat) (b : Bool) : (d.setOn r i b).jrn = d.jrn := rfl
@[simp] theorem Device.setOn_fuses (d : Device) (r : Reg) (i : Nat) (b : Bool) : (d.setOn r i b).fuses = d.fuses := rfl
@[simp] theorem Device.setOn_ctr (d : Device) (r : Reg) (i : Nat) (b : Bool) : (d.setOn r i b).ctr = d.ctr := rfl
@[simp] theorem Device.setOn_keyOk (d : Device) (r : Reg) (i : Nat) (b : Bool) : (d.setOn r i b).keyOk = d.keyOk := rfl
@[simp] theorem Device.setOn_staging (d : Device) (r : Reg) (i : Nat) (b : Bool) : (d.setOn r i b).staging = d.staging := rfl
@[simp] theorem Device.setOn_fwMeas (d : Device) (r : Reg) (i : Nat) (b : Bool) : (d.setOn r i b).fwMeas = d.fwMeas := rfl
@[simp] theorem Device.setOn_clk (d : Device) (r : Reg) (i : Nat) (b : Bool) : (d.setOn r i b).clk = d.clk := rfl
@[simp] theorem Device.setOn_ptp (d : Device) (r : Reg) (i : Nat) (b : Bool) : (d.setOn r i b).ptp = d.ptp := rfl
@[simp] theorem Device.setOn_servo (d : Device) (r : Reg) (i : Nat) (b : Bool) : (d.setOn r i b).servo = d.servo := rfl
@[simp] theorem Device.setOn_tt (d : Device) (r : Reg) (i : Nat) (b : Bool) : (d.setOn r i b).tt = d.tt := rfl
@[simp] theorem Device.setOn_tcFifo (d : Device) (r : Reg) (i : Nat) (b : Bool) : (d.setOn r i b).tcFifo = d.tcFifo := rfl
@[simp] theorem Device.setOn_evt (d : Device) (r : Reg) (i : Nat) (b : Bool) : (d.setOn r i b).evt = d.evt := rfl
@[simp] theorem Device.setOn_fold (d : Device) (r : Reg) (i : Nat) (b : Bool) : (d.setOn r i b).fold = d.fold := rfl
@[simp] theorem Device.setOn_closing (d : Device) (r : Reg) (i : Nat) (b : Bool) : (d.setOn r i b).closing = d.closing := rfl
@[simp] theorem Device.setOn_resetDue (d : Device) (r : Reg) (i : Nat) (b : Bool) : (d.setOn r i b).resetDue = d.resetDue := rfl
@[simp] theorem Device.setOn_bring (d : Device) (r : Reg) (i : Nat) (b : Bool) : (d.setOn r i b).bring = d.bring := rfl
@[simp] theorem Device.setOn_refs (d : Device) (r : Reg) (i : Nat) (b : Bool) : (d.setOn r i b).refs = d.refs := rfl
@[simp] theorem Device.setOn_dvfs (d : Device) (r : Reg) (i : Nat) (b : Bool) : (d.setOn r i b).dvfs = d.dvfs := rfl
@[simp] theorem Device.setOn_voltMv (d : Device) (r : Reg) (i : Nat) (b : Bool) : (d.setOn r i b).voltMv = d.voltMv := rfl
@[simp] theorem Device.setOn_vrExp (d : Device) (r : Reg) (i : Nat) (b : Bool) : (d.setOn r i b).vrExp = d.vrExp := rfl
@[simp] theorem Device.setOn_switches (d : Device) (r : Reg) (i : Nat) (b : Bool) : (d.setOn r i b).switches = d.switches := rfl
@[simp] theorem Device.setOn_forced (d : Device) (r : Reg) (i : Nat) (b : Bool) : (d.setOn r i b).forced = d.forced := rfl
@[simp] theorem Device.setOn_rails (d : Device) (r : Reg) (i : Nat) (b : Bool) : (d.setOn r i b).rails = d.rails := rfl
@[simp] theorem Device.setOn_raisedNow (d : Device) (r : Reg) (i : Nat) (b : Bool) : (d.setOn r i b).raisedNow = d.raisedNow := rfl
@[simp] theorem Device.setOn_wakeNow (d : Device) (r : Reg) (i : Nat) (b : Bool) : (d.setOn r i b).wakeNow = d.wakeNow := rfl
@[simp] theorem Device.setOn_wdog (d : Device) (r : Reg) (i : Nat) (b : Bool) : (d.setOn r i b).wdog = d.wdog := rfl
@[simp] theorem Device.setOn_clkOut (d : Device) (r : Reg) (i : Nat) (b : Bool) : (d.setOn r i b).clkOut = d.clkOut := rfl
@[simp] theorem Device.setOn_thermalHeld (d : Device) (r : Reg) (i : Nat) (b : Bool) : (d.setOn r i b).thermalHeld = d.thermalHeld := rfl
@[simp] theorem Device.setOn_leftState (d : Device) (r : Reg) (i : Nat) (b : Bool) : (d.setOn r i b).leftState = d.leftState := rfl
@[simp] theorem Device.setOn_wakeAt (d : Device) (r : Reg) (i : Nat) (b : Bool) : (d.setOn r i b).wakeAt = d.wakeAt := rfl
@[simp] theorem Device.setOn_twi (d : Device) (r : Reg) (i : Nat) (b : Bool) : (d.setOn r i b).twi = d.twi := rfl
@[simp] theorem Device.setOn_freeCtr (d : Device) (r : Reg) (i : Nat) (b : Bool) : (d.setOn r i b).freeCtr = d.freeCtr := rfl
@[simp] theorem Device.setOn_outs (d : Device) (r : Reg) (i : Nat) (b : Bool) : (d.setOn r i b).outs = d.outs := rfl

/-! ## `Device.setOct` -/

@[simp] theorem Device.setOct_ident (d : Device) (r : Reg) (i : Nat) (b : Octets) : (d.setOct r i b).ident = d.ident := rfl
@[simp] theorem Device.setOct_staged (d : Device) (r : Reg) (i : Nat) (b : Octets) : (d.setOct r i b).staged = d.staged := rfl
@[simp] theorem Device.setOct_pend (d : Device) (r : Reg) (i : Nat) (b : Octets) : (d.setOct r i b).pend = d.pend := rfl
@[simp] theorem Device.setOct_released (d : Device) (r : Reg) (i : Nat) (b : Octets) : (d.setOct r i b).released = d.released := rfl
@[simp] theorem Device.setOct_sess (d : Device) (r : Reg) (i : Nat) (b : Octets) : (d.setOct r i b).sess = d.sess := rfl
@[simp] theorem Device.setOct_mailbox (d : Device) (r : Reg) (i : Nat) (b : Octets) : (d.setOct r i b).mailbox = d.mailbox := rfl
@[simp] theorem Device.setOct_nvs (d : Device) (r : Reg) (i : Nat) (b : Octets) : (d.setOct r i b).nvs = d.nvs := rfl
@[simp] theorem Device.setOct_lastAccess (d : Device) (r : Reg) (i : Nat) (b : Octets) : (d.setOct r i b).lastAccess = d.lastAccess := rfl
@[simp] theorem Device.setOct_tick (d : Device) (r : Reg) (i : Nat) (b : Octets) : (d.setOct r i b).tick = d.tick := rfl
@[simp] theorem Device.setOct_lanes (d : Device) (r : Reg) (i : Nat) (b : Octets) : (d.setOct r i b).lanes = d.lanes := rfl
@[simp] theorem Device.setOct_links (d : Device) (r : Reg) (i : Nat) (b : Octets) : (d.setOct r i b).links = d.links := rfl
@[simp] theorem Device.setOct_fronts (d : Device) (r : Reg) (i : Nat) (b : Octets) : (d.setOct r i b).fronts = d.fronts := rfl
@[simp] theorem Device.setOct_sliceLast (d : Device) (r : Reg) (i : Nat) (b : Octets) : (d.setOct r i b).sliceLast = d.sliceLast := rfl
@[simp] theorem Device.setOct_pos (d : Device) (r : Reg) (i : Nat) (b : Octets) : (d.setOct r i b).pos = d.pos := rfl
@[simp] theorem Device.setOct_emus (d : Device) (r : Reg) (i : Nat) (b : Octets) : (d.setOct r i b).emus = d.emus := rfl
@[simp] theorem Device.setOct_rs (d : Device) (r : Reg) (i : Nat) (b : Octets) : (d.setOct r i b).rs = d.rs := rfl
@[simp] theorem Device.setOct_gridPend (d : Device) (r : Reg) (i : Nat) (b : Octets) : (d.setOct r i b).gridPend = d.gridPend := rfl
@[simp] theorem Device.setOct_gridPast (d : Device) (r : Reg) (i : Nat) (b : Octets) : (d.setOct r i b).gridPast = d.gridPast := rfl
@[simp] theorem Device.setOct_stitch (d : Device) (r : Reg) (i : Nat) (b : Octets) : (d.setOct r i b).stitch = d.stitch := rfl
@[simp] theorem Device.setOct_rep (d : Device) (r : Reg) (i : Nat) (b : Octets) : (d.setOct r i b).rep = d.rep := rfl
@[simp] theorem Device.setOct_heft (d : Device) (r : Reg) (i : Nat) (b : Octets) : (d.setOct r i b).heft = d.heft := rfl
@[simp] theorem Device.setOct_seg (d : Device) (r : Reg) (i : Nat) (b : Octets) : (d.setOct r i b).seg = d.seg := rfl
@[simp] theorem Device.setOct_rdl (d : Device) (r : Reg) (i : Nat) (b : Octets) : (d.setOct r i b).rdl = d.rdl := rfl
@[simp] theorem Device.setOct_cal (d : Device) (r : Reg) (i : Nat) (b : Octets) : (d.setOct r i b).cal = d.cal := rfl
@[simp] theorem Device.setOct_flow (d : Device) (r : Reg) (i : Nat) (b : Octets) : (d.setOct r i b).flow = d.flow := rfl
@[simp] theorem Device.setOct_dram (d : Device) (r : Reg) (i : Nat) (b : Octets) : (d.setOct r i b).dram = d.dram := rfl
@[simp] theorem Device.setOct_ctl (d : Device) (r : Reg) (i : Nat) (b : Octets) : (d.setOct r i b).ctl = d.ctl := rfl
@[simp] theorem Device.setOct_jobs (d : Device) (r : Reg) (i : Nat) (b : Octets) : (d.setOct r i b).jobs = d.jobs := rfl
@[simp] theorem Device.setOct_crcs (d : Device) (r : Reg) (i : Nat) (b : Octets) : (d.setOct r i b).crcs = d.crcs := rfl
@[simp] theorem Device.setOct_rings (d : Device) (r : Reg) (i : Nat) (b : Octets) : (d.setOct r i b).rings = d.rings := rfl
@[simp] theorem Device.setOct_neigh (d : Device) (r : Reg) (i : Nat) (b : Octets) : (d.setOct r i b).neigh = d.neigh := rfl
@[simp] theorem Device.setOct_drovers (d : Device) (r : Reg) (i : Nat) (b : Octets) : (d.setOct r i b).drovers = d.drovers := rfl
@[simp] theorem Device.setOct_pcie (d : Device) (r : Reg) (i : Nat) (b : Octets) : (d.setOct r i b).pcie = d.pcie := rfl
@[simp] theorem Device.setOct_jrn (d : Device) (r : Reg) (i : Nat) (b : Octets) : (d.setOct r i b).jrn = d.jrn := rfl
@[simp] theorem Device.setOct_fuses (d : Device) (r : Reg) (i : Nat) (b : Octets) : (d.setOct r i b).fuses = d.fuses := rfl
@[simp] theorem Device.setOct_ctr (d : Device) (r : Reg) (i : Nat) (b : Octets) : (d.setOct r i b).ctr = d.ctr := rfl
@[simp] theorem Device.setOct_keyOk (d : Device) (r : Reg) (i : Nat) (b : Octets) : (d.setOct r i b).keyOk = d.keyOk := rfl
@[simp] theorem Device.setOct_staging (d : Device) (r : Reg) (i : Nat) (b : Octets) : (d.setOct r i b).staging = d.staging := rfl
@[simp] theorem Device.setOct_fwMeas (d : Device) (r : Reg) (i : Nat) (b : Octets) : (d.setOct r i b).fwMeas = d.fwMeas := rfl
@[simp] theorem Device.setOct_clk (d : Device) (r : Reg) (i : Nat) (b : Octets) : (d.setOct r i b).clk = d.clk := rfl
@[simp] theorem Device.setOct_ptp (d : Device) (r : Reg) (i : Nat) (b : Octets) : (d.setOct r i b).ptp = d.ptp := rfl
@[simp] theorem Device.setOct_servo (d : Device) (r : Reg) (i : Nat) (b : Octets) : (d.setOct r i b).servo = d.servo := rfl
@[simp] theorem Device.setOct_tt (d : Device) (r : Reg) (i : Nat) (b : Octets) : (d.setOct r i b).tt = d.tt := rfl
@[simp] theorem Device.setOct_tcFifo (d : Device) (r : Reg) (i : Nat) (b : Octets) : (d.setOct r i b).tcFifo = d.tcFifo := rfl
@[simp] theorem Device.setOct_evt (d : Device) (r : Reg) (i : Nat) (b : Octets) : (d.setOct r i b).evt = d.evt := rfl
@[simp] theorem Device.setOct_fold (d : Device) (r : Reg) (i : Nat) (b : Octets) : (d.setOct r i b).fold = d.fold := rfl
@[simp] theorem Device.setOct_closing (d : Device) (r : Reg) (i : Nat) (b : Octets) : (d.setOct r i b).closing = d.closing := rfl
@[simp] theorem Device.setOct_resetDue (d : Device) (r : Reg) (i : Nat) (b : Octets) : (d.setOct r i b).resetDue = d.resetDue := rfl
@[simp] theorem Device.setOct_bring (d : Device) (r : Reg) (i : Nat) (b : Octets) : (d.setOct r i b).bring = d.bring := rfl
@[simp] theorem Device.setOct_refs (d : Device) (r : Reg) (i : Nat) (b : Octets) : (d.setOct r i b).refs = d.refs := rfl
@[simp] theorem Device.setOct_dvfs (d : Device) (r : Reg) (i : Nat) (b : Octets) : (d.setOct r i b).dvfs = d.dvfs := rfl
@[simp] theorem Device.setOct_voltMv (d : Device) (r : Reg) (i : Nat) (b : Octets) : (d.setOct r i b).voltMv = d.voltMv := rfl
@[simp] theorem Device.setOct_vrExp (d : Device) (r : Reg) (i : Nat) (b : Octets) : (d.setOct r i b).vrExp = d.vrExp := rfl
@[simp] theorem Device.setOct_switches (d : Device) (r : Reg) (i : Nat) (b : Octets) : (d.setOct r i b).switches = d.switches := rfl
@[simp] theorem Device.setOct_forced (d : Device) (r : Reg) (i : Nat) (b : Octets) : (d.setOct r i b).forced = d.forced := rfl
@[simp] theorem Device.setOct_rails (d : Device) (r : Reg) (i : Nat) (b : Octets) : (d.setOct r i b).rails = d.rails := rfl
@[simp] theorem Device.setOct_raisedNow (d : Device) (r : Reg) (i : Nat) (b : Octets) : (d.setOct r i b).raisedNow = d.raisedNow := rfl
@[simp] theorem Device.setOct_wakeNow (d : Device) (r : Reg) (i : Nat) (b : Octets) : (d.setOct r i b).wakeNow = d.wakeNow := rfl
@[simp] theorem Device.setOct_wdog (d : Device) (r : Reg) (i : Nat) (b : Octets) : (d.setOct r i b).wdog = d.wdog := rfl
@[simp] theorem Device.setOct_clkOut (d : Device) (r : Reg) (i : Nat) (b : Octets) : (d.setOct r i b).clkOut = d.clkOut := rfl
@[simp] theorem Device.setOct_thermalHeld (d : Device) (r : Reg) (i : Nat) (b : Octets) : (d.setOct r i b).thermalHeld = d.thermalHeld := rfl
@[simp] theorem Device.setOct_leftState (d : Device) (r : Reg) (i : Nat) (b : Octets) : (d.setOct r i b).leftState = d.leftState := rfl
@[simp] theorem Device.setOct_wakeAt (d : Device) (r : Reg) (i : Nat) (b : Octets) : (d.setOct r i b).wakeAt = d.wakeAt := rfl
@[simp] theorem Device.setOct_twi (d : Device) (r : Reg) (i : Nat) (b : Octets) : (d.setOct r i b).twi = d.twi := rfl
@[simp] theorem Device.setOct_freeCtr (d : Device) (r : Reg) (i : Nat) (b : Octets) : (d.setOct r i b).freeCtr = d.freeCtr := rfl
@[simp] theorem Device.setOct_outs (d : Device) (r : Reg) (i : Nat) (b : Octets) : (d.setOct r i b).outs = d.outs := rfl

/-! ## `Device.add` -/

@[simp] theorem Device.add_ident (d : Device) (r : Reg) (i k : Nat) : (d.add r i k).ident = d.ident := rfl
@[simp] theorem Device.add_staged (d : Device) (r : Reg) (i k : Nat) : (d.add r i k).staged = d.staged := rfl
@[simp] theorem Device.add_pend (d : Device) (r : Reg) (i k : Nat) : (d.add r i k).pend = d.pend := rfl
@[simp] theorem Device.add_released (d : Device) (r : Reg) (i k : Nat) : (d.add r i k).released = d.released := rfl
@[simp] theorem Device.add_sess (d : Device) (r : Reg) (i k : Nat) : (d.add r i k).sess = d.sess := rfl
@[simp] theorem Device.add_mailbox (d : Device) (r : Reg) (i k : Nat) : (d.add r i k).mailbox = d.mailbox := rfl
@[simp] theorem Device.add_nvs (d : Device) (r : Reg) (i k : Nat) : (d.add r i k).nvs = d.nvs := rfl
@[simp] theorem Device.add_lastAccess (d : Device) (r : Reg) (i k : Nat) : (d.add r i k).lastAccess = d.lastAccess := rfl
@[simp] theorem Device.add_tick (d : Device) (r : Reg) (i k : Nat) : (d.add r i k).tick = d.tick := rfl
@[simp] theorem Device.add_lanes (d : Device) (r : Reg) (i k : Nat) : (d.add r i k).lanes = d.lanes := rfl
@[simp] theorem Device.add_links (d : Device) (r : Reg) (i k : Nat) : (d.add r i k).links = d.links := rfl
@[simp] theorem Device.add_fronts (d : Device) (r : Reg) (i k : Nat) : (d.add r i k).fronts = d.fronts := rfl
@[simp] theorem Device.add_sliceLast (d : Device) (r : Reg) (i k : Nat) : (d.add r i k).sliceLast = d.sliceLast := rfl
@[simp] theorem Device.add_pos (d : Device) (r : Reg) (i k : Nat) : (d.add r i k).pos = d.pos := rfl
@[simp] theorem Device.add_emus (d : Device) (r : Reg) (i k : Nat) : (d.add r i k).emus = d.emus := rfl
@[simp] theorem Device.add_rs (d : Device) (r : Reg) (i k : Nat) : (d.add r i k).rs = d.rs := rfl
@[simp] theorem Device.add_gridPend (d : Device) (r : Reg) (i k : Nat) : (d.add r i k).gridPend = d.gridPend := rfl
@[simp] theorem Device.add_gridPast (d : Device) (r : Reg) (i k : Nat) : (d.add r i k).gridPast = d.gridPast := rfl
@[simp] theorem Device.add_stitch (d : Device) (r : Reg) (i k : Nat) : (d.add r i k).stitch = d.stitch := rfl
@[simp] theorem Device.add_rep (d : Device) (r : Reg) (i k : Nat) : (d.add r i k).rep = d.rep := rfl
@[simp] theorem Device.add_heft (d : Device) (r : Reg) (i k : Nat) : (d.add r i k).heft = d.heft := rfl
@[simp] theorem Device.add_seg (d : Device) (r : Reg) (i k : Nat) : (d.add r i k).seg = d.seg := rfl
@[simp] theorem Device.add_rdl (d : Device) (r : Reg) (i k : Nat) : (d.add r i k).rdl = d.rdl := rfl
@[simp] theorem Device.add_cal (d : Device) (r : Reg) (i k : Nat) : (d.add r i k).cal = d.cal := rfl
@[simp] theorem Device.add_flow (d : Device) (r : Reg) (i k : Nat) : (d.add r i k).flow = d.flow := rfl
@[simp] theorem Device.add_dram (d : Device) (r : Reg) (i k : Nat) : (d.add r i k).dram = d.dram := rfl
@[simp] theorem Device.add_ctl (d : Device) (r : Reg) (i k : Nat) : (d.add r i k).ctl = d.ctl := rfl
@[simp] theorem Device.add_jobs (d : Device) (r : Reg) (i k : Nat) : (d.add r i k).jobs = d.jobs := rfl
@[simp] theorem Device.add_crcs (d : Device) (r : Reg) (i k : Nat) : (d.add r i k).crcs = d.crcs := rfl
@[simp] theorem Device.add_rings (d : Device) (r : Reg) (i k : Nat) : (d.add r i k).rings = d.rings := rfl
@[simp] theorem Device.add_neigh (d : Device) (r : Reg) (i k : Nat) : (d.add r i k).neigh = d.neigh := rfl
@[simp] theorem Device.add_drovers (d : Device) (r : Reg) (i k : Nat) : (d.add r i k).drovers = d.drovers := rfl
@[simp] theorem Device.add_pcie (d : Device) (r : Reg) (i k : Nat) : (d.add r i k).pcie = d.pcie := rfl
@[simp] theorem Device.add_jrn (d : Device) (r : Reg) (i k : Nat) : (d.add r i k).jrn = d.jrn := rfl
@[simp] theorem Device.add_fuses (d : Device) (r : Reg) (i k : Nat) : (d.add r i k).fuses = d.fuses := rfl
@[simp] theorem Device.add_ctr (d : Device) (r : Reg) (i k : Nat) : (d.add r i k).ctr = d.ctr := rfl
@[simp] theorem Device.add_keyOk (d : Device) (r : Reg) (i k : Nat) : (d.add r i k).keyOk = d.keyOk := rfl
@[simp] theorem Device.add_staging (d : Device) (r : Reg) (i k : Nat) : (d.add r i k).staging = d.staging := rfl
@[simp] theorem Device.add_fwMeas (d : Device) (r : Reg) (i k : Nat) : (d.add r i k).fwMeas = d.fwMeas := rfl
@[simp] theorem Device.add_clk (d : Device) (r : Reg) (i k : Nat) : (d.add r i k).clk = d.clk := rfl
@[simp] theorem Device.add_ptp (d : Device) (r : Reg) (i k : Nat) : (d.add r i k).ptp = d.ptp := rfl
@[simp] theorem Device.add_servo (d : Device) (r : Reg) (i k : Nat) : (d.add r i k).servo = d.servo := rfl
@[simp] theorem Device.add_tt (d : Device) (r : Reg) (i k : Nat) : (d.add r i k).tt = d.tt := rfl
@[simp] theorem Device.add_tcFifo (d : Device) (r : Reg) (i k : Nat) : (d.add r i k).tcFifo = d.tcFifo := rfl
@[simp] theorem Device.add_evt (d : Device) (r : Reg) (i k : Nat) : (d.add r i k).evt = d.evt := rfl
@[simp] theorem Device.add_fold (d : Device) (r : Reg) (i k : Nat) : (d.add r i k).fold = d.fold := rfl
@[simp] theorem Device.add_closing (d : Device) (r : Reg) (i k : Nat) : (d.add r i k).closing = d.closing := rfl
@[simp] theorem Device.add_resetDue (d : Device) (r : Reg) (i k : Nat) : (d.add r i k).resetDue = d.resetDue := rfl
@[simp] theorem Device.add_bring (d : Device) (r : Reg) (i k : Nat) : (d.add r i k).bring = d.bring := rfl
@[simp] theorem Device.add_refs (d : Device) (r : Reg) (i k : Nat) : (d.add r i k).refs = d.refs := rfl
@[simp] theorem Device.add_dvfs (d : Device) (r : Reg) (i k : Nat) : (d.add r i k).dvfs = d.dvfs := rfl
@[simp] theorem Device.add_voltMv (d : Device) (r : Reg) (i k : Nat) : (d.add r i k).voltMv = d.voltMv := rfl
@[simp] theorem Device.add_vrExp (d : Device) (r : Reg) (i k : Nat) : (d.add r i k).vrExp = d.vrExp := rfl
@[simp] theorem Device.add_switches (d : Device) (r : Reg) (i k : Nat) : (d.add r i k).switches = d.switches := rfl
@[simp] theorem Device.add_forced (d : Device) (r : Reg) (i k : Nat) : (d.add r i k).forced = d.forced := rfl
@[simp] theorem Device.add_rails (d : Device) (r : Reg) (i k : Nat) : (d.add r i k).rails = d.rails := rfl
@[simp] theorem Device.add_raisedNow (d : Device) (r : Reg) (i k : Nat) : (d.add r i k).raisedNow = d.raisedNow := rfl
@[simp] theorem Device.add_wakeNow (d : Device) (r : Reg) (i k : Nat) : (d.add r i k).wakeNow = d.wakeNow := rfl
@[simp] theorem Device.add_wdog (d : Device) (r : Reg) (i k : Nat) : (d.add r i k).wdog = d.wdog := rfl
@[simp] theorem Device.add_clkOut (d : Device) (r : Reg) (i k : Nat) : (d.add r i k).clkOut = d.clkOut := rfl
@[simp] theorem Device.add_thermalHeld (d : Device) (r : Reg) (i k : Nat) : (d.add r i k).thermalHeld = d.thermalHeld := rfl
@[simp] theorem Device.add_leftState (d : Device) (r : Reg) (i k : Nat) : (d.add r i k).leftState = d.leftState := rfl
@[simp] theorem Device.add_wakeAt (d : Device) (r : Reg) (i k : Nat) : (d.add r i k).wakeAt = d.wakeAt := rfl
@[simp] theorem Device.add_twi (d : Device) (r : Reg) (i k : Nat) : (d.add r i k).twi = d.twi := rfl
@[simp] theorem Device.add_freeCtr (d : Device) (r : Reg) (i k : Nat) : (d.add r i k).freeCtr = d.freeCtr := rfl
@[simp] theorem Device.add_outs (d : Device) (r : Reg) (i k : Nat) : (d.add r i k).outs = d.outs := rfl

/-! ## `Device.bump` -/

@[simp] theorem Device.bump_ident (d : Device) (r : Reg) (i : Nat) : (d.bump r i).ident = d.ident := rfl
@[simp] theorem Device.bump_staged (d : Device) (r : Reg) (i : Nat) : (d.bump r i).staged = d.staged := rfl
@[simp] theorem Device.bump_pend (d : Device) (r : Reg) (i : Nat) : (d.bump r i).pend = d.pend := rfl
@[simp] theorem Device.bump_released (d : Device) (r : Reg) (i : Nat) : (d.bump r i).released = d.released := rfl
@[simp] theorem Device.bump_sess (d : Device) (r : Reg) (i : Nat) : (d.bump r i).sess = d.sess := rfl
@[simp] theorem Device.bump_mailbox (d : Device) (r : Reg) (i : Nat) : (d.bump r i).mailbox = d.mailbox := rfl
@[simp] theorem Device.bump_nvs (d : Device) (r : Reg) (i : Nat) : (d.bump r i).nvs = d.nvs := rfl
@[simp] theorem Device.bump_lastAccess (d : Device) (r : Reg) (i : Nat) : (d.bump r i).lastAccess = d.lastAccess := rfl
@[simp] theorem Device.bump_tick (d : Device) (r : Reg) (i : Nat) : (d.bump r i).tick = d.tick := rfl
@[simp] theorem Device.bump_lanes (d : Device) (r : Reg) (i : Nat) : (d.bump r i).lanes = d.lanes := rfl
@[simp] theorem Device.bump_links (d : Device) (r : Reg) (i : Nat) : (d.bump r i).links = d.links := rfl
@[simp] theorem Device.bump_fronts (d : Device) (r : Reg) (i : Nat) : (d.bump r i).fronts = d.fronts := rfl
@[simp] theorem Device.bump_sliceLast (d : Device) (r : Reg) (i : Nat) : (d.bump r i).sliceLast = d.sliceLast := rfl
@[simp] theorem Device.bump_pos (d : Device) (r : Reg) (i : Nat) : (d.bump r i).pos = d.pos := rfl
@[simp] theorem Device.bump_emus (d : Device) (r : Reg) (i : Nat) : (d.bump r i).emus = d.emus := rfl
@[simp] theorem Device.bump_rs (d : Device) (r : Reg) (i : Nat) : (d.bump r i).rs = d.rs := rfl
@[simp] theorem Device.bump_gridPend (d : Device) (r : Reg) (i : Nat) : (d.bump r i).gridPend = d.gridPend := rfl
@[simp] theorem Device.bump_gridPast (d : Device) (r : Reg) (i : Nat) : (d.bump r i).gridPast = d.gridPast := rfl
@[simp] theorem Device.bump_stitch (d : Device) (r : Reg) (i : Nat) : (d.bump r i).stitch = d.stitch := rfl
@[simp] theorem Device.bump_rep (d : Device) (r : Reg) (i : Nat) : (d.bump r i).rep = d.rep := rfl
@[simp] theorem Device.bump_heft (d : Device) (r : Reg) (i : Nat) : (d.bump r i).heft = d.heft := rfl
@[simp] theorem Device.bump_seg (d : Device) (r : Reg) (i : Nat) : (d.bump r i).seg = d.seg := rfl
@[simp] theorem Device.bump_rdl (d : Device) (r : Reg) (i : Nat) : (d.bump r i).rdl = d.rdl := rfl
@[simp] theorem Device.bump_cal (d : Device) (r : Reg) (i : Nat) : (d.bump r i).cal = d.cal := rfl
@[simp] theorem Device.bump_flow (d : Device) (r : Reg) (i : Nat) : (d.bump r i).flow = d.flow := rfl
@[simp] theorem Device.bump_dram (d : Device) (r : Reg) (i : Nat) : (d.bump r i).dram = d.dram := rfl
@[simp] theorem Device.bump_ctl (d : Device) (r : Reg) (i : Nat) : (d.bump r i).ctl = d.ctl := rfl
@[simp] theorem Device.bump_jobs (d : Device) (r : Reg) (i : Nat) : (d.bump r i).jobs = d.jobs := rfl
@[simp] theorem Device.bump_crcs (d : Device) (r : Reg) (i : Nat) : (d.bump r i).crcs = d.crcs := rfl
@[simp] theorem Device.bump_rings (d : Device) (r : Reg) (i : Nat) : (d.bump r i).rings = d.rings := rfl
@[simp] theorem Device.bump_neigh (d : Device) (r : Reg) (i : Nat) : (d.bump r i).neigh = d.neigh := rfl
@[simp] theorem Device.bump_drovers (d : Device) (r : Reg) (i : Nat) : (d.bump r i).drovers = d.drovers := rfl
@[simp] theorem Device.bump_pcie (d : Device) (r : Reg) (i : Nat) : (d.bump r i).pcie = d.pcie := rfl
@[simp] theorem Device.bump_jrn (d : Device) (r : Reg) (i : Nat) : (d.bump r i).jrn = d.jrn := rfl
@[simp] theorem Device.bump_fuses (d : Device) (r : Reg) (i : Nat) : (d.bump r i).fuses = d.fuses := rfl
@[simp] theorem Device.bump_ctr (d : Device) (r : Reg) (i : Nat) : (d.bump r i).ctr = d.ctr := rfl
@[simp] theorem Device.bump_keyOk (d : Device) (r : Reg) (i : Nat) : (d.bump r i).keyOk = d.keyOk := rfl
@[simp] theorem Device.bump_staging (d : Device) (r : Reg) (i : Nat) : (d.bump r i).staging = d.staging := rfl
@[simp] theorem Device.bump_fwMeas (d : Device) (r : Reg) (i : Nat) : (d.bump r i).fwMeas = d.fwMeas := rfl
@[simp] theorem Device.bump_clk (d : Device) (r : Reg) (i : Nat) : (d.bump r i).clk = d.clk := rfl
@[simp] theorem Device.bump_ptp (d : Device) (r : Reg) (i : Nat) : (d.bump r i).ptp = d.ptp := rfl
@[simp] theorem Device.bump_servo (d : Device) (r : Reg) (i : Nat) : (d.bump r i).servo = d.servo := rfl
@[simp] theorem Device.bump_tt (d : Device) (r : Reg) (i : Nat) : (d.bump r i).tt = d.tt := rfl
@[simp] theorem Device.bump_tcFifo (d : Device) (r : Reg) (i : Nat) : (d.bump r i).tcFifo = d.tcFifo := rfl
@[simp] theorem Device.bump_evt (d : Device) (r : Reg) (i : Nat) : (d.bump r i).evt = d.evt := rfl
@[simp] theorem Device.bump_fold (d : Device) (r : Reg) (i : Nat) : (d.bump r i).fold = d.fold := rfl
@[simp] theorem Device.bump_closing (d : Device) (r : Reg) (i : Nat) : (d.bump r i).closing = d.closing := rfl
@[simp] theorem Device.bump_resetDue (d : Device) (r : Reg) (i : Nat) : (d.bump r i).resetDue = d.resetDue := rfl
@[simp] theorem Device.bump_bring (d : Device) (r : Reg) (i : Nat) : (d.bump r i).bring = d.bring := rfl
@[simp] theorem Device.bump_refs (d : Device) (r : Reg) (i : Nat) : (d.bump r i).refs = d.refs := rfl
@[simp] theorem Device.bump_dvfs (d : Device) (r : Reg) (i : Nat) : (d.bump r i).dvfs = d.dvfs := rfl
@[simp] theorem Device.bump_voltMv (d : Device) (r : Reg) (i : Nat) : (d.bump r i).voltMv = d.voltMv := rfl
@[simp] theorem Device.bump_vrExp (d : Device) (r : Reg) (i : Nat) : (d.bump r i).vrExp = d.vrExp := rfl
@[simp] theorem Device.bump_switches (d : Device) (r : Reg) (i : Nat) : (d.bump r i).switches = d.switches := rfl
@[simp] theorem Device.bump_forced (d : Device) (r : Reg) (i : Nat) : (d.bump r i).forced = d.forced := rfl
@[simp] theorem Device.bump_rails (d : Device) (r : Reg) (i : Nat) : (d.bump r i).rails = d.rails := rfl
@[simp] theorem Device.bump_raisedNow (d : Device) (r : Reg) (i : Nat) : (d.bump r i).raisedNow = d.raisedNow := rfl
@[simp] theorem Device.bump_wakeNow (d : Device) (r : Reg) (i : Nat) : (d.bump r i).wakeNow = d.wakeNow := rfl
@[simp] theorem Device.bump_wdog (d : Device) (r : Reg) (i : Nat) : (d.bump r i).wdog = d.wdog := rfl
@[simp] theorem Device.bump_clkOut (d : Device) (r : Reg) (i : Nat) : (d.bump r i).clkOut = d.clkOut := rfl
@[simp] theorem Device.bump_thermalHeld (d : Device) (r : Reg) (i : Nat) : (d.bump r i).thermalHeld = d.thermalHeld := rfl
@[simp] theorem Device.bump_leftState (d : Device) (r : Reg) (i : Nat) : (d.bump r i).leftState = d.leftState := rfl
@[simp] theorem Device.bump_wakeAt (d : Device) (r : Reg) (i : Nat) : (d.bump r i).wakeAt = d.wakeAt := rfl
@[simp] theorem Device.bump_twi (d : Device) (r : Reg) (i : Nat) : (d.bump r i).twi = d.twi := rfl
@[simp] theorem Device.bump_freeCtr (d : Device) (r : Reg) (i : Nat) : (d.bump r i).freeCtr = d.freeCtr := rfl
@[simp] theorem Device.bump_outs (d : Device) (r : Reg) (i : Nat) : (d.bump r i).outs = d.outs := rfl

/-! ## `Device.emit` -/

@[simp] theorem Device.emit_ident (d : Device) (o : Out) : (d.emit o).ident = d.ident := rfl
@[simp] theorem Device.emit_live (d : Device) (o : Out) : (d.emit o).live = d.live := rfl
@[simp] theorem Device.emit_staged (d : Device) (o : Out) : (d.emit o).staged = d.staged := rfl
@[simp] theorem Device.emit_pend (d : Device) (o : Out) : (d.emit o).pend = d.pend := rfl
@[simp] theorem Device.emit_released (d : Device) (o : Out) : (d.emit o).released = d.released := rfl
@[simp] theorem Device.emit_sess (d : Device) (o : Out) : (d.emit o).sess = d.sess := rfl
@[simp] theorem Device.emit_mailbox (d : Device) (o : Out) : (d.emit o).mailbox = d.mailbox := rfl
@[simp] theorem Device.emit_nvs (d : Device) (o : Out) : (d.emit o).nvs = d.nvs := rfl
@[simp] theorem Device.emit_lastAccess (d : Device) (o : Out) : (d.emit o).lastAccess = d.lastAccess := rfl
@[simp] theorem Device.emit_tick (d : Device) (o : Out) : (d.emit o).tick = d.tick := rfl
@[simp] theorem Device.emit_lanes (d : Device) (o : Out) : (d.emit o).lanes = d.lanes := rfl
@[simp] theorem Device.emit_links (d : Device) (o : Out) : (d.emit o).links = d.links := rfl
@[simp] theorem Device.emit_fronts (d : Device) (o : Out) : (d.emit o).fronts = d.fronts := rfl
@[simp] theorem Device.emit_sliceLast (d : Device) (o : Out) : (d.emit o).sliceLast = d.sliceLast := rfl
@[simp] theorem Device.emit_pos (d : Device) (o : Out) : (d.emit o).pos = d.pos := rfl
@[simp] theorem Device.emit_emus (d : Device) (o : Out) : (d.emit o).emus = d.emus := rfl
@[simp] theorem Device.emit_rs (d : Device) (o : Out) : (d.emit o).rs = d.rs := rfl
@[simp] theorem Device.emit_gridPend (d : Device) (o : Out) : (d.emit o).gridPend = d.gridPend := rfl
@[simp] theorem Device.emit_gridPast (d : Device) (o : Out) : (d.emit o).gridPast = d.gridPast := rfl
@[simp] theorem Device.emit_stitch (d : Device) (o : Out) : (d.emit o).stitch = d.stitch := rfl
@[simp] theorem Device.emit_rep (d : Device) (o : Out) : (d.emit o).rep = d.rep := rfl
@[simp] theorem Device.emit_heft (d : Device) (o : Out) : (d.emit o).heft = d.heft := rfl
@[simp] theorem Device.emit_seg (d : Device) (o : Out) : (d.emit o).seg = d.seg := rfl
@[simp] theorem Device.emit_rdl (d : Device) (o : Out) : (d.emit o).rdl = d.rdl := rfl
@[simp] theorem Device.emit_cal (d : Device) (o : Out) : (d.emit o).cal = d.cal := rfl
@[simp] theorem Device.emit_flow (d : Device) (o : Out) : (d.emit o).flow = d.flow := rfl
@[simp] theorem Device.emit_dram (d : Device) (o : Out) : (d.emit o).dram = d.dram := rfl
@[simp] theorem Device.emit_ctl (d : Device) (o : Out) : (d.emit o).ctl = d.ctl := rfl
@[simp] theorem Device.emit_jobs (d : Device) (o : Out) : (d.emit o).jobs = d.jobs := rfl
@[simp] theorem Device.emit_crcs (d : Device) (o : Out) : (d.emit o).crcs = d.crcs := rfl
@[simp] theorem Device.emit_rings (d : Device) (o : Out) : (d.emit o).rings = d.rings := rfl
@[simp] theorem Device.emit_neigh (d : Device) (o : Out) : (d.emit o).neigh = d.neigh := rfl
@[simp] theorem Device.emit_drovers (d : Device) (o : Out) : (d.emit o).drovers = d.drovers := rfl
@[simp] theorem Device.emit_pcie (d : Device) (o : Out) : (d.emit o).pcie = d.pcie := rfl
@[simp] theorem Device.emit_jrn (d : Device) (o : Out) : (d.emit o).jrn = d.jrn := rfl
@[simp] theorem Device.emit_fuses (d : Device) (o : Out) : (d.emit o).fuses = d.fuses := rfl
@[simp] theorem Device.emit_ctr (d : Device) (o : Out) : (d.emit o).ctr = d.ctr := rfl
@[simp] theorem Device.emit_keyOk (d : Device) (o : Out) : (d.emit o).keyOk = d.keyOk := rfl
@[simp] theorem Device.emit_staging (d : Device) (o : Out) : (d.emit o).staging = d.staging := rfl
@[simp] theorem Device.emit_fwMeas (d : Device) (o : Out) : (d.emit o).fwMeas = d.fwMeas := rfl
@[simp] theorem Device.emit_clk (d : Device) (o : Out) : (d.emit o).clk = d.clk := rfl
@[simp] theorem Device.emit_ptp (d : Device) (o : Out) : (d.emit o).ptp = d.ptp := rfl
@[simp] theorem Device.emit_servo (d : Device) (o : Out) : (d.emit o).servo = d.servo := rfl
@[simp] theorem Device.emit_tt (d : Device) (o : Out) : (d.emit o).tt = d.tt := rfl
@[simp] theorem Device.emit_tcFifo (d : Device) (o : Out) : (d.emit o).tcFifo = d.tcFifo := rfl
@[simp] theorem Device.emit_evt (d : Device) (o : Out) : (d.emit o).evt = d.evt := rfl
@[simp] theorem Device.emit_fold (d : Device) (o : Out) : (d.emit o).fold = d.fold := rfl
@[simp] theorem Device.emit_closing (d : Device) (o : Out) : (d.emit o).closing = d.closing := rfl
@[simp] theorem Device.emit_resetDue (d : Device) (o : Out) : (d.emit o).resetDue = d.resetDue := rfl
@[simp] theorem Device.emit_bring (d : Device) (o : Out) : (d.emit o).bring = d.bring := rfl
@[simp] theorem Device.emit_refs (d : Device) (o : Out) : (d.emit o).refs = d.refs := rfl
@[simp] theorem Device.emit_dvfs (d : Device) (o : Out) : (d.emit o).dvfs = d.dvfs := rfl
@[simp] theorem Device.emit_voltMv (d : Device) (o : Out) : (d.emit o).voltMv = d.voltMv := rfl
@[simp] theorem Device.emit_vrExp (d : Device) (o : Out) : (d.emit o).vrExp = d.vrExp := rfl
@[simp] theorem Device.emit_switches (d : Device) (o : Out) : (d.emit o).switches = d.switches := rfl
@[simp] theorem Device.emit_forced (d : Device) (o : Out) : (d.emit o).forced = d.forced := rfl
@[simp] theorem Device.emit_rails (d : Device) (o : Out) : (d.emit o).rails = d.rails := rfl
@[simp] theorem Device.emit_raisedNow (d : Device) (o : Out) : (d.emit o).raisedNow = d.raisedNow := rfl
@[simp] theorem Device.emit_wakeNow (d : Device) (o : Out) : (d.emit o).wakeNow = d.wakeNow := rfl
@[simp] theorem Device.emit_wdog (d : Device) (o : Out) : (d.emit o).wdog = d.wdog := rfl
@[simp] theorem Device.emit_clkOut (d : Device) (o : Out) : (d.emit o).clkOut = d.clkOut := rfl
@[simp] theorem Device.emit_thermalHeld (d : Device) (o : Out) : (d.emit o).thermalHeld = d.thermalHeld := rfl
@[simp] theorem Device.emit_leftState (d : Device) (o : Out) : (d.emit o).leftState = d.leftState := rfl
@[simp] theorem Device.emit_wakeAt (d : Device) (o : Out) : (d.emit o).wakeAt = d.wakeAt := rfl
@[simp] theorem Device.emit_twi (d : Device) (o : Out) : (d.emit o).twi = d.twi := rfl
@[simp] theorem Device.emit_freeCtr (d : Device) (o : Out) : (d.emit o).freeCtr = d.freeCtr := rfl

/-! ## `Device.emits` -/

@[simp] theorem Device.emits_ident (d : Device) (os : List Out) : (d.emits os).ident = d.ident := rfl
@[simp] theorem Device.emits_live (d : Device) (os : List Out) : (d.emits os).live = d.live := rfl
@[simp] theorem Device.emits_staged (d : Device) (os : List Out) : (d.emits os).staged = d.staged := rfl
@[simp] theorem Device.emits_pend (d : Device) (os : List Out) : (d.emits os).pend = d.pend := rfl
@[simp] theorem Device.emits_released (d : Device) (os : List Out) : (d.emits os).released = d.released := rfl
@[simp] theorem Device.emits_sess (d : Device) (os : List Out) : (d.emits os).sess = d.sess := rfl
@[simp] theorem Device.emits_mailbox (d : Device) (os : List Out) : (d.emits os).mailbox = d.mailbox := rfl
@[simp] theorem Device.emits_nvs (d : Device) (os : List Out) : (d.emits os).nvs = d.nvs := rfl
@[simp] theorem Device.emits_lastAccess (d : Device) (os : List Out) : (d.emits os).lastAccess = d.lastAccess := rfl
@[simp] theorem Device.emits_tick (d : Device) (os : List Out) : (d.emits os).tick = d.tick := rfl
@[simp] theorem Device.emits_lanes (d : Device) (os : List Out) : (d.emits os).lanes = d.lanes := rfl
@[simp] theorem Device.emits_links (d : Device) (os : List Out) : (d.emits os).links = d.links := rfl
@[simp] theorem Device.emits_fronts (d : Device) (os : List Out) : (d.emits os).fronts = d.fronts := rfl
@[simp] theorem Device.emits_sliceLast (d : Device) (os : List Out) : (d.emits os).sliceLast = d.sliceLast := rfl
@[simp] theorem Device.emits_pos (d : Device) (os : List Out) : (d.emits os).pos = d.pos := rfl
@[simp] theorem Device.emits_emus (d : Device) (os : List Out) : (d.emits os).emus = d.emus := rfl
@[simp] theorem Device.emits_rs (d : Device) (os : List Out) : (d.emits os).rs = d.rs := rfl
@[simp] theorem Device.emits_gridPend (d : Device) (os : List Out) : (d.emits os).gridPend = d.gridPend := rfl
@[simp] theorem Device.emits_gridPast (d : Device) (os : List Out) : (d.emits os).gridPast = d.gridPast := rfl
@[simp] theorem Device.emits_stitch (d : Device) (os : List Out) : (d.emits os).stitch = d.stitch := rfl
@[simp] theorem Device.emits_rep (d : Device) (os : List Out) : (d.emits os).rep = d.rep := rfl
@[simp] theorem Device.emits_heft (d : Device) (os : List Out) : (d.emits os).heft = d.heft := rfl
@[simp] theorem Device.emits_seg (d : Device) (os : List Out) : (d.emits os).seg = d.seg := rfl
@[simp] theorem Device.emits_rdl (d : Device) (os : List Out) : (d.emits os).rdl = d.rdl := rfl
@[simp] theorem Device.emits_cal (d : Device) (os : List Out) : (d.emits os).cal = d.cal := rfl
@[simp] theorem Device.emits_flow (d : Device) (os : List Out) : (d.emits os).flow = d.flow := rfl
@[simp] theorem Device.emits_dram (d : Device) (os : List Out) : (d.emits os).dram = d.dram := rfl
@[simp] theorem Device.emits_ctl (d : Device) (os : List Out) : (d.emits os).ctl = d.ctl := rfl
@[simp] theorem Device.emits_jobs (d : Device) (os : List Out) : (d.emits os).jobs = d.jobs := rfl
@[simp] theorem Device.emits_crcs (d : Device) (os : List Out) : (d.emits os).crcs = d.crcs := rfl
@[simp] theorem Device.emits_rings (d : Device) (os : List Out) : (d.emits os).rings = d.rings := rfl
@[simp] theorem Device.emits_neigh (d : Device) (os : List Out) : (d.emits os).neigh = d.neigh := rfl
@[simp] theorem Device.emits_drovers (d : Device) (os : List Out) : (d.emits os).drovers = d.drovers := rfl
@[simp] theorem Device.emits_pcie (d : Device) (os : List Out) : (d.emits os).pcie = d.pcie := rfl
@[simp] theorem Device.emits_jrn (d : Device) (os : List Out) : (d.emits os).jrn = d.jrn := rfl
@[simp] theorem Device.emits_fuses (d : Device) (os : List Out) : (d.emits os).fuses = d.fuses := rfl
@[simp] theorem Device.emits_ctr (d : Device) (os : List Out) : (d.emits os).ctr = d.ctr := rfl
@[simp] theorem Device.emits_keyOk (d : Device) (os : List Out) : (d.emits os).keyOk = d.keyOk := rfl
@[simp] theorem Device.emits_staging (d : Device) (os : List Out) : (d.emits os).staging = d.staging := rfl
@[simp] theorem Device.emits_fwMeas (d : Device) (os : List Out) : (d.emits os).fwMeas = d.fwMeas := rfl
@[simp] theorem Device.emits_clk (d : Device) (os : List Out) : (d.emits os).clk = d.clk := rfl
@[simp] theorem Device.emits_ptp (d : Device) (os : List Out) : (d.emits os).ptp = d.ptp := rfl
@[simp] theorem Device.emits_servo (d : Device) (os : List Out) : (d.emits os).servo = d.servo := rfl
@[simp] theorem Device.emits_tt (d : Device) (os : List Out) : (d.emits os).tt = d.tt := rfl
@[simp] theorem Device.emits_tcFifo (d : Device) (os : List Out) : (d.emits os).tcFifo = d.tcFifo := rfl
@[simp] theorem Device.emits_evt (d : Device) (os : List Out) : (d.emits os).evt = d.evt := rfl
@[simp] theorem Device.emits_fold (d : Device) (os : List Out) : (d.emits os).fold = d.fold := rfl
@[simp] theorem Device.emits_closing (d : Device) (os : List Out) : (d.emits os).closing = d.closing := rfl
@[simp] theorem Device.emits_resetDue (d : Device) (os : List Out) : (d.emits os).resetDue = d.resetDue := rfl
@[simp] theorem Device.emits_bring (d : Device) (os : List Out) : (d.emits os).bring = d.bring := rfl
@[simp] theorem Device.emits_refs (d : Device) (os : List Out) : (d.emits os).refs = d.refs := rfl
@[simp] theorem Device.emits_dvfs (d : Device) (os : List Out) : (d.emits os).dvfs = d.dvfs := rfl
@[simp] theorem Device.emits_voltMv (d : Device) (os : List Out) : (d.emits os).voltMv = d.voltMv := rfl
@[simp] theorem Device.emits_vrExp (d : Device) (os : List Out) : (d.emits os).vrExp = d.vrExp := rfl
@[simp] theorem Device.emits_switches (d : Device) (os : List Out) : (d.emits os).switches = d.switches := rfl
@[simp] theorem Device.emits_forced (d : Device) (os : List Out) : (d.emits os).forced = d.forced := rfl
@[simp] theorem Device.emits_rails (d : Device) (os : List Out) : (d.emits os).rails = d.rails := rfl
@[simp] theorem Device.emits_raisedNow (d : Device) (os : List Out) : (d.emits os).raisedNow = d.raisedNow := rfl
@[simp] theorem Device.emits_wakeNow (d : Device) (os : List Out) : (d.emits os).wakeNow = d.wakeNow := rfl
@[simp] theorem Device.emits_wdog (d : Device) (os : List Out) : (d.emits os).wdog = d.wdog := rfl
@[simp] theorem Device.emits_clkOut (d : Device) (os : List Out) : (d.emits os).clkOut = d.clkOut := rfl
@[simp] theorem Device.emits_thermalHeld (d : Device) (os : List Out) : (d.emits os).thermalHeld = d.thermalHeld := rfl
@[simp] theorem Device.emits_leftState (d : Device) (os : List Out) : (d.emits os).leftState = d.leftState := rfl
@[simp] theorem Device.emits_wakeAt (d : Device) (os : List Out) : (d.emits os).wakeAt = d.wakeAt := rfl
@[simp] theorem Device.emits_twi (d : Device) (os : List Out) : (d.emits os).twi = d.twi := rfl
@[simp] theorem Device.emits_freeCtr (d : Device) (os : List Out) : (d.emits os).freeCtr = d.freeCtr := rfl

@[simp] theorem Device.bumpIf_ident (d : Device) (c : Bool) (r : Reg) (i : Nat) : (d.bumpIf c r i).ident = d.ident := by
  unfold Device.bumpIf; split <;> rfl
@[simp] theorem Device.bumpIf_staged (d : Device) (c : Bool) (r : Reg) (i : Nat) : (d.bumpIf c r i).staged = d.staged := by
  unfold Device.bumpIf; split <;> rfl
@[simp] theorem Device.bumpIf_pend (d : Device) (c : Bool) (r : Reg) (i : Nat) : (d.bumpIf c r i).pend = d.pend := by
  unfold Device.bumpIf; split <;> rfl
@[simp] theorem Device.bumpIf_released (d : Device) (c : Bool) (r : Reg) (i : Nat) : (d.bumpIf c r i).released = d.released := by
  unfold Device.bumpIf; split <;> rfl
@[simp] theorem Device.bumpIf_sess (d : Device) (c : Bool) (r : Reg) (i : Nat) : (d.bumpIf c r i).sess = d.sess := by
  unfold Device.bumpIf; split <;> rfl
@[simp] theorem Device.bumpIf_mailbox (d : Device) (c : Bool) (r : Reg) (i : Nat) : (d.bumpIf c r i).mailbox = d.mailbox := by
  unfold Device.bumpIf; split <;> rfl
@[simp] theorem Device.bumpIf_nvs (d : Device) (c : Bool) (r : Reg) (i : Nat) : (d.bumpIf c r i).nvs = d.nvs := by
  unfold Device.bumpIf; split <;> rfl
@[simp] theorem Device.bumpIf_lastAccess (d : Device) (c : Bool) (r : Reg) (i : Nat) : (d.bumpIf c r i).lastAccess = d.lastAccess := by
  unfold Device.bumpIf; split <;> rfl
@[simp] theorem Device.bumpIf_tick (d : Device) (c : Bool) (r : Reg) (i : Nat) : (d.bumpIf c r i).tick = d.tick := by
  unfold Device.bumpIf; split <;> rfl
@[simp] theorem Device.bumpIf_lanes (d : Device) (c : Bool) (r : Reg) (i : Nat) : (d.bumpIf c r i).lanes = d.lanes := by
  unfold Device.bumpIf; split <;> rfl
@[simp] theorem Device.bumpIf_links (d : Device) (c : Bool) (r : Reg) (i : Nat) : (d.bumpIf c r i).links = d.links := by
  unfold Device.bumpIf; split <;> rfl
@[simp] theorem Device.bumpIf_fronts (d : Device) (c : Bool) (r : Reg) (i : Nat) : (d.bumpIf c r i).fronts = d.fronts := by
  unfold Device.bumpIf; split <;> rfl
@[simp] theorem Device.bumpIf_sliceLast (d : Device) (c : Bool) (r : Reg) (i : Nat) : (d.bumpIf c r i).sliceLast = d.sliceLast := by
  unfold Device.bumpIf; split <;> rfl
@[simp] theorem Device.bumpIf_pos (d : Device) (c : Bool) (r : Reg) (i : Nat) : (d.bumpIf c r i).pos = d.pos := by
  unfold Device.bumpIf; split <;> rfl
@[simp] theorem Device.bumpIf_emus (d : Device) (c : Bool) (r : Reg) (i : Nat) : (d.bumpIf c r i).emus = d.emus := by
  unfold Device.bumpIf; split <;> rfl
@[simp] theorem Device.bumpIf_rs (d : Device) (c : Bool) (r : Reg) (i : Nat) : (d.bumpIf c r i).rs = d.rs := by
  unfold Device.bumpIf; split <;> rfl
@[simp] theorem Device.bumpIf_gridPend (d : Device) (c : Bool) (r : Reg) (i : Nat) : (d.bumpIf c r i).gridPend = d.gridPend := by
  unfold Device.bumpIf; split <;> rfl
@[simp] theorem Device.bumpIf_gridPast (d : Device) (c : Bool) (r : Reg) (i : Nat) : (d.bumpIf c r i).gridPast = d.gridPast := by
  unfold Device.bumpIf; split <;> rfl
@[simp] theorem Device.bumpIf_stitch (d : Device) (c : Bool) (r : Reg) (i : Nat) : (d.bumpIf c r i).stitch = d.stitch := by
  unfold Device.bumpIf; split <;> rfl
@[simp] theorem Device.bumpIf_rep (d : Device) (c : Bool) (r : Reg) (i : Nat) : (d.bumpIf c r i).rep = d.rep := by
  unfold Device.bumpIf; split <;> rfl
@[simp] theorem Device.bumpIf_heft (d : Device) (c : Bool) (r : Reg) (i : Nat) : (d.bumpIf c r i).heft = d.heft := by
  unfold Device.bumpIf; split <;> rfl
@[simp] theorem Device.bumpIf_seg (d : Device) (c : Bool) (r : Reg) (i : Nat) : (d.bumpIf c r i).seg = d.seg := by
  unfold Device.bumpIf; split <;> rfl
@[simp] theorem Device.bumpIf_rdl (d : Device) (c : Bool) (r : Reg) (i : Nat) : (d.bumpIf c r i).rdl = d.rdl := by
  unfold Device.bumpIf; split <;> rfl
@[simp] theorem Device.bumpIf_cal (d : Device) (c : Bool) (r : Reg) (i : Nat) : (d.bumpIf c r i).cal = d.cal := by
  unfold Device.bumpIf; split <;> rfl
@[simp] theorem Device.bumpIf_flow (d : Device) (c : Bool) (r : Reg) (i : Nat) : (d.bumpIf c r i).flow = d.flow := by
  unfold Device.bumpIf; split <;> rfl
@[simp] theorem Device.bumpIf_dram (d : Device) (c : Bool) (r : Reg) (i : Nat) : (d.bumpIf c r i).dram = d.dram := by
  unfold Device.bumpIf; split <;> rfl
@[simp] theorem Device.bumpIf_ctl (d : Device) (c : Bool) (r : Reg) (i : Nat) : (d.bumpIf c r i).ctl = d.ctl := by
  unfold Device.bumpIf; split <;> rfl
@[simp] theorem Device.bumpIf_jobs (d : Device) (c : Bool) (r : Reg) (i : Nat) : (d.bumpIf c r i).jobs = d.jobs := by
  unfold Device.bumpIf; split <;> rfl
@[simp] theorem Device.bumpIf_crcs (d : Device) (c : Bool) (r : Reg) (i : Nat) : (d.bumpIf c r i).crcs = d.crcs := by
  unfold Device.bumpIf; split <;> rfl
@[simp] theorem Device.bumpIf_rings (d : Device) (c : Bool) (r : Reg) (i : Nat) : (d.bumpIf c r i).rings = d.rings := by
  unfold Device.bumpIf; split <;> rfl
@[simp] theorem Device.bumpIf_neigh (d : Device) (c : Bool) (r : Reg) (i : Nat) : (d.bumpIf c r i).neigh = d.neigh := by
  unfold Device.bumpIf; split <;> rfl
@[simp] theorem Device.bumpIf_drovers (d : Device) (c : Bool) (r : Reg) (i : Nat) : (d.bumpIf c r i).drovers = d.drovers := by
  unfold Device.bumpIf; split <;> rfl
@[simp] theorem Device.bumpIf_pcie (d : Device) (c : Bool) (r : Reg) (i : Nat) : (d.bumpIf c r i).pcie = d.pcie := by
  unfold Device.bumpIf; split <;> rfl
@[simp] theorem Device.bumpIf_jrn (d : Device) (c : Bool) (r : Reg) (i : Nat) : (d.bumpIf c r i).jrn = d.jrn := by
  unfold Device.bumpIf; split <;> rfl
@[simp] theorem Device.bumpIf_fuses (d : Device) (c : Bool) (r : Reg) (i : Nat) : (d.bumpIf c r i).fuses = d.fuses := by
  unfold Device.bumpIf; split <;> rfl
@[simp] theorem Device.bumpIf_ctr (d : Device) (c : Bool) (r : Reg) (i : Nat) : (d.bumpIf c r i).ctr = d.ctr := by
  unfold Device.bumpIf; split <;> rfl
@[simp] theorem Device.bumpIf_keyOk (d : Device) (c : Bool) (r : Reg) (i : Nat) : (d.bumpIf c r i).keyOk = d.keyOk := by
  unfold Device.bumpIf; split <;> rfl
@[simp] theorem Device.bumpIf_staging (d : Device) (c : Bool) (r : Reg) (i : Nat) : (d.bumpIf c r i).staging = d.staging := by
  unfold Device.bumpIf; split <;> rfl
@[simp] theorem Device.bumpIf_fwMeas (d : Device) (c : Bool) (r : Reg) (i : Nat) : (d.bumpIf c r i).fwMeas = d.fwMeas := by
  unfold Device.bumpIf; split <;> rfl
@[simp] theorem Device.bumpIf_clk (d : Device) (c : Bool) (r : Reg) (i : Nat) : (d.bumpIf c r i).clk = d.clk := by
  unfold Device.bumpIf; split <;> rfl
@[simp] theorem Device.bumpIf_ptp (d : Device) (c : Bool) (r : Reg) (i : Nat) : (d.bumpIf c r i).ptp = d.ptp := by
  unfold Device.bumpIf; split <;> rfl
@[simp] theorem Device.bumpIf_servo (d : Device) (c : Bool) (r : Reg) (i : Nat) : (d.bumpIf c r i).servo = d.servo := by
  unfold Device.bumpIf; split <;> rfl
@[simp] theorem Device.bumpIf_tt (d : Device) (c : Bool) (r : Reg) (i : Nat) : (d.bumpIf c r i).tt = d.tt := by
  unfold Device.bumpIf; split <;> rfl
@[simp] theorem Device.bumpIf_tcFifo (d : Device) (c : Bool) (r : Reg) (i : Nat) : (d.bumpIf c r i).tcFifo = d.tcFifo := by
  unfold Device.bumpIf; split <;> rfl
@[simp] theorem Device.bumpIf_evt (d : Device) (c : Bool) (r : Reg) (i : Nat) : (d.bumpIf c r i).evt = d.evt := by
  unfold Device.bumpIf; split <;> rfl
@[simp] theorem Device.bumpIf_fold (d : Device) (c : Bool) (r : Reg) (i : Nat) : (d.bumpIf c r i).fold = d.fold := by
  unfold Device.bumpIf; split <;> rfl
@[simp] theorem Device.bumpIf_closing (d : Device) (c : Bool) (r : Reg) (i : Nat) : (d.bumpIf c r i).closing = d.closing := by
  unfold Device.bumpIf; split <;> rfl
@[simp] theorem Device.bumpIf_resetDue (d : Device) (c : Bool) (r : Reg) (i : Nat) : (d.bumpIf c r i).resetDue = d.resetDue := by
  unfold Device.bumpIf; split <;> rfl
@[simp] theorem Device.bumpIf_bring (d : Device) (c : Bool) (r : Reg) (i : Nat) : (d.bumpIf c r i).bring = d.bring := by
  unfold Device.bumpIf; split <;> rfl
@[simp] theorem Device.bumpIf_refs (d : Device) (c : Bool) (r : Reg) (i : Nat) : (d.bumpIf c r i).refs = d.refs := by
  unfold Device.bumpIf; split <;> rfl
@[simp] theorem Device.bumpIf_dvfs (d : Device) (c : Bool) (r : Reg) (i : Nat) : (d.bumpIf c r i).dvfs = d.dvfs := by
  unfold Device.bumpIf; split <;> rfl
@[simp] theorem Device.bumpIf_voltMv (d : Device) (c : Bool) (r : Reg) (i : Nat) : (d.bumpIf c r i).voltMv = d.voltMv := by
  unfold Device.bumpIf; split <;> rfl
@[simp] theorem Device.bumpIf_vrExp (d : Device) (c : Bool) (r : Reg) (i : Nat) : (d.bumpIf c r i).vrExp = d.vrExp := by
  unfold Device.bumpIf; split <;> rfl
@[simp] theorem Device.bumpIf_switches (d : Device) (c : Bool) (r : Reg) (i : Nat) : (d.bumpIf c r i).switches = d.switches := by
  unfold Device.bumpIf; split <;> rfl
@[simp] theorem Device.bumpIf_forced (d : Device) (c : Bool) (r : Reg) (i : Nat) : (d.bumpIf c r i).forced = d.forced := by
  unfold Device.bumpIf; split <;> rfl
@[simp] theorem Device.bumpIf_rails (d : Device) (c : Bool) (r : Reg) (i : Nat) : (d.bumpIf c r i).rails = d.rails := by
  unfold Device.bumpIf; split <;> rfl
@[simp] theorem Device.bumpIf_raisedNow (d : Device) (c : Bool) (r : Reg) (i : Nat) : (d.bumpIf c r i).raisedNow = d.raisedNow := by
  unfold Device.bumpIf; split <;> rfl
@[simp] theorem Device.bumpIf_wakeNow (d : Device) (c : Bool) (r : Reg) (i : Nat) : (d.bumpIf c r i).wakeNow = d.wakeNow := by
  unfold Device.bumpIf; split <;> rfl
@[simp] theorem Device.bumpIf_wdog (d : Device) (c : Bool) (r : Reg) (i : Nat) : (d.bumpIf c r i).wdog = d.wdog := by
  unfold Device.bumpIf; split <;> rfl
@[simp] theorem Device.bumpIf_clkOut (d : Device) (c : Bool) (r : Reg) (i : Nat) : (d.bumpIf c r i).clkOut = d.clkOut := by
  unfold Device.bumpIf; split <;> rfl
@[simp] theorem Device.bumpIf_thermalHeld (d : Device) (c : Bool) (r : Reg) (i : Nat) : (d.bumpIf c r i).thermalHeld = d.thermalHeld := by
  unfold Device.bumpIf; split <;> rfl
@[simp] theorem Device.bumpIf_leftState (d : Device) (c : Bool) (r : Reg) (i : Nat) : (d.bumpIf c r i).leftState = d.leftState := by
  unfold Device.bumpIf; split <;> rfl
@[simp] theorem Device.bumpIf_wakeAt (d : Device) (c : Bool) (r : Reg) (i : Nat) : (d.bumpIf c r i).wakeAt = d.wakeAt := by
  unfold Device.bumpIf; split <;> rfl
@[simp] theorem Device.bumpIf_twi (d : Device) (c : Bool) (r : Reg) (i : Nat) : (d.bumpIf c r i).twi = d.twi := by
  unfold Device.bumpIf; split <;> rfl
@[simp] theorem Device.bumpIf_freeCtr (d : Device) (c : Bool) (r : Reg) (i : Nat) : (d.bumpIf c r i).freeCtr = d.freeCtr := by
  unfold Device.bumpIf; split <;> rfl
@[simp] theorem Device.bumpIf_outs (d : Device) (c : Bool) (r : Reg) (i : Nat) : (d.bumpIf c r i).outs = d.outs := by
  unfold Device.bumpIf; split <;> rfl
@[simp] theorem Device.peak_ident (d : Device) (r : Reg) (i n : Nat) : (d.peak r i n).ident = d.ident := by
  unfold Device.peak; split <;> rfl
@[simp] theorem Device.peak_staged (d : Device) (r : Reg) (i n : Nat) : (d.peak r i n).staged = d.staged := by
  unfold Device.peak; split <;> rfl
@[simp] theorem Device.peak_pend (d : Device) (r : Reg) (i n : Nat) : (d.peak r i n).pend = d.pend := by
  unfold Device.peak; split <;> rfl
@[simp] theorem Device.peak_released (d : Device) (r : Reg) (i n : Nat) : (d.peak r i n).released = d.released := by
  unfold Device.peak; split <;> rfl
@[simp] theorem Device.peak_sess (d : Device) (r : Reg) (i n : Nat) : (d.peak r i n).sess = d.sess := by
  unfold Device.peak; split <;> rfl
@[simp] theorem Device.peak_mailbox (d : Device) (r : Reg) (i n : Nat) : (d.peak r i n).mailbox = d.mailbox := by
  unfold Device.peak; split <;> rfl
@[simp] theorem Device.peak_nvs (d : Device) (r : Reg) (i n : Nat) : (d.peak r i n).nvs = d.nvs := by
  unfold Device.peak; split <;> rfl
@[simp] theorem Device.peak_lastAccess (d : Device) (r : Reg) (i n : Nat) : (d.peak r i n).lastAccess = d.lastAccess := by
  unfold Device.peak; split <;> rfl
@[simp] theorem Device.peak_tick (d : Device) (r : Reg) (i n : Nat) : (d.peak r i n).tick = d.tick := by
  unfold Device.peak; split <;> rfl
@[simp] theorem Device.peak_lanes (d : Device) (r : Reg) (i n : Nat) : (d.peak r i n).lanes = d.lanes := by
  unfold Device.peak; split <;> rfl
@[simp] theorem Device.peak_links (d : Device) (r : Reg) (i n : Nat) : (d.peak r i n).links = d.links := by
  unfold Device.peak; split <;> rfl
@[simp] theorem Device.peak_fronts (d : Device) (r : Reg) (i n : Nat) : (d.peak r i n).fronts = d.fronts := by
  unfold Device.peak; split <;> rfl
@[simp] theorem Device.peak_sliceLast (d : Device) (r : Reg) (i n : Nat) : (d.peak r i n).sliceLast = d.sliceLast := by
  unfold Device.peak; split <;> rfl
@[simp] theorem Device.peak_pos (d : Device) (r : Reg) (i n : Nat) : (d.peak r i n).pos = d.pos := by
  unfold Device.peak; split <;> rfl
@[simp] theorem Device.peak_emus (d : Device) (r : Reg) (i n : Nat) : (d.peak r i n).emus = d.emus := by
  unfold Device.peak; split <;> rfl
@[simp] theorem Device.peak_rs (d : Device) (r : Reg) (i n : Nat) : (d.peak r i n).rs = d.rs := by
  unfold Device.peak; split <;> rfl
@[simp] theorem Device.peak_gridPend (d : Device) (r : Reg) (i n : Nat) : (d.peak r i n).gridPend = d.gridPend := by
  unfold Device.peak; split <;> rfl
@[simp] theorem Device.peak_gridPast (d : Device) (r : Reg) (i n : Nat) : (d.peak r i n).gridPast = d.gridPast := by
  unfold Device.peak; split <;> rfl
@[simp] theorem Device.peak_stitch (d : Device) (r : Reg) (i n : Nat) : (d.peak r i n).stitch = d.stitch := by
  unfold Device.peak; split <;> rfl
@[simp] theorem Device.peak_rep (d : Device) (r : Reg) (i n : Nat) : (d.peak r i n).rep = d.rep := by
  unfold Device.peak; split <;> rfl
@[simp] theorem Device.peak_heft (d : Device) (r : Reg) (i n : Nat) : (d.peak r i n).heft = d.heft := by
  unfold Device.peak; split <;> rfl
@[simp] theorem Device.peak_seg (d : Device) (r : Reg) (i n : Nat) : (d.peak r i n).seg = d.seg := by
  unfold Device.peak; split <;> rfl
@[simp] theorem Device.peak_rdl (d : Device) (r : Reg) (i n : Nat) : (d.peak r i n).rdl = d.rdl := by
  unfold Device.peak; split <;> rfl
@[simp] theorem Device.peak_cal (d : Device) (r : Reg) (i n : Nat) : (d.peak r i n).cal = d.cal := by
  unfold Device.peak; split <;> rfl
@[simp] theorem Device.peak_flow (d : Device) (r : Reg) (i n : Nat) : (d.peak r i n).flow = d.flow := by
  unfold Device.peak; split <;> rfl
@[simp] theorem Device.peak_dram (d : Device) (r : Reg) (i n : Nat) : (d.peak r i n).dram = d.dram := by
  unfold Device.peak; split <;> rfl
@[simp] theorem Device.peak_ctl (d : Device) (r : Reg) (i n : Nat) : (d.peak r i n).ctl = d.ctl := by
  unfold Device.peak; split <;> rfl
@[simp] theorem Device.peak_jobs (d : Device) (r : Reg) (i n : Nat) : (d.peak r i n).jobs = d.jobs := by
  unfold Device.peak; split <;> rfl
@[simp] theorem Device.peak_crcs (d : Device) (r : Reg) (i n : Nat) : (d.peak r i n).crcs = d.crcs := by
  unfold Device.peak; split <;> rfl
@[simp] theorem Device.peak_rings (d : Device) (r : Reg) (i n : Nat) : (d.peak r i n).rings = d.rings := by
  unfold Device.peak; split <;> rfl
@[simp] theorem Device.peak_neigh (d : Device) (r : Reg) (i n : Nat) : (d.peak r i n).neigh = d.neigh := by
  unfold Device.peak; split <;> rfl
@[simp] theorem Device.peak_drovers (d : Device) (r : Reg) (i n : Nat) : (d.peak r i n).drovers = d.drovers := by
  unfold Device.peak; split <;> rfl
@[simp] theorem Device.peak_pcie (d : Device) (r : Reg) (i n : Nat) : (d.peak r i n).pcie = d.pcie := by
  unfold Device.peak; split <;> rfl
@[simp] theorem Device.peak_jrn (d : Device) (r : Reg) (i n : Nat) : (d.peak r i n).jrn = d.jrn := by
  unfold Device.peak; split <;> rfl
@[simp] theorem Device.peak_fuses (d : Device) (r : Reg) (i n : Nat) : (d.peak r i n).fuses = d.fuses := by
  unfold Device.peak; split <;> rfl
@[simp] theorem Device.peak_ctr (d : Device) (r : Reg) (i n : Nat) : (d.peak r i n).ctr = d.ctr := by
  unfold Device.peak; split <;> rfl
@[simp] theorem Device.peak_keyOk (d : Device) (r : Reg) (i n : Nat) : (d.peak r i n).keyOk = d.keyOk := by
  unfold Device.peak; split <;> rfl
@[simp] theorem Device.peak_staging (d : Device) (r : Reg) (i n : Nat) : (d.peak r i n).staging = d.staging := by
  unfold Device.peak; split <;> rfl
@[simp] theorem Device.peak_fwMeas (d : Device) (r : Reg) (i n : Nat) : (d.peak r i n).fwMeas = d.fwMeas := by
  unfold Device.peak; split <;> rfl
@[simp] theorem Device.peak_clk (d : Device) (r : Reg) (i n : Nat) : (d.peak r i n).clk = d.clk := by
  unfold Device.peak; split <;> rfl
@[simp] theorem Device.peak_ptp (d : Device) (r : Reg) (i n : Nat) : (d.peak r i n).ptp = d.ptp := by
  unfold Device.peak; split <;> rfl
@[simp] theorem Device.peak_servo (d : Device) (r : Reg) (i n : Nat) : (d.peak r i n).servo = d.servo := by
  unfold Device.peak; split <;> rfl
@[simp] theorem Device.peak_tt (d : Device) (r : Reg) (i n : Nat) : (d.peak r i n).tt = d.tt := by
  unfold Device.peak; split <;> rfl
@[simp] theorem Device.peak_tcFifo (d : Device) (r : Reg) (i n : Nat) : (d.peak r i n).tcFifo = d.tcFifo := by
  unfold Device.peak; split <;> rfl
@[simp] theorem Device.peak_evt (d : Device) (r : Reg) (i n : Nat) : (d.peak r i n).evt = d.evt := by
  unfold Device.peak; split <;> rfl
@[simp] theorem Device.peak_fold (d : Device) (r : Reg) (i n : Nat) : (d.peak r i n).fold = d.fold := by
  unfold Device.peak; split <;> rfl
@[simp] theorem Device.peak_closing (d : Device) (r : Reg) (i n : Nat) : (d.peak r i n).closing = d.closing := by
  unfold Device.peak; split <;> rfl
@[simp] theorem Device.peak_resetDue (d : Device) (r : Reg) (i n : Nat) : (d.peak r i n).resetDue = d.resetDue := by
  unfold Device.peak; split <;> rfl
@[simp] theorem Device.peak_bring (d : Device) (r : Reg) (i n : Nat) : (d.peak r i n).bring = d.bring := by
  unfold Device.peak; split <;> rfl
@[simp] theorem Device.peak_refs (d : Device) (r : Reg) (i n : Nat) : (d.peak r i n).refs = d.refs := by
  unfold Device.peak; split <;> rfl
@[simp] theorem Device.peak_dvfs (d : Device) (r : Reg) (i n : Nat) : (d.peak r i n).dvfs = d.dvfs := by
  unfold Device.peak; split <;> rfl
@[simp] theorem Device.peak_voltMv (d : Device) (r : Reg) (i n : Nat) : (d.peak r i n).voltMv = d.voltMv := by
  unfold Device.peak; split <;> rfl
@[simp] theorem Device.peak_vrExp (d : Device) (r : Reg) (i n : Nat) : (d.peak r i n).vrExp = d.vrExp := by
  unfold Device.peak; split <;> rfl
@[simp] theorem Device.peak_switches (d : Device) (r : Reg) (i n : Nat) : (d.peak r i n).switches = d.switches := by
  unfold Device.peak; split <;> rfl
@[simp] theorem Device.peak_forced (d : Device) (r : Reg) (i n : Nat) : (d.peak r i n).forced = d.forced := by
  unfold Device.peak; split <;> rfl
@[simp] theorem Device.peak_rails (d : Device) (r : Reg) (i n : Nat) : (d.peak r i n).rails = d.rails := by
  unfold Device.peak; split <;> rfl
@[simp] theorem Device.peak_raisedNow (d : Device) (r : Reg) (i n : Nat) : (d.peak r i n).raisedNow = d.raisedNow := by
  unfold Device.peak; split <;> rfl
@[simp] theorem Device.peak_wakeNow (d : Device) (r : Reg) (i n : Nat) : (d.peak r i n).wakeNow = d.wakeNow := by
  unfold Device.peak; split <;> rfl
@[simp] theorem Device.peak_wdog (d : Device) (r : Reg) (i n : Nat) : (d.peak r i n).wdog = d.wdog := by
  unfold Device.peak; split <;> rfl
@[simp] theorem Device.peak_clkOut (d : Device) (r : Reg) (i n : Nat) : (d.peak r i n).clkOut = d.clkOut := by
  unfold Device.peak; split <;> rfl
@[simp] theorem Device.peak_thermalHeld (d : Device) (r : Reg) (i n : Nat) : (d.peak r i n).thermalHeld = d.thermalHeld := by
  unfold Device.peak; split <;> rfl
@[simp] theorem Device.peak_leftState (d : Device) (r : Reg) (i n : Nat) : (d.peak r i n).leftState = d.leftState := by
  unfold Device.peak; split <;> rfl
@[simp] theorem Device.peak_wakeAt (d : Device) (r : Reg) (i n : Nat) : (d.peak r i n).wakeAt = d.wakeAt := by
  unfold Device.peak; split <;> rfl
@[simp] theorem Device.peak_twi (d : Device) (r : Reg) (i n : Nat) : (d.peak r i n).twi = d.twi := by
  unfold Device.peak; split <;> rfl
@[simp] theorem Device.peak_freeCtr (d : Device) (r : Reg) (i n : Nat) : (d.peak r i n).freeCtr = d.freeCtr := by
  unfold Device.peak; split <;> rfl
@[simp] theorem Device.peak_outs (d : Device) (r : Reg) (i n : Nat) : (d.peak r i n).outs = d.outs := by
  unfold Device.peak; split <;> rfl
@[simp] theorem Device.fresh_ident (d : Device) (n : Nat) : (d.fresh n).2.ident = d.ident := rfl
@[simp] theorem Device.fresh_live (d : Device) (n : Nat) : (d.fresh n).2.live = d.live := rfl
@[simp] theorem Device.fresh_staged (d : Device) (n : Nat) : (d.fresh n).2.staged = d.staged := rfl
@[simp] theorem Device.fresh_pend (d : Device) (n : Nat) : (d.fresh n).2.pend = d.pend := rfl
@[simp] theorem Device.fresh_released (d : Device) (n : Nat) : (d.fresh n).2.released = d.released := rfl
@[simp] theorem Device.fresh_sess (d : Device) (n : Nat) : (d.fresh n).2.sess = d.sess := rfl
@[simp] theorem Device.fresh_mailbox (d : Device) (n : Nat) : (d.fresh n).2.mailbox = d.mailbox := rfl
@[simp] theorem Device.fresh_nvs (d : Device) (n : Nat) : (d.fresh n).2.nvs = d.nvs := rfl
@[simp] theorem Device.fresh_lastAccess (d : Device) (n : Nat) : (d.fresh n).2.lastAccess = d.lastAccess := rfl
@[simp] theorem Device.fresh_tick (d : Device) (n : Nat) : (d.fresh n).2.tick = d.tick := rfl
@[simp] theorem Device.fresh_lanes (d : Device) (n : Nat) : (d.fresh n).2.lanes = d.lanes := rfl
@[simp] theorem Device.fresh_links (d : Device) (n : Nat) : (d.fresh n).2.links = d.links := rfl
@[simp] theorem Device.fresh_fronts (d : Device) (n : Nat) : (d.fresh n).2.fronts = d.fronts := rfl
@[simp] theorem Device.fresh_sliceLast (d : Device) (n : Nat) : (d.fresh n).2.sliceLast = d.sliceLast := rfl
@[simp] theorem Device.fresh_pos (d : Device) (n : Nat) : (d.fresh n).2.pos = d.pos := rfl
@[simp] theorem Device.fresh_emus (d : Device) (n : Nat) : (d.fresh n).2.emus = d.emus := rfl
@[simp] theorem Device.fresh_rs (d : Device) (n : Nat) : (d.fresh n).2.rs = d.rs := rfl
@[simp] theorem Device.fresh_gridPend (d : Device) (n : Nat) : (d.fresh n).2.gridPend = d.gridPend := rfl
@[simp] theorem Device.fresh_gridPast (d : Device) (n : Nat) : (d.fresh n).2.gridPast = d.gridPast := rfl
@[simp] theorem Device.fresh_stitch (d : Device) (n : Nat) : (d.fresh n).2.stitch = d.stitch := rfl
@[simp] theorem Device.fresh_rep (d : Device) (n : Nat) : (d.fresh n).2.rep = d.rep := rfl
@[simp] theorem Device.fresh_heft (d : Device) (n : Nat) : (d.fresh n).2.heft = d.heft := rfl
@[simp] theorem Device.fresh_seg (d : Device) (n : Nat) : (d.fresh n).2.seg = d.seg := rfl
@[simp] theorem Device.fresh_rdl (d : Device) (n : Nat) : (d.fresh n).2.rdl = d.rdl := rfl
@[simp] theorem Device.fresh_cal (d : Device) (n : Nat) : (d.fresh n).2.cal = d.cal := rfl
@[simp] theorem Device.fresh_flow (d : Device) (n : Nat) : (d.fresh n).2.flow = d.flow := rfl
@[simp] theorem Device.fresh_dram (d : Device) (n : Nat) : (d.fresh n).2.dram = d.dram := rfl
@[simp] theorem Device.fresh_ctl (d : Device) (n : Nat) : (d.fresh n).2.ctl = d.ctl := rfl
@[simp] theorem Device.fresh_jobs (d : Device) (n : Nat) : (d.fresh n).2.jobs = d.jobs := rfl
@[simp] theorem Device.fresh_crcs (d : Device) (n : Nat) : (d.fresh n).2.crcs = d.crcs := rfl
@[simp] theorem Device.fresh_rings (d : Device) (n : Nat) : (d.fresh n).2.rings = d.rings := rfl
@[simp] theorem Device.fresh_neigh (d : Device) (n : Nat) : (d.fresh n).2.neigh = d.neigh := rfl
@[simp] theorem Device.fresh_drovers (d : Device) (n : Nat) : (d.fresh n).2.drovers = d.drovers := rfl
@[simp] theorem Device.fresh_pcie (d : Device) (n : Nat) : (d.fresh n).2.pcie = d.pcie := rfl
@[simp] theorem Device.fresh_jrn (d : Device) (n : Nat) : (d.fresh n).2.jrn = d.jrn := rfl
@[simp] theorem Device.fresh_fuses (d : Device) (n : Nat) : (d.fresh n).2.fuses = d.fuses := rfl
@[simp] theorem Device.fresh_ctr (d : Device) (n : Nat) : (d.fresh n).2.ctr = d.ctr := rfl
@[simp] theorem Device.fresh_keyOk (d : Device) (n : Nat) : (d.fresh n).2.keyOk = d.keyOk := rfl
@[simp] theorem Device.fresh_staging (d : Device) (n : Nat) : (d.fresh n).2.staging = d.staging := rfl
@[simp] theorem Device.fresh_fwMeas (d : Device) (n : Nat) : (d.fresh n).2.fwMeas = d.fwMeas := rfl
@[simp] theorem Device.fresh_clk (d : Device) (n : Nat) : (d.fresh n).2.clk = d.clk := rfl
@[simp] theorem Device.fresh_ptp (d : Device) (n : Nat) : (d.fresh n).2.ptp = d.ptp := rfl
@[simp] theorem Device.fresh_servo (d : Device) (n : Nat) : (d.fresh n).2.servo = d.servo := rfl
@[simp] theorem Device.fresh_tt (d : Device) (n : Nat) : (d.fresh n).2.tt = d.tt := rfl
@[simp] theorem Device.fresh_tcFifo (d : Device) (n : Nat) : (d.fresh n).2.tcFifo = d.tcFifo := rfl
@[simp] theorem Device.fresh_evt (d : Device) (n : Nat) : (d.fresh n).2.evt = d.evt := rfl
@[simp] theorem Device.fresh_fold (d : Device) (n : Nat) : (d.fresh n).2.fold = d.fold := rfl
@[simp] theorem Device.fresh_closing (d : Device) (n : Nat) : (d.fresh n).2.closing = d.closing := rfl
@[simp] theorem Device.fresh_resetDue (d : Device) (n : Nat) : (d.fresh n).2.resetDue = d.resetDue := rfl
@[simp] theorem Device.fresh_bring (d : Device) (n : Nat) : (d.fresh n).2.bring = d.bring := rfl
@[simp] theorem Device.fresh_refs (d : Device) (n : Nat) : (d.fresh n).2.refs = d.refs := rfl
@[simp] theorem Device.fresh_dvfs (d : Device) (n : Nat) : (d.fresh n).2.dvfs = d.dvfs := rfl
@[simp] theorem Device.fresh_voltMv (d : Device) (n : Nat) : (d.fresh n).2.voltMv = d.voltMv := rfl
@[simp] theorem Device.fresh_vrExp (d : Device) (n : Nat) : (d.fresh n).2.vrExp = d.vrExp := rfl
@[simp] theorem Device.fresh_switches (d : Device) (n : Nat) : (d.fresh n).2.switches = d.switches := rfl
@[simp] theorem Device.fresh_forced (d : Device) (n : Nat) : (d.fresh n).2.forced = d.forced := rfl
@[simp] theorem Device.fresh_rails (d : Device) (n : Nat) : (d.fresh n).2.rails = d.rails := rfl
@[simp] theorem Device.fresh_raisedNow (d : Device) (n : Nat) : (d.fresh n).2.raisedNow = d.raisedNow := rfl
@[simp] theorem Device.fresh_wakeNow (d : Device) (n : Nat) : (d.fresh n).2.wakeNow = d.wakeNow := rfl
@[simp] theorem Device.fresh_wdog (d : Device) (n : Nat) : (d.fresh n).2.wdog = d.wdog := rfl
@[simp] theorem Device.fresh_clkOut (d : Device) (n : Nat) : (d.fresh n).2.clkOut = d.clkOut := rfl
@[simp] theorem Device.fresh_thermalHeld (d : Device) (n : Nat) : (d.fresh n).2.thermalHeld = d.thermalHeld := rfl
@[simp] theorem Device.fresh_leftState (d : Device) (n : Nat) : (d.fresh n).2.leftState = d.leftState := rfl
@[simp] theorem Device.fresh_wakeAt (d : Device) (n : Nat) : (d.fresh n).2.wakeAt = d.wakeAt := rfl
@[simp] theorem Device.fresh_twi (d : Device) (n : Nat) : (d.fresh n).2.twi = d.twi := rfl
@[simp] theorem Device.fresh_outs (d : Device) (n : Nat) : (d.fresh n).2.outs = d.outs := rfl

@[simp] theorem Device.put_live (d : Device) (r : Reg) (i : Nat) (v : Val) : (d.put r i v).live = d.live.put ⟨r, i⟩ v (d.ident.dflt r i) := rfl
@[simp] theorem Device.putStg_staged (d : Device) (r : Reg) (i : Nat) (v : Val) : (d.putStg r i v).staged = d.staged.put ⟨r, i⟩ v (d.ident.dflt r i) := rfl
@[simp] theorem Device.emit_outs (d : Device) (o : Out) : (d.emit o).outs = d.outs ++ [o] := rfl
@[simp] theorem Device.emits_outs (d : Device) (os : List Out) : (d.emits os).outs = d.outs ++ os := rfl
@[simp] theorem Device.fresh_freeCtr (d : Device) (n : Nat) : (d.fresh n).2.freeCtr = d.freeCtr + 1 := rfl

end Sys2Proof.Machine
end

