-- ==== Sys2Proof/Laws/Store.lean ====
section
/-!
SUPPORT. What the operations on a store of objects do: reading after writing, and the canonical form that every one of them keeps.
-/
namespace Sys2Proof.Machine

/-! ## Reading after writing -/

@[simp] theorem Store.find_nil (k : Key) : Store.find [] k = none := rfl

theorem Store.find_cons (k k' : Key) (v : Val) (t : Store) : Store.find ((k', v) :: t) k = if k' = k then some v else Store.find t k := rfl

theorem Store.find_drop_same (st : Store) (k : Key) : (st.drop k).find k = none := by
  induction st with
  | nil => rfl
  | cons e t ih =>
    obtain ⟨k', v⟩ := e
    by_cases h : k' = k
    · subst h; simpa [Store.drop, List.filter] using ih
    · simp only [Store.drop, List.filter, h, ne_eq, not_false_eq_true, decide_true, Store.find_cons, if_false]
      exact ih

theorem Store.find_drop_ne (st : Store) {k k' : Key} (hne : k' ≠ k) : (st.drop k').find k = st.find k := by
  induction st with
  | nil => rfl
  | cons e t ih =>
    obtain ⟨k2, v⟩ := e
    by_cases h : k2 = k'
    · subst h
      simp only [Store.drop, List.filter, ne_eq, not_true_eq_false, decide_false, Store.find_cons, if_neg hne]
      exact ih
    · simp only [Store.drop, List.filter, h, ne_eq, not_false_eq_true, decide_true, Store.find_cons]
      split
      · rfl
      · exact ih

theorem Store.find_ins_same (st : Store) (k : Key) (v : Val) : (st.ins k v).find k = some v := by
  induction st with
  | nil => simp [Store.ins, Store.find_cons]
  | cons e t ih =>
    obtain ⟨k2, w⟩ := e
    unfold Store.ins
    split
    · simp [Store.find_cons]
    · split
      · simp [Store.find_cons]
      · rename_i h _; simp [Store.find_cons, h, ih]

theorem Store.find_ins_ne (st : Store) {k k' : Key} (hne : k' ≠ k) (v : Val) : (st.ins k' v).find k = st.find k := by
  induction st with
  | nil => simp [Store.ins, Store.find_cons, hne]
  | cons e t ih =>
    obtain ⟨k2, w⟩ := e
    unfold Store.ins
    split
    · rename_i h; subst h; simp [Store.find_cons, hne]
    · split
      · simp [Store.find_cons, hne]
      · simp only [Store.find_cons]
        split
        · rfl
        · exact ih

theorem Store.getD_put_same (st : Store) (k : Key) (v dflt : Val) : ((st.put k v dflt).find k).getD dflt = v := by
  unfold Store.put
  split
  · rename_i h; simp [Store.find_drop_same, h]
  · simp [Store.find_ins_same]

theorem Store.find_put_ne (st : Store) {k k' : Key} (hne : k' ≠ k) (v dflt : Val) : (st.put k' v dflt).find k = st.find k := by
  unfold Store.put
  split
  · exact Store.find_drop_ne st hne
  · exact Store.find_ins_ne st hne v

/-! ## Reading an object after writing one -/

namespace Device

@[simp] theorem val_put_same (d : Device) (r : Reg) (i : Nat) (v : Val) : (d.put r i v).val r i = v := by
  unfold Device.val
  exact Store.getD_put_same _ _ _ _

theorem val_put_ne (d : Device) {r r' : Reg} {i i' : Nat} (h : ¬(r' = r ∧ i' = i)) (v : Val) : (d.put r' i' v).val r i = d.val r i := by
  have hne : (⟨r', i'⟩ : Key) ≠ ⟨r, i⟩ := fun hh => h (by injection hh with a b; exact ⟨a, b⟩)
  unfold Device.val
  simp only [put_live, put_ident, Store.find_put_ne _ hne]

@[simp] theorem stg_putStg_same (d : Device) (r : Reg) (i : Nat) (v : Val) : (d.putStg r i v).stg r i = v := by
  unfold Device.stg
  exact Store.getD_put_same _ _ _ _

@[simp] theorem num_set_same (d : Device) (r : Reg) (i n : Nat) : (d.set r i n).num r i = n % 2 ^ r.bits := by
  simp [Device.num, Device.set, Val.toNat]

theorem num_set_ne (d : Device) {r r' : Reg} {i i' : Nat} (h : ¬(r' = r ∧ i' = i)) (n : Nat) : (d.set r' i' n).num r i = d.num r i := by
  simp [Device.num, Device.set, val_put_ne d h]

theorem val_set_ne (d : Device) {r r' : Reg} {i i' : Nat} (h : ¬(r' = r ∧ i' = i)) (n : Nat) : (d.set r' i' n).val r i = d.val r i := val_put_ne d h _

@[simp] theorem num_set_reg_ne (d : Device) {r r' : Reg} (i i' n : Nat) (h : r' ≠ r) : (d.set r' i' n).num r i = d.num r i :=
  num_set_ne d (fun hh => h hh.1) n

@[simp] theorem num_setOn_same (d : Device) (r : Reg) (i : Nat) (b : Bool) : (d.setOn r i b).num r i = b2n b % 2 ^ r.bits := num_set_same d r i _

@[simp] theorem num_setOn_reg_ne (d : Device) {r r' : Reg} (i i' : Nat) (b : Bool) (h : r' ≠ r) : (d.setOn r' i' b).num r i = d.num r i :=
  num_set_reg_ne d i i' _ h

@[simp] theorem num_setI_same (d : Device) (r : Reg) (i : Nat) (n : Int) : (d.setI r i n).num r i = ofSigned r.bits n := by
  simp [Device.num, Device.setI, Val.toNat]

@[simp] theorem num_setI_reg_ne (d : Device) {r r' : Reg} (i i' : Nat) (n : Int) (h : r' ≠ r) : (d.setI r' i' n).num r i = d.num r i := by
  simp [Device.num, Device.setI, val_put_ne d (fun hh => h hh.1)]

@[simp] theorem oct_setOct_same (d : Device) (r : Reg) (i : Nat) (b : Octets) : (d.setOct r i b).oct r i = b := by
  simp [Device.oct, Device.setOct, Val.toOctets]

@[simp] theorem num_setOct_reg_ne (d : Device) {r r' : Reg} (i i' : Nat) (b : Octets) (h : r' ≠ r) : (d.setOct r' i' b).num r i = d.num r i := by
  simp [Device.num, Device.setOct, val_put_ne d (fun hh => h hh.1)]

@[simp] theorem num_bump_same (d : Device) (r : Reg) (i : Nat) : (d.bump r i).num r i = (d.num r i + 1) % 2 ^ r.bits := num_set_same d r i _

@[simp] theorem num_bump_reg_ne (d : Device) {r r' : Reg} (i i' : Nat) (h : r' ≠ r) : (d.bump r' i').num r i = d.num r i := num_set_reg_ne d i i' _ h

@[simp] theorem num_add_same (d : Device) (r : Reg) (i k : Nat) : (d.add r i k).num r i = (d.num r i + k) % 2 ^ r.bits := num_set_same d r i _

@[simp] theorem num_add_reg_ne (d : Device) {r r' : Reg} (i i' k : Nat) (h : r' ≠ r) : (d.add r' i' k).num r i = d.num r i := num_set_reg_ne d i i' _ h

@[simp] theorem num_emit (d : Device) (o : Out) (r : Reg) (i : Nat) : (d.emit o).num r i = d.num r i := rfl

@[simp] theorem num_outs (d : Device) (os : List Out) (r : Reg) (i : Nat) : ({ d with outs := os } : Device).num r i = d.num r i := rfl

end Device

/-! ## The canonical form -/

/-- Every key of a store has a place after `c`. -/
def Store.after (c : Nat) (st : Store) : Prop := ∀ e ∈ st, c < e.1.code

theorem Store.rising_cons {a : Key × Val} {t : Store} : Store.rising (a :: t) = true ↔ (∀ b ∈ t.head?, a.1.code < b.1.code) ∧ Store.rising t = true := by
  cases t with
  | nil => simp [Store.rising]
  | cons b t => simp [Store.rising]

theorem Store.rising_after {a : Key × Val} {t : Store} (h : Store.rising (a :: t) = true) : Store.after a.1.code t := by
  induction t generalizing a with
  | nil => intro e he; cases he
  | cons b t ih =>
    rw [Store.rising_cons] at h
    intro e he
    have hb : a.1.code < b.1.code := h.1 b (by simp)
    rcases List.mem_cons.mp he with rfl | he
    · exact hb
    · exact Nat.lt_trans hb (ih h.2 e he)

theorem Store.rising_of_after {a : Key × Val} {t : Store} (ha : Store.after a.1.code t) (ht : Store.rising t = true) : Store.rising (a :: t) = true := by
  rw [Store.rising_cons]
  refine ⟨fun b hb => ha b ?_, ht⟩
  cases t with
  | nil => simp at hb
  | cons c t => simp at hb; simp [hb]

theorem Store.rising_filter (p : Key × Val → Bool) {st : Store} (h : Store.rising st = true) : Store.rising (st.filter p) = true := by
  induction st with
  | nil => rfl
  | cons a t ih =>
    have ht := (Store.rising_cons.mp h).2
    simp only [List.filter]
    split
    · refine Store.rising_of_after ?_ (ih ht)
      intro e he
      exact Store.rising_after h e (List.mem_filter.mp he).1
    · exact ih ht

theorem Store.mem_ins {st : Store} {k : Key} {v : Val} {e : Key × Val} (h : e ∈ st.ins k v) : e = (k, v) ∨ e ∈ st := by
  induction st with
  | nil => left; simpa [Store.ins] using h
  | cons a t ih =>
    obtain ⟨k2, w⟩ := a
    unfold Store.ins at h
    split at h
    · rcases List.mem_cons.mp h with h | h
      · exact Or.inl h
      · exact Or.inr (List.mem_cons_of_mem _ h)
    · split at h
      · rcases List.mem_cons.mp h with h | h
        · exact Or.inl h
        · exact Or.inr h
      · rcases List.mem_cons.mp h with h | h
        · exact Or.inr (h ▸ List.mem_cons_self)
        · rcases ih h with h | h
          · exact Or.inl h
          · exact Or.inr (List.mem_cons_of_mem _ h)

theorem Reg.ctorIdx_lt (r : Reg) : r.ctorIdx < 0x1000 := by cases r <;> decide

theorem Reg.ctorIdx_inj {a b : Reg} (h : a.ctorIdx = b.ctorIdx) : a = b := by rw [← Reg.ofNat_ctorIdx a, h, Reg.ofNat_ctorIdx]

/-- Two keys of one place are one key. -/
theorem Key.code_inj {a b : Key} (h : a.code = b.code) : a = b := by
  obtain ⟨ra, ia⟩ := a
  obtain ⟨rb, ib⟩ := b
  simp only [Key.code] at h
  have h1 := Reg.ctorIdx_lt ra
  have h2 := Reg.ctorIdx_lt rb
  have hi : ia = ib := by omega
  have hr : ra = rb := Reg.ctorIdx_inj (by omega)
  rw [hi, hr]

theorem Store.rising_ins {st : Store} (k : Key) (v : Val) (h : Store.rising st = true) : Store.rising (st.ins k v) = true := by
  induction st with
  | nil => rfl
  | cons a t ih =>
    obtain ⟨k2, w⟩ := a
    have hat := Store.rising_after h
    have ht := (Store.rising_cons.mp h).2
    unfold Store.ins
    split
    · rename_i hk; subst hk
      exact Store.rising_of_after (a := (k2, v)) hat ht
    · rename_i hk
      split
      · rename_i hlt
        refine Store.rising_of_after (a := (k, v)) ?_ h
        intro e he
        rcases List.mem_cons.mp he with rfl | he
        · exact hlt
        · exact Nat.lt_trans hlt (hat e he)
      · rename_i hlt
        refine Store.rising_of_after (a := (k2, w)) ?_ (ih ht)
        intro e he
        rcases Store.mem_ins he with rfl | he
        · have : k2.code ≠ k.code := fun hh => hk (Key.code_inj hh)
          simp only at hlt ⊢; omega
        · exact hat e he

theorem Store.wf_nil (id : Identity) : Store.wf id [] = true := rfl

theorem Store.wf_filter {id : Identity} (p : Key × Val → Bool) {st : Store} (h : Store.wf id st = true) : Store.wf id (st.filter p) = true := by
  simp only [Store.wf, Bool.and_eq_true, List.all_eq_true] at h ⊢
  exact ⟨Store.rising_filter p h.1, fun e he => h.2 e (List.mem_filter.mp he).1⟩

theorem Store.wf_ins {id : Identity} {st : Store} (k : Key) (v : Val) (hv : v ≠ id.dflt k.reg k.inst) (h : Store.wf id st = true) :
    Store.wf id (st.ins k v) = true := by
  simp only [Store.wf, Bool.and_eq_true, List.all_eq_true] at h ⊢
  refine ⟨Store.rising_ins k v h.1, fun e he => ?_⟩
  rcases Store.mem_ins he with rfl | he
  · simpa using hv
  · exact h.2 e he

/-- Changing a key's value keeps the canonical form. -/
theorem Store.wf_put {id : Identity} {st : Store} (r : Reg) (i : Nat) (v : Val) (h : Store.wf id st = true) :
    Store.wf id (st.put ⟨r, i⟩ v (id.dflt r i)) = true := by
  unfold Store.put
  split
  · exact Store.wf_filter _ h
  · exact Store.wf_ins ⟨r, i⟩ v ‹_› h

theorem Store.wf_mem {id : Identity} {st : Store} (h : Store.wf id st = true) {e : Key × Val} (he : e ∈ st) : e.2 ≠ id.dflt e.1.reg e.1.inst := by
  simp only [Store.wf, Bool.and_eq_true, List.all_eq_true] at h
  simpa using h.2 e he

/-- Taking a scope's objects from another copy keeps the canonical form. -/
theorem Store.wf_takeScope {id : Identity} {live vals : Store} (sc : Scope) (hl : Store.wf id live = true) (hv : Store.wf id vals = true) :
    Store.wf id (live.takeScope vals sc) = true := by
  unfold Store.takeScope
  have h0 : Store.wf id (live.filter (fun e => !e.1.inScope sc)) = true := Store.wf_filter _ hl
  have h1 : ∀ e ∈ vals.filter (fun e => e.1.inScope sc), e.2 ≠ id.dflt e.1.reg e.1.inst :=
    fun e he => Store.wf_mem hv (List.mem_filter.mp he).1
  revert h0 h1
  generalize live.filter (fun e => !e.1.inScope sc) = st
  generalize vals.filter (fun e => e.1.inScope sc) = es
  induction es generalizing st with
  | nil => exact fun h0 _ => h0
  | cons e t ih =>
    intro h0 h1
    exact ih (Store.ins st e.1 e.2) (Store.wf_ins e.1 e.2 (h1 e List.mem_cons_self) h0) (fun x hx => h1 x (List.mem_cons_of_mem _ hx))

end Sys2Proof.Machine
end

