-- ==== Sys2Proof/Laws/Access.lean ====
section
/-!
SUPPORT. What a write that passes every check does, once for all commands: its journal entry, its effect, its result.
-/
namespace Sys2Proof.Machine

theorem ofLE_le (k n : Nat) : ofLE (le k n) = n % 2 ^ (8 * k) := by
  induction k generalizing n with
  | zero => simp [le, ofLE, Nat.mod_one]
  | succ k ih =>
    rw [le, ofLE, ih, Nat.mod_mod, show 8 * (k + 1) = 8 + 8 * k by omega, Nat.pow_add, Nat.mod_mul]

@[simp] theorem length_le (k n : Nat) : (le k n).length = k := by
  induction k generalizing n with
  | zero => rfl
  | succ k ih => simp [le, ih]

namespace Device

/-- A device that has no reset due goes on after a response. -/
theorem commandReset_none {d : Device} (h : d.resetDue = false) : d.commandReset = d := by simp [commandReset, h]

theorem deepWake_awake {d : Device} (h : d.num .PWR_STATE 0 ≠ 2) : d.deepWake = d := by simp [deepWake, h]

/-- An access of a session in its place among those of its tick (R31). -/
theorem ranked_inOrder {d : Device} {n : Nat} (h : d.lastAccess ≤ n) (hn : n ≤ 1024) : d.ranked n = { d with lastAccess := n } := by
  simp [ranked, Nat.not_lt.mpr hn, Nat.not_lt.mpr h]

/-- An access behind one of a higher session is one of the next tick (R31). -/
theorem ranked_behind {d : Device} {n : Nat} (h : n < d.lastAccess) (hn : n ≤ 1024) : d.ranked n = { d.tickEnd with lastAccess := n } := by
  simp [ranked, Nat.not_lt.mpr hn, h]

/-- How a write through session `n` ends: a session that has closed itself goes, the result leaves, and a reset that is due comes. -/
def finish (d : Device) (n : Nat) : Device := ((if n = 0 then d else d.closeOwn n).emit (.result 0)).commandReset

/-- A write of an object that passes every check (R27): its journal entry, then its effect. -/
theorem writeObj_applied {d : Device} {n : Nat} {k : Key} {b : Octets} (hc : k.reg ≠ .DEV_COMMIT) (hc' : k.reg ≠ .CH_COMMIT)
    (hform : d.formRefused k b = 0) (hheld : d.underHold k = false) (hforming : d.formingRefused k = false)
    (happ : (d.applyWrite k (decodeVal k.reg.row.ty b) n).1 = 0) (hroom : d.externalRoom = true) :
    d.writeObj n k b = (d.journalWriteOf n k b).applyWrite k (decodeVal k.reg.row.ty b) n := by
  unfold writeObj furtherWrite
  simp only [hform, ne_eq, not_true_eq_false, if_false, hheld, hforming, happ, hroom, Bool.not_true, Bool.false_eq_true]

/-- Such a write through the BAR0 window (R43). -/
theorem bar0Write_applied {d e : Device} {k : Key} {st : Bool} {b v : Octets} (hr : d.Reaches 0) (hf : d.findObj k.index k.sub = some k)
    (hb : b.length = 4) (hs : k.reg.row.ty.size.isNone = false) (hcl : d.classRefused k = false)
    (hv : slotBytes k.reg.row.ty (d.num .COM_BAR0_HI 0) (ofLE b) = some v) (hbulk : k.reg ≠ .COM_BAR0_BULK_GO)
    (hw : d.writeObj 0 k v = (0, e)) : d.bar0Write st k.index k.sub b = e.finish 0 := by
  obtain ⟨_, _, hp, _, _, h0⟩ := hr
  simp only [if_true] at h0
  simp [bar0Write, h0, deepWake_awake hp, slotWrite, hf, hcl, hb, hs, hv, write, hbulk, hw, finish]

/-- Such a write by a DAP session (R27). -/
theorem itemWrite_applied {d e : Device} {n : Nat} {k : Key} {v : Octets} (hr : d.Reaches n) (hn : n ≠ 0) (hf : d.findObj k.index k.sub = some k)
    (hbulk : k.reg ≠ .COM_BAR0_BULK_GO) (hw : d.writeObj n k v = (0, e)) : d.itemWrite n k.index k.sub v = e.finish n := by
  obtain ⟨_, hu, hp, _, _, h0⟩ := hr
  simp only [hn, if_false] at h0
  have h1 : (d.session n).isNone = false := by cases h : d.session n <;> simp_all
  simp [itemWrite, hu, h1, deepWake_awake hp, write, hf, hbulk, hw, finish, hn]

/-- A command whose object holds at most 32 bits, passing every check (R27, R43). -/
theorem command_applied {d : Device} {n : Nat} {r : Reg} {i x sz : Nat} (hr : d.Reaches n) (hf : d.findObj (Key.index ⟨r, i⟩) (Key.sub ⟨r, i⟩) = some ⟨r, i⟩)
    (hs : r.row.ty.size = some sz) (hty : r.row.ty ≠ .u48 ∧ r.row.ty ≠ .u64 ∧ r.row.ty ≠ .s16) (hsz : sz ≤ 4) (hx : x < 2 ^ (8 * sz))
    (hc : r ≠ .DEV_COMMIT ∧ r ≠ .CH_COMMIT ∧ r ≠ .COM_BAR0_BULK_GO)
    (hform : d.formRefused ⟨r, i⟩ (le sz x) = 0) (hheld : d.underHold ⟨r, i⟩ = false) (hforming : d.formingRefused ⟨r, i⟩ = false)
    (happ : (d.applyWrite ⟨r, i⟩ (.num x) n).1 = 0)
    (happ2 : ((d.journalWriteOf n ⟨r, i⟩ (le sz x)).applyWrite ⟨r, i⟩ (.num x) n).1 = 0) :
    d.command n r i x = ((d.journalWriteOf n ⟨r, i⟩ (le sz x)).applyWrite ⟨r, i⟩ (.num x) n).2.finish n := by
  have hcl : d.classRefused ⟨r, i⟩ = false := by
    cases h : d.classRefused ⟨r, i⟩ with
    | false => rfl
    | true => simp [formRefused, h] at hform
  have hdec : decodeVal r.row.ty (le sz x) = .num x := by simp [decodeVal, hs, ofLE_le, Nat.mod_eq_of_lt hx]
  have hroom : d.externalRoom = true := by simp [externalRoom]; have := hr.2.2.2.1; have := hr.2.2.2.2.1; omega
  have hw : ∀ m, m = n → d.writeObj m ⟨r, i⟩ (le sz x) = (0, ((d.journalWriteOf n ⟨r, i⟩ (le sz x)).applyWrite ⟨r, i⟩ (.num x) n).2) := by
    rintro m rfl
    rw [writeObj_applied (k := ⟨r, i⟩) hc.1 hc.2.1 hform hheld hforming (by simpa only [hdec] using happ) hroom]
    simp only [hdec]
    exact Prod.ext happ2 rfl
  unfold command
  by_cases hn : n = 0
  · subst hn
    have hx4 : x < 2 ^ 32 := Nat.lt_of_lt_of_le hx (Nat.pow_le_pow_right (by omega) (by omega))
    have hslot : slotBytes r.row.ty (d.num .COM_BAR0_HI 0) (ofLE (le 4 x)) = some (le sz x) := by
      rw [ofLE_le, Nat.mod_eq_of_lt (by simpa using hx4)]
      clear hw happ happ2 hform hheld hforming hdec hf hc hcl
      generalize r.row.ty = ty at hs hty
      cases ty <;> simp only [ObjType.size, Option.some.injEq, reduceCtorEq] at hs <;> subst hs <;> simp_all [slotBytes, ObjType.size]
    have hgo := bar0Write_applied (k := ⟨r, i⟩) (st := false) (b := le 4 x) hr hf (by simp) (by simp [hs]) hcl hslot hc.2.2 (hw 0 rfl)
    rw [← hgo]
    simp only [if_true]
    split <;> simp_all
  · have hgo := itemWrite_applied (k := ⟨r, i⟩) hr hn hf hc.2.2 (hw n rfl)
    simpa [hn, encodeVal, hs] using hgo

/-- What the object table says of an object that a command writes: it is where its index leads, no fold member object, no RWS object, a number of at most 32 bits whose
write has no rule of its own before the effect. -/
def plain (r : Reg) (i : Nat) : Bool :=
  decide (locate (Key.index ⟨r, i⟩) (Key.sub ⟨r, i⟩) = some ⟨r, i⟩) && !(0x3010 ≤ Key.index ⟨r, i⟩ && Key.index ⟨r, i⟩ < 0x3018)
    && !r.row.acc.unwritable && decide (r.row.acc ≠ .rws) && [ObjType.bool, .u8, .u16, .u24, .u32, .s32].contains r.row.ty
    && !([Reg.DEV_COMMIT, .CH_COMMIT, .COM_BAR0_BULK_GO, .POS_ENC_TERM, .POS_ENC_Z_MODE, .POS_ENC_Z_COUNTS, .CH_BOFF_DATA, .CH_SHADE_DATA].contains r)

/-- A command on such an object, in range, by a session that can write, with no hold in force: the journal entry, the effect, the result. -/
theorem command_plain {d : Device} {n : Nat} {r : Reg} {i x sz : Nat} (hp : plain r i = true) (hs : r.row.ty.size = some sz) (hpres : d.ident.present ⟨r, i⟩ = true)
    (hr : d.Reaches n) (hh : d.heldNow = false) (hcl : d.classRefused ⟨r, i⟩ = false) (hx : x < 2 ^ (8 * sz)) (hrange : numInRange ⟨r, i⟩ x = true)
    (happ : (d.applyWrite ⟨r, i⟩ (.num x) n).1 = 0)
    (happ2 : ((d.journalWriteOf n ⟨r, i⟩ (le sz x)).applyWrite ⟨r, i⟩ (.num x) n).1 = 0) :
    d.command n r i x = ((d.journalWriteOf n ⟨r, i⟩ (le sz x)).applyWrite ⟨r, i⟩ (.num x) n).2.finish n := by
  simp only [plain, Bool.and_eq_true, decide_eq_true_eq, Bool.not_eq_true'] at hp
  obtain ⟨⟨⟨⟨⟨hloc, hidx⟩, hw⟩, hrws⟩, hty⟩, hreg⟩ := hp
  have hsz : sz ≤ 4 ∧ r.row.ty ≠ .u48 ∧ r.row.ty ≠ .u64 ∧ r.row.ty ≠ .s16 := by
    generalize r.row.ty = ty at hs hty
    cases ty <;> simp only [ObjType.size, Option.some.injEq, reduceCtorEq] at hs <;> subst hs <;> simp_all
  simp only [List.contains_cons, List.contains_nil, Bool.or_eq_false_iff, beq_eq_false_iff_ne, Bool.or_false] at hreg
  obtain ⟨h1, h2, h3, h4, h5, h6, h7, h8⟩ := hreg
  have hpast : ∀ len, d.pastTable ⟨r, i⟩ len = false := by
    intro len; unfold pastTable; split <;> simp_all
  have hhall : ∀ v, d.hallFixed ⟨r, i⟩ v = false := by
    intro v; simp [hallFixed, h4, h5, h6]
  have hdec : decodeVal r.row.ty (le sz x) = .num x := by simp [decodeVal, hs, ofLE_le, Nat.mod_eq_of_lt hx]
  have hlen : lengthOk r sz = true := by
    unfold lengthOk
    rw [hs]
    exact beq_self_eq_true sz
  refine command_applied hr ?_ hs hsz.2 hsz.1 hx ⟨h1, h2, h3⟩ ?_ (by simp [underHold, hh]) ?_ happ happ2
  · simp [findObj, hloc, hpres, hidx]
  · simp [formRefused, hcl, hlen, hdec, inRange, hrange, hpast, hhall]
  · simp [formingRefused, hrws]

/-- The entry of a write changes the journal alone: it takes the next JSEQ and draws one from the budget (R374, R375). -/
theorem journalWriteOf_eq (d : Device) (n : Nat) (k : Key) (b : Octets) :
    ∃ j, d.journalWriteOf n k b = { d with jrn := j } ∧ j.head = (d.jrn.head + 1) % 2 ^ 32 ∧ j.kept = d.jrn.kept ∧
      j.buf.length = d.jrn.buf.length + 1 ∧ j.budget = d.jrn.budget - 1 := by
  unfold journalWriteOf
  split <;> exact ⟨_, rfl, rfl, rfl, by simp, rfl⟩

/-- The end of a write changes the session and what is sent, where no reset is due. -/
theorem finish_eq {d : Device} (n : Nat) (h : d.resetDue = false) :
    ∃ x, d.finish n = { d with sess := x, outs := d.outs ++ [.result 0] } := by
  unfold finish closeOwn
  by_cases hn : n = 0
  · simp only [hn, if_true]
    exact ⟨d.sess, by rw [commandReset_none (by simpa using h)]; rfl⟩
  · simp only [hn, if_false]
    split
    · exact ⟨(d.closeSession n).sess, by rw [commandReset_none (by simpa [closeSession] using h)]; rfl⟩
    · exact ⟨d.sess, by rw [commandReset_none (by simpa using h)]; rfl⟩

end Device

end Sys2Proof.Machine
end

