-- ==== Sys2Proof/Laws/Memory.lean ====
section
/-!
SUPPORT. What the operations on the stack's bytes do: reading after writing, and the canonical form that every one of them keeps.
-/
namespace Sys2Proof.Machine

theorem Memory.read_cons (b : Nat) (v : BitVec 8) (t : List Host.Cell) (a : Nat) : Memory.read ((b, v) :: t) a = if b = a then v else Memory.read t a := rfl

theorem Memory.read_filter (p : Nat → Bool) (m : List Host.Cell) (a : Nat) :
    Memory.read (m.filter (fun c => p c.1)) a = if p a then Memory.read m a else unwrittenByte := by
  induction m with
  | nil => simp [Memory.read]
  | cons c t ih =>
    obtain ⟨b, v⟩ := c
    by_cases hb : b = a
    · subst hb
      cases hp : p b <;> simp [List.filter, hp, Memory.read_cons, ih]
    · cases hp : p b <;> simp [List.filter, hp, Memory.read_cons, hb, ih]

theorem Memory.read_ins (m : List Host.Cell) (a : Nat) (v : BitVec 8) (x : Nat) : Memory.read (Memory.ins m a v) x = if a = x then v else Memory.read m x := by
  induction m with
  | nil => simp [Memory.ins, Memory.read]
  | cons c t ih =>
    obtain ⟨b, w⟩ := c
    unfold Memory.ins
    split
    · rename_i h; subst h
      by_cases hx : b = x <;> simp [Memory.read_cons, hx]
    · rename_i h
      split
      · by_cases hx : a = x <;> simp [Memory.read_cons, hx]
      · by_cases hx : b = x
        · subst hx
          simp [Memory.read_cons, Ne.symm h]
        · simp [Memory.read_cons, hx, ih]

/-- A byte written reads back, and every other byte reads as before. -/
theorem Memory.read_write (m : List Host.Cell) (a : Nat) (v : BitVec 8) (x : Nat) : Memory.read (Memory.write m a v) x = if a = x then v else Memory.read m x := by
  unfold Memory.write
  split
  · rename_i h; subst h
    have := Memory.read_filter (fun c => decide (c ≠ a)) m x
    simp only [Memory.drop]
    rw [this]
    by_cases hx : a = x
    · simp [hx]
    · simp [hx, Ne.symm hx]
  · exact Memory.read_ins m a v x

/-- A byte outside those written reads as before. -/
theorem Memory.read_writes_ne (m : List Host.Cell) (a : Nat) (bs : Octets) (x : Nat) (h : x < a ∨ a + bs.length ≤ x) :
    Memory.read (Memory.writes m a bs) x = Memory.read m x := by
  induction bs generalizing m a with
  | nil => rfl
  | cons b t ih =>
    simp only [List.length_cons] at h
    rw [Memory.writes, ih _ _ (by omega), Memory.read_write, if_neg (by omega)]

/-- A byte among those written reads as written. -/
theorem Memory.read_writes (m : List Host.Cell) (a : Nat) (bs : Octets) (i : Nat) (h : i < bs.length) :
    Memory.read (Memory.writes m a bs) (a + i) = BitVec.ofNat 8 (bs.getD i 0) := by
  induction bs generalizing m a i with
  | nil => simp at h
  | cons b t ih =>
    rw [Memory.writes]
    cases i with
    | zero => rw [Memory.read_writes_ne _ _ _ _ (by omega), Memory.read_write]; simp
    | succ j =>
      simp only [List.length_cons] at h
      have := ih (Memory.write m a (BitVec.ofNat 8 b)) (a + 1) j (by omega)
      rw [show a + (j + 1) = a + 1 + j by omega, this]
      simp

/-! ## The canonical form -/

theorem Memory.rising_cons {c : Host.Cell} {t : List Host.Cell} :
    Memory.rising (c :: t) = true ↔ (∀ x ∈ t, c.1 < x.1) ∧ Memory.rising t = true := by
  induction t generalizing c with
  | nil => simp [Memory.rising]
  | cons b t ih =>
    simp only [Memory.rising, Bool.and_eq_true, decide_eq_true_eq]
    constructor
    · rintro ⟨h, h2⟩
      refine ⟨fun x hx => ?_, h2⟩
      rcases List.mem_cons.mp hx with rfl | hx
      · exact h
      · exact Nat.lt_trans h ((ih.mp h2).1 x hx)
    · rintro ⟨h, h2⟩
      exact ⟨h b List.mem_cons_self, h2⟩

theorem Memory.rising_filter (p : Host.Cell → Bool) {m : List Host.Cell} (h : Memory.rising m = true) : Memory.rising (m.filter p) = true := by
  induction m with
  | nil => rfl
  | cons c t ih =>
    rw [Memory.rising_cons] at h
    simp only [List.filter]
    split
    · rw [Memory.rising_cons]
      exact ⟨fun x hx => h.1 x (List.mem_filter.mp hx).1, ih h.2⟩
    · exact ih h.2

theorem Memory.mem_ins {m : List Host.Cell} {a : Nat} {v : BitVec 8} {x : Host.Cell} (h : x ∈ Memory.ins m a v) : x = (a, v) ∨ x ∈ m := by
  induction m with
  | nil => left; simpa [Memory.ins] using h
  | cons c t ih =>
    obtain ⟨b, w⟩ := c
    unfold Memory.ins at h
    split at h
    · rcases List.mem_cons.mp h with h | h
      · exact Or.inl h
      · exact Or.inr (List.mem_cons_of_mem _ h)
    · split at h
      · rcases List.mem_cons.mp h with h | h
        · exact Or.inl h
        · exact Or.inr h
      · rcases List.mem_cons.mp h with h | h
        · exact Or.inr (h ▸ List.mem_cons_self)
        · rcases ih h with h | h
          · exact Or.inl h
          · exact Or.inr (List.mem_cons_of_mem _ h)

theorem Memory.rising_ins {m : List Host.Cell} (a : Nat) (v : BitVec 8) (h : Memory.rising m = true) : Memory.rising (Memory.ins m a v) = true := by
  induction m with
  | nil => rfl
  | cons c t ih =>
    obtain ⟨b, w⟩ := c
    have hc := Memory.rising_cons.mp h
    unfold Memory.ins
    split
    · rename_i hb; subst hb
      exact Memory.rising_cons.mpr ⟨fun x hx => hc.1 x hx, hc.2⟩
    · rename_i hb
      split
      · rename_i hlt
        refine Memory.rising_cons.mpr ⟨fun x hx => ?_, h⟩
        rcases List.mem_cons.mp hx with rfl | hx
        · exact hlt
        · exact Nat.lt_trans hlt (hc.1 x hx)
      · rename_i hlt
        refine Memory.rising_cons.mpr ⟨fun x hx => ?_, ih hc.2⟩
        rcases Memory.mem_ins hx with rfl | hx
        · simp only at hlt ⊢; omega
        · exact hc.1 x hx

theorem Memory.wf_filter (p : Host.Cell → Bool) {m : List Host.Cell} (h : Memory.wf m = true) : Memory.wf (m.filter p) = true := by
  simp only [Memory.wf, Bool.and_eq_true, List.all_eq_true] at h ⊢
  exact ⟨Memory.rising_filter p h.1, fun c hc => h.2 c (List.mem_filter.mp hc).1⟩

theorem Memory.wf_drop (a : Nat) {m : List Host.Cell} (h : Memory.wf m = true) : Memory.wf (Memory.drop m a) = true := Memory.wf_filter _ h

/-- Writing a byte keeps the canonical form. -/
theorem Memory.wf_write (a : Nat) (v : BitVec 8) {m : List Host.Cell} (h : Memory.wf m = true) : Memory.wf (Memory.write m a v) = true := by
  unfold Memory.write
  split
  · exact Memory.wf_drop a h
  · rename_i hv
    simp only [Memory.wf, Bool.and_eq_true, List.all_eq_true] at h ⊢
    refine ⟨Memory.rising_ins a v h.1, fun c hc => ?_⟩
    rcases Memory.mem_ins hc with rfl | hc
    · simpa using hv
    · exact h.2 c hc

/-- Writing bytes keeps the canonical form. -/
theorem Memory.wf_writes (a : Nat) (bs : Octets) {m : List Host.Cell} (h : Memory.wf m = true) : Memory.wf (Memory.writes m a bs) = true := by
  induction bs generalizing m a with
  | nil => exact h
  | cons b t ih => exact ih (a + 1) (Memory.wf_write a _ h)

end Sys2Proof.Machine
end

