-- ==== Sys2Proof/Laws/Codec.lean ====
section
/-!
SUPPORT. The codec's stored mode: a stored block of 4,096 samples of kind 0 decodes to them.
-/
namespace Sys2Proof.Machine

theorem crcStepR_lt (c : Nat) (h : c < 2 ^ 32) : crcStepR 0x82F63B78 c < 2 ^ 32 := by
  have hs : c >>> 1 < 2 ^ 32 := by rw [Nat.shiftRight_eq_div_pow]; omega
  unfold crcStepR
  split
  · exact Nat.xor_lt_two_pow hs (by decide)
  · exact hs

theorem crcStepsR_lt (k c : Nat) (h : c < 2 ^ 32) : crcStepsR 0x82F63B78 k c < 2 ^ 32 := by
  induction k generalizing c with
  | zero => exact h
  | succ k ih => exact ih _ (crcStepR_lt c h)

theorem crcRegR_lt (bs : Octets) (c : Nat) (h : c < 2 ^ 32) : crcRegR 0x82F63B78 c bs < 2 ^ 32 := by
  induction bs generalizing c with
  | nil => exact h
  | cons b t ih => exact ih _ (crcStepsR_lt 8 _ (Nat.xor_lt_two_pow h (by omega)))

/-- A CRC-32C is a number of 32 bits. -/
theorem crc32c_lt (bs : Octets) : crc32c bs < 2 ^ 32 := Nat.xor_lt_two_pow (crcRegR_lt bs _ (by decide)) (by decide)

theorem chunks_flatMap_le (k : Nat) (xs : List Nat) : (chunks k xs.length (xs.flatMap (le k))).map ofLE = xs.map (· % 2 ^ (8 * k)) := by
  induction xs with
  | nil => rfl
  | cons x t ih =>
    rw [List.length_cons, chunks, List.flatMap_cons]
    rw [show List.take k (le k x ++ t.flatMap (le k)) = le k x from List.take_left' (length_le k x),
      show List.drop k (le k x ++ t.flatMap (le k)) = t.flatMap (le k) from List.drop_left' (length_le k x)]
    simp only [List.map_cons, ih, ofLE_le]

theorem length_flatMap_le (k : Nat) (xs : List Nat) : (xs.flatMap (le k)).length = k * xs.length := by
  induction xs with
  | nil => simp
  | cons x t ih => rw [List.flatMap_cons, List.length_append, length_le, ih, List.length_cons, Nat.mul_succ, Nat.add_comm]

/-- A number read back from where it was laid out. -/
theorem leAt_append (a b : Octets) (k n : Nat) : leAt (a ++ (le k n ++ b)) a.length k = n % 2 ^ (8 * k) := by
  rw [leAt, slice, List.drop_left, show List.take k (le k n ++ b) = le k n from List.take_left' (length_le k n), length_le, Nat.sub_self,
    List.replicate_zero, List.append_nil, ofLE_le]

theorem le_lt (k n : Nat) : ∀ x ∈ le k n, x < 256 := by
  induction k generalizing n with
  | zero => simp [le]
  | succ k ih =>
    intro x hx
    rcases List.mem_cons.mp hx with rfl | hx
    · exact Nat.mod_lt _ (by decide)
    · exact ih _ x hx

/-- The octets of a stored block of kind 0 are octets. -/
theorem storedBlock_lt (effort : Nat) (he : effort < 8) (xs : List Nat) : ∀ x ∈ storedBlock effort 0 xs, x < 256 := by
  intro x hx
  simp only [storedBlock, blockHeader, storedPayload, if_true, List.mem_append, List.mem_cons, List.not_mem_nil, or_false, List.mem_flatMap] at hx
  rcases hx with (((rfl | rfl) | hx) | hx) | ⟨y, _, hx⟩
  · omega
  · omega
  · exact le_lt _ _ x hx
  · exact le_lt _ _ x hx
  · exact le_lt _ _ x hx

/-- Bytes of the stack read back as they were written. -/
theorem dramPeek_writes {m : List Host.Cell} (d : Device) (a : Nat) (bs : Octets) (hb : ∀ x ∈ bs, x < 256) (h : d.dram = Memory.writes m a bs) : d.dramPeek a bs.length = bs := by
  apply List.ext_getElem
  · simp [Device.dramPeek]
  · intro i h1 h2
    simp only [Device.dramPeek, List.getElem_map, List.getElem_range, h, Memory.read_writes m a bs i h2]
    rw [BitVec.toNat_ofNat, List.getD_eq_getElem _ _ h2]
    exact Nat.mod_eq_of_lt (hb _ (List.getElem_mem h2))

/-- R321, R322: a block in stored mode of 4,096 samples of kind 0 decodes to them where its CRC field has their CRC, and is bad where it has another. -/
theorem decodeBlock_stored (effort : Nat) (he : effort < 8) (crc : Nat) (xs : List Nat) (hl : xs.length = blockSamples) (hx : ∀ x ∈ xs, x < 2 ^ 24) :
    decodeBlock ([effort * 8, 0] ++ (le 2 12296 ++ (le 4 crc ++ xs.flatMap (le 3)))) = if samplesCrc 0 xs = crc % 2 ^ 32 then .ok 0 xs else .badCrc := by
  have hpl : (xs.flatMap (le 3)).length = 12288 := by rw [length_flatMap_le, hl, blockSamples]
  generalize hb : [effort * 8, 0] ++ (le 2 12296 ++ (le 4 crc ++ xs.flatMap (le 3))) = b
  have hlen : b.length = 12296 := by rw [← hb]; simp only [List.length_append, List.length_cons, List.length_nil, length_le, hpl]
  have h0 : octet b 0 = effort * 8 := by rw [← hb]; rfl
  have h1 : octet b 1 = 0 := by rw [← hb]; rfl
  have h2 : blockLength b = 12296 := by rw [blockLength, ← hb]; exact leAt_append [effort * 8, 0] _ 2 12296
  have h4 : blockCrc b = crc % 2 ^ 32 := by
    rw [blockCrc, ← hb, ← List.append_assoc]
    exact leAt_append ([effort * 8, 0] ++ le 2 12296) _ 4 _
  have hd : b.drop 8 = xs.flatMap (le 3) := by
    rw [← hb, ← List.append_assoc, ← List.append_assoc]
    exact List.drop_left' (by simp [length_le])
  have hs : storedDecode 0 (xs.flatMap (le 3)) = xs := by
    rw [storedDecode, if_pos rfl, ← hl, chunks_flatMap_le]
    exact (List.map_congr_left fun x h => Nat.mod_eq_of_lt (hx x h)).trans (List.map_id' xs)
  unfold decodeBlock
  have e1 : effort * 8 % 8 = 0 := by omega
  have e2 : effort * 8 / 64 = 0 := by omega
  simp only [h0, h1, h2, h4, hd, hlen, e1, e2, hpl, hs]
  simp [storedSize]

/-- R321, R322: a stored block of kind 0 decodes to its 4,096 samples. -/
theorem decodeBlock_storedBlock (effort : Nat) (he : effort < 8) (xs : List Nat) (hl : xs.length = blockSamples) (hx : ∀ x ∈ xs, x < 2 ^ 24) :
    decodeBlock (storedBlock effort 0 xs) = .ok 0 xs := by
  have hb : storedBlock effort 0 xs = [effort * 8, 0] ++ (le 2 12296 ++ (le 4 (samplesCrc 0 xs) ++ xs.flatMap (le 3))) := by
    have hp : storedPayload 0 xs = xs.flatMap (le 3) := rfl
    have hpl : (xs.flatMap (le 3)).length = 12288 := by rw [length_flatMap_le, hl, blockSamples]
    simp [storedBlock, blockHeader, hp, hpl]
  rw [hb, decodeBlock_stored effort he _ xs hl hx, if_pos (Nat.mod_eq_of_lt (show samplesCrc 0 xs < 2 ^ 32 from crc32c_lt _)).symm]

end Sys2Proof.Machine
end

