-- ==== Sys2Proof/Laws/Hash.lean ====
section
/-!
SUPPORT. Where the constants of SHA-256 come from: each is the first 32 bits of the fraction of a root of a prime.
-/
namespace Sys2Proof.Machine

/-- The primes below 312, the 64 that SHA-256 takes its constants from. -/
def shaPrimes : List Nat := (List.range 312).filter (fun n => 2 ≤ n && (List.range n).all (fun k => k < 2 || n % k != 0))

/-- `c` is the first 32 bits of the fraction of the `k`-th root of `p`, whose whole part is below 7. -/
def isRootFraction (k p c : Nat) : Bool :=
  (List.range 7).any (fun whole => (whole * 2 ^ 32 + c) ^ k ≤ p * 2 ^ (32 * k) && p * 2 ^ (32 * k) < (whole * 2 ^ 32 + c + 1) ^ k)

theorem shaConstants_cubes : shaPrimes.length = 64 ∧ shaConstants.length = 64 ∧ (shaPrimes.zip shaConstants).all (fun e => isRootFraction 3 e.1 e.2) = true := by
  decide +kernel

theorem shaStart_squares : shaStart.length = 8 ∧ (shaPrimes.zip shaStart).all (fun e => isRootFraction 2 e.1 e.2) = true := by
  decide +kernel

end Sys2Proof.Machine
end

