-- ==== Sys2Proof/Laws/Table.lean ====
section
/-!
SUPPORT. What a change of one entry of a table does: that entry is the function of what it was, and every other is what it was.
-/
namespace Sys2Proof.Machine

theorem getD_modTab_same {α : Type} (n : Nat) (z : α) (l : List α) (i : Nat) (f : α → α) (h : i < n) : (modTab n z l i f).getD i z = f (l.getD i z) := by
  induction n generalizing l i with
  | zero => omega
  | succ n ih =>
    cases l <;> cases i
    · rfl
    · rename_i i
      have hi : i < n := by omega
      simpa [modTab, hi] using ih [] i hi
    · rfl
    · rename_i x xs i
      simpa [modTab] using ih xs i (by omega)

theorem getD_modTab_ne {α : Type} (n : Nat) (z : α) (l : List α) {i j : Nat} (f : α → α) (h : j ≠ i) : (modTab n z l i f).getD j z = l.getD j z := by
  induction n generalizing l i j with
  | zero => cases l <;> rfl
  | succ n ih =>
    cases l <;> cases i
    · cases j
      · omega
      · rfl
    · rename_i i
      by_cases hi : i < n
      · cases j
        · simp [modTab, hi]
        · simpa [modTab, hi] using ih [] (i := i) (by omega)
      · simp [modTab, hi]
    · cases j
      · omega
      · rfl
    · rename_i x xs i
      cases j
      · rfl
      · simpa [modTab] using ih xs (i := i) (by omega)

end Sys2Proof.Machine
end

