-- ==== Sys2Proof/Machine/Pins.lean ====
section
/-!
DEFINITION. What the device's output pins show (R142, R147, R394, R412, R440, R454, R484), as functions of the state, and the identity the TAP reads.
-/
namespace Sys2Proof.Machine

/-- The level of an output pin: not driven, low, high, or a clock of a source code divided. -/
inductive PinLevel where
  | highZ
  | low
  | high
  | clock (source divisor : Nat)
deriving DecidableEq, Repr

/-- A driven level. -/
def PinLevel.ofBool (b : Bool) : PinLevel := if b then .high else .low

/-- IDCODE of the TAP (R484). -/
def Identity.idcode (id : Identity) : Nat := if id.part = .vlx1208c then 0x11208A3F else 0x12416A3F

namespace Device

/-- PORST_N or SYSRST_N is low, or bring-up has not reached step 4 (R484). -/
def pinsEarly (d : Device) : Bool := d.bring = .held || d.bring = .boot || d.bring = .refs

/-- A pulse of TT_OUTn is in progress: a time-triggered one (R394) or a reject pulse (R276). -/
def ttActive (d : Device) (n : Nat) : Bool :=
  (d.ttOf n).activeUntil.isSome || d.rdl.pulses.any (fun p => p.out = n && p.ends.isSome)

/-- TT_OUTn (R394, R484). -/
def ttPin (d : Device) (n : Nat) : PinLevel := if d.pinsEarly then .highZ else .ofBool (d.ttLevel n (d.ttActive n))

/-- A, B and Z of emulation output `e` (R142, R147, R484): in quadrature form the phase shows, forward 00, 10, 11, 01; in pulse form A is high during a pulse and B
after a reverse count. -/
def emuPins (d : Device) (e : Nat) : PinLevel × PinLevel × PinLevel :=
  let x := d.emu e
  if d.pinsEarly then (.highZ, .highZ, .highZ)
  else if d.num .POS_EMU_FORM e = 0 then
    (.ofBool (x.phase == 1 || x.phase == 2), .ofBool (x.phase == 2 || x.phase == 3), .ofBool (x.zLeft != 0))
  else (.ofBool (decide (d.now < x.pulseEnd)), .ofBool x.reverse, .ofBool (x.zLeft != 0 && decide (d.now < x.pulseEnd)))

/-- CLKOUT (R440, R484): low while it is off, while its reference has failed, and from the core in DEEP_SLEEP. -/
def clkoutPin (d : Device) : PinLevel :=
  if d.pinsEarly || d.clkOut = 0 then .low
  else if 1 ≤ d.clkOut && d.clkOut ≤ 3 && (d.refOf (d.clkOut - 1)).failed then .low
  else if d.clkOut = 6 && d.num .PWR_STATE 0 = 2 then .low
  else .clock d.clkOut (d.num .CLK_OUT_DIV 0)

/-- FAULT_N, open drain (R454). -/
def faultPin (d : Device) : PinLevel := if d.faultN then .low else .highZ

/-- FOLD_SYNC, open drain (R412). -/
def syncPin (d : Device) : PinLevel := if d.pinsEarly || d.holdsSync then .low else .highZ

end Device

end Sys2Proof.Machine
end

