-- ==== Sys2Proof/Machine/Electrical.lean ====
section
/-!
DEFINITION. The electrical characteristics and the package as data and functions (R476 to R483, R485, R487 to R490): ratings and operating conditions, the order in which
supplies rise, power and temperature, the levels of inputs, the reference clocks, and the balls. Rails are numbered as SUPPLY_RAIL_FAULT numbers them: 0 VDD_CORE,
1 VDD_SD, 2 VDDH_SD, 3 VDDQ_M, 4 VPP_M, 5 VDD_IO, 6 VDD_IO33. No command's effect reads them (log entry 48).
-/
namespace Sys2Proof.Machine

/-! ## Ratings and operating conditions (R476, R477) -/

/-- Absolute maximum ratings of a rail, mV (R476). -/
def ratingMv (rail : Nat) : Int × Int :=
  match rail with
  | 0 => (-300, 950)
  | 1 => (-300, 1050)
  | 2 | 3 => (-300, 1400)
  | 4 | 5 => (-300, 2200)
  | _ => (-300, 3960)

/-- Operating range of a rail, mV (R477); that of VDD_CORE is set by the point in force. -/
def operatingMv (point rail : Nat) : Int × Int :=
  match rail with
  | 0 => ((pointMv point : Int) - 25, (pointMv point : Int) + 25)
  | 1 => (873, 927)
  | 2 => (1140, 1260)
  | 3 => (1067, 1133)
  | 4 | 5 => (1710, 1890)
  | _ => (3135, 3465)

/-- Typical and maximum current of a rail at full load, mA (R477). -/
def railMa (rail : Nat) : Nat × Nat :=
  match rail with
  | 0 => (28000, 36000)
  | 1 => (6000, 7000)
  | 2 => (1500, 1800)
  | 3 => (6500, 12000)
  | 4 => (500, 800)
  | 5 => (1200, 1500)
  | _ => (58, 100)

/-- A rail is out of range as its monitor judges it (R477): beyond the range by more than 5 mV. -/
def railOut (point rail : Nat) (mv : Int) : Bool :=
  decide (mv + 5 < (operatingMv point rail).1) || decide ((operatingMv point rail).2 + 5 < mv)

/-- Junction and stack temperatures of a part in operation, °C (R477). -/
def Part.junctionRange (p : Part) : Int × Int := if p = .vlx2416e then (-40, 105) else (0, 100)
/-- As `Part.junctionRange`, of the stack. -/
def Part.stackRange (p : Part) : Int × Int := if p = .vlx2416e then (-40, 95) else (0, 95)

/-- All conditions of R477 hold: every rail, the junction and the stack. Outside them the behaviour is undefined until a power-on reset (R476). -/
def operates (p : Part) (point : Nat) (mv : Nat → Int) (tj stack : Int) : Bool :=
  (List.range 7).all (fun r => decide ((operatingMv point r).1 ≤ mv r) && decide (mv r ≤ (operatingMv point r).2)) &&
    decide (p.junctionRange.1 ≤ tj) && decide (tj ≤ p.junctionRange.2) && decide (p.stackRange.1 ≤ stack) && decide (stack ≤ p.stackRange.2)

/-! ## Power-up (R478) -/

/-- How a rail rises: when it passes 0.3 V, when it reaches its minimum, and its ramp from 10 % to 90 %, µs. -/
structure RailRise where
  start : Nat
  inRange : Nat
  ramp : Nat
deriving DecidableEq, Repr

/-- The rails of group 1; the others are group 2. -/
def railGroup1 : List Nat := [6, 5, 4, 2]

/-- The supplies rise in the order of R478: none of group 2 starts before all of group 1 are in range. -/
def risesInOrder (r : Nat → RailRise) : Bool :=
  [0, 1, 3].all (fun b => railGroup1.all (fun a => (r a).inRange ≤ (r b).start)) &&
    (List.range 7).all (fun k => 100 ≤ (r k).ramp && (r k).ramp ≤ 20000)

/-- PORST_N may be released at a time (R478): 1 ms after the last rail is in range and the last reference has run for its 16,384 cycles. -/
def porstMayRise (r : Nat → RailRise) (refs : List Nat) (t : Nat) : Bool :=
  (List.range 7).all (fun k => (r k).inRange + 1000 ≤ t) && refs.all (fun x => x + 1000 ≤ t)

/-! ## Power and temperature (R479, R480), mW and m°C -/

/-- Core: static, and 0.20 W for each Gsample/s of ingest carried through the compare; `ingest` in ksample/s. -/
def corePower (ingest : Nat) : Nat := 6400 + ingest / 5000

/-- One Rinar lane: in SERVICE at rung 2, at rung 1, or asleep or OFF. Rung 2H counts as rung 2, and every other awake lane as rung 1 (log entry 48). -/
def lanePower (high awake : Bool) : Nat := if !awake then 10 else if high then 160 else 60

/-- The stack with refresh, and its traffic in GB/s. -/
def stackPower (gbs : Nat) : Nat := 5600 + gbs * 25 / 2

/-- The typical power of a device in a run state at P0, by the four parts that make it up: core, serial interfaces, stack, and I/O. -/
def Device.power (d : Device) : Nat × Nat × Nat × Nat :=
  let lanes := (List.range 36).map (fun l => lanePower (decide (d.lstate l = LS.service) && decide (2 ≤ d.num .LNK_RUNG l)) (decide (d.lstate l ≠ LS.off) && d.num .LNK_SLEEP_STATE l = 0))
  let eth := if d.ethUp then 700 else 0
  let pcie := if d.num .PCI_LINK_SPEED 0 = 0 then 0 else 740
  (corePower (d.ingestMilli / 1000000), lanes.foldl (· + ·) (eth + pcie), stackPower (d.num .DEV_DRAM_DEMAND 0), 2350)

/-- Junction temperature from the lid's and the total power (R480: 0.10 °C/W). -/
def junctionTemp (lid : Int) (total : Nat) : Int := lid + (total : Int) / 10

/-- Stack temperature from the lid's and the stack's power (R480: 1.2 °C/W). -/
def stackTempOf (lid : Int) (stack : Nat) : Int := lid + (stack : Int) * 6 / 5

/-! ## Inputs (R481, R482) -/

/-- The level of a Schmitt or plain input in mV (R481), from its supply and its level before; between the thresholds it keeps that level. The groups are 0 LVCMOS18,
1 LVCMOS33, 2 two-wire. -/
def inputLevel (group supply mv : Nat) (was : Bool) : Bool :=
  let (lo, hi) := match group with
    | 0 => (supply * 35 / 100, supply * 65 / 100)
    | 1 => (800, 2000)
    | _ => (supply * 30 / 100, supply * 70 / 100)
  if mv ≤ lo then false else if hi ≤ mv then true else was

/-- The level of an ENC input from its differential voltage in mV (R482): ±200 mV; between them it keeps its level. -/
def encLevel (diff : Int) (was : Bool) : Bool := if 200 ≤ diff then true else if diff ≤ -200 then false else was

/-! ## Reference clocks (R485) -/

/-- Nominal frequency of a reference in Hz and its tolerance in ppm. -/
def refNominal (k : Nat) : Nat × Nat := match k with | 0 => (100000000, 100) | 1 => (156250000, 100) | _ => (125000000, 50)

/-- A frequency is within the tolerance of its reference. -/
def refInTolerance (k hz : Nat) : Bool :=
  let (f, ppm) := refNominal k
  f * (1000000 - ppm) ≤ hz * 1000000 && hz * 1000000 ≤ f * (1000000 + ppm)

/-! ## The package (R487 to R490) -/

/-- Body edge, lid edge, seated height, pitch, ball diameter, stand-off and coplanarity, µm (R487). -/
def packageUm : List Nat := [55000, 50000, 4100, 1000, 600, 400, 200]

/-- The letters of a row, 1 to 51 (R488). -/
def rowLetters (r : Nat) : String :=
  let letters : List String := ["A", "B", "C", "D", "E", "F", "G", "H", "J", "K", "L", "M", "N", "P", "T", "U", "V", "W", "Y"]
  if r ≤ 19 then letters.getD (r - 1) ""
  else if r ≤ 38 then "A" ++ letters.getD (r - 20) ""
  else "B" ++ letters.getD (r - 39) ""

/-- The signals of the package. -/
inductive Signal where
  | laneRx (n : Nat) (leg : Bool)
  | laneTx (n : Nat) (leg : Bool)
  | ethRx (p : Nat) (leg : Bool)
  | ethTx (p : Nat) (leg : Bool)
  | pcieTx (k : Nat) (leg : Bool)
  | pcieRx (k : Nat) (leg : Bool)
  /-- XSPI_DQ[0 to 7], then CLK, CS_N, DQS, RST_N. -/
  | xspi (k : Nat)
  /-- PORST_N, SYSRST_N, FAULT_N, FOLD_SYNC, FOLD_ID[0 to 2], TWI_SCL, TWI_SDA, CLKOUT. -/
  | control (k : Nat)
  /-- TCK, TMS, TDI, TDO, TRST_N. -/
  | tap (k : Nat)
  /-- REFCLK_SYS and REFCLK_SD, both legs, and REFCLK_TIME. -/
  | ref (k : Nat)
  | emu (e k : Nat) (leg : Bool)
  | enc (s k : Nat) (leg : Bool)
  /-- HALL_U, HALL_V, HALL_W, DEC_SYNC, PCIE_PERST_N. -/
  | input (k : Nat)
  | ttOut (n : Nat)
  | tcIn (n : Nat)
deriving DecidableEq, Repr

/-- Row and column of a signal's ball (R489); `leg` is true for N. -/
def Signal.ball : Signal → Nat × Nat
  | .laneRx n leg =>
    if n < 16 then (3 * n + 3, 2 + b2n leg) else if n < 32 then (3 * (n - 16) + 3, 50 - b2n leg) else (2, 10 + 4 * (n - 32) + b2n leg)
  | .laneTx n leg =>
    if n < 16 then (3 * n + 4, 5 + b2n leg) else if n < 32 then (3 * (n - 16) + 4, 47 - b2n leg) else (5, 10 + 4 * (n - 32) + b2n leg)
  | .ethRx p leg => (2, 28 + 4 * p + b2n leg)
  | .ethTx p leg => (5, 28 + 4 * p + b2n leg)
  | .pcieTx k leg => (47, 10 + 4 * k + b2n leg)
  | .pcieRx k leg => (50, 10 + 4 * k + b2n leg)
  | .xspi k => (8, 10 + 2 * k)
  | .control k => (10, 10 + 2 * k)
  | .tap k => (12, 10 + 2 * k)
  | .ref k => (12, [26, 27, 30, 31, 34].getD k 0)
  | .emu e k leg => (38, 10 + 6 * e + 2 * k + b2n leg)
  | .enc s k leg => (40, 10 + 6 * s + 2 * k + b2n leg)
  | .input k => (40, 26 + 2 * k)
  | .ttOut n => (42, 10 + 2 * n)
  | .tcIn n => (44, 10 + 2 * n)

/-- The name of a ball (R488). -/
def ballName (b : Nat × Nat) : String := rowLetters b.1 ++ toString b.2

/-- The supply net of a ball that carries no signal (R490): a rail, or none for VSS. -/
def supplyBall (r c : Nat) : Option Nat :=
  let within (x lo hi : Nat) : Bool := lo ≤ x && x ≤ hi
  let even (x : Nat) : Bool := x % 2 == 0
  let sides := c == 8 || c == 44
  if within r 15 36 && within c 9 30 && even (r + c) then some 0
  else if within r 15 36 && within c 31 43 && even (r + c) then some 3
  else if r == 13 && within c 28 43 then some 4
  else if (sides && even r && within r 4 50) || (r == 3 && within c 10 33) || (r == 49 && within c 10 39) then some 1
  else if (sides && !even r && within r 3 49) || (r == 6 && within c 10 33) || (r == 46 && within c 10 39) then some 2
  else if (r == 7 || r == 9) && even c && within c 10 32 then some 5
  else if r == 39 && even c && within c 10 40 then some 6
  else none

end Sys2Proof.Machine
end

