-- ==== Sys2Proof/Machine/Figures.lean ====
section
/-!
DEFINITION. The limits, rates and latency bounds of the manual as functions (R9 to R11, R13, R55, R197). Times are in ns. No command's effect reads them: time inside and between
commands is left out (log entry 7).
-/
namespace Sys2Proof.Machine

/-! ## Limits at P0 (R9) -/

/-- Sustained camera ingest of a device and of a channel, samples per second. -/
def ingestLimit : Nat × Nat := (80000000000, 40000000000)

/-- Pixels of a line, and lines per second of a camera. -/
def cameraLimit : Nat × Nat := (32768, 250000)

/-- Samples of a reference. -/
def referenceLimit : Nat := 12000000000

/-- The device carries what its channels bring (R9). -/
def Device.withinIngest (d : Device) : Bool := d.ingestMilli ≤ ingestLimit.1 * 1000

/-! ## Lane rates (R55) -/

/-- Symbols per second of a rung, as REFCLK_SD in Hz makes them: 8, 40, 170 and 85 times it. -/
def laneBaud (ref rung : Nat) : Nat := ref * [8, 40, 170, 85].getD rung 0

/-- A far end's reference lets the lane leave discovery: within 100 ppm of nominal. -/
def farRefOk (hz : Nat) : Bool := refInTolerance 1 hz

/-! ## Latency of a line (R10, R11) -/

/-- What the latency of a line depends on: camera line period, output line period, phase delay, whether the resampler has minimum phase, and the core's frequency in MHz. -/
structure LineTimes where
  cam : Nat
  out : Nat
  phase : Nat
  minPhase : Bool
  mhz : Nat
deriving DecidableEq, Repr

/-- A fixed part at P0, scaled to the core's frequency. -/
def LineTimes.fixed (t : LineTimes) (ns : Nat) : Nat := ceilDiv (ns * 1250) t.mhz

/-- N_rs (R11). -/
def LineTimes.window (t : LineTimes) : Nat := if t.minPhase then 2 else 8

/-- The bound of stage 1 to 10 (R10). -/
def LineTimes.stage (t : LineTimes) (k : Nat) : Nat :=
  match k with
  | 1 => t.fixed 400
  | 2 => t.fixed 200
  | 3 => t.fixed 100
  | 4 => t.window * t.cam + t.phase
  | 5 => t.out
  | 6 => 128 * t.out
  | 7 => t.out
  | 8 => 2 * t.out
  | 9 => t.fixed 2000
  | _ => t.fixed 1000

/-- T_rec (R11): from the last camera line of a region to its record on every queue. -/
def LineTimes.record (t : LineTimes) : Nat := t.fixed 3700 + t.window * t.cam + t.phase + 132 * t.out

/-- How far downstream a reject station stands at least (R13): web speed in µm/s, actuator lead in ns, tallest region in µm. -/
def LineTimes.station (t : LineTimes) (speed lead tallest : Nat) : Nat := ceilDiv (speed * (t.record + lead)) 1000000000 + tallest

/-! ## Frames (R197) -/

/-- The web frame of a sample of the grid: y_j = G0 + j × Λ and x_s = X0 + s × Λ, Λ in 1/256 µm and the others in 1/65,536 µm. -/
def webFrame (g0 x0 : Int) (pitch : Nat) (j s : Int) : Int × Int := (g0 + j * pitch * 256, x0 + s * pitch * 256)

end Sys2Proof.Machine
end

