-- ==== Sys2Proof/Tests/Slice0.lean ====
section
/-!
SUPPORT. Tests: ill-formed commands are refused, the manual's worked examples, one step of commands of every family, and for every obligation with hypotheses
states and operands that meet them.
-/
namespace Sys2Proof.Tests
open Sys2Proof Sys2Proof.Machine

set_option Elab.async false

/-! ## States and checks -/

/-- The device with its dictionary reachable and its references in use: session 1 open to a peer, session 2 to another. -/
def up : Device :=
  { State.reset.dev.set .FLD_STATE 0 0 with
    bring := .up
    refs := [{ cycles := 16384, inUse := true }, { cycles := 16384, inUse := true }, { cycles := 16384, inUse := true }]
    sess := [{ n := 1, peer := [192, 168, 10, 2], port := 5000, lastRx := 0 }, { n := 2, peer := [192, 168, 10, 3], port := 5001, lastRx := 0 }] }

/-- The same with the PCIe link up and Memory Space Enable set. -/
def bus : Device := { (up.set .PCI_LINK_WIDTH 0 4).set .PCI_LINK_SPEED 0 3 with pcie := { up.pcie with memEnable := true } }

/-- A state of a device, with nothing waiting. -/
def at_ (d : Device) : State := { State.reset with dev := d }

/-- A command gives a next state, of whose device a check holds. -/
def goes (c : Instr) (d : Device) (p : Device → Bool) : Bool := match exec c (at_ d) with | .next t => p t.dev && t.pending.isEmpty | _ => false

/-- The live copies agree on everything but the objects listed. -/
def same (d e : Device) (but : List (Reg × Nat)) : Bool :=
  let rest (st : Store) : Store := st.filter (fun x => !but.contains (x.1.reg, x.1.inst))
  rest d.live == rest e.live

/-- The same outside the event fabric. -/
def sameBeside (d e : Device) (but : List (Reg × Nat)) : Bool :=
  let rest (st : Store) : Store := st.filter (fun x => !but.contains (x.1.reg, x.1.inst) && !fabricRegs.contains x.1.reg)
  rest d.live == rest e.live

/-- A refused command: nothing is changed, and the abort code leaves. -/
def refusedWith (c : Instr) (d : Device) (code : Nat) : Bool := match exec c (at_ d) with | .next t => t == at_ { d.asked t.dev.lastAccess with outs := [.result code] } | _ => false

/-- A command that changes nothing. -/
def idles (c : Instr) (d : Device) : Bool := match exec c (at_ d) with | .next t => t == at_ d.begin | _ => false

/-- A request of session 1's peer. -/
def req (op seq items flags : Nat) (body : Octets) : Datagram :=
  { port := 0, peer := [192, 168, 10, 2], udp := 5000, payload := [2, op] ++ le 2 1 ++ le 4 seq ++ le 2 items ++ le 2 body.length ++ [0, flags, 0, 0] ++ body }

/-- An item of a request. -/
def item (index sub : Nat) (b : Octets) : Octets := le 2 index ++ [sub, 0] ++ le 2 b.length ++ b

/-- A training frame with a valid CRC. -/
def frame (ty : Nat) (payload : Octets) : Octets := let h := [ty, 1, 5, 5] ++ slice payload 0 26; h ++ crcTail h

/-- The device with lane `l` in a state at a rung. -/
def laneIn (l st rung : Nat) (f : Lane → Lane) : Device := ((up.set .LNK_STATE l st).set .LNK_RUNG l rung).modLane l f

/-- A lane has sent a valid training frame of which a check holds. -/
def sent (e : Device) (l : Nat) (p : Octets → Bool) : Bool := e.outs.any (fun o => match o with | .frame k f => k == l && frameOk f && p f | _ => false)

/-! ## Ill-formed commands -/

/-- A number beyond every range. -/
def far : Nat := 2 ^ 90
/-- A datagram on a port the device does not have. -/
def dg0 : Datagram := { port := 2, peer := [1, 2, 3, 4], udp := 0, payload := List.replicate 16 0 }
/-- A datagram with an operation code. -/
def dg (op : Nat) : Datagram := { port := 0, peer := [1, 2, 3, 4], udp := 0, payload := [2, op] ++ List.replicate 14 0 }
/-- A training frame. -/
def fr : Octets := List.replicate 32 0

/-- A command is refused as ill-formed. -/
def illFormed (c : Instr) : Bool := match exec c State.reset with | .refused .illFormed => true | _ => false

/-- Terms with one operand outside its range, part 1. -/
def badTerms1 : List Instr := [
  .objectWrite far false 0 0 [], .objectWrite 1 true 0 0 [], .objectWrite 0 false far 0 [], .objectWrite 0 false 0 far [], .objectWrite 0 false 0 0 [256], .dapOpen dg0,
  .dapClose dg0, .dapKeepalive dg0, .dapRead dg0, .dapWrite dg0, .dapReadIndex dg0, .dapReadSeg dg0, .dapWriteSeg dg0, .dapSubscribe dg0, .dapUnsubscribe dg0,
  .dapDatagramRefused dg0, .subscriptionPush far, .sessionTimeout far, .sesClose far 0 0, .sesClose 0 far 0, .sesClose 0 0 far, .bar0WideRead ⟨far, 15⟩,
  .bar0WideRead ⟨0, far⟩, .bar0BulkGo [256] 0, .bar0BulkGo [] far, .bar0ReachabilityChange far 0 ⟨false, false⟩, .bar0ReachabilityChange 0 far ⟨false, false⟩,
  .devCommit far 0, .devCommit 0 far, .chCommit far 0 0, .chCommit 0 far 0, .chCommit 0 0 far, .devStageDiscard far 0, .devStageDiscard 0 far, .chStageDiscard far 0 0,
  .chStageDiscard 0 far 0, .chStageDiscard 0 0 far, .chHandoverTimeout far, .nvsSave far 0, .nvsSave 0 far, .nvsErase far 0, .nvsErase 0 far, .discoverSend far,
  .commaLockAcquire far false, .commaLockLoss far 16]
/-- Every check of WellFormed.lean refuses. -/
theorem test_ill_formed_1 : badTerms1.all illFormed = true := by decide +kernel

/-- Terms with one operand outside its range, part 2. -/
def badTerms2 : List Instr := [
  .commaLockLoss 0 far, .discoverRx far fr, .discoverRx 0 [256], .identRx far fr, .identRx 0 [256], .rungReqSend far, .rungReqRx far fr, .rungReqRx 0 [256],
  .rungAckRx far fr, .rungAckRx 0 [256], .eqRx far fr, .eqRx 0 [256], .rxReadySet far 0, .rxReadySet 0 far, .eqStepTimeout far, .presetRotate far, .identTimeout far,
  .rungAckTimeout far, .train1Timeout far, .step2Start far, .step2Retry far, .train2Timeout far, .recoverTimeout far, .relockTimeout far, .superframeRx far false [],
  .superframeRx 0 false [], .signalDetectLoss far false, .abortRx far fr, .abortRx 0 [256], .lnkTestStart far 0 1, .lnkTestStart 0 far 1, .lnkTestStart 0 0 far,
  .lnkTestStop far 0, .lnkTestStop 0 far, .testReqRx far fr, .testReqRx 0 [256], .testAckRx far fr, .testAckRx 0 [256], .testNakRx far fr, .testNakRx 0 [256],
  .testReqTimeout far, .testExpire far, .sleepReqRx far fr, .sleepReqRx 0 [256], .sleepAckRx far fr]
/-- Every check of WellFormed.lean refuses. -/
theorem test_ill_formed_2 : badTerms2.all illFormed = true := by decide +kernel

/-- Terms with one operand outside its range, part 3. -/
def badTerms3 : List Instr := [
  .sleepAckRx 0 [256], .sleepNakRx far fr, .sleepNakRx 0 [256], .sleepNowRx far fr, .sleepNowRx 0 [256], .sleepWakeRx far fr, .sleepWakeRx 0 [256], .sleepReqRepeat far,
  .laneAutoSleep far, .laneTxWake far, .wakeLockTimeout far, .packetRx far none, .packetRx 0 (some ([0], 0)), .packetLossDeclare far 0, .packetLossDeclare 0 far,
  .lineSegmentRx far, .darkBlockRx far, .cameraStatusRx far, .temperatureRx far, .creditUpdateRx far, .testPacketRx far, .creditUpdateSend far, .firstCreditTimeout far,
  .controlRetransmit far, .controlBusyRetry far, .getInfoDone far, .settingsDone far, .activateDone far, .modeDone far, .timeEchoSend far, .timeEchoDone far, .cregRead far 0,
  .cregRead 0 far, .cregWrite far 0, .cregWrite 0 far, .regReadDone far, .regWriteDone far, .frontEndLine far, .camsetBusyTimeout far, .channelDrainDone far,
  .sliceDrainDone far, .positionEdge far 0 0, .positionEdge 0 far 0, .positionEdge 0 0 far, .encFailsafeDetect far]
/-- Every check of WellFormed.lean refuses. -/
theorem test_ill_formed_3 : badTerms3.all illFormed = true := by decide +kernel

/-- Terms with one operand outside its range, part 4. -/
def badTerms4 : List Instr := [
  .posRearm far 0, .posRearm 0 far, .indexPulse far 0, .indexPulse 0 far, .emuScheduledEmit far, .emuPinEmit far, .decSyncEdge false far, .posGridSet far 0,
  .posGridSet 0 far, .stitchLine far, .overlapMeasure far, .compareLine ⟨far, []⟩, .heftBlockWrite far 0 0 0, .heftBlockWrite 0 far 0 0, .heftBlockWrite 0 0 far 0,
  .heftBlockWrite 0 0 0 far, .heftBlockVerified far 0 0 0 false, .heftBlockVerified 0 far 0 0 false, .heftBlockVerified 0 0 far 0 false, .heftBlockVerified 0 0 0 far false,
  .hftLoadBegin far 0, .hftLoadBegin 0 far, .hftLoadEnd far 0, .hftLoadEnd 0 far, .hftLoadAbort far 0, .hftLoadAbort 0 far, .labelLine far, .edgeRx far, .linkRx far,
  .watermarkRx far, .aliasRx far, .fragRx far, .componentTimeout far, .snippetWrite ⟨far, []⟩, .rejectRepredict far, .rejectPulseStart far, .rejectPulseEnd far,
  .calBuildDone far, .chCalStart far 0 0, .chCalStart 0 far 0, .chCalStart 0 0 far, .chCalAbort far 0 0, .chCalAbort 0 far 0, .chCalAbort 0 0 far, .chCalSeed far 0 0]
/-- Every check of WellFormed.lean refuses. -/
theorem test_ill_formed_4 : badTerms4.all illFormed = true := by decide +kernel

/-- Terms with one operand outside its range, part 5. -/
def badTerms5 : List Instr := [
  .chCalSeed 0 far 0, .chCalSeed 0 0 far, .stackTempRead far, .memRetrainReq far 0, .memRetrainReq 0 far, .refreshWindow ⟨false, far, [0, 0, 0, 0, 0, 0, 0, 0]⟩,
  .refreshWindow ⟨false, 0, []⟩, .dramTrainingDone false far, .flcJobStart far 0, .flcJobStart 0 far, .flcJobResume far 0, .flcJobResume 0 far, .flcJobBlockDone ⟨far, false⟩,
  .crcStart far 0, .crcStart 0 far, .crcEnd far 0, .crcEnd 0 far, .crcFeed8 far 0 0, .crcFeed8 0 far 0, .crcFeed8 0 0 far, .crcFeed16 far 0 0, .crcFeed16 0 far 0,
  .crcFeed16 0 0 far, .crcFeed24 far 0 0, .crcFeed24 0 far 0, .crcFeed24 0 0 far, .crcFeed32 far 0 0, .crcFeed32 0 far 0, .crcFeed32 0 0 far, .crcContextWrite far 0 0,
  .crcContextWrite 0 far 0, .crcContextWrite 0 0 far, .queueDrainEnd far, .ethItemTransmit far, .ingressFragmentRx far (dg 0), .ingressFragmentRx 1 dg0, .queueCreditSend far,
  .dmaDoorbell far 0 0, .dmaDoorbell 0 far 0, .dmaDoorbell 0 0 far, .dmaDescriptorFetch far [] [], .dmaDescriptorFetch 0 [256] [], .dmaDescriptorFetch 0 [] [256],
  .dmaStaleReread far [] [], .dmaStaleReread 0 [256] []]
/-- Every check of WellFormed.lean refuses. -/
theorem test_ill_formed_5 : badTerms5.all illFormed = true := by decide +kernel

/-- Terms with one operand outside its range, part 6. -/
def badTerms6 : List Instr := [
  .dmaStaleReread 0 [] [256], .dmaItemWaitExpire far, .dmaDescriptorComplete far 0, .dmaDescriptorComplete 0 far, .dmaEnable far 0, .dmaEnable 0 far, .dmaDisable far 0,
  .dmaDisable 0 far, .dmaFinish far 0, .dmaFinish 0 far, .dmaClearFault far 0, .dmaClearFault 0 far, .bar2Read far 1 0, .bar2Read 0 far 0, .bar2Write far [],
  .bar2Write 0 [256], .bar2WindowWrite far 0, .bar2WindowWrite 0 far, .msixVectorUnmask far, .truFwStage far 0, .truFwStage 0 far, .truSvnLock far 0, .truSvnLock 0 far,
  .truHoldSet far 0, .truHoldSet 0 far, .truHoldRelease far 0, .truHoldRelease 0 far, .bootImageCheck [256] [], .bootImageCheck [] [256], .bootRetry [256] [],
  .bootRetry [] [256], .timSet far 0, .timSet 0 far, .timStep far 0, .timStep 0 far, .syncRx far ⟨0, [0]⟩ 0 0, .syncRx 0 ⟨far, [0]⟩ 0 0, .syncRx 0 ⟨0, [256]⟩ 0 0,
  .syncRx 0 ⟨0, [0]⟩ far 0, .syncRx 0 ⟨0, [0]⟩ 0 far, .followUpRx far ⟨0, [8]⟩, .followUpRx 0 ⟨far, [0]⟩, .followUpRx 0 ⟨0, [256]⟩, .delayReqRx far ⟨0, [1]⟩ 0 0,
  .delayReqRx 0 ⟨far, [0]⟩ 0 0]
/-- Every check of WellFormed.lean refuses. -/
theorem test_ill_formed_6 : badTerms6.all illFormed = true := by decide +kernel

/-- Terms with one operand outside its range, part 7. -/
def badTerms7 : List Instr := [
  .delayReqRx 0 ⟨0, [256]⟩ 0 0, .delayReqRx 0 ⟨0, [1]⟩ far 0, .delayReqRx 0 ⟨0, [1]⟩ 0 far, .delayRespRx far ⟨0, [9]⟩, .delayRespRx 0 ⟨far, [0]⟩, .delayRespRx 0 ⟨0, [256]⟩,
  .pdelayReqRx far ⟨0, [2]⟩ 0 0, .pdelayReqRx 0 ⟨far, [0]⟩ 0 0, .pdelayReqRx 0 ⟨0, [256]⟩ 0 0, .pdelayReqRx 0 ⟨0, [2]⟩ far 0, .pdelayReqRx 0 ⟨0, [2]⟩ 0 far,
  .pdelayRespRx far ⟨0, [3]⟩ 0, .pdelayRespRx 0 ⟨far, [0]⟩ 0, .pdelayRespRx 0 ⟨0, [256]⟩ 0, .pdelayRespRx 0 ⟨0, [3]⟩ far, .pdelayRespFollowUpRx far ⟨0, [10]⟩,
  .pdelayRespFollowUpRx 0 ⟨far, [0]⟩, .pdelayRespFollowUpRx 0 ⟨0, [256]⟩, .announceRx far ⟨0, [11]⟩, .announceRx 0 ⟨far, [0]⟩, .announceRx 0 ⟨0, [256]⟩, .delayReqSend far,
  .pdelayReqSend far 0, .pdelayReqSend 0 far, .syncSend far, .ttPulseStart far, .ttPulseEnd far, .timTtArm far 0 0, .timTtArm 0 far 0, .timTtArm 0 0 far,
  .tcInEdge far false 0, .tcInEdge 0 false far, .tcFifoRead far, .taskInputEdge far, .taskConsume far, .evtTaskClear far 0, .evtTaskClear 0 far, .cellClockEdge far,
  .joinRx far, .joinAnswerRx far, .timeSend far, .timeReqRx far 0 0, .timeReqRx 16 far 0, .timeReqRx 16 0 far, .timeAnswerRx far 0]
/-- Every check of WellFormed.lean refuses. -/
theorem test_ill_formed_7 : badTerms7.all illFormed = true := by decide +kernel

/-- Terms with one operand outside its range, part 8. -/
def badTerms8 : List Instr := [
  .timeAnswerRx 16 far, .posReqRx far, .posAnswerRx far, .beaconRx far, .statusRx far, .repeatRx far, .gridRx far, .qitemRx far, .relayRx far, .foldPacketForward far,
  .foldRequestRetry far, .memberLost far, .refMonitorWindow far 0 0, .refMonitorWindow 0 far 0, .refMonitorWindow 0 0 far, .clkReturn far 0, .clkReturn 0 far,
  .pllLockLoss far, .clockSwitchDone far, .clockSwitchForced far, .dvfsVoltageReached far, .vddCoreLow far, .vddCoreHigh far, .supplyRailFault far, .pwrSleep far 0,
  .pwrSleep 0 far, .dieTempRead far, .pwrReset far 0, .pwrReset 0 far, .leaseExpire far 0, .leaseExpire 1 far, .fltClear far 0, .fltClear 0 far, .twiTGo far 0, .twiTGo 0 far,
  .twiTransactionStart far, .twiTransactionEnd far 0 0 0 [], .twiTransactionEnd 0 far 0 0 [], .twiTransactionEnd 0 0 far 0 [], .twiTransactionEnd 0 0 0 far [],
  .twiTransactionEnd 0 0 0 0 [256], .twiArbRetry far, .twiTargetAddressed far 0, .twiTargetAddressed 0 far, .twiFlagClear far 0]
/-- Every check of WellFormed.lean refuses. -/
theorem test_ill_formed_8 : badTerms8.all illFormed = true := by decide +kernel

/-- Terms with one operand outside its range, part 9. -/
def badTerms9 : List Instr := [
  .twiFlagClear 0 far, .signalDetectReturn far, .prbsCheckerLock far [], .signalingManagementRx far ⟨0, [12]⟩, .signalingManagementRx 0 ⟨far, [0]⟩,
  .signalingManagementRx 0 ⟨0, [256]⟩, .arpNdReplyRx far [1, 2, 3, 4] [1, 2, 3, 4, 5, 6], .arpNdReplyRx 0 [256] [1, 2, 3, 4, 5, 6], .arpNdReplyRx 0 [1, 2, 3, 4] [256],
  .supplyRailReturn far]
/-- Every check of WellFormed.lean refuses. -/
theorem test_ill_formed_9 : badTerms9.all illFormed = true := by decide +kernel

/-- No word spells a command. -/
theorem test_no_word_spells_a_command : decodeTableWord 16 0x1234 = none ∧ (State.reset.withFetchWord 16 0x1234).pending = [] := by decide +kernel

/-- A step on an empty queue after reset answers a next state. -/
theorem test_tick_after_reset : (match step State.reset with | .next t => t.dev.tick == 1 && t.pending.isEmpty | _ => false) = true := by decide +kernel

/-! ## The manual's worked examples -/

/-- Chapter 2: channel 9's commit object and its CH_GEN_STAGED in BAR0. -/
theorem test_slot_offsets : slotOffset 0x4244 0x01 = some 0x191004 ∧ slotOffset 0x4244 0x04 = some 0x191010 := by decide +kernel

/-- Chapter 3: the bit pairs 10, 11, 00, 01 as PAM4 levels before and after the precoder. -/
theorem test_pam4_pairs : [(1, 0), (1, 1), (0, 0), (0, 1)].map (fun b => grayOf b.1 b.2) = [3, 2, 0, 1] ∧ precode 0 [3, 2, 0, 1] = [3, 3, 1, 0] := by decide +kernel

/-- Chapter 4: credits of a full-resolution carton line and its dark block, and the octets counted for a preview line. -/
theorem test_carton_line : lineCost 73744 + lineCost 160 = 1165 ∧ framedLine 36880 + framedLine 160 = 37136 := by decide +kernel

/-- Chapter 5: a black level filtered, and a sample of the label press corrected. -/
theorem test_label_press_sample : Device.blackUpdate 12 32 4 57 (some (65758, 57)) 518 = some (65792, 57) ∧
    blackSample (2048 * 4096) 65792 (-512) = (8323328, false) ∧ shadeSample 8323328 17408 = 8843536 := by decide +kernel

/-- Chapter 6: EMU0 at N/M = 2/5 with interpolation. -/
def emu25 : Device := ((((up.set .POS_EMU_ENABLE 0 1).set .POS_EMU_N 0 2).set .POS_EMU_M 0 5).set .POS_EMU_INTERP 0 1).set .POS_EMU_SOURCE 0 3

/-- Chapter 6: counts every 2 µs give triggers at 5 and 10 µs. -/
theorem test_camera_triggers :
    (([2000, 4000, 6000, 8000, 10000].foldl (fun d t => Device.emuCount 0 true t (some 2000) d) emu25).emu 0).backlog = [(true, 5000), (true, 10000)] := by decide +kernel

/-- Chapter 7: input lines from 39,996 on, 33.333 µm apart, line 40,002 at 1,200,000 µm. -/
def pressHistory : List InLine := (List.range 40).map (fun (k : Nat) =>
  { p := 65536 * 1200000 + ((k : Int) - 6) * 6553600 / 3, t := 0, q := 0, idx := k, gen := 0, line := 39996 + k, temp := 0, blind := false, planes := [], geo := {}, seq := 0 })

/-- Chapter 7: bracket, fraction, phase and window of the three planes. -/
theorem test_press_phases : ([1200040, 1200120, 1200200] : List Int).map (fun z => (bracketOf (z * 65536) pressHistory).map (fun b =>
      (39996 + b.i, b.f, b.phase, (windowOf false b pressHistory).map (fun w => w.map InLine.line)))) =
    [some (40003, 51, 6, some ((List.range 16).map (39996 + ·))), some (40005, 154, 19, some ((List.range 16).map (39998 + ·))),
     some (40008, 0, 0, some ((List.range 16).map (40001 + ·)))] := by decide +kernel

/-- Chapter 8: camera 1's map. -/
def camera1 : Geo := { a0 := 0x062CCE40, a1 := 0x1AA00000, a2 := 0x00100000, a3 := -0x00100000 }

/-- Chapter 8: grid sample 32,097 in camera 1: the two pixels, the fraction and the contribution. -/
theorem test_smear_cross_web : camera1.x 0 14932 = 205418224 ∧ camera1.x 0 14933 = 205425045 ∧
    (coverInterval 0 (25 * 65536) (camera1.x 0 14932 * 256) (camera1.x 0 14933 * 256) 66000 14932 1 16383).map (fun c => (c.s, c.p, c.f)) = [(32097, 14932, 24)] ∧
    cubicWeights 24 = [-1200, 11920, 6384, -720] ∧ contribution #[8192000, 8294400, 8396800, 8499200] 1 24 = 8332800 := by decide +kernel

/-- Chapters 8 and 10: the displacement field at the smear's first sample and at its highest. -/
theorem test_smear_registration :
    let row (dy : Int) : Array (Int × Int × Nat) := ((List.range 207).map (fun c => (if c = 99 then (40 : Int) else 50, dy, 0))).toArray
    fieldAt (row 32) (row 28) 44 32097 = (48, 31, 0) ∧ fieldAt (row 32) (row 28) 55 32104 = (48, 32, 0) := by decide +kernel

/-- Chapter 9: one word learned over eight repeats, and sealed. -/
theorem test_word_learned :
    let w := (([(8332800, 0), (8324096, 1), (8335616, 2), (8802304, 3), (8332288, 4), (8332288, 5), (8332288, 6), (8332288, 7)] : List (Nat × Nat)).foldl
      (fun w x => learnWord up.learnRule w x.1 0 0 x.2) padWord)
    (wordE w, wordTol w, wordVar w, wordConf w) = (8137, 28, true, false) ∧ sealWord 40 w = 0x7F25C8 ∧
    learnWord up.learnRule padWord 8332800 0 0 0 = mkWord 8138 16 false false false false := by decide +kernel

/-- Chapter 10: planes 1 and 2 of the smear's first sample, and plane 2 in class VARIABLE. -/
theorem test_smear_compared : excess (classWord up.ident [] 1 0) 8332800 (256 * 8137) (tolOf 28) = none ∧
    excess (classWord up.ident [] 1 0) 9579776 (256 * 9420) (tolOf 26) = some (732, false) ∧
    excess (classWord up.ident [] 4 0) 9579776 (256 * 9420) (tolOf 26) = some (488, false) := by decide +kernel

/-- Chapter 12: pixel 7,000 of plane 1 calibrated. -/
theorem test_pixel_calibrated :
    let e := calEntry { nMin := 256, spreadMin := 2048, gainStep := 256, gainSpan := 1311, offStep := 512, offSpan := 4096 } false 0
      { key := 0, nh := 1100, seh := 14080000, sdh := 1408000, nl := 300, sel := 480000, sdl := 57600, nx := 3 } (-512) 17408 (-512) 17408
    (e.o, e.g, e.noData, e.step, e.span) = (0, 17340, false, true, false) := by decide +kernel

/-- Chapter 13: the run that codes an absent block of padding words: prefix 10, then exp-Golomb order 0 of 4,095, and five bits of fill. -/
theorem test_padding_run : (spread 8 [0xFD, 0x3F, 0, 0]).take 2 = [1, 0] ∧
    takeGolomb 0 ((spread 8 [0xFD, 0x3F, 0, 0]).drop 2) = some (4095, List.replicate 5 0) := by decide +kernel

/-- Chapter 14: the fields of descriptor 17, and the header of a record in queue 10. -/
theorem test_records_to_the_host :
    let x := Descriptor.ofBytes [0, 0, 0, 0, 0, 0, 0, 0, 0, 0, 0x80, 0x23, 1, 0, 0, 0, 0, 0, 1, 0, 0x20, 0xA1, 0x0A, 0, 0x11, 9, 0, 0, 0, 0, 0, 0] []
    (x.dst, x.length, x.ctl, x.obj, x.tag, x.from, x.into) = (0x123800000, 65536, 0xA120, 10, 0x911, 2, 1) ∧
    (Item.wire 10 { kind := 1, flags := 0, iseq := 0, drops := 0, payload := List.replicate 64 1 }).take 8 = [0x40, 0, 0, 0, 1, 0, 0x0A, 0] := by decide +kernel

/-- Chapter 15: DEV_RUN_REQ = 0 staged and committed in one datagram makes a WRITE and a COMMIT entry. -/
theorem test_standby_committed : goes (.dapWrite (req 0x11 5 2 0 (item 0x1010 0x02 [0] ++ item 0x1200 0x01 (le 4 1)))) up (fun e =>
    e.jrn.buf.map (fun x => (x.ty, x.flags, x.session, x.index, x.sub, x.vtype, x.vlen)) == [(1, 1, 1, 0x1010, 2, 1, 1), (2, 0, 1, 0x1200, 1, 6, 4)] &&
    e.jrn.buf.map (fun x => (x.gen, x.value.take 4, x.port)) == [(1, [0, 0, 0, 0], 5000), (1, [1, 0, 0, 0], 5000)] &&
    e.jrn.buf.all (fun x => x.peer == List.replicate 10 0 ++ [0xFF, 0xFF, 192, 168, 10, 2])) := by decide +kernel

/-- Chapter 18: 0.55 V and 0.80 V with an exponent of −12. -/
theorem test_regulator_codes : voutCode (-12) 550 = 0x08CD ∧ voutCode (-12) 800 = 0x0CCD := by decide +kernel

/-- R488 to R490: the balls of lane 9 and lane 25, of PORST_N and HALL_V, and the nets of T9 and T10. -/
theorem test_balls : [Signal.laneRx 9 false, .laneRx 9 true, .laneTx 9 false, .laneTx 9 true, .laneRx 25 false, .laneRx 25 true, .laneTx 25 false, .laneTx 25 true,
    .control 0, .input 1].map (fun x => ballName x.ball) = ["AL2", "AL3", "AM5", "AM6", "AL50", "AL49", "AM47", "AM46", "K10", "BB28"] ∧
    ballName (15, 9) = "T9" ∧ supplyBall 15 9 = some 0 ∧ supplyBall 15 10 = none := by decide +kernel

/-- R479, R480: the parts of the full load, and the junction over a lid at 62.2 °C. -/
theorem test_power : corePower 80000000 = 22400 ∧ stackPower 196 = 8050 ∧ junctionTemp 62200 40000 = 66200 ∧ stackTempOf 62200 8050 = 71860 := by decide +kernel

/-- R11: T_rec of a carton line (5,000 ns camera and output lines, eight-line window) and of a label press at 80 kHz in and 66.67 kHz out. -/
theorem test_record_bound : LineTimes.record ⟨5000, 5000, 0, false, 1250⟩ = 703700 ∧
    LineTimes.record ⟨12500, 15000, 0, false, 1250⟩ = 2083700 := by decide +kernel

/-! ## One step of commands of every family -/

def openReq : Datagram := { port := 1, peer := [192, 168, 10, 4], udp := 6000, payload := [2, 1, 0xFF, 0xFF, 7, 0, 0, 0, 0, 0, 0, 0, 0, 0, 0, 0] }
theorem test_dapOpen :
    (goes (.dapOpen openReq) up (fun e => (e.session 3).isSome && e.session 1 == up.session 1 && same up e [(.COM_DAP_RX, 0)] && e.num .COM_DAP_RX 0 == 1 &&
    e.outs == [.dap 1 [192, 168, 10, 4] 6000 ([2, 1, 0xFF, 0xFF, 7, 0, 0, 0, 1, 0, 6, 0, 0, 2, 0, 0] ++ le 2 0x9003 ++ [0, 0, 0, 0])])) = true := by decide +kernel
theorem test_objectWrite :
    (goes (.objectWrite 0 false 0x1010 0x02 [0, 0, 0, 0]) bus (fun e => e.stgNum .DEV_RUN_REQ 0 == 0 && same bus e [] && e.outs == [.result 0])) = true := by decide +kernel
theorem test_sesClose :
    (goes (.sesClose 0 1 1) bus (fun e => (e.session 1).isNone && same bus e [] && e.outs == [.result 0])) = true := by decide +kernel
def staged := up.putStg .DEV_RUN_REQ 0 (.num 0)
theorem test_devStageDiscard :
    (goes (.devStageDiscard 1 1) staged (fun e => same staged e [] && e.staged == [] && e.outs == [.result 0])) = true := by decide +kernel
theorem test_bar0WideRead :
    (goes (.bar0WideRead ⟨0x40004, 6⟩) bus (fun e => e.outs == [.completion ((le 4 (bus.num .COM_MAC0 0 % 2 ^ 32)).drop 1 |>.take 2) false])) = true := by decide +kernel
def erased : Device := { up.set .NVS_STATE 0 4 with nvs := { up.nvs with erased := true } }
theorem test_nvsErase :
    (goes (.nvsErase 1 0xA5) up (fun e => e.num .NVS_ACTIVE 0 == 0xFF && e.num .NVS_STATE 0 == 4 && e.num .NVS_VALID 0 == 0 && e.nvs.erased)) = true := by decide +kernel
def scope : Device := (up.set .TRU_HOLD_SCOPE 0 5).set .TRU_HOLD_REPEATS 0 9
def waiting : Device := { up with pend := [{ scope := .device, gen := 1, values := [(⟨.DEV_RUN_REQ, 0⟩, .num 0)], since := 0 }, { scope := .channel 15, gen := 4, values := [(⟨.CH_ENABLE, 15⟩, .num 1)], since := 0 }] }
theorem test_chHandoverTimeout :
    (goes (.chHandoverTimeout 15) waiting (fun e => e.pendOf (.channel 15) == none && e.genLive (.channel 15) == 4 && e.num .CH_ENABLE 15 == 1)) = true := by decide +kernel
def f1 := frame 1 []
theorem test_discoverRx :
    (goes (.discoverRx 0 f1) (laneIn 0 LS.seek 0 (fun x => { x with comma := true })) (fun e => e.lstate 0 == LS.ident && sent e 0 (fun q => octet q 0 == 2) &&
    same (laneIn 0 LS.seek 0 id) e [(.LNK_STATE, 0), (.LNK_RUNG, 0)])) = true := by decide +kernel
theorem test_identTimeout :
    (goes (.identTimeout 35) (laneIn 35 LS.ident 0 id) (fun e => e.lstate 35 == LS.seek && e.lrung 35 == 0 && e.num .LNK_TRAIN_FAILS 35 == 1)) = true := by decide +kernel
theorem test_commaLockLoss :
    (goes (.commaLockLoss 0 3) (laneIn 0 LS.low 1 (fun x => { x with comma := true })) (fun e => (e.lane 0).comma && e.num .LNK_CODE_VIOL 0 == 3)) = true := by decide +kernel
theorem test_eqStepTimeout :
    (goes (.eqStepTimeout 0) (laneIn 0 LS.train1 1 (fun x => { x with eqAcked := false, eqTimeouts := 2 })) (fun e => e.lstate 0 == LS.seek)) = true := by decide +kernel
def jb (f : FleeceJob → FleeceJob) (st : Nat) : Device := ((((up.set .FLC_JOB_SRC 1 0x5E8000000).set .FLC_JOB_DST 1 0x5E8100000).set .FLC_JOB_DST_LEN 1 20000).set .FLC_JOB_STATE 1 st).modJob 1 f
def running (b : Octets) (room : Nat) : Device := let d := jb (fun x => { x with op := 1, kind := 0, effort := 3, src := 0x5E8000000, blocks := 2, dst := 0x5E8100000, dstLen := room }) 1; { d with dram := Memory.writes [] 0x5E8000000 b }
def testing : Device := (laneIn 0 LS.test 1 (fun x => { x with test := some { code := 1, ms := 10, far := false, running := true, saved := 7 } })).set .LNK_TEST 0 1
theorem test_testExpire :
    (goes (.testExpire 0) testing (fun e => e.lstate 0 == LS.train1 && e.num .LNK_TX_EQ 0 == 7 && e.num .LNK_TEST 0 == 0)) = true := by decide +kernel
theorem test_sleepNowRx :
    (goes (.sleepNowRx 0 (frame 6 [4, 0])) (laneIn 0 LS.step1 0 id) (fun e => e.num .LNK_SLEEP_STATE 0 == 0)) = true := by decide +kernel
def linked (st : Nat) (f : Link → Link) : Device := ((laneIn 0 LS.low 1 id).set .CH_LINK_STATE 0 st).modLink 0 (fun x => f { x with up := true, usable := [(0, 1)], credited := true, step := 6 })
def rxd : Device := linked 2 (fun x => { x with rx := modAt x.rx 1 (fun r => { r with cr := [{ used := 0, limit := 256 }, {}] }) })
theorem test_packetRx :
    (goes (.packetRx 0 (some ([0x5D, 0, 0, 0, 0, 0, 0, 0, 0, 0, 0, 0], 5))) rxd (fun e => e.num .CH_PKT_HDR 0 == 1 && same rxd e [(.CH_PKT_HDR, 0)] && e.links == rxd.links)) = true := by decide +kernel
def pay16 : Octets := (List.range 16).map (· + 7)
def pk (dt : Nat) (b : Octets) : Packet := { dt := dt, first := true, last := true, bin := false, cls := 0, cost := 3, time := 4, payload := some b }
def loss (vc : Nat) : Device := linked 2 (fun x => { x with rx := modAt x.rx vc (fun r => { r with expect := 8, held := [(13, pk 0x38 pay16)] }) })
theorem test_packetLossDeclare :
    ([1, 2, 3].all (fun vc => goes (.packetLossDeclare 0 vc) (loss vc) (fun e => (e.rxOf 0 vc).expect == 9 && e.num .CH_PKT_LOST 0 == 1 &&
    same (loss vc) e [(.CH_PKT_LOST, 0)]))) = true := by decide +kernel
def repDev (vc dt : Nat) (b : Octets) (f : Link → Link) : Device := linked 3 (fun x => f { x with rx := modAt x.rx vc (fun r => { r with released := [pk dt b] }) })
def rq (op tries : Nat) (args : Octets) (w : Bool) : Request := { tag := 9, op := op, args := args, retries := tries, busies := 0, waitBusy := w }
def ansB (op st : Nat) (body : Octets) : Octets := le 2 9 ++ [op, st] ++ body
def ans (op st : Nat) (args body : Octets) (f : Link → Link) : Device := repDev 2 0x38 (ansB op st body) (fun x => f { x with tag := 9, out := some (rq op 0 args false), refIdent := List.replicate 18 4 })
theorem test_settingsDone :
    (goes (.settingsDone 0) (ans 2 0 (le 4 77) [] id) (fun e => (e.link 0).ackedGen == some 77 && (e.link 0).out == none && same (ans 2 0 [] [] id) e [])) = true := by decide +kernel
def rqDev (r : Request) : Device := linked 3 (fun x => { x with tag := 9, out := some r })
theorem test_controlRetransmit :
    (goes (.controlRetransmit 0) (rqDev (rq 6 3 [1] false)) (fun e => e.num .CH_CTRL_TIMEOUT 0 == 1 && e.num .CH_CREG_STATUS 0 == 3 && (e.link 0).out == none)) = true := by decide +kernel
def darkOcts : Octets := le 4 7 ++ List.replicate 12 0 ++ List.replicate (sampleOctets 16 1 14) 5
def darkDev : Device := (repDev 0 0x2F darkOcts (fun x => { x with lineDt := 0x22 })).setOct .CH_CAM_INFO 0 (le 4 8192 ++ le 2 16 ++ List.replicate 15 0)
theorem test_darkBlockRx :
    (let sum := (Device.unpackSamples 14 (darkDev.chDark 0) (darkOcts.drop 16)).foldl (· + ·) 0; goes (.darkBlockRx 0) darkDev (fun e => (e.link 0).black == [some ((sum * 1024 + darkDev.chDark 0 / 2) / darkDev.chDark 0, 7), none, none] &&
    same darkDev e [])) = true := by decide +kernel
def raw1 : RawLine := { gen := 7, line := 55, trig := 1000, temp := 300, dt := 0x22, bin := false, blind := false, restart := false, zeros := false, credits := 3, samples := List.replicate 64 900 }
def feed (st : Nat) : Device := (((up.set .CH_STATE 0 st).set .CH_PIXELS 0 64)).modLink 0 (fun x => { x with ingest := [raw1], sent := [(7, 0x22, 5000)] })
def sharedDev : Device := { (((feed 1).set .CH_SLICE_PARTNER 0 1).set .CH_SLICE_PARTNER 1 0).modLink 1 (fun x => { x with ingest := [raw1] }) with sliceLast := [(0, 0)] }
theorem test_frontEndLine :
    (goes (.frontEndLine 1) sharedDev (fun e => (e.link 1).ingest == [])) = true := by decide +kernel
def sync : Device := up.set .POS_DECSYNC_EN 0 1
theorem test_posGridSet :
    (let d := sync.set .CH_ENABLE 15 1; goes (.posGridSet 1 (2 ^ 64 - 1)) d (fun e => e.gridPend == some (-1) && (e.rsOf 15).pending == some (-1) &&
    same d e [(.POS_DECSYNC_POS, 0)])) = true := by decide +kernel
theorem test_sliceDrainDone :
    (let d := up.modFront 3 (fun f => { f with drainSlices := 2 }); goes (.sliceDrainDone 3) d (fun e => (e.front 3).drainSlices == 0 &&
    (List.range 16).all (fun m => m == 3 || e.front m == d.front m) && same d e [])) = true := by decide +kernel
def enc (code : Nat) (run : Nat) : Device := let d := up.set .POS_QUALITY 0 1; { d with pos := { d.pos with active := some 0, srcs := modAt d.pos.srcs 0 (fun x => { x with code := some code, run := run }) } }
def posBut : List (Reg × Nat) := [(.POS_POSITION, 0), (.POS_TIME, 0), (.POS_DIR, 0), (.POS_DIR_CHANGES, 0), (.POS_STOPPED, 0), (.POS_ENC_RAW, 0), (.POS_ENC_STATE, 0)] ++ (List.range 4).flatMap (fun e => [(.POS_EMU_BACKLOG, e), (.POS_EMU_DROPS, e)])
theorem test_positionEdge :
    (let d := ((enc 0 0).set .POS_EMU_ENABLE 0 1).set .POS_EMU_SOURCE 0 3; goes (.positionEdge 0 2 1000) d (fun e => sameBeside d e posBut &&
    e.num .POS_POSITION 0 == d.num .POS_ENC_STEP 0)) = true := by decide +kernel
theorem test_speedStop :
    (let d := (enc 0 0).set .POS_STOPPED 0 0; goes .speedStop d (fun e => e.num .POS_STOPPED 0 == 1 && e.pos.vNum == 0 && sameBeside d e [(.POS_STOPPED, 0)])) = true := by decide +kernel
def dead0 : Device := (enc 0 3).set .POS_ENC_STATE 0 2
theorem test_posRearm :
    (goes (.posRearm 1 0) dead0 (fun e => e.num .POS_ENC_STATE 0 == 0 && (e.source 0).run == 0 && same dead0 e [(.POS_ENC_STATE, 0)] && e.outs == [.result 0])) = true := by decide +kernel
def ask (k : Nat) : Device := ((up.set .HFT_LOAD_COLS 2 70).set .HFT_LOAD_LINES 2 64).set .HFT_LOAD_PLANES 2 k
def busyPad (st : Nat) : Device := (ask 1).set .HFT_PD_STATE (up.standby) st
def loading (m : Option Bool) : Device := { (busyPad 1).set .HFT_PD_JOB 1 77 with heft := { (busyPad 1).heft with loadMask := m, layers := [[], [{ set := 2, cols := 70, lines := 64, planes := 1 }]] } }
theorem test_hftLoadEnd :
    (goes (.hftLoadEnd 1 77) (loading (some false)) (fun e => e.num .HFT_LOAD_MISSING 0 == 2 &&
    e == { ((loading (some false)).asked 1).set .HFT_LOAD_MISSING 0 2 with outs := [.result 0x05] })) = true := by decide +kernel
def cl (first : Bool) (px : List Px) (b : Bool) : CmpLine := { j := 9, y := 1000, t := 5, coasted := false, res := 0, k := 4, first := first, w := 0, heft := true, blind := b, px := px }
def flagged : Px := .flag 100 1 1 0 2 false false 3 4
def labDev (l : CmpLine) : Device := (up.set .CH_STI_SET 0 0).modSeg 0 (fun x => { x with queue := [l] })
theorem test_labelLine :
    (let d := labDev (cl false [.clear, flagged, .blind, .clear] true); goes (.labelLine 0) d (fun e => (e.segOf 0).queue == [] && e.num .PEN_SET_BLIND 0 == 1 &&
    e.rdl.tally.sets.getD 0 (0, 0) == (1, 1))) = true := by decide +kernel
def pulse0 : Pulse := { out := 4, parts := [{ station := 2, y := 6553600, len := 65536, lead := 0, least := 1, extend := 0, start := some 5000, width := 300 }] }
def rjDev (p : Pulse) : Device := { up with rdl := { up.rdl with pulses := [p] } }
theorem test_rejectPulseEnd :
    (goes (.rejectPulseEnd 4) (rjDev { pulse0 with ends := some 9000 }) (fun e => e.rdl.pulses == [] && e.outs == [.pin "TT_OUT4" (up.ttLevel 4 false) 9000] &&
    same (rjDev pulse0) e ((List.range 8).map (fun x => (.RDL_ST_PENDING, x))))) = true := by decide +kernel
def lats : List (Reg × Nat) := [(.MEM_REFRESHES, 0), (.MEM_REFRESH_NS, 0), (.MEM_ECC_CORR, 0), (.MEM_LAT_MAX_NS, 0)] ++ (List.range 8).map (fun q => (.MEM_RQ_LAT_MAX_NS, q))
def pieces (l : List Nat) : Device := { up.set .MEM_RETRAIN_STATE 0 1 with ctl := { up.ctl with pieces := l } }
theorem test_refreshWindow :
    ([true, false].all (fun b => goes (.refreshWindow ⟨b, 0, [9, 8, 7, 6, 5, 4, 3, 2]⟩) (pieces [3, 4, 5]) (fun e => e.ctl.pieces == [4, 5] &&
    e.num .MEM_RETRAIN_FAIL 0 == b2n b && same (pieces []) e ((.MEM_RETRAIN_FAIL, 0) :: lats)))) = true := by decide +kernel
theorem test_memRetrainReq :
    (goes (.memRetrainReq 1 1) up (fun e => e.num .MEM_RETRAIN_STATE 0 == 1 && e.ctl.pieces == List.range 128 && same up e [(.MEM_RETRAIN_STATE, 0)])) = true := by decide +kernel
def crcD : Device := (up.set .CRC_MODE 3 15).set .CRC_SEQ 3 9
def crcS : Device := crcD.setCrc 3 { started := true, reg := 5 }
theorem test_crcStart :
    (goes (.crcStart 1 3) crcS (fun e => e.crcUnit 3 == { started := true, reg := crcRun 0 (crcInit 0) (le 8 0 ++ le 4 9) } && e.num .CRC_BYTES 3 == 0 &&
    same crcS e [(.CRC_BYTES, 3)] && e.outs == [.result 0])) = true := by decide +kernel
theorem test_crcContextWrite :
    (goes (.crcContextWrite 1 3 0x0000000A12345678) crcD (fun e => e.crcUnit 3 == { started := true, reg := 0x12345678 } && e.num .CRC_BYTES 3 == 10 &&
    same crcD e [(.CRC_BYTES, 3)] && e.outs == [.result 0])) = true := by decide +kernel
def dd (st : Nat) (f : Drover → Drover) : Device := { (((((up.set .DMA_STATE 3 st).set .DMA_ENABLE 3 (if st = 0 then 0 else 1)).set .DMA_RING_SPACE 3 1).set .DMA_RING_ENTRIES 3 16).set .DMA_HEAD 3 4).set .DMA_CPL_BASE 3 0x10000 with drovers := [f { c := 3, tail := 4 }] }
theorem test_dmaDoorbell :
    ([0, 3, 5, 15].all (fun v => goes (.dmaDoorbell 1 3 v) (dd 1 id) (fun e => e.num .DMA_STATE 3 == 2 && (e.drover 3).tail == v && same (dd 1 id) e [(.DMA_STATE, 3)] &&
    e.outs == [.result 0]))) = true := by decide +kernel
def dram0 : Device := { bus with dram := Memory.writes [] 0x5E8000000 [1, 2, 3, 4] }
theorem test_bar2Write :
    (goes (.bar2Write 2 [7, 8]) dram0 (fun e => e.dram == dram0.dram && e.num .PCI_BAR2_WRDISC 0 == 1 && same dram0 e [(.PCI_BAR2_WRDISC, 0)])) = true := by decide +kernel
def it0 (n : Nat) : Item := { kind := 1, flags := 0, iseq := n, drops := 0, payload := [1, 2, 3, 4, 5] }
def qd (st : Nat) (r : Ring) : Device := { up.set .QUE_STATE 9 st with rings := [{ r with q := 9 }] }
def sub4 : Octets := [4, 1] ++ le 2 7000 ++ [0, 0, 0, 0] ++ [192, 168, 10, 8] ++ List.replicate 12 0
def subQ (nb : List Neighbour) : Device := { (qd 1 { q := 9, items := [it0 3, it0 4], peer := 1, pages := 3 }).setOct .QUE_SUBS 9 sub4 with neigh := nb }
theorem test_ethItemTransmit :
    (goes (.ethItemTransmit 9) (subQ []) (fun e => e.outs.take 1 == [.resolve 0 [192, 168, 10, 8]] && (e.ring 9).items == [it0 4] && e.num .QUE_ETH_DROPS 9 == 1 &&
    sameBeside (subQ []) e [(.QUE_ETH_DROPS, 9), (.MEM_RD_BYTES, 0), (.MEM_PD_RD, 4)])) = true := by decide +kernel
def credQ : Device := (qd 1 { q := 9, dir := 1, peer := 1, pages := 3, ingress := { from_ := some (1, [192, 168, 10, 8], 7001) } }).set .QUE_ISEQ 9 6 |>.set .QUE_RX_PORT 9 7500
theorem test_queueCreditSend :
    (goes (.queueCreditSend 9) credQ (fun e => same credQ e [] &&
    e.outs == [.eth 1 7500 [192, 168, 10, 8] 7001 (Device.streamHeader 1 0 9 8 0 0 ++ le 4 6 ++ le 4 ((6 + credQ.ingressRoom 9) % 2 ^ 32))])) = true := by decide +kernel
def svn3 : Device := up.set .DEV_FW_SVN 0 3
theorem test_truSvnLock :
    (let d := { svn3 with fuses := { svn3.fuses with svnMin := 9 } }; goes (.truSvnLock 1 3) d (fun e => e.fuses.svnMin == 9 && e.num .DEV_FW_SVN_MIN 0 == 9)) = true := by decide +kernel
def je (n : Nat) : JEntry := { jseq := n, boot := 0, ty := 1, flags := 0, session := 1, sec := 0, ns := 0, index := 0, sub := 0, vtype := 0, vlen := 0, gen := 0, value := [], peer := [], port := 0, prev := [] }
def jd (k : Nat) : Device := { up with jrn := { up.jrn with buf := [je 5, je 6], kept := (List.range k).map je, budget := 7 } }
theorem test_journalEntryWrite :
    (goes .journalEntryWrite (jd 2) (fun e => e == { (jd 2).begin with jrn := { (jd 2).jrn with buf := [je 6], kept := [je 0, je 1, je 5] } })) = true := by decide +kernel
def held1 : Device := (scope.set .TRU_HOLD_STATE 0 1).set .TRU_HOLD_ID 0 77
theorem test_truHoldRelease :
    (goes (.truHoldRelease 1 77) held1 (fun e => !e.heldNow && e.num .TRU_HOLD_LEFT 0 == 0 && e.num .TRU_HOLD_JSEQ 0 == 0 && e.jrn.buf.length == 2 &&
    same held1 e [(.TRU_HOLD_STATE, 0), (.TRU_HOLD_LEFT, 0), (.TRU_HOLD_JSEQ, 0)] && e.outs == [.result 0])) = true := by decide +kernel
def clk1 : Device := { up with clk := { sec := 5, ns := 700, frac := 9 } }
def tt (m : Nat) (x : TtOut) : Device := (((clk1.set .TIM_TT_MODE 15 m).set .TIM_TT_WIDTH 15 40).set .TIM_TT_PERIOD 15 1000).modTt 15 (fun _ => x)
theorem test_ttPulseStart :
    (goes (.ttPulseStart 15) (tt 2 { edge := 3 }) (fun e => e.ttOf 15 == { edge := 4, activeUntil := some (3000 + 40) } && e.num .TIM_TT_FIRED 15 == 1 &&
    sameBeside (tt 2 {}) e [(.TIM_TT_FIRED, 15)])) = true := by decide +kernel
def tasks (k : Nat) (q : List Nat) (es : List (Nat × Nat)) : Device := { clk1 with evt := { clk1.evt with taskEdges := es, tasks := modAt clk1.evt.tasks k (fun _ => q) } }
theorem test_taskInputEdge :
    (goes (.taskInputEdge 3) (tasks 3 [5, 6, 7] [(3, 8)]) (fun e => e.evt.taskEdges == [] && e.evt.tasks.getD 3 [] == [5, 6, 7] && e.on .EVT_TASK_OVERFLOW 3 &&
    same clk1 e [(.EVT_TASK_OVERFLOW, 3)])) = true := by decide +kernel
theorem test_timStep :
    ([0, 2 ^ 32 - 1, 2 ^ 31, 77].all (fun v => goes (.timStep 1 v) clk1 (fun e => e.clk == Clock.ofUnits ((clk1.clk.units : Int) + toSigned 32 v * 2 ^ 32) &&
    e.num .TIM_STEPS 0 == 1 && sameBeside clk1 e [(.TIM_STEPS, 0)] && e.staged == up.staged))) = true := by decide +kernel
def src0 : Octets := [1, 2, 3, 4, 5, 6, 7, 8, 0, 1]
def pmsg (ty len flags : Nat) (corr : Int) (seq : Nat) (body : Octets) : Octets := [ty, 2] ++ be 2 len ++ [0, 0] ++ be 2 flags ++ be 8 (ofSigned 64 corr) ++ List.replicate 4 0 ++ src0 ++ be 2 seq ++ [0, 0] ++ body
def sync1 : Octets := pmsg 0 44 0 65536 77 (stampOctets (1000 * 65536))
def off0 : Device := up.set .TIM_TC_EN 0 0
def slave : Device := ((off0.set .TIM_PTP_ROLE 0 1).setOct .TIM_PTP_MASTER 0 src0).set .TIM_PTP_DELAY 0 1
def servo1 : Device := (slave.set .TIM_SRC 0 1).set .TIM_STEP_THRESH 0 100
theorem test_syncRx :
    (goes (.syncRx 0 ⟨1, sync1⟩ 200000000 0) servo1 (fun e => e.num .TIM_SERVO_STATE 0 == 1 && e.servo.run == 0 && e.num .TIM_STEPS 0 == 1)) = true := by decide +kernel
def ann : Octets := pmsg 11 64 0 0 5 (List.replicate 10 0 ++ be 2 37 ++ [0, 128, 6, 0x20] ++ be 2 0x4000 ++ [128] ++ [1, 2, 3, 4, 5, 6, 7, 8] ++ be 2 0 ++ [0x20])
def foreign0 : Foreign := { ident := src0, priority1 := 1, clockClass := 1, accuracy := 1, variance := 1, priority2 := 1, gm := [], stepsRemoved := 0, utc := 0, logInterval := 0, times := [3] }
def alone : Device := { off0.set .TIM_PTP_ROLE 0 1 with ptp := { up.ptp with foreign := [foreign0] } }
theorem test_announceRx :
    (goes (.announceRx 0 ⟨1, ann⟩) alone (fun e => e.oct .TIM_PTP_MASTER 0 == src0 && e.int .TIM_UTC_OFFSET 0 == 37 &&
    same alone e [(.TIM_PORT_RX, 0), (.TIM_PTP_MASTER, 0), (.TIM_UTC_OFFSET, 0)])) = true := by decide +kernel
def fmsg (dt dst src : Nat) (body : Octets) : Packet := { dt := dt, first := true, last := true, bin := false, cls := 0, cost := 1, time := 4, payload := some ([dst, src, 1, 0] ++ le 4 9 ++ body) }
def rxm (d : Device) (vc : Nat) (p : Packet) : Device := d.modRx 17 vc (fun r => { r with released := [p] })
def took (d : Device) (vc dt : Nat) (first : Option Nat) : Option (Device × FoldMsg) := match d.begin.foldTake 17 vc dt first with | (e, some x) => some (e, x) | _ => none
def withTake (d : Device) (vc dt : Nat) (first : Option Nat) (k : Device → FoldMsg → Bool) : Bool := match took d vc dt first with | some (e, x) => k e x | none => false
def fold0 (id st : Nat) : Device := { (up.set .FLD_STATE 0 st).set .FLD_EXPECT 0 3 with ident := { up.ident with foldId := id } }
def linked2 (d : Device) : Device := (d.modLink 16 (fun x => { x with up := true, farFold := some 0, usable := [(32, 2)], credited := true })).modLink 17 (fun x => { x with up := true, farFold := some 0, usable := [(34, 2)], credited := true })
def mem3 : Device := { linked2 (fold0 1 3) with rep := { starts := [{ k := 10, y := 5, e := 0 }], opened := true } }
theorem test_relayRx :
    (let d := rxm mem3 1 (fmsg 0x4D 0xFF 0 (le 8 9)); withTake d 1 0x4D none (fun e _ => goes (.relayRx 17) d (fun f => f.fold.relays == [5009] && same e f []))) = true := by decide +kernel
def bell : Device := linked2 (fold0 0 2)
def bell2 : Device := (bell.set .FLD_M_STATE 1 2).set .FLD_MEMBERS 0 3
theorem test_memberLost :
    (goes (.memberLost 1) bell2 (fun f => f.num .FLD_M_STATE 1 == 3 && f.num .FLD_LOSSES 0 == 1 && !bit (f.num .FLD_MEMBERS 0) 1 &&
    sameBeside bell2 f [(.FLD_M_STATE, 1), (.FLD_LOSSES, 0), (.FLD_MEMBERS, 0), (.FLD_TJ_MAX, 0)])) = true := by decide +kernel
theorem test_timeReqRx :
    (let d := rxm bell 2 (fmsg 0x41 0 1 (0 :: le 10 777)); withTake d 2 0x41 (some 0) (fun e x => goes (.timeReqRx 17 5 6) d (fun f => f == (e.nextMseq 2).2.sendNext 17 x.src 0x41 (e.fold.mseq.getD 2 0) ([1] ++ le 10 5 ++ le 10 6)))) = true := by decide +kernel
theorem test_watchdogExpire :
    (goes .watchdogExpire up (fun e => e.wdog && bit (e.num .FLT_ACTIVE 0) 9 &&
    sameBeside up e [(.FLT_ACTIVE, 0), (.FLT_LATCHED, 0), (.FLT_RAISED, 0), (.FLT_LAST, 0), (.FLT_LAST_TIME, 0)])) = true := by decide +kernel
theorem test_dieTempRead :
    (let l := 100 * 16; [l, 32767].all (fun raw => let v := toSigned 16 raw; goes (.dieTempRead raw) up (fun e => e == (((((up.begin.setI .PWR_TJ 0 v).setI .PWR_TJ_PEAK 0 v).faultOn .tjWarn).faultOn .tjMax).force (fun f => { f with tj := true }))))) = true := by decide +kernel
def ran : Device := { (up.set .DEV_STATE 0 3).set .CH_ENABLE 0 1 with wdog := true, ctr := { slot := 5, seq := 7, boot := 9, heftGen := 2 }, staged := up.staged, fuses := { svnMin := 70000 }, jrn := { up.jrn with kept := up.jrn.kept }, tick := 99 }
def after0 (e : Device) (cause : Nat) : Bool := e.num .PWR_RESET_CAUSE 0 == cause && e.num .DEV_FW_SVN_MIN 0 == 70000 % 2 ^ 16 && e.live.all (fun x => x.1.reg == .PWR_RESET_CAUSE || x.1.reg == .DEV_FW_SVN_MIN) && e.staged == [] && e.ident == ran.ident && e.fuses == ran.fuses && e.ctr == ran.ctr && e.sess == [] && e.pend == [] && e.dram == [] && e.clk == {}
theorem test_thermalTrip :
    (goes .thermalTrip ran (fun e => after0 e 16 && e.bring == .held && e.thermalHeld && e.jrn == { kept := ran.jrn.kept })) = true := by decide +kernel
def free0 : Device := up.set .TWI_BUS_STATE 0 0
def slot0 : Device := ((free0.set .TWI_T_ADDR 0 0x21).setOct .TWI_T_WR 0 [1, 2]).set .TWI_T_RD_LEN 0 4
theorem test_twiTGo :
    (goes (.twiTGo 1 1) slot0 (fun e => e.num .TWI_T_STATUS 0 == 1 && same slot0 e [(.TWI_T_STATUS, 0)] && e.outs == [.result 0] &&
    e.twi == { slot0.twi with pending := [{ who := 2, addr := 0x21, wr := [1, 2], rd := 4, pec := slot0.on .TWI_T_PEC 0 }] })) = true := by decide +kernel
def r2 (rd : Nat) (pec : Bool) : TwiReq := { who := 2, addr := 0x21, wr := [1, 2], rd := rd, pec := pec }
def inTx (rd : Nat) (pec : Bool) : Device := { up.set .TWI_BUS_STATE 0 2 with twi := { up.twi with cur := some (r2 rd pec) } }
theorem test_twiTransactionEnd :
    (goes (.twiTransactionEnd 0 0 300 0 [9, 8, 7]) (inTx 2 true) (fun e => e.num .TWI_T_STATUS 0 == 7 && e.num .TWI_BUS_STATE 0 == 0)) = true := by decide +kernel
theorem test_twiFlagClear :
    (let d := up.set .TWI_FLAGS 0 15; (List.range 16).all (fun m => goes (.twiFlagClear 1 m) d (fun e => (List.range 4).all (fun k => bit (e.num .TWI_FLAGS 0) k == (bit (d.num .TWI_FLAGS 0) k &&
    !bit m k)) && same d e [(.TWI_FLAGS, 0)] && e.outs == [.result 0]))) = true := by decide +kernel

/-! ## What meets the hypotheses of the obligations -/

/-! ### WritesFollowTheirChecks -/

theorem meets_WritesFollowTheirChecks :
    (up.Reaches 1 ∧ up.heldNow = false ∧ up.num .FLD_STATE 0 ≠ 1 ∧ up.findObj 0x1010 0x02 = some ⟨.DEV_RUN_REQ, 0⟩ ∧ Reg.DEV_RUN_REQ.row.acc = .rws ∧
    Reg.DEV_RUN_REQ.row.ty.size = some 1 ∧ up.classRefused ⟨.DEV_RUN_REQ, 0⟩ = false ∧ numInRange ⟨.DEV_RUN_REQ, 0⟩ 0 = true ∧
    up.hallFixed ⟨.DEV_RUN_REQ, 0⟩ (.num 0) = false) ∧
    (up.findObj 0x1010 0xFF = none ∧ up.findObj 0x1010 0x01 = some ⟨.DEV_STATE, 0⟩ ∧ Reg.DEV_STATE.row.acc.unwritable = true ∧ lengthOk .DEV_RUN_REQ 2 = false ∧
    inRange ⟨.DEV_RUN_REQ, 0⟩ (decodeVal .u8 [2]) = false) := by
  refine ⟨?_, ?_⟩ <;> decide +kernel

/-! ### SessionsOpenAndEnd -/

def full : Device := { up with sess := (List.range 1023).map (fun i => { n := i + 1, peer := [1, 2, 3, 4], port := 1, lastRx := 0 }) }
def ses1 : Session := { n := 1, peer := [192, 168, 10, 2], port := 5000, lastRx := 0 }
theorem meets_SessionsOpenAndEnd :
    (WF.dapOpen openReq = true ∧ up.dapAddressed openReq = true ∧ up.lastAccess ≤ 1024 ∧ up.num .PWR_STATE 0 ≠ 2 ∧ up.triage openReq = .take [] ∧ up.session 3 = none ∧
    [1, 2].all (fun m => (up.session m).isSome) = true) ∧
    (full.dapAddressed openReq = true ∧ full.triage openReq = .take []) ∧
    (WF.dapClose (req 2 5 0 0 []) = true ∧ up.Hears (req 2 5 0 0 []) ses1 []) ∧
    (WF.dapKeepalive (req 3 5 0 0 []) = true ∧ up.Hears (req 3 5 0 0 []) ses1 []) ∧
    (up.Reaches 1 ∧ bus.Reaches 0 ∧ bus.Reaches 2) := by
  refine ⟨?_, ?_, ?_, ?_, ?_⟩ <;> decide +kernel

/-! ### ReadsReturnTheValue -/

def rd1 := req 0x10 1 1 0 (item 0x1000 1 [])
def rd2 := req 0x12 1 1 0 (item 0x10F0 0 [])
def rd3 := req 0x12 1 1 0 (item 0x1000 0 [])
def rd4 := req 0x13 1 1 0 (item 0x1000 1 (le 4 2))
theorem meets_ReadsReturnTheValue :
    (WF.dapRead rd1 = true ∧ up.Hears rd1 ses1 [⟨0x1000, 1, []⟩] ∧ up.findObj 0x1000 1 = some ⟨.DEV_VENDOR, 0⟩ ∧ Reg.DEV_VENDOR.row.acc.unreadable = false ∧
    (encodeVal Reg.DEV_VENDOR.row.ty ((up.heard rd1).viewVal (bit (dapFlags rd1.payload) 0) ⟨.DEV_VENDOR, 0⟩)).length ≤ dapLimit rd1.peer - 22) ∧
    (WF.dapReadIndex rd2 = true ∧ up.Hears rd2 ses1 [⟨0x10F0, 0, []⟩] ∧ (up.findObj 0x10F0 0).isSome = false) ∧
    (WF.dapReadIndex rd3 = true ∧ up.Hears rd3 ses1 [⟨0x1000, 0, []⟩]) ∧
    (WF.dapReadSeg rd4 = true ∧ up.Hears rd4 ses1 [⟨0x1000, 1, le 4 2⟩] ∧ Reg.DEV_VENDOR.row.ty.size = none ∧
    2 < ((up.heard rd4).viewVal (bit (dapFlags rd4.payload) 0) ⟨.DEV_VENDOR, 0⟩).toOctets.length) := by
  refine ⟨?_, ?_, ?_, ?_⟩ <;> decide +kernel

/-! ### WritesAnswerEachItem -/

def wr1 := req 0x11 1 1 0 (item 0x1010 2 [0])
def wr2 := req 0x14 1 1 0 (item 0x1100 7 (le 4 0 ++ [1, 2, 3, 4, 5, 6, 7, 8]))
def wr3 := req 0x14 2 1 8 (item 0x1100 7 (le 4 0 ++ List.replicate 16 9))
theorem meets_WritesAnswerEachItem :
    (WF.dapWrite wr1 = true ∧ up.Hears wr1 ses1 [⟨0x1010, 2, [0]⟩] ∧ ((up.heard wr1).write 1 0x1010 2 [0]).2.closing = false ∧
    ((up.heard wr1).write 1 0x1010 2 [0]).2.resetDue = false) ∧
    (WF.dapWriteSeg wr2 = true ∧ up.Hears wr2 ses1 [⟨0x1100, 7, le 4 0 ++ [1, 2, 3, 4, 5, 6, 7, 8]⟩] ∧ up.findObj 0x1100 7 = some ⟨.COM_IP6_ADDR, 0⟩ ∧
    up.classRefused ⟨.COM_IP6_ADDR, 0⟩ = false ∧ Reg.COM_IP6_ADDR.row.ty = .blob ∧ 16 ≤ Reg.COM_IP6_ADDR.maxLen ∧ bit (dapFlags wr2.payload) 3 = false) ∧
    (WF.dapWriteSeg wr3 = true ∧ up.Hears wr3 ses1 [⟨0x1100, 7, le 4 0 ++ List.replicate 16 9⟩] ∧ bit (dapFlags wr3.payload) 3 = true) ∧
    ((let r := ((up.heard wr3).modSession 1 (fun y => { y with seg := none })).writeObj 1 ⟨.COM_IP6_ADDR, 0⟩ (List.replicate 16 9); r.2.closing = false ∧
    r.2.resetDue = false) ∧ ses1.seg = none ∧ 16 ≤ Reg.COM_IP6_ADDR.maxLen) := by
  refine ⟨?_, ?_, ?_, ?_⟩ <;> decide +kernel

/-! ### RequestsThatAreNotExecuted -/

def repeated : Device := { up with sess := [{ n := 1, peer := [192, 168, 10, 2], port := 5000, lastRx := 0, lastSeq := some 5, lastResp := [9, 9] }] }
def up0 : Datagram := req 3 1 0 0 []
theorem meets_RequestsThatAreNotExecuted :
    (WF.dapOp 3 (req 3 5 0 0 []) = true ∧ repeated.dapAddressed (req 3 5 0 0 []) = true ∧ repeated.lastAccess ≤ dapSession (req 3 5 0 0 []).payload ∧
    repeated.triage (req 3 5 0 0 []) = .take [] ∧ dapSeq (req 3 5 0 0 []).payload = 5 ∧ serialDiff 32 (dapSeq (req 3 4 0 0 []).payload) 5 < 0) ∧
    (WF.dgram { (req 3 1 0 0 []) with payload := [2] } = true ∧ up.dapAddressed { (req 3 1 0 0 []) with payload := [2] } = true) ∧
    ((repeated.session 1).map (fun x => x.lastSeq) = some (some 5) ∧ (repeated.triage (req 3 4 0 0 []) = .take []) ∧ octet ([1] ++ List.replicate 15 7) 0 ≠ 2 ∧
    WF.dgram { (req 3 1 0 0 []) with payload := [1] ++ List.replicate 15 7 } = true ∧ 16 ≤ dapLimit up0.peer) := by
  refine ⟨?_, ?_, ?_⟩ <;> decide +kernel

/-! ### SubscriptionsPush -/

def sb1 := req 0x20 1 1 0 (item 0x1010 1 ([0] ++ le 4 1000))
def sb2 := req 0x21 2 1 0 (item 0x1010 1 [])
def sub1 : Subscription := { key := ⟨.DEV_STATE, 0⟩, periodic := true, interval := 1000, lastTick := 0, lastVal := .num 7 }
def subbed : Device := { up with tick := 1000, sess := [{ n := 1, peer := [192, 168, 10, 2], port := 5000, lastRx := 0, subs := [sub1] }] }
theorem meets_SubscriptionsPush :
    (WF.dapSubscribe sb1 = true ∧ up.Hears sb1 ses1 [⟨0x1010, 1, [0] ++ le 4 1000⟩] ∧ up.findObj 0x1010 1 = some ⟨.DEV_STATE, 0⟩ ∧ Reg.DEV_STATE.row.acc.unreadable = false) ∧
    (WF.dapUnsubscribe sb2 = true ∧ subbed.Hears sb2 { ses1 with subs := [sub1] } [⟨0x1010, 1, []⟩]) ∧
    (subbed.dapServed 0 = true ∧ subbed.begin.pushDue sub1 = true ∧ (encodeVal sub1.key.reg.row.ty (subbed.begin.liveVal sub1.key)).length + 22 ≤ dapLimit ses1.peer) := by
  refine ⟨?_, ?_, ?_⟩ <;> decide +kernel

/-! ### BarZeroWindow -/

def bulk := bus.set .COM_BAR0_BULK_SEL 0 0x110007
theorem meets_BarZeroWindow :
    (bus.bar0Up = true ∧ slotOffset 0x1100 1 = some 0x40004 ∧ (bus.findObj 0x1100 1).map (fun k => k.reg.row.ty) = some .u48) ∧
    (bulk.Reaches 0 ∧ bulk.heldNow = false ∧ bulk.num .COM_BAR0_BULK_SEL 0 = 0x110007) ∧
    (WF.bar0ReachabilityChange 3 4 ⟨true, false⟩ = true ∧ bus.lastAccess = 0) ∧
    (up.pcie.perst = false ∧ up.rings = [] ∧ up.reachable = true ∧ up.sdUp = true ∧ up.num .COM_DAP_PORTS 0 ≠ 0 ∧ (up.set .COM_DAP_PORTS 0 0).num .COM_DAP_PORTS 0 = 0) := by
  refine ⟨?_, ?_, ?_, ?_⟩ <;> decide +kernel

/-! ### CommitsAndHandOvers -/

def pending1 : Device := { up with pend := [{ scope := .device, gen := 1, values := [], since := 0 }] }
theorem meets_CommitsAndHandOvers :
    (staged.pendOf .device = none ∧ staged.released = [] ∧ staged.genStaged .device = 1 ∧
    (staged.asked 1).inconsistent .device ((staged.asked 1).changedKeys .device) = ([], false)) ∧
    (up.pendOf (.channel 15) = none ∧ up.genStaged (.channel 15) = 1 ∧ up.on .CH_CAMSET_BUSY 15 = false ∧
    (up.asked 1).inconsistent (.channel 15) ((up.asked 1).changedKeys (.channel 15)) = ([], false) ∧ up.ident.hasChan 15 = true) ∧
    (waiting.num .FLD_COMMIT_AT 0 = 0 ∧ waiting.pointWaits = false) ∧
    (pending1.Reaches 1 ∧ (pending1.pendOf .device).isSome = true ∧ (∀ m : Nat, m < 16 → up.on .CH_CAMSET_BUSY m = false) ∧ up.genStaged .device ≠ 2 ∧ up.Reaches 1 ∧
    up.heldNow = false ∧ up.num .FLD_STATE 0 ≠ 1) ∧
    ((waiting.pendOf .device).isSome = true ∧ (waiting.pendOf (.channel 15)).isSome = true ∧ Store.rising [((⟨.DEV_RUN_REQ, 0⟩ : Key), Val.num 0)] = true ∧
    (⟨.DEV_RUN_REQ, 0⟩ : Key).inScope .device = true ∧ (⟨.CH_ENABLE, 15⟩ : Key).inScope (.channel 15) = true) := by
  refine ⟨?_, ?_, ?_, ?_, ?_⟩ <;> decide +kernel

/-! ### NonVolatileStore -/

def dirty : Device := { up with tick := 5, nvs := { up.nvs with dirty := true } }
def img1 : Octets := nvsImage 9 0 []
def saving : Device := { up with nvs := { up.nvs with saving := some (1, img1) } }
theorem meets_NonVolatileStore :
    (dirty.on .NVS_AUTO 0 = true ∧ dirty.nvs.autoAt = none) ∧
    (bankOk img1 = true) ∧
    (up.Reaches 1 ∧ up.heldNow = false ∧ up.nvs.saving = none ∧ erased.nvs.erased = true ∧ erased.num .NVS_STATE 0 = 4 ∧ dirty.nvs.dirty = true ∧ dirty.nvs.erased = false ∧
    saving.nvs.held = false ∧ saving.nvs.eraseWaits = false) := by
  refine ⟨?_, ?_, ?_⟩ <;> decide +kernel

/-! ### LaneTimeLimits -/

def asking (st c : Nat) : Device := laneIn 0 st 0 (fun x => { x with change := some { target := 1, count := c, preset := 1 } })
theorem meets_LaneTimeLimits :
    (up.lanes.length = 36) ∧
    ([LS.ident, LS.train1, LS.relock, LS.train2, LS.recover].all (fun st => [0, 35].all (fun l => (laneIn l st 1 id).lstate l == st)) = true ∧ up.lstate 0 ≠ LS.ident) ∧
    (((asking LS.step1 3).lane 0).change = some { target := 1, count := 3, preset := 1 } ∧ (asking LS.step1 3).lstate 0 = LS.step1 ∧ (asking LS.step2 3).lstate 0 = LS.step2) := by
  refine ⟨?_, ?_, ?_⟩ <;> decide +kernel

/-! ### LanesClimb -/

def identCam : Octets := [1, 0, 0, 0, 65, 66, 67, 68, 69, 70, 71, 72, 2, 0, 2, 0, 0, 0]
def f2 := frame 2 identCam
def low2 : Device := (laneIn 0 LS.low 1 (fun x => { x with ident := some identCam })).set .LNK_RUNG_MAX 0 2
def low3 : Device := (laneIn 0 LS.low 1 (fun x => { x with retryWait := true, ident := some (overlay identCam 14 [3]) })).set .LNK_RUNG_MAX 0 3
def failed2 (c g : Nat) : Device := { up.set .FLT_ACTIVE 0 4 with refs := [{ inUse := true }, { inUse := true }, { failed := true, cycles := c, good := g }] }
theorem meets_LanesClimb :
    (WF.frame f1 = true ∧ frameIs 0x01 f1 = true ∧ frameIs 0x02 f2 = true ∧ Device.capable 0 (slice f2 4 26) = true ∧ up.sdUp = true) ∧
    (octet identCam 14 % 4 = 2 ∧ octet (overlay identCam 14 [3]) 14 % 4 = 3) ∧
    ((laneIn 0 LS.seek 0 (fun x => { x with comma := true })).lstate 0 = LS.seek ∧ ((laneIn 0 LS.seek 0 (fun x => { x with comma := true })).lane 0).comma = true ∧
    (laneIn 0 LS.step1 1 id).lrung 0 = 1) ∧
    (low2.leads 0 = true ∧ low2.lstate 0 = LS.low ∧ (low2.lane 0).retryWait = false ∧ (low2.lane 0).test = none ∧ (low2.lane 0).ident = some identCam ∧
    low2.num .LNK_RUNG_MAX 0 = 2 ∧ (low2.lane 0).failed2 = false) ∧
    (low3.lstate 0 = LS.low ∧ (low3.lane 0).retryWait = true ∧ (low3.lane 0).ident = some (overlay identCam 14 [3]) ∧ low3.num .LNK_RUNG_MAX 0 = 3) ∧
    ((asking LS.step1 8).leads 0 = true ∧ ((laneIn 0 LS.low 1 id).lane 0).change = none ∧ up.num .FLD_ID 0 ≤ octet f2 21 ∧
    ((asking LS.step1 8).lane 0).change = some { target := 1, count := 8, preset := 1 } ∧
    ((asking LS.step1 2).lane 0).change = some { target := 1, count := 2, preset := 1 }) ∧
    (frameIs 0x03 (frame 3 [2, 8, 1]) = true ∧ octet (frame 3 [2, 8, 1]) 4 = 2 ∧ octet (frame 3 [2, 8, 1]) 5 = 8 ∧ frameIs 0x03 (frame 3 [4, 8, 1]) = true ∧
    4 ≤ octet (frame 3 [4, 8, 1]) 4 ∧ frameIs 0x04 (frame 4 [1, 8]) = true ∧ octet (frame 4 [1, 8]) 4 = 1 ∧ WF.frame (frame 4 [1, 8]) = true) := by
  refine ⟨?_, ?_, ?_, ?_, ?_, ?_, ?_⟩ <;> decide +kernel

/-! ### LanesFallBack -/

def noise : List Nat := List.replicate 699040 0
def serving : Device := laneIn 0 LS.service 2 (fun x => { x with marker := true, missed := 3 })
theorem meets_LanesFallBack :
    ((superframe 0 noise).1 = false) ∧
    (serving.lstate 0 = LS.service ∧ (serving.lane 0).marker = true ∧ (serving.lane 0).missed = 3 ∧ bit (serving.num .LNK_SLEEP_STATE 0) 1 = false ∧
    frameIs 0x08 (frame 8 [3]) = true ∧ octet (frame 8 [3]) 4 ≠ 1 ∧ WF.frame (frame 8 [3]) = true) ∧
    ((laneIn 0 LS.low 1 id).lrung 0 ≤ 1 ∧ (laneIn 0 LS.low 1 id).lstate 0 ≠ LS.off) := by
  refine ⟨?_, ?_, ?_⟩ <;> decide +kernel

/-! ### EqualiserExchange -/

def eqf : Octets := frame 5 [0, 2, 0, 0, 0, 0, 1, 2, 3, 4]
def tr1 (f : Lane → Lane) : Device := laneIn 0 LS.train1 1 f
theorem meets_EqualiserExchange :
    (WF.frame eqf = true ∧ frameIs 0x05 eqf = true ∧ octet eqf 4 = 0 ∧ octet eqf 5 = 2 ∧ (tr1 id).lstate 0 = LS.train1 ∧ ((tr1 id).lane 0).eqStatus = 0 ∧
    ((tr1 id).lane 0).ready = false) ∧
    ((let d := tr1 (fun x => { x with eqAcked := false, eqTimeouts := 1 }); (d.lane 0).eqAcked = false ∧ (d.lane 0).eqTimeouts < 2) ∧
    (let d := tr1 (fun x => { x with eqAcked := false, eqTimeouts := 2 }); (d.lane 0).eqAcked = false ∧ 2 ≤ (d.lane 0).eqTimeouts)) ∧
    (let d := laneIn 0 LS.train2 2 (fun x => { x with preset := 3, rotations := 2 }); d.lstate 0 = LS.train2 ∧ (d.lane 0).marker = false ∧ (d.lane 0).rotations < 3 ∧
    (d.lane 0).preset = 3) ∧
    (let d := tr1 (fun x => { x with comma := true, eqAcked := true }); (d.lane 0).comma = true ∧ (d.lane 0).eqAcked = true ∧ (d.lane 0).violMark = d.num .LNK_CODE_VIOL 0 ∧
    (d.lane 0).readyGot < 3) := by
  refine ⟨?_, ?_, ?_, ?_⟩ <;> decide +kernel

/-! ### LaneTests -/

def locked : Device := { (slave.set .TIM_SRC 0 1).set .TIM_SERVO_STATE 0 2 with ptp := { slave.ptp with foreign := [foreign0] } }
def checking : Device := testing.modLane 0 (fun x => { x with checker := { reg := 5, filled := 64, locked := true } })
def askedT (code : Nat) : Device := laneIn 0 LS.low 1 (fun x => { x with test := some { code := code, ms := 10, far := false, running := false, saved := 7 } })
theorem meets_LaneTests :
    (testFrame 2 (frame 7 [1, 10, 0, 2]) = true ∧ testFrame 3 (frame 7 [1, 10, 0, 3]) = true ∧ testFrame 1 (frame 7 [2, 10, 0, 1]) = true) ∧
    ((laneIn 0 LS.low 1 id).Reaches 1 ∧ (laneIn 0 LS.low 1 id).heldNow = false ∧ (laneIn 0 LS.low 1 id).lstate 0 = LS.low ∧ ((laneIn 0 LS.low 1 id).lane 0).change = none ∧
    testing.lstate 0 = LS.test ∧ testing.Reaches 1 ∧ testing.heldNow = false) ∧
    (((askedT 4).lane 0).test = some { code := 4, ms := 10, far := false, running := false, saved := 7 } ∧
    (testing.lane 0).test = some { code := 1, ms := 10, far := false, running := true, saved := 7 } ∧ testing.lrung 0 = 1) ∧
    ((checking.lane 0).checker.locked = true ∧ (checking.lane 0).checker.recent = [] ∧ (checking.lane 0).checker.reg = 5 ∧ checking.lrung 0 = 1 ∧
    1 - prbsNext 1 5 ≠ prbsNext 1 5) := by
  refine ⟨?_, ?_, ?_, ?_⟩ <;> decide +kernel

/-! ### LanesSleepAndWake -/

def srv := laneIn 0 LS.service 2 id
def slp (k : Nat) := srv.set .LNK_SLEEP_STATE 0 k
def resting : Device := srv.set .DEV_STATE 0 3
def changing : Device := srv.modLane 0 (fun x => { x with change := some { target := 1, count := 4, preset := 1 } })
def nodding : Device := laneIn 0 LS.low 1 (fun x => { x with tx := { x.tx with closing := true, rung := 1 } })
theorem meets_LanesSleepAndWake :
    (sleepFrame 1 (frame 6 [1, 1]) = true ∧ sleepFrame 2 (frame 6 [2, 0]) = true ∧ sleepFrame 3 (frame 6 [3, 0]) = true ∧ sleepFrame 4 (frame 6 [4, 0]) = true ∧
    sleepFrame 5 (frame 6 [5, 1]) = true) ∧
    (resting.lstate 0 ≠ LS.off ∧ resting.lrung 0 ≠ 0 ∧ resting.laneBusy 0 = false ∧ resting.busyTx 0 = false ∧ resting.num .LNK_SLEEP_STATE 0 = 0 ∧
    resting.mayFarSleep 0 = true ∧ (resting.lane 0).sleepReq = none) ∧
    (changing.laneBusy 0 = true ∧ changing.lstate 0 ≠ LS.off ∧ (changing.lane 0).sleepReq = none) ∧
    (nodding.num .LNK_SLEEP_STATE 0 = 0 ∧ (nodding.lane 0).tx.rung = nodding.lrung 0 ∧ (nodding.lane 0).tx.hush = 0 ∧ (nodding.lane 0).tx.closing = true ∧
    (nodding.lane 0).tx.drained = true ∧ (nodding.lane 0).tx.chars = [] ∧ (nodding.lane 0).tx.pattern = false) ∧
    (octet (frame 6 [1, 1]) 5 = 1 ∧ octet (frame 6 [1, 0]) 5 = 0 ∧ octet (frame 6 [5, 1]) 5 = 1 ∧ WF.frame (frame 6 [1, 1]) = true ∧ sleepFrame 1 (frame 6 [1, 0]) = true ∧
    ((srv.modLane 0 (fun x => { x with sleepReq := some (0, 8) })).lane 0).sleepReq = some (0, 8) ∧ srv.num .LNK_SLEEP_STATE 0 = 0 ∧ srv.lstate 0 ≠ LS.off) ∧
    ((slp 1).num .LNK_SLEEP_STATE 0 = 1 ∧ (slp 2).num .LNK_SLEEP_STATE 0 = 2 ∧ (resting.set .LNK_TX_SLEEP_AUTO 0 1).on .LNK_TX_SLEEP_AUTO 0 = true ∧
    (resting.set .LNK_TX_SLEEP_AUTO 0 1).maySleep 0 = true) ∧
    (let d := laneIn 0 LS.low 1 (fun x => { x with wakeWait := true }); (d.lane 0).wakeWait = true ∧ d.lrung 0 = 1) := by
  refine ⟨?_, ?_, ?_, ?_, ?_, ?_, ?_⟩ <;> decide +kernel

/-! ### PacketsAndCredits -/

def cred : Device := linked 2 (fun x => { x with rx := modAt x.rx 2 (fun r => { r with released := [pk 0x3D (le 4 100 ++ List.replicate 12 0)] }), tx := modAt x.tx 0 (fun t => { t with cr := [{ used := 5, limit := 50 }, {}] }) })
def tpk : Device := linked 2 (fun x => { x with rx := modAt x.rx 3 (fun r => { r with released := [pk 0x3F []], cr := [{ freed := 7 }, {}] }) })
theorem meets_PacketsAndCredits :
    (rxd.linkOfLane 0 = some 0 ∧ (rxd.link 0).usable.any (fun e => e.1 == 0) = true ∧ (rxd.link 0).rx.length = 4 ∧ (rxd.rxOf 0 1).held = [] ∧
    (rxd.rxOf 0 1).expect < 2 ^ 32 ∧ (rxd.rxOf 0 1).cr = [{ used := 0, limit := 256 }, {}] ∧ rxd.lrung 0 = 1 ∧ pay16.length = 16 ∧ (0 : Nat) < rxd.links.length) ∧
    (WF.packetRx 0 (some ([0x5D, 0, 0, 0, 0, 0, 0, 0, 0, 0, 0, 0], 5)) = true) ∧
    ((cred.txOf 0 0).cr = [{ used := 5, limit := 50 }, {}] ∧ (List.range 4).all (fun vc => (cred.txOf 0 vc).waiting == []) = true ∧
    0 < serialDiff 32 (leAt (le 4 100 ++ List.replicate 12 0) 0 4) 50 ∧ (cred.link 0).credited = true) ∧
    ((tpk.link 0).up = true ∧ (tpk.link 0).usable = [(0, 1)] ∧ (tpk.link 0).tx.length = 4) ∧
    (let d := rxd.modRx 0 1 (fun r => { r with expect := 2 ^ 32 - 1 }); (d.rxOf 0 1).expect = 2 ^ 32 - 1 ∧ (d.rxOf 0 1).held = [] ∧ d.linkOfLane 0 = some 0) ∧
    ([1, 2, 3].all (fun vc => ((loss vc).rxOf 0 vc).held == [(((loss vc).rxOf 0 vc).expect + 5, pk 0x38 pay16)]) = true) ∧
    ((cred.rxOf 0 2).released = [pk 0x3D (le 4 100 ++ List.replicate 12 0)] ∧ (tpk.rxOf 0 3).released = [pk 0x3F []] ∧ (tpk.rxOf 0 3).cr = [{ freed := 7 }, {}]) := by
  refine ⟨?_, ?_, ?_, ?_, ?_, ?_, ?_⟩ <;> decide +kernel

/-! ### CameraLinesAndReports -/

def lineOcts (d : Device) : Octets := le 4 7 ++ le 4 55 ++ le 6 1000 ++ le 2 300 ++ List.replicate (sampleOctets (d.chPixels 0) 1 14) 3
def lineDev : Device := let d := linked 3 (fun x => { x with sent := [(7, 0x22, 0)] }); d.modLink 0 (fun x => { x with rx := modAt x.rx 0 (fun r => { r with released := [pk 0x22 (lineOcts d)] }) })
theorem meets_CameraLinesAndReports :
    (lineDev.num .CH_LINK_STATE 0 = 3 ∧ (lineDev.link 0).asm = none ∧ ((lineDev.link 0).hist.getD 0 {}).lastLine = none ∧ (lineDev.link 0).hist.length = 2 ∧
    (lineOcts lineDev).length = 16 + sampleOctets (lineDev.chPixels 0) 1 14 ∧ (lineDev.link 0).sent.any (fun e => e.1 == leAt (lineOcts lineDev) 0 4 &&
    e.2.1 == 0x22) = true) ∧
    (1 ≤ darkDev.chDark 0 ∧ darkOcts.length = 16 + sampleOctets (darkDev.chDark 0) 1 14 ∧ (darkDev.link 0).black = [none, none, none]) ∧
    ((lineDev.rxOf 0 0).released = [pk 0x22 (lineOcts lineDev)] ∧ (darkDev.rxOf 0 0).released = [pk 0x2F darkOcts] ∧ (darkDev.link 0).lineDt = 0x22) ∧
    (((repDev 1 0x30 (le 4 3 ++ le 4 77 ++ le 4 9 ++ le 4 7) id).rxOf 0 1).released = [pk 0x30 (le 4 3 ++ le 4 77 ++ le 4 9 ++ le 4 7)] ∧
    ((repDev 1 0x31 [1, 2, 3, 4] id).rxOf 0 1).released = [pk 0x31 [1, 2, 3, 4]]) := by
  refine ⟨?_, ?_, ?_, ?_⟩ <;> decide +kernel

/-! ### CameraControl -/

def echoDev : Device := { linked 3 (fun x => { x with tag := 9, tx := modAt x.tx 2 (fun t => { t with cr := [{ used := 0, limit := 8 }, {}] }) }) with clk := { sec := 3 } }
theorem meets_CameraControl :
    ((ans 7 5 (le 4 64 ++ [3]) [] id).rxOf 0 2 = { released := [pk 0x38 (ansB 7 5 [])] } ∧ (ans 7 5 [] [] id).links.length = 18) ∧
    (echoDev.mayStart 0 2 { dt := 0x39, ctl := 0, cls := 0, payload := le 2 10 ++ [0x05, 0] ++ le 6 0 } = true ∧ (echoDev.link 0).usable = [(0, 1)] ∧
    (List.range 4).all (fun vc => (echoDev.txOf 0 vc).waiting == []) = true) ∧
    (((ans 3 4 (le 4 77) [] (fun x => { x with sentArgs := [(76, []), (77, [1, 2])] })).link 0).sentArgs.find? (fun e => e.1 == 77) = some (77, [1, 2])) ∧
    ((linked 3 id).ident.hasChan 0 = true ∧ (linked 3 id).Reaches 1 ∧ (linked 3 id).num .CH_CREG_STATUS 0 ≠ 1) ∧
    (((rqDev (rq 2 2 [1] false)).link 0).out = some (rq 2 2 [1] false) ∧ ((rqDev (rq 6 3 [1] false)).link 0).out = some (rq 6 3 [1] false) ∧
    ((rqDev (rq 6 3 [1] false)).link 0).queue = [] ∧ ((rqDev (rq 6 0 [1] true)).link 0).out = some (rq 6 0 [1] true)) ∧
    (let d := (linked 3 id).modLink 0 (fun x => { x with credited := false }); (d.link 0).up = true ∧ (d.link 0).credited = false) ∧
    ([(1, 0), (2, 0), (3, 0), (4, 0), (5, 0), (6, 0), (7, 0), (7, 5)].all (fun z => let d := ans z.1 z.2 [2, 0] [] id; let b := ansB z.1 z.2 []; (d.rxOf 0 2).released == [pk 0x38 b] &&
    octet b 2 == z.1 && octet b 3 == z.2 && (d.link 0).out == some (rq z.1 0 [2, 0] false) && leAt b 0 2 == 9 && (d.link 0).queue == [] &&
    (d.link 0).activateDue.contains 77 == false && (d.link 0).step == 6 && (d.link 0).echoes == []) = true) ∧
    (((linked 3 id).link 0).up = true ∧ 5 ≤ ((linked 3 id).link 0).step ∧ ((linked 3 id).link 0).out = none ∧ ((linked 3 id).link 0).queue = [] ∧
    (linked 3 id).heldNow = false ∧ (up.link 0).up = false ∧ up.num .CH_CREG_STATUS 0 ≠ 1) := by
  refine ⟨?_, ?_, ?_, ?_, ?_, ?_, ?_, ?_⟩ <;> decide +kernel

/-! ### FrontEndLines -/

def draining : Device := (feed 2).modFront 0 (fun f => { f with drainSlices := 1 })
theorem meets_FrontEndLines :
    ((feed 0).num .CH_SLICE_PARTNER 0 = 0xFF ∧ (feed 0).pendOf (.channel 0) = none ∧ (feed 0).num .CH_STATE 0 ≠ 1 ∧ (0 : Nat) < (feed 0).links.length) ∧
    (getKeyed Prod.fst (Nat.min 0 1) sharedDev.sliceLast = some (0, 0) ∧ (sharedDev.link 1).ingest ≠ []) ∧
    (((feed 0).link 0).ingest = [raw1] ∧ (feed 1).num .CH_STATE 0 = 1 ∧ sharedDev.num .CH_SLICE_PARTNER 0 = 1 ∧ (sharedDev.link 0).ingest = [raw1] ∧
    sharedDev.pendOf (.channel 0) = none) ∧
    (draining.num .CH_STATE 0 = 2 ∧ (draining.front 0).enableHeld = false) := by
  refine ⟨?_, ?_, ?_, ?_⟩ <;> decide +kernel

/-! ### GridOrigin -/

theorem meets_GridOrigin :
    (sync.bellwether = true ∧ sync.inFold = false ∧ sync.num .POS_DECSYNC_EDGE 0 = 0 ∧ sync.num .STI_MARK_SRC 0 ≠ 9 ∧ sync.wiredLines = [] ∧
    (List.range 16).all (fun n => sync.on .CH_ENABLE n == false) = true) ∧
    (sync.Reaches 1 ∧ sync.heldNow = false) ∧
    (Device.bellwether { sync with ident := { sync.ident with foldId := 1 } } = false ∧ sync.num .POS_DECSYNC_EN 0 = 1 ∧
    (List.range 16).all (fun n => (((List.range 16).foldl (fun d n => d.set .CH_ENABLE n 1) sync).on .CH_ENABLE n)) = true) := by
  refine ⟨?_, ?_, ?_⟩ <;> decide +kernel

/-! ### EncodersAndTheirEmulation -/

def emud (f : Emu → Emu) : Device := let d := up.set .POS_EMU_ENABLE 2 1; d.modEmu 2 f
theorem meets_EncodersAndTheirEmulation :
    (WF.positionEdge 0 2 1000 = true ∧ (enc 0 0).pos.srcs.length = 3 ∧ (enc 0 0).num .POS_QUALITY 0 ≠ 0 ∧ ((enc 0 0).source 0).code = some 0 ∧
    transition 0 0 2 = .legal true ∧ transition 0 0 1 = .legal false ∧ transition 0 0 3 = .illegal) ∧
    ((enc 0 3).num .POS_SRC_BACKUP 0 = 0xFF ∨ true = true) ∧
    ((enc 0 0).pos.active = some 0 ∧ ((enc 0 2).source 0).run < 3 ∧ (enc 0 2).num .POS_ENC_STATE 0 ≠ 2 ∧ ((enc 0 3).source 0).run = 3 ∧
    ((enc 0 3).set .POS_SRC_BACKUP 0 0xFF).num .POS_SRC_BACKUP 0 = 0xFF ∧ WF.positionEdge 0 3 1000 = true) ∧
    (((emud (fun x => { x with sched := some 700, a := 5, backlog := [(false, 3)] })).emu 2).sched = some 700 ∧
    ((emud (fun x => { x with backlog := [(true, 3), (false, 4)] })).emu 2).backlog = [(true, 3), (false, 4)] ∧ (emud id).num .POS_EMU_ENABLE 2 = 1) := by
  refine ⟨?_, ?_, ?_, ?_⟩ <;> decide +kernel

/-! ### PositionSourcesFail -/

def two : Device := (enc 0 0).set .POS_SRC_BACKUP 0 1
def coast : Device := ((enc 0 0).set .POS_QUALITY 0 3).modPos (fun x => { x with vNum := 655360, vDen := 1000, coastNum := 655360, coastDen := 1000, coastP := 77, coastT := 50, active := none })
theorem meets_PositionSourcesFail :
    (two.num .POS_SRC_BACKUP 0 = 1 ∧ two.num .POS_ENC_STATE 1 ≠ 2 ∧ two.num .POS_ENC_STATE 0 ≠ 2) ∧
    (dead0.Reaches 1 ∧ dead0.heldNow = false) ∧
    (WF.indexPulse 1 900 = true) ∧
    (two.num .POS_QUALITY 0 ≠ 0 ∧ two.pos.active = some 0 ∧ dead0.num .POS_ENC_STATE 0 = 2 ∧ coast.num .POS_QUALITY 0 = 3 ∧ (enc 0 0).num .POS_STOPPED 0 < 2 ∧
    ((enc 0 0).set .POS_STOPPED 0 0).num .POS_STOPPED 0 = 0 ∧ (enc 0 0).num .POS_QUALITY 0 ≠ 3 ∧ ((enc 0 0).set .POS_ENC_Z_MODE 1 1).num .POS_ENC_Z_MODE 1 = 1) := by
  refine ⟨?_, ?_, ?_, ?_⟩ <;> decide +kernel

/-! ### StitchingAndItsMarks -/

def geoA : Geo := { a0 := 0, a1 := 0x0A000000, first := 0, last := 63, pitch := 0x0A0000 }
def outl (j : Nat) : OutLine := { j := j, y := 1000, t := 5, q := 0, blind := false, bin := false, gen := 7, line := 55, temp := 300, planes := [List.replicate 64 900], geo := geoA }
def stDev (f : Stitch → Stitch) : Device := ((((up.set .CH_STI_SET 0 0).set .CH_STATE 0 1).set .STI_SET_WIDTH 0 64)).modSt 0 f
def one : Device := stDev (fun x => { x with pitch := 0x0A0000, next := some 5, waiting := [(0, outl 5), (0, outl 6)] })
def lacks : Device := ((stDev (fun x => { x with pitch := 0x0A0000, next := some 5, waiting := [(0, outl 5)] })).set .CH_STI_SET 1 0).set .CH_STATE 1 1
def ovl (n : Nat) : Overlap := { left := 0, right := 1, lines := n, sums := (List.range 17).map (fun i => if i = 9 then 100 else if i = 10 then 40 else if i = 8 then 50 else 1) }
def ovd (n : Nat) : Device := stDev (fun x => { x with overlaps := [ovl n] })
def marks : Device := { up.set .STI_MARK_SRC 0 1 with rep := { opened := true, starts := [{ k := 4, y := 99, e := 10 }] } }
theorem meets_StitchingAndItsMarks :
    (one.currentJ 0 = some 5 ∧ one.stitch.length = 8 ∧ (one.lineReady 0 5).1 = [(0, outl 5)] ∧ (one.lineReady 0 5).2 = ([], true)) ∧
    (overlapPeak (ovl 1).sums ≠ none ∧ ((overlapPeak (ovl 1).sums).getD 0).natAbs < 2 ^ 15 ∧ 0 < (ovd 0).num .STI_REFINE_LINES 0 ∧ (ovl 0).delta = none) ∧
    (marks.followsRepeats = false ∧ marks.inFold = false) ∧
    (one.takeGrid 0 = one ∧ Device.rowDue 5 (one.st 0).buf.getLast? = false ∧ (lacks.lineReady 0 5).2.2 = false ∧ lacks.currentJ 0 = some 5 ∧ lacks.takeGrid 0 = lacks ∧
    Device.rowDue 5 (lacks.st 0).buf.getLast? = false) ∧
    ((ovd 1000000).num .CH_STI_SET 0 = 0 ∧ ((ovd 1000000).st 0).overlaps.filter (fun p => p.left = 0 && (ovd 1000000).num .STI_REFINE_LINES 0 ≤ p.lines) = [ovl 1000000] ∧
    ((ovd 0).st 0).overlaps = [ovl 0]) ∧
    (marks.num .STI_MARK_SRC 0 ≠ 0 ∧ marks.rep.opened = true ∧ marks.rep.starts = [{ k := 4, y := 99, e := 10 }] ∧ (marks.set .STI_MARK_SRC 0 0).num .STI_MARK_SRC 0 = 0) := by
  refine ⟨?_, ?_, ?_, ?_, ?_, ?_⟩ <;> decide +kernel

/-! ### LinesAreCompared -/

def lineAt (j : Nat) : StLine := { j := j, y := 1000, t := 5, q := 0, bin := false, planes := [List.replicate 64 900], blind := List.replicate 64 false }
def cmpDev (n : Nat) : Device := { (stDev (fun x => { x with buf := (List.range n).map lineAt, k := some 4, prev := some (lineAt 9) })).set .STI_MARK_SRC 0 1 with rep := { opened := true, starts := [{ k := 4, y := 99, e := 10 }] } }
theorem meets_LinesAreCompared :
    ((cmpDev 129).startOf 1000 = some { k := 4, y := 99, e := 10 } ∧ (cmpDev 129).followsRepeats = false ∧ (cmpDev 129).forceAt 4 = none ∧ (cmpDev 129).seg.sets.length = 8 ∧
    ((cmpDev 129).st 0).flushing = false) ∧
    (((cmpDev 128).st 0).buf.length < 129 ∧ ((cmpDev 129).st 0).buf = lineAt 0 :: (List.range 128).map (fun i => lineAt (i + 1)) ∧ (cmpDev 129).num .STI_MARK_SRC 0 ≠ 0 ∧
    ((cmpDev 129).st 0).k = some 4 ∧ (((cmpDev 129).st 0).prev.bind (fun p => (cmpDev 129).startOf p.y)) = some { k := 4, y := 99, e := 10 } ∧
    (cmpDev 129).awaitsSeal 0 ((cmpDev 129).lineView 0 (lineAt 0) (some { k := 4, y := 99, e := 10 })) = false ∧ WF.compareLine ⟨0, [(0, 3, 7)]⟩ = true ∧
    (lineAt 0).blind.any id = false) := by
  refine ⟨?_, ?_⟩ <;> decide +kernel

/-! ### ArtworkAndHefts -/

def item_ (h : Octets) (p : Octets) : Item := { kind := 1, flags := 0, iseq := 0, drops := 0, payload := h ++ p }
def queued (it : Item) : Device := { (loading none).set .HFT_LOAD_QUEUE 0 9 with rings := [{ q := 9, items := [it], dir := 1, pages := 4 }] }
def bAt : BlockAt := { set := 2, plane := 0, br := 0, bc := 1 }
def hdr (f : Nat) (p : Octets) : Octets := [1, f, 2, 0] ++ le 4 77 ++ le 4 1 ++ le 4 0 ++ le 4 p.length ++ le 4 (crc32c p) ++ List.replicate 8 0
def blk1 : Octets := storedBlock 3 0 [5]
def item1 : Item := item_ (hdr 1 blk1) blk1
def seed1 : Rebuild := { rep := 1, pad := 1, block := bAt, n := 0, words := [5], touched := [true], seed := true }
def seeding1 : Device := { loading none with heft := { (loading none).heft with rebuilds := [seed1], seedRep := 2 } }
def blk : Octets := storedBlock 3 0 (List.replicate 4096 5)
def wrt1 : BlockWrite := { rep := 0, block := bAt, pad := 1, off := 8192, bytes := blk, words := List.replicate 4096 5, seals := false, load := true }
theorem meets_ArtworkAndHefts :
    ((ask 1).loadLayers = some [{ set := 2, cols := 70, lines := 64, planes := 1 }] ∧ (ask 1).ident.heftFits [{ set := 2, cols := 70, lines := 64, planes := 1 }] = true ∧
    (ask 1).jobPending = false ∧ (ask 1).standby = 1 ∧ (ask 1).heft.layers.length = 2) ∧
    (WF.heftBlockWrite 2 0 0 1 = true) ∧
    ((ask 1).Reaches 1 ∧ (ask 1).heldNow = false ∧ (ask 1).padState 1 = 0 ∧ (busyPad 1).padState (busyPad 1).standby = 1 ∧ (busyPad 2).padState (busyPad 2).standby = 2 ∧
    (busyPad 1).Reaches 1) ∧
    ((loading (some true)).standby = 1 ∧ (loading (some true)).padState 1 = 1 ∧ (loading (some true)).num .HFT_PD_JOB 1 = 77 ∧
    (loading (some true)).heft.loadMask = some true ∧ (loading (some false)).heft.loadMask ≠ some true ∧
    ((allBlocks ((loading (some false)).layersOf 1)).filter (fun b => ((loading (some false)).dirEntry 1 b).isNone)).length = 2) ∧
    ((queued (item_ [0] [1])).num .HFT_LOAD_QUEUE 0 = 9 ∧ ((queued (item_ [0] [1])).ring 9).dir = 1 ∧ ((queued (item_ [0] [1])).ring 9).items = [item_ [0] [1]] ∧
    octet (item_ [0] [1]).payload 0 ≠ 1) ∧
    ((queued item1).padState 1 = 1 ∧ (queued item1).heft.loadMask = none ∧ layerIn ((queued item1).layersOf 1) 2 = some { set := 2, cols := 70, lines := 64, planes := 1 } ∧
    32 ≤ item1.payload.length ∧ octet item1.payload 0 = 1 ∧ octet item1.payload 1 = 1 ∧ octet item1.payload 2 = 2 ∧ octet item1.payload 3 = 0 ∧
    leAt item1.payload 12 4 = 0 ∧ leAt item1.payload 8 4 = 1 ∧ leAt item1.payload 4 4 = (queued item1).num .HFT_PD_JOB 1) ∧
    (leAt item1.payload 24 8 = 0 ∧ leAt item1.payload 16 4 = (item1.payload.drop 32).length ∧ crc32c (item1.payload.drop 32) = leAt item1.payload 20 4 ∧
    blockIn ((queued item1).layersOf 1) { set := 2, plane := 0, br := 0, bc := 1 } = true) ∧
    (seeding1.heft.runs.find? (fun x => Device.unwritten x bAt && seeding1.tilePassed x) = none ∧ seeding1.heft.rebuilds.find? (fun r => r.seed &&
    r.block == bAt) = some seed1 ∧ seed1.rep ≠ seeding1.heft.seedRep ∧ (loading none).heft.runs = [] ∧ (loading none).heft.rebuilds = []) ∧
    ((BlockAt.mk 2 0 0 1 == bAt) = true ∧ wrt1.block = bAt ∧ wrt1.load = true ∧ wrt1.retried = false) := by
  refine ⟨?_, ?_, ?_, ?_, ?_, ?_, ?_, ?_, ?_⟩ <;> decide +kernel

/-! ### LabellingAndComponents -/

def lab1 : Device := labDev (cl false [.clear, flagged, flagged, .clear] false)
def pen0 : Pen := (penOfSample 0 (cl false [flagged] false) 0 0 0 flagged).getD { idx := 0, set := 0, smin := 0, smax := 0, jfirst := 0, height := 0, area := 1, peak := 0, peakS := 0, peakDj := 0, peakDx := 0, peakDy := 0, sum := 0, pol := 0, planes := 0, hflags := 0, cls := 0, blind := 0, qual := 0, flags := 0, y := 0, t := 0, k := 0, w := 0, heft := true, c0 := 0, c1 := 0, res := 0 }
def cmp1 : Component := { tags := [5, 6], frags := [(5, pen0)] }
def cpDev : Device := { up with seg := { up.seg with comps := [cmp1] } }
theorem meets_LabellingAndComponents :
    ((lab1.segOf 0).runs = [] ∧ lab1.seg.pens = [] ∧ lab1.sharedEdges 0 = (false, false) ∧
    runsOf (carryLine (lab1.num .PEN_BLIND_BRIDGE 0) false [] [.clear, flagged, flagged, .clear]) = [(1, 2)] ∧ lab1.takePen 0 = some (0, false) ∧
    (penOfRun 0 (cl false [.clear, flagged, flagged, .clear] false) 0 0 (1, 2)).isSome = true) ∧
    (cpDev.compOf 6 = some cmp1 ∧ (Device.joinFrags [(5, pen0)]).isSome = true) ∧
    ((up.segOf 0).queue = [] ∧ (lab1.segOf 0).queue = [cl false [.clear, flagged, flagged, .clear] false] ∧ (lab1.segOf 0).carry = [] ∧ (lab1.st 0).flushing = false ∧
    cmp1.frags ≠ []) := by
  refine ⟨?_, ?_, ?_⟩ <;> decide +kernel

/-! ### PensAreClassified -/

def clDev : Device := { up.set .RDL_EN 0 0 with seg := { up.seg with closed := [(pen0, false, false)] } }
def recDev : Device := (clDev.set .RDL_EN 0 1).set .RDL_DEF_ACTION 0 1
def ruled : Device := (recDev.set .RDL_R_EN 3 1).set .RDL_R_ACTION 3 1
theorem meets_PensAreClassified :
    ((clDev.matchRule pen0 (penFlags pen0 false false)).reject = 0 ∧ clDev.num .RDL_EN 0 = 0) ∧
    (bit (recDev.matchRule pen0 (penFlags pen0 false false)).action 0 = true ∧ bit (recDev.matchRule pen0 (penFlags pen0 false false)).action 1 = false ∧
    recDev.destQueues = [] ∧ recDev.num .RDL_STORM 0 = 0) ∧
    (clDev.seg.closed = [(pen0, false, false)] ∧ recDev.seg.closed = [(pen0, false, false)] ∧ (recDev.matchRule pen0 (penFlags pen0 false false)).reject = 0 ∧
    recDev.num .RDL_EN 0 = 1 ∧ recDev.rdl.tally.records.length < 255) ∧
    ((ruled.matchRule pen0 (penFlags pen0 false false)).rule = 3 ∧ (ruled.matchRule pen0 (penFlags pen0 false false)).reject = 0) := by
  refine ⟨?_, ?_, ?_, ?_⟩ <;> decide +kernel

/-! ### RecordsAndRejects -/

def snp (y : Int) : Snippet := { handle := 7, unit := 0, units := 4, rseq := 1, tseq := 0, parts := [{ ch := 0, y0 := 0, y1 := y, first := 0, pixels := 4 }], state := 1 }
def rl : RingLine := { at_ := 0, bytes := 8, ch := 0, gen := 7, line := 55, bin := false, pos := some 50, w := 14, planes := [[1, 2, 3, 4]] }
def snDev (y : Int) : Device := { up.set .CH_STATE 0 1 with rdl := { up.rdl with snips := [snp y], ring := [rl] } }
def tal : Tally := { jseq := 3 }
def sgDev : Device := { up with rdl := { up.rdl with signing := [tal] } }
theorem meets_RecordsAndRejects :
    ((snp 40).parts.all ((snDev 40).partWhole) = true ∧ (snp 60).parts.all ((snDev 60).partWhole) = false) ∧
    (sgDev.jrn.buf = [] ∧ sgDev.destQueues = [] ∧ sgDev.keyOk = true) ∧
    (pulse0.start = some 5000) ∧
    ((snDev 40).rdl.snips.find? (fun x => x.handle = 7 && x.state = 1) = some (snp 40) ∧ sgDev.rdl.signing = [tal] ∧
    [je 3].any (fun e => decide (serialDiff 32 e.jseq tal.jseq ≤ 0)) = true) ∧
    ((rjDev pulse0).rdl.pulses = [pulse0] ∧ pulse0.ends = none ∧ pulse0.fixed = false ∧ pulse0.parts.any (fun x => x.station = 2) = true ∧ pulse0.out < 16) := by
  refine ⟨?_, ?_, ?_, ?_, ?_⟩ <;> decide +kernel

/-! ### CalibrationAndRefresh -/

def calD (st : Nat) : Device := up.set .CH_CAL_STATE 15 st
theorem meets_CalibrationAndRefresh :
    (up.ident.hasChan 15 = true ∧ up.cal.length = 16 ∧ (calD 1).Reaches 1 ∧ (calD 1).heldNow = false) ∧
    ((up.refs.getD 0 {}).inUse = true ∧ up.num .PWR_STATE 0 ≠ 2 ∧ up.ctl.pieces = []) ∧
    ((calD 1).num .CH_CAL_STATE 15 = 1 ∧ (calD 2).num .CH_CAL_STATE 15 = 2 ∧ (calD 5).num .CH_CAL_STATE 15 = 5 ∧ (calD 5).num .CH_CAL_PENDING 15 = 0 ∧
    (calD 4).num .CH_CAL_STATE 15 = 4 ∧ (calD 5).Reaches 1) ∧
    ((pieces [3, 4, 5]).ctl.pieces = [3, 4, 5] ∧ (pieces []).num .MEM_RETRAIN_STATE 0 = 1 ∧ up.num .MEM_RETRAIN_STATE 0 = 0 ∧ up.ctl.failed = [] ∧ toSigned 16 1441 = 1441 ∧
    toSigned 16 1519 = 1519) := by
  refine ⟨?_, ?_, ?_, ?_⟩ <;> decide +kernel

/-! ### CrcUnits -/

def fedD : Device := { crcD with drovers := [{ c := 2, cur := some { src := 0, dst := 0, length := 8, ctl := 0x60, obj := 3, tag := 0 } }] }
theorem meets_CrcUnits :
    (crcD.num .CRC_ALG 3 = 0) ∧
    (fedD.crcFed 3 = true) ∧
    (crcD.Reaches 1 ∧ crcD.heldNow = false ∧ (crcS.crcUnit 3).started = true ∧ (crcD.crcUnit 3).started = false) := by
  refine ⟨?_, ?_, ?_⟩ <;> decide +kernel

/-! ### CodecJobs -/

def job1 (b : Octets) (room : Nat) : Device := let d := jb (fun x => { x with op := 1, kind := 0, effort := 3, src := 0x5E8000000, blocks := 2, dst := 0x5E8100000, dstLen := room }) 1; { d with dram := Memory.writes [] 0x5E8000000 b }
theorem meets_CodecJobs :
    ((jb id 0).jobDstBad 1 = false ∧ (jb id 0).jobs.length = 4 ∧ ((jb id 0).set .FLC_JOB_DST 1 0).jobDstBad 1 = true) ∧
    ((jb id 0).Reaches 1 ∧ (jb id 0).heldNow = false ∧ (jb id 0).num .FLC_JOB_STATE 1 = 0 ∧ (jb id 1).num .FLC_JOB_STATE 1 = 1 ∧ (jb id 1).jobDstBad 1 = false ∧
    (jb id 3).num .FLC_JOB_STATE 1 = 3 ∧ (jb id 3).jobDstBad 1 = false) ∧
    (let d := job1 [0x18, 1, 8, 0, 0, 0, 0, 0] 20000; let h := d.dramSee ((d.job 1).src + (d.job 1).taken + 2) 2; d.num .FLC_JOB_STATE 1 = 1 ∧ (d.job 1).op = 1 ∧
    decodeBlock (h.2.dramSee ((d.job 1).src + (d.job 1).taken) (ofLE h.1)).1 = .malformed) := by
  refine ⟨?_, ?_, ?_⟩ <;> decide +kernel

/-! ### QueueTraffic -/

def nb0 : Neighbour := { port := 0, addr := [192, 168, 10, 8], mac := [1, 2, 3, 4, 5, 6] }
def ing (sum : Bool) : Datagram := { port := 1, dst := [192, 168, 10, 50], peer := [192, 168, 10, 8], udp := 7001, sumOk := sum, payload := le 2 0x5156 ++ [0, 0] ++ le 2 9 ++ le 2 4 ++ le 4 6 ++ le 4 0 ++ [9, 8, 7, 6] }
def ingQ : Device := ((qd 1 { q := 9, dir := 1, peer := 1, pages := 3 }).set .QUE_RX_PORT 9 7500).set .QUE_ISEQ 9 6
theorem meets_QueueTraffic :
    ((subQ []).subscribers 9 = [sub4] ∧ Device.subPorts sub4 = [0] ∧ Device.subAddr sub4 = [192, 168, 10, 8] ∧ (subQ []).subscribed = [9] ∧
    (subQ []).resolved 0 [192, 168, 10, 8] = false) ∧
    (WF.arpNdReplyRx 0 [192, 168, 10, 8] [1, 2, 3, 4, 5, 6] = true) ∧
    (WF.ingressFragmentRx 7500 (ing true) = true ∧ ingQ.ingressRoom 9 ≠ 0 ∧ bit (octet (ing true).payload 3) 1 = false ∧ ingQ.num .QUE_ISEQ 9 = 6 ∧
    leAt (ing true).payload 8 4 = 6) ∧
    ((qd 2 { q := 9, items := [it0 1], pages := 3 }).num .QUE_STATE 9 = 2 ∧ (qd 2 { q := 9 }).num .QUE_ENABLE 9 = 0 ∧ (qd 2 { q := 9 }).num .QUE_DROPS 9 < 2 ^ 32 ∧
    (qd 1 { q := 9 }).num .QUE_STATE 9 = 1) ∧
    (((subQ []).ring 9).dir = 0 ∧ ((subQ []).ring 9).peer = 1 ∧ ((subQ []).ring 9).items = [it0 3, it0 4] ∧ (subQ [nb0]).resolved 0 [192, 168, 10, 8] = true) ∧
    (WF.ingressFragmentRx 7500 (ing false) = true ∧ (ing true).fragment = false ∧ 16 ≤ (ing true).payload.length ∧ leAt (ing true).payload 0 2 = 0x5156 ∧
    octet (ing true).payload 2 = 0 ∧ leAt (ing true).payload 6 2 = ((ing true).payload.drop 16).length ∧ leAt (ing true).payload 4 2 = 9) ∧
    (ingQ.num .QUE_STATE 9 = 1 ∧ (ingQ.ring 9).dir = 1 ∧ (ingQ.ring 9).peer = 1 ∧ ingQ.num .QUE_RX_PORT 9 = 7500 ∧
    leAt (ing true).payload 12 4 = (ingQ.ring 9).ingress.got.length ∧ credQ.num .QUE_STATE 9 = 1 ∧ (credQ.ring 9).ingress.from_ = some (1, [192, 168, 10, 8], 7001)) := by
  refine ⟨?_, ?_, ?_, ?_, ?_, ?_, ?_⟩ <;> decide +kernel

/-! ### Drovers -/

def desc (ctl : Nat) : Octets := le 8 0x1000 ++ le 8 0x2000 ++ le 4 16 ++ le 2 ctl ++ le 2 0 ++ le 4 5 ++ le 4 0
def goD : Device := dd 2 (fun x => { x with tail := 6 })
def hostToHost : Nat := 0x8000 + 0x80 + 0x20
def doing (tail : Nat) : Device := dd 2 (fun x => { x with tail := tail, cur := some (.ofBytes (desc hostToHost) ((List.range 20).map (· + 1))) })
def fromQ : Descriptor := { Descriptor.ofBytes (desc (0x8000 + 0x100 + 0x20)) [] with items := 2 }
theorem meets_Drovers :
    ((dd 1 id).Reaches 1 ∧ (dd 1 id).heldNow = false ∧ (dd 1 id).num .DMA_RING_ENTRIES 3 = 16 ∧ (dd 1 id).num .DMA_HEAD 3 = 4 ∧ ((dd 1 id).drover 3).tail = 4) ∧
    ((desc hostToHost).length = 32 ∧ bit (leAt (desc hostToHost) 20 2) 15 = (goD.drover 3).phase ∧
    goD.badDesc (desc hostToHost) (.ofBytes (desc hostToHost) [1, 2]) = false ∧ (Descriptor.ofBytes (desc hostToHost) [1, 2]).queued = false ∧
    (Descriptor.ofBytes (desc hostToHost) [1, 2]).from = 1 ∧ (Descriptor.ofBytes (desc hostToHost) [1, 2]).into = 1) ∧
    (fromQ.from = 2 ∧ bit fromQ.ctl 13 = false) ∧
    ((dd 0 id).num .DMA_STATE 3 = 0 ∧ (dd 1 id).num .DMA_STATE 3 = 1 ∧ (dd 2 id).num .DMA_STATE 3 = 2 ∧ ((dd 2 id).drover 3).cur = none ∧ (dd 4 id).num .DMA_STATE 3 = 4 ∧
    ((dd 4 id).drover 3).skip = false ∧ (dd 4 id).Reaches 1) ∧
    (goD.num .DMA_STATE 3 = 2 ∧ goD.num .DMA_RING_SPACE 3 = 1 ∧ (goD.drover 3).cur = none ∧ (goD.drover 3).stale = 0 ∧ (goD.drover 3).tail ≠ goD.num .DMA_HEAD 3 ∧
    WF.octets (desc hostToHost) = true ∧ bit (leAt (desc (hostToHost - 0x8000)) 20 2) 15 ≠ (goD.drover 3).phase) ∧
    (((dd 2 (fun x => { x with tail := 6, stale := 8 })).drover 3).stale = 8 ∧ ((dd 2 (fun x => { x with tail := 6, stale := 7 })).drover 3).cur = none) ∧
    (((doing 5).drover 3).cur = some (.ofBytes (desc hostToHost) ((List.range 20).map (· + 1))) ∧
    (let x := Descriptor.ofBytes (desc hostToHost) ((List.range 20).map (· + 1)); x.swap = 0 ∧ bit x.ctl 13 = false ∧ bit x.ctl 14 = false ∧ x.length ≤ x.data.length) ∧
    (doing 5).num .DMA_HEAD 3 + 1 < (doing 5).num .DMA_RING_ENTRIES 3) ∧
    (((dd 2 (fun x => { x with tail := 6, cur := some fromQ })).drover 3).cur = some fromQ ∧ fromQ.items ≠ 0) := by
  refine ⟨?_, ?_, ?_, ?_, ?_, ?_, ?_, ?_⟩ <;> decide +kernel

/-! ### EndpointAccess -/

def win0 : Device := dram0.set .PCI_BAR2_WIN 0 0x5E8000000
theorem meets_EndpointAccess :
    (WF.bar2Read 2 4 4 = true ∧ WF.bar2Read 2 4 1 = true ∧ win0.num .PCI_BAR2_WIN 0 + 2 + 4 ≤ win0.ident.dramSize) ∧
    (WF.bar2Write 2 [7, 8] = true ∧ win0.ident.inScratch (0x5E8000000 + 2) 2 = true ∧ dram0.ident.inScratch (0 + 2) 2 = false) ∧
    (win0.drovers = []) ∧
    (up.Reaches 1 ∧ up.heldNow = false ∧ 0x100000 % 0x100000 = 0 ∧ 0 + 2 < dram0.ident.dramSize) := by
  refine ⟨?_, ?_, ?_, ?_⟩ <;> decide +kernel

/-! ### JournalEntriesAreChainedAndWritten -/

theorem meets_JournalEntriesAreChainedAndWritten :
    up.Reaches 1 ∧ up.heldNow = false ∧ (jd 4).jrn.buf = [je 5, je 6] ∧ (jd 4).jrn.kept.length < (jd 4).ident.mirrorEntries ∧ up.jrn.buf = [] := by decide +kernel

/-! ### FirmwareStaging -/

def fw (st : Nat) : Device := (up.set .TRU_FW_STATE 0 st).set .TRU_FW_SRC 0 0x5E8000000
def body0 : Octets := [1, 2, 3]
def head0 : Octets := let k := (Ecdsa.publicKey 12345).drop 1; le 4 0x56464C41 ++ le 2 1 ++ [0, 0] ++ le 4 9 ++ le 2 4 ++ le 2 0 ++ le 4 3 ++ List.replicate 12 0 ++ sha256 body0 ++ k ++ List.replicate 128 0
def img0 : Octets := head0 ++ Ecdsa.signWith 12345 head0 ++ body0
def fuses0 : Fuses := { keyHash := [sha256 ((Ecdsa.publicKey 12345).drop 1)] }
def verifying (img : Octets) : Device := { fw 1 with fuses := fuses0, staging := some (img, 4) }
theorem meets_FirmwareStaging :
    ((fw 0).ident.inScratch ((fw 0).num .TRU_FW_SRC 0) 4 = true ∧ (fw 0).Reaches 1 ∧ (fw 0).heldNow = false ∧ (up.ident.inScratch (up.num .TRU_FW_SRC 0) 4) = false) ∧
    ((fw 1).num .TRU_FW_STATE 0 = 1 ∧ (fw 2).num .TRU_FW_STATE 0 = 2 ∧ (fw 0).num .TRU_FW_STATE 0 = 0 ∧ (fw 1).Reaches 1 ∧ svn3.num .DEV_FW_SVN 0 = 3 ∧ svn3.Reaches 1 ∧
    (verifying []).staging = some ([], 4) ∧ imageHeaderOk fuses0 [] = false) ∧
    (imageHeaderOk fuses0 img0 = true ∧ imageBodyOk img0 = true) := by
  refine ⟨?_, ?_, ?_⟩ <;> decide +kernel

/-! ### CertifiedRunHolds -/

theorem meets_CertifiedRunHolds :
    (scope.Reaches 1 ∧ scope.heldNow = false ∧ scope.pend = [] ∧ held1.Reaches 1 ∧ held1.heldNow = true) ∧
    (scope.num .TRU_HOLD_SCOPE 0 ≠ 0 ∧ up.num .TRU_HOLD_SCOPE 0 = 0 ∧ up.heldNow = false ∧ up.pend = [] ∧ held1.num .TRU_HOLD_ID 0 = 77) := by
  refine ⟨?_, ?_⟩ <;> decide +kernel

/-! ### ClockAndTimeTriggers -/

theorem meets_ClockAndTimeTriggers :
    (clk1.Reaches 1 ∧ clk1.heldNow = false ∧ (List.range 16).all (fun n => clk1.num .TIM_TT_MODE n == 0) = true ∧ clk1.rdl.pulses = []) ∧
    (clk1.tt.length = 16 ∧ (tt 1 { armed := some 500 }).num .TIM_TT_MODE 15 = 1 ∧ (tt 1 {}).Reaches 1) ∧
    (({ clk1.set .TIM_SERVO_STATE 0 2 with servo := { integral := 655360000, run := 4 } } : Device).num .TIM_SERVO_STATE 0 = 2 ∧ clk1.num .TIM_SERVO_STATE 0 = 0) ∧
    (((tt 1 { armed := some 500 }).ttOf 15).armed = some 500 ∧ (tt 2 { edge := 3 }).num .TIM_TT_MODE 15 = 2 ∧ (tt 0 {}).num .TIM_TT_MODE 15 = 0 ∧
    ((tt 2 { activeUntil := some 70 }).ttOf 15).activeUntil = some 70 ∧ (tt 1 {}).now = 5000000700 ∧ (tt 1 {}).heldNow = false) := by
  refine ⟨?_, ?_, ?_, ?_⟩ <;> decide +kernel

/-! ### CaptureTasksAndCells -/

def tc (edge : Nat) (q : List (Nat × Nat)) : Device := { up.set .TIM_TC_EDGE 7 edge with tcFifo := modAt up.tcFifo 7 (fun _ => q) }
def evo (x : TtOut) : Device := (((tasks 15 [5000000690] []).set .TIM_TT_MODE 15 3).set .TIM_TT_DELAY 15 100).modTt 15 (fun _ => x)
def celld (ff : Nat) (q : Bool) : Device := let d := (up.set .EVT_CELL_FF 4 ff).set .EVT_CELL_TRUTH 4 0xFFFF; { d with evt := { d.evt with clkEdges := [4], cells := modAt d.evt.cells 4 (fun x => { x with q := q }) } }
def msiD : Device := let d := tasks 32 [5] []; { d.set .EVT_TASK_ARG 32 9 with pcie := { d.pcie with unmasked := [9] } }
theorem meets_CaptureTasksAndCells :
    ((tc 2 []).tcFifo.length = 8 ∧ (tc 2 []).num .STI_MARK_SRC 0 ≠ 8) ∧
    ((tasks 3 [] []).evt.tasks.length = 33) ∧
    ((celld 1 false).cellLut 4 = true ∧ (celld 1 false).evt.clkEdges.contains 4 = true ∧ (celld 1 false).evt.cells.length = 32) ∧
    ((tc 2 []).num .TIM_TC_EDGE 7 = 2 ∧ (tc 0 []).num .TIM_TC_EDGE 7 = 0 ∧ (tc 1 []).num .TIM_TC_EDGE 7 = 1 ∧
    (tc 0 (List.replicate 16 (1, 1))).tcFifo.getD 7 [] = List.replicate 16 (1, 1)) ∧
    ((tasks 3 [7] [(1, 5), (3, 8), (3, 9)]).evt.taskEdges = [(1, 5)] ++ (3, 8) :: [(3, 9)] ∧ ((tasks 3 [7] []).evt.tasks.getD 3 []).length < 3 ∧
    3 ≤ ((tasks 3 [5, 6, 7] []).evt.tasks.getD 3 []).length) ∧
    ((tasks 24 [5, 6, 7] []).evt.tasks.getD 24 [] = [5, 6, 7] ∧ (tasks 23 [5] []).evt.tasks.getD 23 [] = [5] ∧ ((tasks 23 [5] []).tcFifo.getD 7 []).length < 16 ∧
    (tasks 23 [5] []).Reaches 1 ∧ (tasks 23 [5] []).heldNow = false) ∧
    (msiD.evt.tasks.getD 32 [] = [5] ∧ msiD.num .EVT_TASK_ARG 32 = 9 ∧ msiD.pcie.unmasked.contains 9 = true) ∧
    ((evo {}).evt.tasks.getD 15 [] = [5000000690] ∧ (evo {}).num .TIM_TT_MODE 15 = 3 ∧ ((evo {}).ttOf 15).activeUntil = none ∧ ((evo {}).ttOf 15).lastEnd = none ∧
    ((evo { activeUntil := some 4 }).ttOf 15).activeUntil ≠ none) ∧
    ((celld 1 false).num .EVT_CELL_FF 4 = 1 ∧ (celld 2 true).num .EVT_CELL_FF 4 = 2 ∧ (celld 1 true).evt.clkEdges.contains 5 = false) := by
  refine ⟨?_, ?_, ?_, ?_, ?_, ?_, ?_, ?_, ?_⟩ <;> decide +kernel

/-! ### PtpOrdinaryClock -/

def sync2 : Octets := pmsg 0 44 0x0200 65536 77 (List.replicate 10 0)
def diff0 : Int := 200000000 - 65536000 - 65536
def w0 : SyncWait := { port := 0, source := src0, seq := 77, t2 := 200000000, corr := 65536, add := 0, at_ := 0 }
def fup : Octets := pmsg 8 44 0 7 77 (stampOctets (1000 * 65536))
def dresp (st : Nat) : Octets := pmsg 9 54 0 0 77 (stampOctets st ++ slave.portIdentity 0)
def master : Device := off0.set .TIM_PTP_ROLE 0 2
def te0 : Nat := 5 * 65536 + 77
def dreq : Octets := pmsg 1 44 0 7 77 (List.replicate 10 0)
theorem meets_PtpOrdinaryClock :
    (WF.syncRx 0 ⟨1, sync1⟩ 200000000 0 = true ∧ WF.syncRx 0 ⟨1, sync2⟩ 200000000 0 = true ∧ ptpValid sync1 = true ∧ ptpDomain sync1 = slave.num .TIM_PTP_DOMAIN 0 ∧
    slave.on .TIM_TC_EN 0 = false ∧ slave.fromMaster 0 sync1 = true ∧ slave.fromMaster 0 sync2 = true ∧ ptpTwoStep sync2 = true ∧ ptpTwoStep sync1 = false ∧
    slave.num .TIM_SRC 0 ≠ 1 ∧ slave.peerDelay = false) ∧
    (servo1.on .TIM_CLOCK_OK 0 = true ∧ servo1.num .TIM_STEP_THRESH 0 * 65536 < diff0.natAbs) ∧
    (WF.followUpRx 0 ⟨1, fup⟩ = true ∧ ptpValid fup = true ∧ slave.fromMaster 0 fup = true ∧ w0.source = ptpSource fup ∧ w0.seq = ptpSeq fup) ∧
    (WF.delayRespRx 0 ⟨1, dresp 65536000⟩ = true ∧ ptpValid (dresp 65536000) = true ∧ ptpRequester (dresp 65536000) = slave.portIdentity 0 ∧ ptpSeq (dresp 0) = 77) ∧
    (WF.announceRx 0 ⟨1, ann⟩ = true ∧ ptpValid ann = true ∧ slice ann 20 8 ≠ (alone.portIdentity 0).take 8 ∧ alone.now ≤ 3 + 4 * secondsLog (ptpLog ann) ∧
    beAt ann 61 2 < 255 ∧ alone.num .TIM_PTP_PORT 0 = 0) ∧
    (WF.delayReqRx 0 ⟨1, dreq⟩ te0 0 = true ∧ ptpValid dreq = true ∧ master.peerDelay = false ∧ master.on .TIM_TC_EN 0 = false) ∧
    (slave.num .TIM_PTP_ROLE 0 = 1 ∧ slave.oct .TIM_PTP_MASTER 0 ≠ [] ∧ servo1.num .TIM_SRC 0 = 1 ∧ servo1.num .TIM_STEP_THRESH 0 ≠ 0 ∧
    ((200000000 : Int) - ptpStamp sync1 - (ptpCorr sync1 + servo1.asym 0)) = diff0 ∧ servo1.ptp.pathDelay = none ∧ servo1.fromMaster 0 sync1 = true ∧
    servo1.on .TIM_TC_EN 0 = false) ∧
    (slave.fromMaster 0 (dresp 65536000) = true ∧ WF.delayRespRx 0 ⟨1, dresp 0⟩ = true ∧ ((50 + (ptpStamp (dresp 0) - 100 - ptpCorr (dresp 0))) / 2 : Int) < 0 ∧
    0 ≤ ((50 + (ptpStamp (dresp 65536000) - 100 - ptpCorr (dresp 65536000))) / 2 : Int) ∧ ptpDomain (dresp 0) = slave.num .TIM_PTP_DOMAIN 0) ∧
    (foreign0.ident = ptpSource ann ∧ foreign0.times = [3] ∧ alone.num .TIM_PTP_ROLE 0 = 1 ∧ alone.on .TIM_TC_EN 0 = false ∧ up.oct .TIM_PTP_MASTER 0 = [] ∧
    ptpDomain ann = alone.num .TIM_PTP_DOMAIN 0) ∧
    (locked.oct .TIM_PTP_MASTER 0 = src0 ∧ foreign0.ident = src0 ∧ locked.num .TIM_SRC 0 = 1 ∧ locked.num .TIM_SERVO_STATE 0 = 2) ∧
    (master.num .TIM_PTP_ROLE 0 = 2 ∧ (master.set .TIM_PTP_TWO_STEP 0 0).on .TIM_PTP_TWO_STEP 0 = false ∧ (master.set .TIM_PTP_TWO_STEP 0 1).on .TIM_PTP_TWO_STEP 0 = true ∧
    master.num .TIM_PTP_PORT 0 = 0 ∧ ptpDomain dreq = master.num .TIM_PTP_DOMAIN 0) := by
  refine ⟨?_, ?_, ?_, ?_, ?_, ?_, ?_, ?_, ?_, ?_, ?_⟩ <;> decide +kernel

/-! ### PeerDelayAndTransparentClock -/

def p2p (two : Nat) : Device := (up.set .TIM_PTP_DELAY 0 2).set .TIM_PTP_TWO_STEP 0 two
def pdreq : Octets := pmsg 2 54 0 7 77 (List.replicate 20 0)
def presp (ty fl : Nat) : Octets := pmsg ty 54 fl 7 77 (stampOctets (3 * 65536) ++ up.portIdentity 1)
def askedP : Device := { p2p 0 with ptp := { up.ptp with pdelayReq := [(1, 77, 1000)] } }
def asked2 : Device := { p2p 0 with ptp := { up.ptp with pdelayReq := [(1, 77, 1000)], pdelayResp := [(1, 77, 900000, 3 * 65536 - 40, 7)] } }
def tcd : Device := up.set .TIM_TC_EN 0 1
def sig0 : Octets := pmsg 12 44 0 0 1 (List.replicate 10 0)
theorem meets_PeerDelayAndTransparentClock :
    (WF.pdelayReqRx 1 ⟨1, pdreq⟩ te0 (te0 + 9) = true ∧ ptpValid pdreq = true ∧ (p2p 0).peerDelay = true ∧ ptpDomain pdreq = (p2p 0).num .TIM_PTP_DOMAIN 0) ∧
    (WF.pdelayRespRx 1 ⟨1, presp 3 0⟩ 900000 = true ∧ ptpValid (presp 3 0) = true ∧ ptpRequester (presp 3 0) = up.portIdentity 1 ∧
    WF.pdelayRespFollowUpRx 1 ⟨1, presp 10 0⟩ = true ∧ ptpTwoStep (presp 3 0x0200) = true ∧ WF.pdelayRespRx 1 ⟨1, presp 3 0x0200⟩ 900000 = true) ∧
    (tcd.num .TIM_PTP_ROLE 0 = 0 ∧ tcd.on .TIM_TC_EN 0 = true) ∧
    (WF.signalingManagementRx 0 ⟨1, sig0⟩ = true ∧ WF.signalingManagementRx 0 ⟨1, [12]⟩ = true ∧ ptpValid sig0 = true ∧ ptpValid [12] = false) ∧
    ((p2p 0).on .TIM_PTP_TWO_STEP 0 = false ∧ (p2p 1).on .TIM_PTP_TWO_STEP 0 = true ∧ askedP.peerDelay = true ∧ (askedP.portIdentity 1 = up.portIdentity 1) ∧
    ptpSeq (presp 3 0) = 77 ∧ ptpTwoStep (presp 3 0) = false ∧ asked2.peerDelay = true ∧ askedP.ptp.pdelayResp = [] ∧ ptpRequester (presp 10 0) = asked2.portIdentity 1) ∧
    (WF.syncRx 0 ⟨1, sync1⟩ 200000000 200000555 = true ∧ off0.on .TIM_TC_EN 0 = false) := by
  refine ⟨?_, ?_, ?_, ?_, ?_, ?_⟩ <;> decide +kernel

/-! ### FoldMembers -/

def mem1 : Device := linked2 (fold0 1 1)
def jbody (src2 : Nat) : Octets := [0, 0] ++ List.replicate 16 7 ++ [100] ++ le 4 (bell.num .DEV_FW_VERSION 0) ++ le 4 (bell.stepOf .POS_SRC_PRIMARY) ++ le 4 (bell.stepOf .POS_SRC_BACKUP) ++ [src2] ++ List.replicate 38 0
def jrx (s2 : Nat) : Device := rxm bell 2 { fmsg 0x40 0 1 (jbody s2) with payload := some ([0, 1, 0, 0] ++ le 4 9 ++ jbody s2) }
def hops0 (d : Device) : Nat := ((d.rxOf 17 2).released.find? (fun p => p.dt == 0x40)).elim 0 (fun p => octet (p.payload.getD []) 2)
def req0 (dt : Nat) (body : Octets) : FoldRequest := { dst := 0, dt := dt, mseq := 3, body := body }
def askd (dt : Nat) (body : Octets) (d : Device) : Device := d.modFold (fun f => { f with reqs := [req0 dt body] })
def bcn : Octets := [2, 3] ++ le 4 40 ++ le 8 0 ++ le 8 0 ++ [3] ++ le 2 500 ++ [99]
def ackd : Device := rxm (mem1.modFold (fun f => { f with acked := true })) 2 (fmsg 0x43 0xFF 0 bcn)
theorem meets_FoldMembers :
    (mem1.bellwether = false ∧ mem1.fold.acked = false ∧ bell.bellwether = true ∧ mem1.num .FLD_STATE 0 = 1) ∧
    (withTake (jrx 2) 2 0x40 (some 0) (fun e x => e.bellwether && x.src == 1 && e.num .FLD_STATE 0 == 2 && e.joinReason 17 1 (hops0 (jrx 2)) x.body == 0) = true ∧
    WF.joinRx 17 = true) ∧
    (withTake (jrx 1) 2 0x40 (some 0) (fun e x => e.bellwether && x.src == 1 && e.num .FLD_STATE 0 == 2 && e.joinReason 17 1 (hops0 (jrx 1)) x.body == 4) = true) ∧
    (withTake (rxm (askd 0x40 [] mem1) 2 (fmsg 0x40 1 0 [1, 0, 3])) 2 0x40 (some 1) (fun e x => octet x.body 1 == 0 &&
    e.fold.reqs.find? (fun q => q.dt = 0x40) == some (req0 0x40 [])) = true) ∧
    (withTake ackd 2 0x43 none (fun e x => !e.bellwether && e.num .FLD_STATE 0 == 1 && e.stepNow == 0 && bit (octet x.body 1) e.foldId && e.fold.acked) = true ∧
    bell.num .FLD_STATE 0 ≠ 0) ∧
    (withTake (rxm bell 2 (fmsg 0x44 0 1 ([3, 2] ++ le 4 (2 ^ 32 - 5)))) 2 0x44 none (fun e x => e.bellwether && x.src == 1) = true) ∧
    (bell2.num .FLD_M_STATE 1 = 2 ∧ bell2.seg.comps = [] ∧ bell2.num .FLD_MEMBERS 0 < 256 ∧ bell2.bellwether = true ∧ (linked2 (fold0 1 3)).num .FLD_STATE 0 = 3 ∧
    (linked2 (fold0 0 1)).num .FLD_STATE 0 = 1 ∧ (linked2 (fold0 0 1)).reachable = true ∧ bell.num .FLD_EXPECT 0 = 3 ∧ bell.num .FLD_M_STATE 1 = 0) := by
  refine ⟨?_, ?_, ?_, ?_, ?_, ?_, ?_⟩ <;> decide +kernel

/-! ### FoldTimeAndPosition -/

theorem meets_FoldTimeAndPosition :
    (mem1.upstream.isSome = true ∧ (took (rxm bell 2 (fmsg 0x41 0 1 (0 :: le 10 777))) 2 0x41 (some 0)).isSome = true ∧ WF.timeReqRx 17 5 6 = true ∧
    WF.timeAnswerRx 17 9000000 = true) ∧
    (withTake (rxm ((askd 0x41 (0 :: le 10 700) mem1).set .TIM_SRC 0 2 |>.set .TIM_CLOCK_OK 0 0) 2 (fmsg 0x41 1 0 ([1] ++ le 10 5 ++ le 10 6))) 2 0x41 (some 1) (fun e _ => e.num .TIM_SRC 0 == 2 &&
    e.num .TIM_CLOCK_OK 0 == 0 && !e.fold.acked && (e.fold.reqs.find? (fun q => q.dt = 0x41)).isSome) = true) ∧
    (withTake (rxm bell 2 (fmsg 0x42 0 1 (0 :: le 8 777))) 2 0x42 (some 0) (fun e x => e.bellwether && decide (x.src < 8)) = true) ∧
    (withTake (rxm (askd 0x42 (0 :: le 8 700) mem1) 2 (fmsg 0x42 1 0 ([1] ++ le 8 700 ++ le 8 123456))) 2 0x42 (some 1) (fun e _ => e.num .FLD_STATE 0 != 3 &&
    (e.fold.reqs.find? (fun q => q.dt = 0x42)).isSome) = true) ∧
    ((askd 0x40 [1] mem1).fold.reqs = [req0 0x40 [1]] ∧ (req0 0x40 [1]).tries < 3) := by
  refine ⟨?_, ?_, ?_, ?_, ?_⟩ <;> decide +kernel

/-! ### FoldRelaysAndPens -/

def fragB : Octets := le 4 5 ++ List.replicate 32 0 ++ le 4 0 ++ le 4 655360 ++ le 8 77 ++ le 4 4 ++ le 8 0
def gives : Device := (rxm bell 0 (fmsg 0x47 2 1 [1])).modTx 16 0 (fun t => { t with cr := [{ limit := 1000 }, { limit := 1000 }] })
theorem meets_FoldRelaysAndPens :
    (withTake (rxm mem3 1 (fmsg 0x45 0xFF 0 (le 4 11 ++ le 8 77 ++ le 4 (2 ^ 32 - 3)))) 1 0x45 none (fun e _ => !e.bellwether && e.num .FLD_STATE 0 == 3 &&
    e.rep.starts == [{ k := 10, y := 5, e := 0 }]) = true) ∧
    (withTake (rxm mem3 1 (fmsg 0x46 0xFF 0 (le 8 4242))) 1 0x46 none (fun e x => !e.bellwether && leAt x.body 0 8 == 4242 &&
    (List.range 16).all (fun n => !e.on .CH_ENABLE n)) = true) ∧
    (withTake (rxm mem3 1 (fmsg 0x4D 0xFF 0 (le 8 9))) 1 0x4D none (fun e x => decide (e.now < leAt x.body 0 8 + 5000)) = true) ∧
    (withTake (rxm bell 3 (fmsg 0x4C 0 1 ([0, 0, 0, 0, 0, 0] ++ le 2 9 ++ [1, 2]))) 3 0x4C none (fun e x => e.bellwether && leAt x.body 6 2 == 9 &&
    e.num .QUE_STATE 9 != 1) = true) ∧
    (withTake (rxm { bell.set .QUE_STATE 9 1 with rings := [{ q := 9, pages := 4 }] } 3 (fmsg 0x4C 0 1 ([0, 0, 0, 0, 0, 0] ++ le 2 9 ++ [1, 2]))) 3 0x4C none (fun e _ => e.num .QUE_STATE 9 == 1 &&
    (e.ring 9).dir == 0 && decide ((e.ring 9).peer ≤ 1)) = true) ∧
    (bell.inFold = true ∧ bell.now < 88 + 5000 ∧ (took (rxm bell 0 (fmsg 0x47 0 1 ([2] ++ le 4 100 ++ le 4 5 ++ List.replicate 128 1))) 0 0x47 none).isSome = true) ∧
    (withTake (rxm bell 1 (fmsg 0x48 0 1 (le 4 70 ++ le 4 80))) 1 0x48 none (fun e x => e.bellwether && e.seg.comps == [] && leAt x.body 0 4 != leAt x.body 4 4) = true ∧
    withTake (rxm bell 1 (fmsg 0x4A 0 1 (le 4 70 ++ le 4 80))) 1 0x4A none (fun e x => e.bellwether && e.seg.comps == [] && leAt x.body 0 4 != leAt x.body 4 4) = true) ∧
    (withTake (rxm bell 1 (fmsg 0x49 0 1 ([2] ++ le 4 70 ++ [0]))) 1 0x49 none (fun e _ => e.bellwether && e.seg.comps == []) = true) ∧
    (withTake (rxm { bell with seg := { bell.seg with passed := [5] } } 1 (fmsg 0x4B 0 1 fragB)) 1 0x4B none (fun e x => e.bellwether &&
    e.seg.passed.contains (leAt x.body 0 4) &&
    (Device.joinFrags [(leAt x.body 0 4, penOfBytes (slice x.body 4 32) (toSigned 32 (leAt x.body 36 4)) (leAt x.body 40 4) (leAt x.body 44 8) (leAt x.body 52 4) (toSigned 64 (leAt x.body 56 8)))]).isSome) = true) ∧
    ((gives.begin.takeFree 17 0 (fun p => p.dt != 0x3D && p.dt != 0x3F && 8 ≤ (p.payload.getD []).length && octet (p.payload.getD []) 0 != gives.foldId &&
    octet (p.payload.getD []) 0 != 0xFF && Nat.min 1 (octet (p.payload.getD []) 3) == 0)).any (fun z => gives.begin.mayPass 17 0 z.1) = true) := by
  refine ⟨?_, ?_, ?_, ?_, ?_, ?_, ?_, ?_, ?_, ?_⟩ <;> decide +kernel

/-! ### ReferencesAndSwitches -/

def badOnce (n : Nat) : Device := { up with refs := [{ inUse := true, cycles := 16384 }, { inUse := true, cycles := 16384 }, { inUse := true, cycles := 14000, bad := n }] }
theorem meets_ReferencesAndSwitches :
    (up.refs.length = 3 ∧ (List.range 3).all (fun k => !(up.refOf k).failed) ∧ (up.refOf 2).inUse = true ∧ windowGood 0 2048 = true ∧ windowGood 1 3600 = true ∧
    windowGood 2 2240 = true ∧ windowGood 2 2239 = false) ∧
    ((failed2 16384 16).refUsable 2 = true ∧ (failed2 16384 16).refUsable 0 = false ∧ (failed2 16384 16).Reaches 1) ∧
    (up.bring = .up ∧ (up.refOf 2).bad = 0 ∧ (badOnce 1).bring = .up ∧ ((badOnce 1).refOf 2).bad = 1 ∧ (List.range 3).all (fun k => !((badOnce 1).refOf k).failed) = true ∧
    ((badOnce 1).refOf 2).inUse = true) ∧
    (((failed2 16384 16).refOf 2).inUse = false ∧ (failed2 16384 16).refUsable 1 = false ∧ (failed2 16384 16).heldNow = false ∧ up.switches = [] ∧
    ({ up with switches := [{ which := 1, target := 1 }] } : Device).switches = [{ which := 1, target := 1 }]) := by
  refine ⟨?_, ?_, ?_, ?_⟩ <;> decide +kernel

/-! ### OperatingPointsAndSupplies -/

theorem meets_OperatingPointsAndSupplies :
    (up.dvfs = .idle ∧ up.pointVolt = 800) ∧
    (({ up with dvfs := .raisePll 3 } : Device).switches = [] ∧ pointMv 0 ≤ 785 + 15 ∧ 784 + 15 < pointMv 0 ∧ pointMv 3 ≤ 585 + 15 ∧ up.num .CLK_CORE_PLL 0 ≤ 1 ∧
    769 + 30 < up.pointVolt ∧ up.pointVolt ≤ 770 + 30 ∧ up.pointVolt + 30 < 831 ∧ up.bring = .up ∧ up.forced.supply = false ∧ up.rails.contains 0 = false) := by
  refine ⟨?_, ?_⟩ <;> decide +kernel

/-! ### SleepAndTemperature -/

def stand : Device := (up.set .PWR_STATE 0 1).set .DEV_STATE 0 3
def waking : Device := { up.set .DEV_STATE 0 3 |>.set .PWR_STATE 0 1 |>.set .CH_ENABLE 0 1 with wakeAt := some 3 }
theorem meets_SleepAndTemperature :
    (stand.Reaches 1 ∧ stand.heldNow = false ∧ stand.twi.pending = [] ∧ stand.twi.cur = none) ∧
    (up.tjLimit = 100) ∧
    (waking.wakeReady = true ∧ waking.allFull = false) ∧
    (stand.num .PWR_STATE 0 = 1 ∧ up.num .PWR_STATE 0 = 0 ∧ up.Reaches 1 ∧ (stand.set .PWR_STATE 0 2).num .PWR_STATE 0 = 2 ∧
    (up.set .DEV_RUN_REQ 0 0).num .DEV_RUN_REQ 0 = 0 ∧ ((stand.set .PWR_STATE 0 2).set .DEV_RUN_REQ 0 0).num .PWR_STATE 0 = 2) ∧
    (toSigned 16 (100 * 16 - 209) < (up.tjLimit : Int) * 16 - 208 ∧ (up.tjLimit : Int) * 16 - 160 ≤ toSigned 16 (100 * 16 - 160) ∧
    toSigned 16 (100 * 16 - 160) < (up.tjLimit : Int) * 16 - 80 ∧ (up.tjLimit : Int) * 16 ≤ toSigned 16 (100 * 16) ∧ up.int .PWR_TJ_PEAK 0 < toSigned 16 (100 * 16) ∧
    up.forced.tj = false ∧ up.wakeReady = false) := by
  refine ⟨?_, ?_, ?_, ?_, ?_⟩ <;> decide +kernel

/-! ### WatchdogLeasesAndFaults -/

theorem meets_WatchdogLeasesAndFaults :
    up.bring = .up ∧ up.wdog = false ∧ ({ up with wdog := true } : Device).wdog = true ∧ (up.set .FLC_JOB_STATE 3 1).num .FLC_JOB_STATE 3 = 1 ∧ up.Reaches 1 ∧
    up.heldNow = false := by decide +kernel

/-! ### Resets -/

theorem meets_Resets :
    (ran.Reaches 1) ∧
    (ran.heldNow = false ∧ ran.thermalHeld = false ∧ ({ ran with thermalHeld := true } : Device).thermalHeld = true ∧ ran.wdog = true ∧ up.wdog = false) := by
  refine ⟨?_, ?_⟩ <;> decide +kernel

/-! ### BringUp -/

def bt : Device := { State.reset.dev with fuses := fuses0 }
def bref : Device := { State.reset.dev with bring := .refs, refs := [{ cycles := 16384 }, { cycles := 16384 }, { cycles := 16384 }] }
def btr : Device := { bref with bring := .train }
theorem meets_BringUp :
    (State.reset.dev.bring = .boot ∧ State.reset.dev.rails = [] ∧ chooseSlot State.reset.dev.fuses [] [] = none ∧ State.reset.dev.selectBank = none ∧
    State.reset.dev.keyOk = true) ∧
    (bref.bring = .refs ∧ bref.rails = [] ∧ (List.range 3).all (fun k => decide (16384 ≤ (bref.refOf k).cycles)) = true ∧ btr.bring = .train ∧ btr.rails = [] ∧
    up.bring ≠ .refs ∧ up.bring ≠ .train ∧ up.drovers = []) ∧
    (bt.fuses = fuses0 ∧ bt.selectBank = none ∧ bt.keyOk = true) := by
  refine ⟨?_, ?_, ?_⟩ <;> decide +kernel

/-! ### TwoWireController -/

def retryD (tries : Nat) : Device := { free0 with twi := { up.twi with cur := some (r2 2 true), retryWait := true, tries := tries } }
theorem meets_TwoWireController :
    (slot0.Reaches 1 ∧ slot0.num .TWI_T_STATUS 0 ≠ 1 ∧ slot0.num .TWI_BUS_STATE 0 ≠ 5) ∧
    (WF.twiTransactionEnd 0 0 300 0 [9, 8, 7, 6] = true ∧ (inTx 4 false).twi.settings.getD 1 300 = 300 ∧ Device.pecOk (r2 2 true) [9, 8, 7] = false ∧
    WF.twiTransactionEnd 0 0 300 0 [9, 8, 7] = true) ∧
    (slot0.heldNow = false ∧ (slot0.set .TWI_T_STATUS 0 1).num .TWI_T_STATUS 0 = 1 ∧
    (let d : Device := { free0 with twi := { free0.twi with pending := [r2 4 true] } }; d.num .TWI_BUS_STATE 0 = 0 ∧ d.twi.cur = none ∧ d.num .PWR_STATE 0 ≠ 2 ∧
    d.twi.pending = [r2 4 true])) ∧
    ((inTx 4 false).num .TWI_BUS_STATE 0 = 2 ∧ (inTx 4 false).twi.cur = some (r2 4 false) ∧ (inTx 4 false).twi.pending = [] ∧ WF.twiTransactionEnd 1 9 300 0 [9, 8, 7] = true) ∧
    ((retryD 1).num .TWI_BUS_STATE 0 = 0 ∧ (retryD 1).twi.cur = some (r2 2 true) ∧ (retryD 1).twi.retryWait = true ∧
    (retryD 1).twi.tries + 1 < (retryD 1).twi.settings.getD 5 3 ∧ (retryD 3).twi.settings.getD 5 3 ≤ (retryD 3).twi.tries + 1) := by
  refine ⟨?_, ?_, ?_, ?_, ?_⟩ <;> decide +kernel

/-! ### TwoWireBusAndTarget -/

theorem meets_TwoWireBusAndTarget :
    ((inTx 2 true).twi.cur = some (r2 2 true) ∧ (up.set .TWI_BUS_STATE 0 3).num .TWI_BUS_STATE 0 = 3 ∧ (up.set .TWI_BUS_STATE 0 5).num .TWI_BUS_STATE 0 = 5 ∧
    (up.set .TWI_BUS_STATE 0 1).twi.fresh = true ∧ (up.set .TWI_BUS_STATE 0 1).num .TWI_BUS_STATE 0 = 1 ∧ up.bring = .up ∧ up.num .PWR_STATE 0 ≠ 2 ∧ up.Reaches 1 ∧
    up.heldNow = false) ∧
    ((up.set .PWR_STATE 0 2).num .PWR_STATE 0 = 2 ∧ ({ up.set .PWR_STATE 0 2 with twi := { up.twi with powered := false } } : Device).twi.powered = false) := by
  refine ⟨?_, ?_⟩ <;> decide +kernel

/-! ### CrcContextSavesAndRestores -/

def fed1 (u : Nat) : Device := { up with drovers := [{ c := 3, cur := some { (Descriptor.ofBytes [] []) with ctl := 3 * 32, obj := u } }] }
theorem meets_CrcContextSavesAndRestores :
    (up.Reaches 1 ∧ up.heldNow = false ∧ up.crcFed 0 = false) ∧
    ((fed1 5).crcFed 5 = true ∧ (fed1 5).Reaches 1) := by
  refine ⟨?_, ?_⟩ <;> decide +kernel

/-! ### MembersLeaveTheGridToTheBellwether -/

def mem0 : Device := { up.set .FLD_STATE 0 3 with ident := { up.ident with foldId := 1 } }
def memBus : Device := { bus.set .FLD_STATE 0 4 with ident := { up.ident with foldId := 1 } }
def bw0 : Device := (up.set .FLD_STATE 0 2).set .POS_DECSYNC_EN 0 1
def bwBus : Device := (bus.set .FLD_STATE 0 2).set .POS_DECSYNC_EN 0 1
theorem meets_MembersLeaveTheGridToTheBellwether :
    (mem0.bellwether = false ∧ mem0.Reaches 1 ∧ memBus.Reaches 0 ∧ memBus.bellwether = false ∧ memBus.heldNow = false) ∧
    (bw0.num .FLD_STATE 0 = 2 ∧ bw0.bellwether = true ∧ (∀ n : Nat, n < 16 → bw0.on .CH_ENABLE n = false) ∧ bw0.num .POS_DECSYNC_EDGE 0 = 0 ∧ bw0.num .POS_DECSYNC_EN 0 = 1 ∧
    bw0.num .STI_MARK_SRC 0 ≠ 9 ∧ bw0.wiredLines = [] ∧ bw0.Reaches 1 ∧ bwBus.Reaches 0 ∧ bw0.heldNow = false) := by
  refine ⟨?_, ?_⟩ <;> decide +kernel

/-! ### HallTripletCounts -/

def hall (a inv run back : Nat) : Device := let d := ((up.set .POS_QUALITY 0 1).set .POS_ENC_INVERT 2 inv).set .POS_SRC_BACKUP 0 back; ({ d with pos := { d.pos with active := some 2 } }).modSource 2 (fun x => { x with code := some a, run := run })
theorem meets_HallTripletCounts :
    (hall 1 0 0 0xFF).num .POS_QUALITY 0 ≠ 0 ∧ (hall 1 0 0 0xFF).pos.active = some 2 ∧ ((hall 1 0 0 0xFF).source 2).code = some 1 := by decide +kernel

/-! ### The queue -/

/-- Two commands wait. -/
def busy : State := { at_ up with pending := [.commaLockAcquire 0 false, .sessionTimeout 1] }

/-- QueueOfCommandsNeverStalls: a queue of well-formed commands that is not empty. -/
theorem meets_QueueOfCommandsNeverStalls : busy.QueueOk ∧ (Instr.sessionTimeout 1).wf = true := by
  refine ⟨?_, rfl⟩
  intro c h
  simp only [busy, List.mem_cons, List.not_mem_nil, or_false] at h
  rcases h with rfl | rfl <;> rfl

/-- EveryStepKeepsTheCanonicalForm: a state in its canonical form with a command waiting. -/
theorem meets_EveryStepKeepsTheCanonicalForm : busy.Canonical ∧ (match step busy with | .next t => t.pending.length == 1 | _ => false) = true :=
  ⟨⟨by decide +kernel, by decide +kernel, by decide +kernel, by decide +kernel⟩, by decide +kernel⟩

/-- IdleStepEndsATick: nothing waits. -/
theorem meets_IdleStepEndsATick : (at_ up).pending = [] ∧ (at_ up).dev.num .PWR_STATE 0 ≠ 2 := ⟨rfl, by decide +kernel⟩

def wrt : BlockWrite := { rep := 0, block := bAt, pad := 1, off := 8192, bytes := blk, words := List.replicate 4096 5, seals := false, load := true }
def written : Device := let d := (loading none).begin.dramWrite ((loading none).ident.paddockBase 1 + 8192) blk; { d with heft := { d.heft with writes := [wrt] } }
def written1 : Device := { loading none with dram := Memory.writes [] ((loading none).ident.paddockBase 1 + 8192) blk, heft := { (loading none).heft with writes := [wrt1] } }
/-! ### Witnesses that take a proof -/

/-- SessionsOpenAndEnd: every one of the 1,023 sessions is open. -/
theorem meets_SessionsOpenAndEnd_full (n : Nat) (h1 : 1 ≤ n) (h : n ≤ 1023) : (full.session n).isSome = true := by
  simp only [Device.session, getKeyed, full, List.find?_isSome, List.mem_map, List.mem_range]
  exact ⟨_, ⟨n - 1, by omega, rfl⟩, by simp; omega⟩

/-- ArtworkAndHefts: an encoded block is at most as long as a stored one. -/
theorem encodeBlock_length (effort : Nat) (x : Nat) : (encodeBlock effort 0 [x]).length ≤ 12296 := by
  unfold encodeBlock
  dsimp only
  split
  · simp [storedBlock, blockHeader, storedPayload]
  · rename_i h
    simp only [storedSize, Nat.not_lt] at h
    simp only [blockHeader, List.length_append, List.length_cons, List.length_nil, length_le]
    omega

/-- ArtworkAndHefts: there is room for a block of the seed. -/
theorem meets_ArtworkAndHefts_room :
    ∃ e, seeding1.begin.writeBlock { rep := 1, block := bAt, pad := 1, off := 0, bytes := [], words := [5], seals := false, seed := true }
      (seeding1.num .HFT_LEARN_EFFORT 0) = (e, true) := by
  have key : ∀ n, n ≤ 12296 → (seeding1.freshExtent 1 n).isSome = true := by
    intro n hn
    have he : seeding1.extents 1 = [] := by decide +kernel
    have hp : 4000000 ≤ seeding1.ident.paddockSize 1 := by decide +kernel
    have hb : heftBlocks (seeding1.layersOf 1) = 2 := by decide +kernel
    simp only [Device.freshExtent, he, hb, List.map_nil, firstGap, pad8]
    rw [if_pos (by omega)]
    rfl
  have hf : ∀ (d : Device) n, d.dram = seeding1.dram → d.heft = seeding1.heft → d.ident = seeding1.ident → d.freshExtent 1 n = seeding1.freshExtent 1 n := by
    intro d n h1 h2 h3
    have h4 : d.dirEntry 1 = seeding1.dirEntry 1 := by
      funext b
      simp only [Device.dirEntry, Device.dirAddr, Device.dramPeek, Device.layersOf, h1, h2, h3]
      rfl
    simp only [Device.freshExtent, Device.extents, Device.layersOf, h2, h3, h4]
    rfl
  have hc : ∀ (d : Device) (a b : Nat) (c : Bool), let e := ((d.add .FLC_ENC_SAMPLES 0 a).add .FLC_ENC_BYTES 0 b).bumpIf c .FLC_STORED 0
      e.dram = d.dram ∧ e.heft = d.heft ∧ e.ident = d.ident := by
    intro d a b c
    cases c <;> exact ⟨rfl, rfl, rfl⟩
  have hg : ∀ d : Device, d.begin.dram = d.dram ∧ d.begin.heft = d.heft ∧ d.begin.ident = d.ident := fun _ => ⟨rfl, rfl, rfl⟩
  unfold Device.writeBlock Device.encode
  dsimp only
  generalize hl : (encodeBlock (seeding1.num .HFT_LEARN_EFFORT 0) 0 [5]) = b
  have hlen : b.length ≤ 12296 := by rw [← hl]; exact encodeBlock_length _ _
  have hd := hc seeding1.begin blockSamples b.length (decide (octet b 0 < 64))
  have hs := hg seeding1
  rw [hf _ _ (hd.1.trans hs.1) (hd.2.1.trans hs.2.1) (hd.2.2.trans hs.2.2)]
  obtain ⟨o, ho⟩ := Option.isSome_iff_exists.mp (key _ hlen)
  rw [ho]
  exact ⟨_, rfl⟩

/-- ArtworkAndHefts: a block of the stack that decodes to the words written. -/
theorem meets_ArtworkAndHefts_decodes :
    written1.heft.writes = [wrt1] ∧ decodeBlock (written1.dramPeek (written1.ident.paddockBase 1 + 8192) wrt1.bytes.length) = .ok 0 wrt1.words := by
  have hd : written1.dram = Memory.writes [] (written1.ident.paddockBase 1 + 8192) wrt1.bytes := by simp only [written1, wrt1]
  refine ⟨by simp only [written1], ?_⟩
  rw [dramPeek_writes written1 _ wrt1.bytes (storedBlock_lt 3 (by decide) _) hd]
  exact decodeBlock_storedBlock 3 (by decide) _ (List.length_replicate ..) (by intro x hx; rw [List.eq_of_mem_replicate hx]; decide)

/-- CodecJobs: the samples of a block. -/
def words7 : List Nat := (List.range 4096).map (· * 7)

theorem words7_ok : words7.length = blockSamples ∧ ∀ x ∈ words7, x < 2 ^ 24 := by
  refine ⟨by simp [words7, blockSamples], ?_⟩
  intro x hx
  obtain ⟨i, hi, rfl⟩ := List.mem_map.mp hx
  have := List.mem_range.mp hi
  show i * 7 < 2 ^ 24
  omega

/-- CodecJobs: a block in stored mode of those samples, with a CRC field. -/
def blockOf (crc : Nat) : Octets := [3 * 8, 0] ++ (le 2 12296 ++ (le 4 crc ++ words7.flatMap (le 3)))

theorem job1_reads (crc : Nat) (room : Nat) : decodeBlock ((job1 (blockOf crc) room).dramPeek 0x5E8000000 (ofLE ((job1 (blockOf crc) room).dramPeek (0x5E8000000 + 2) 2))) =
    if samplesCrc 0 words7 = crc % 2 ^ 32 then .ok 0 words7 else .badCrc := by
  have hl : (words7.flatMap (le 3)).length = 12288 := by rw [length_flatMap_le, words7_ok.1, blockSamples]
  have hlen : (blockOf crc).length = 12296 := by simp only [blockOf, List.length_append, List.length_cons, List.length_nil, length_le, hl]
  have hb : ∀ x ∈ blockOf crc, x < 256 := by
    intro x hx
    simp only [blockOf, List.mem_append, List.mem_cons, List.not_mem_nil, or_false, List.mem_flatMap] at hx
    rcases hx with (rfl | rfl) | hx | hx | ⟨y, _, hx⟩
    · decide
    · decide
    · exact le_lt _ _ x hx
    · exact le_lt _ _ x hx
    · exact le_lt _ _ x hx
  have hd : (job1 (blockOf crc) room).dram = Memory.writes [] 0x5E8000000 (blockOf crc) := by simp only [job1]
  have h2 : (job1 (blockOf crc) room).dramPeek (0x5E8000000 + 2) 2 = le 2 12296 := by
    have r2 := Memory.read_writes [] 0x5E8000000 (blockOf crc) 2 (by rw [hlen]; decide)
    have r3 := Memory.read_writes [] 0x5E8000000 (blockOf crc) 3 (by rw [hlen]; decide)
    simp only [Device.dramPeek, hd, List.range, List.range.loop, List.map_cons, List.map_nil, Nat.add_zero]
    have g2 : (blockOf crc).getD 2 0 = 8 := rfl
    have g3 : (blockOf crc).getD 3 0 = 48 := rfl
    rw [Nat.add_assoc, r2, r3, g2, g3]
    decide
  have h3 : ofLE (le 2 12296) = (blockOf crc).length := by rw [hlen]; decide
  rw [h2, h3, dramPeek_writes _ _ _ hb hd]
  exact decodeBlock_stored 3 (by decide) crc words7 words7_ok.1 words7_ok.2

/-- CodecJobs: a block that decodes, and one whose CRC is another. -/
theorem meets_CodecJobs_blocks (room : Nat) :
    decodeBlock ((job1 (blockOf (samplesCrc 0 words7)) room).dramPeek 0x5E8000000
      (ofLE ((job1 (blockOf (samplesCrc 0 words7)) room).dramPeek (0x5E8000000 + 2) 2))) = .ok 0 words7 ∧
    decodeBlock ((job1 (blockOf (samplesCrc 0 words7 + 1)) room).dramPeek 0x5E8000000
      (ofLE ((job1 (blockOf (samplesCrc 0 words7 + 1)) room).dramPeek (0x5E8000000 + 2) 2))) = .badCrc := by
  have h : samplesCrc 0 words7 < 2 ^ 32 := crc32c_lt _
  constructor
  · rw [job1_reads, if_pos (Nat.mod_eq_of_lt h).symm]
  · rw [job1_reads, if_neg (by omega)]

/-- JournalEntriesAreChainedAndWritten: a mirror that is full. -/
theorem meets_JournalEntriesAreChainedAndWritten_full :
    (jd up.ident.mirrorEntries).jrn.kept.length = (jd up.ident.mirrorEntries).ident.mirrorEntries ∧ (jd up.ident.mirrorEntries).jrn.kept ≠ [] := by
  have h : (jd up.ident.mirrorEntries).jrn.kept.length = up.ident.mirrorEntries := by simp [jd]
  exact ⟨h, by intro hn; rw [hn] at h; exact absurd h (by decide +kernel)⟩

/-- BringUp: the boot ROM chooses the slot whose image passes. -/
theorem meets_BringUp_slot : chooseSlot bt.fuses img0 [] = some (0, img0) := by
  have h1 : imageHeaderOk fuses0 img0 = true := meets_FirmwareStaging.2.2.1
  have h2 : imageBodyOk img0 = true := meets_FirmwareStaging.2.2.2
  have h3 : imageHeaderOk fuses0 [] = false := by decide +kernel
  have h4 : imageSvn [] < imageSvn img0 := by decide +kernel
  show chooseSlot fuses0 img0 [] = some (0, img0)
  simp [chooseSlot, h1, h2, h3, h4]

end Sys2Proof.Tests
end

section
/-!
PROOF. Which live objects an operation can change, and the few other fields that it holds: a relation between a device and what an operation makes of it, with one
rule for each operation of the event fabric, the fault flags, the links and the sequencer.
-/
namespace Sys2Proof.Machine

/-- From `d` to `e` no live object changes but those of `regs` and those of `keys`, and neither do the staging copy, a reset that is due, the causes of forced STANDBY, a
wake that has begun and the power of the two-wire block. -/
structure Device.ChangesOnly (regs : List Reg) (keys : List (Reg × Nat)) (d e : Device) : Prop where
  val : ∀ r i, r ∉ regs → (r, i) ∉ keys → e.val r i = d.val r i
  staged : e.staged = d.staged
  resetDue : e.resetDue = d.resetDue
  forced : e.forced = d.forced
  wakeAt : e.wakeAt = d.wakeAt
  powered : e.twi.powered = d.twi.powered

/-- What the relation reads of a device. -/
def Device.held (d : Device) : Store × Identity × Store × Bool × Forced × Option Nat × Bool :=
  (d.live, d.ident, d.staged, d.resetDue, d.forced, d.wakeAt, d.twi.powered)

namespace Device.ChangesOnly

variable {regs : List Reg} {keys : List (Reg × Nat)} {d e : Device}

theorem refl (d : Device) : d.ChangesOnly regs keys d := ⟨fun _ _ _ _ => rfl, rfl, rfl, rfl, rfl, rfl⟩

theorem trans {f : Device} (h : d.ChangesOnly regs keys e) (h' : e.ChangesOnly regs keys f) : d.ChangesOnly regs keys f :=
  ⟨fun r i hr hk => (h'.val r i hr hk).trans (h.val r i hr hk), h'.staged.trans h.staged, h'.resetDue.trans h.resetDue, h'.forced.trans h.forced,
    h'.wakeAt.trans h.wakeAt, h'.powered.trans h.powered⟩

theorem mono {keys' : List (Reg × Nat)} (h : d.ChangesOnly regs keys e) (hs : keys ⊆ keys') : d.ChangesOnly regs keys' e :=
  { h with val := fun r i hr hk => h.val r i hr (fun hm => hk (hs hm)) }

theorem num (h : d.ChangesOnly regs keys e) (r : Reg) (i : Nat) (hr : r ∉ regs) (hk : (r, i) ∉ keys) : e.num r i = d.num r i :=
  congrArg Val.toNat (h.val r i hr hk)

/-- An update that leaves alone what the relation reads. -/
theorem beside {f : Device} (h : d.ChangesOnly regs keys e) (same : f.held = e.held) : d.ChangesOnly regs keys f := by
  simp only [Device.held, Prod.mk.injEq] at same
  obtain ⟨hl, hi, hs, hr, hf, hw, hp⟩ := same
  refine h.trans ⟨fun r i _ _ => ?_, hs, hr, hf, hw, hp⟩
  simp only [Device.val, hl, hi]

theorem put (h : d.ChangesOnly regs keys e) {r : Reg} {i : Nat} (v : Val) (hm : r ∈ regs ∨ (r, i) ∈ keys) : d.ChangesOnly regs keys (e.put r i v) := by
  refine h.trans ⟨fun r' i' hr hk => val_put_ne e ?_ v, rfl, rfl, rfl, rfl, rfl⟩
  rintro ⟨rfl, rfl⟩
  exact hm.elim hr hk

theorem set (h : d.ChangesOnly regs keys e) (r : Reg) (hr : r ∈ regs) (i n : Nat) : d.ChangesOnly regs keys (e.set r i n) := h.put _ (.inl hr)

theorem setOn (h : d.ChangesOnly regs keys e) (r : Reg) (hr : r ∈ regs) (i : Nat) (b : Bool) : d.ChangesOnly regs keys (e.setOn r i b) :=
  h.put _ (.inl hr)

theorem bump (h : d.ChangesOnly regs keys e) (r : Reg) (hr : r ∈ regs) (i : Nat) : d.ChangesOnly regs keys (e.bump r i) := h.put _ (.inl hr)

theorem setAt (h : d.ChangesOnly regs keys e) (r : Reg) (i : Nat) (hk : (r, i) ∈ keys) (n : Nat) : d.ChangesOnly regs keys (e.set r i n) := h.put _ (.inr hk)

theorem setIAt (h : d.ChangesOnly regs keys e) (r : Reg) (i : Nat) (hk : (r, i) ∈ keys) (n : Int) : d.ChangesOnly regs keys (e.setI r i n) :=
  h.put _ (.inr hk)

theorem bumpAt (h : d.ChangesOnly regs keys e) (r : Reg) (i : Nat) (hk : (r, i) ∈ keys) : d.ChangesOnly regs keys (e.bump r i) := h.put _ (.inr hk)

theorem ite {c : Prop} [Decidable c] {a b : Device} (ha : d.ChangesOnly regs keys a) (hb : d.ChangesOnly regs keys b) :
    d.ChangesOnly regs keys (if c then a else b) := by
  split
  · exact ha
  · exact hb

theorem bumpIf (h : d.ChangesOnly regs keys e) (c : Bool) (r : Reg) (hr : r ∈ regs) (i : Nat) : d.ChangesOnly regs keys (e.bumpIf c r i) :=
  ite (h.bump r hr i) h

theorem emit (h : d.ChangesOnly regs keys e) (o : Out) : d.ChangesOnly regs keys (e.emit o) := h.beside rfl

theorem fresh (h : d.ChangesOnly regs keys e) (n : Nat) : d.ChangesOnly regs keys (e.fresh n).2 := h.beside rfl

/-- What each step of a fold holds, the fold holds. -/
theorem foldl {α : Type} {f : Device → α → Device} (hf : ∀ {e : Device} (x : α), d.ChangesOnly regs keys e → d.ChangesOnly regs keys (f e x)) (xs : List α)
    (h : d.ChangesOnly regs keys e) : d.ChangesOnly regs keys (xs.foldl f e) := by
  induction xs generalizing e with
  | nil => exact h
  | cons x xs ih => exact ih (hf x h)

end Device.ChangesOnly

/-! ## The event fabric (R399 to R401) -/

namespace Device.ChangesOnly

variable {keys : List (Reg × Nat)} {d e : Device}

theorem setLine (h : d.ChangesOnly fabricRegs keys e) (l : Nat) (f : Line → Line) : d.ChangesOnly fabricRegs keys (e.setLine l f) := h.beside rfl

theorem setCell (h : d.ChangesOnly fabricRegs keys e) (c : Nat) (f : Cell → Cell) : d.ChangesOnly fabricRegs keys (e.setCell c f) := h.beside rfl

theorem deliver (h : d.ChangesOnly fabricRegs keys e) (l t : Nat) : d.ChangesOnly fabricRegs keys (e.deliver l t) := h.beside rfl

theorem accept (h : d.ChangesOnly fabricRegs keys e) (l t : Nat) : d.ChangesOnly fabricRegs keys (riseLine.accept e l t) :=
  (((((h.fresh (e.num .EVT_LINE_RETRIG_NS l / 10 + 41)).setLine l _).bump .EVT_LINE_EDGES (by decide) l).setOn .EVT_LINE_LEVEL (by decide) l true).deliver l t).emit _

theorem riseLine (h : d.ChangesOnly fabricRegs keys e) (l : Nat) : d.ChangesOnly fabricRegs keys (e.riseLine l) := by
  unfold Device.riseLine
  dsimp only
  split
  · exact ite ((h.setLine l _).bump .EVT_LINE_SUPPRESSED (by decide) l) (h.accept l _)
  · exact h.accept l _

theorem fallLine (h : d.ChangesOnly fabricRegs keys e) (l : Nat) : d.ChangesOnly fabricRegs keys (e.fallLine l) :=
  (h.setLine l _).setOn .EVT_LINE_LEVEL (by decide) l false

theorem followLevel (h : d.ChangesOnly fabricRegs keys e) (l code : Nat) : d.ChangesOnly fabricRegs keys (e.followLevel l code) :=
  ite (h.riseLine l) (ite (h.fallLine l) h)

theorem pulsePasses (h : d.ChangesOnly fabricRegs keys e) (filter : Nat) : d.ChangesOnly fabricRegs keys (e.pulsePasses filter).2 := by
  unfold Device.pulsePasses
  split
  · exact h
  · split
    · exact h.fresh 2
    · exact h

theorem followCell (h : d.ChangesOnly fabricRegs keys e) (pulse : Bool) (c : Nat) : d.ChangesOnly fabricRegs keys (e.followCell pulse c) := by
  have hp (b : Prop) [Decidable b] (filter : Nat) : d.ChangesOnly fabricRegs keys (if b then e.pulsePasses filter else (true, e)).2 := by
    split
    · exact h.pulsePasses filter
    · exact h
  exact ((hp _ _).setCell c _).setOn .EVT_CELL_OUT (by decide) c _

theorem settleRound (h : d.ChangesOnly fabricRegs keys e) (pulse : Bool) : d.ChangesOnly fabricRegs keys (e.settleRound pulse) :=
  foldl (fun c h => h.followCell pulse c) _ (foldl (fun x h => h.followLevel x.1 x.2) _ h)

theorem settleRounds (h : d.ChangesOnly fabricRegs keys e) (pulse : Bool) (n : Nat) : d.ChangesOnly fabricRegs keys (settleRounds pulse n e) := by
  induction n generalizing e with
  | zero => exact h
  | succ n ih => exact ih (h.settleRound pulse)

theorem settle (h : d.ChangesOnly fabricRegs keys e) : d.ChangesOnly fabricRegs keys e.settle := ite h (h.settleRounds false 33)

theorem pulse (h : d.ChangesOnly fabricRegs keys e) (code : Nat) : d.ChangesOnly fabricRegs keys (e.pulse code) := by
  unfold Device.pulse
  extract_lets ls e1 e2 e3
  have h1 : d.ChangesOnly fabricRegs keys e1 := foldl (fun l h => h.riseLine l) ls h
  have h3 : d.ChangesOnly fabricRegs keys e3 := foldl (fun l h => h.fallLine l) ls (h1.settleRounds true 33)
  exact ite h (h3.settleRounds false 33)

end Device.ChangesOnly

/-! ## Fault flags (R453) -/

/-- The live objects outside the event fabric that change as a fault is raised. -/
def raiseKeys : List (Reg × Nat) := [(.FLT_LATCHED, 0), (.FLT_RAISED, 0), (.FLT_LAST, 0), (.FLT_LAST_TIME, 0)]

namespace Device.ChangesOnly

variable {d e : Device}

theorem raiseFault (h : d.ChangesOnly fabricRegs raiseKeys e) (f : FaultBit) : d.ChangesOnly fabricRegs raiseKeys (e.raiseFault f) := by
  unfold Device.raiseFault
  extract_lets e0 e1 e2 e3
  have h1 : d.ChangesOnly fabricRegs raiseKeys e1 := (h.setAt .FLT_LATCHED 0 (by decide) _).beside rfl
  have h3 : d.ChangesOnly fabricRegs raiseKeys e3 := ((h1.bumpAt .FLT_RAISED 0 (by decide)).setAt .FLT_LAST 0 (by decide) _).setAt .FLT_LAST_TIME 0 (by decide) _
  exact (h3.pulse 0x061).settle

end Device.ChangesOnly

end Sys2Proof.Machine
end

section
/-!
PROOF. The frames of the sequencer, which can change power and bus state, and of a change of a lane, which reaches its link, its camera and its channel's calibration.
-/
namespace Sys2Proof.Machine

/-! ## The sequencer (R441 to R444) -/

/-- The live objects outside the event fabric that change as the sequencer commands a voltage over a bus that may be stuck (R466). -/
def voltKeys : List (Reg × Nat) := (.TWI_T_STATUS, 0) :: raiseKeys

/-- The live objects outside the event fabric that change as the sequencer begins a move to another point, or finds that none is due. -/
def pointKeys : List (Reg × Nat) := (.PWR_STATE, 0) :: voltKeys

namespace Device

variable {keys : List (Reg × Nat)} {d e : Device}

/-- Outside STANDBY, and while the device wakes from it, PWR_STATE does not become STANDBY. -/
theorem powerSettled_moving (h : d.resting = false) : d.powerSettled = d := by simp [powerSettled, h]

namespace ChangesOnly

theorem twiAsk (h : d.ChangesOnly fabricRegs voltKeys e) (r : TwiReq) : d.ChangesOnly fabricRegs voltKeys (e.twiAsk r) := by
  have hf : e.ChangesOnly fabricRegs voltKeys (e.raiseFault .dvfs) := ((refl e).raiseFault .dvfs).mono (List.subset_cons_self _ _)
  exact ite (ite (h.setAt .TWI_T_STATUS 0 (by decide) 6) (ite (h.trans hf) h)) (h.beside rfl)

theorem commandVolt (h : d.ChangesOnly fabricRegs voltKeys e) (n : Int) (mv : Nat) : d.ChangesOnly fabricRegs voltKeys (e.commandVolt n mv) :=
  (h.twiAsk _).beside rfl

/-- The sequencer's evaluation changes what a voltage command changes, and what it changes where it finds the device settled. -/
theorem evaluatePoint_of_settled (hk : voltKeys ⊆ keys) (h : d.ChangesOnly fabricRegs keys e) (hs : d.ChangesOnly fabricRegs keys e.powerSettled) :
    d.ChangesOnly fabricRegs keys e.evaluatePoint := by
  unfold Device.evaluatePoint
  dsimp only
  refine ite h (ite hs (ite (h.beside rfl) ?_))
  split
  · exact hs
  · exact ite ((h.trans (((refl e).commandVolt _ _).mono hk)).beside rfl) (h.beside rfl)

theorem evaluatePoint (h : d.ChangesOnly fabricRegs pointKeys e) : d.ChangesOnly fabricRegs pointKeys e.evaluatePoint :=
  h.evaluatePoint_of_settled (List.subset_cons_self _ _) (ite (h.setAt .PWR_STATE 0 (by decide) 1) h)

/-- Outside STANDBY, and while the device wakes from it, the evaluation leaves PWR_STATE. -/
theorem evaluatePoint_moving (h : d.ChangesOnly fabricRegs voltKeys e) (hm : e.resting = false) : d.ChangesOnly fabricRegs voltKeys e.evaluatePoint :=
  h.evaluatePoint_of_settled (List.Subset.refl _) (by rwa [powerSettled_moving hm])

end ChangesOnly

end Device

/-! ## Links and lanes (R58, R82 to R101) -/

/-- The live objects that change when a lane changes: the lane's own, and those of its channel's link, camera control and calibration. -/
def linkRegs : List Reg :=
  [.LNK_STATE, .LNK_RUNG, .LNK_RX_INVERTED, .LNK_SLEEP_STATE, .LNK_TEST, .CH_LINK_STATE, .CH_STATE, .CH_CREG_STATUS, .CH_TIME_OK, .CH_CAMSET_BUSY, .CH_PREVIEW_STRIDE,
    .CH_CREDIT_VC0, .CH_LANES_EXCLUDED, .CH_LANES_USABLE, .CH_CAL_STATE, .CH_CAL_DISCARDS, .CH_CAL_PENDING, .CAL_POOL_USED]

namespace Device.ChangesOnly

variable {d e : Device}

theorem modLane (h : d.ChangesOnly linkRegs [] e) (l : Nat) (f : Lane → Lane) : d.ChangesOnly linkRegs [] (e.modLane l f) := h.beside rfl

theorem modLink (h : d.ChangesOnly linkRegs [] e) (k : Nat) (f : Link → Link) : d.ChangesOnly linkRegs [] (e.modLink k f) := h.beside rfl

theorem modCal (h : d.ChangesOnly linkRegs [] e) (n : Nat) (f : Calib → Calib) : d.ChangesOnly linkRegs [] (e.modCal n f) := h.beside rfl

theorem setLane (h : d.ChangesOnly linkRegs [] e) (l st rung : Nat) : d.ChangesOnly linkRegs [] (e.setLane l st rung) :=
  (h.set .LNK_STATE (by decide) l st).set .LNK_RUNG (by decide) l rung

theorem toOff (h : d.ChangesOnly linkRegs [] e) (l : Nat) : d.ChangesOnly linkRegs [] (e.toOff l) :=
  ((((h.setLane l LS.off 0xFF).setOn .LNK_RX_INVERTED (by decide) l false).set .LNK_SLEEP_STATE (by decide) l 0).set .LNK_TEST (by decide) l 0).modLane l _

theorem toSeek (h : d.ChangesOnly linkRegs [] e) (l : Nat) : d.ChangesOnly linkRegs [] (e.toSeek l) :=
  (((h.setLane l LS.seek 0).set .LNK_SLEEP_STATE (by decide) l 0).set .LNK_TEST (by decide) l 0).modLane l _

theorem calRefresh (h : d.ChangesOnly linkRegs [] e) (n : Nat) : d.ChangesOnly linkRegs [] (e.calRefresh n) := by
  unfold Device.calRefresh
  extract_lets on blocked st holds e1
  have h1 : d.ChangesOnly linkRegs [] e1 := by
    refine ite (ite (h.set .CH_CAL_STATE (by decide) n 1) h) ?_
    exact (((h.bumpIf _ .CH_CAL_DISCARDS (by decide) n).setOn .CH_CAL_PENDING (by decide) n false).modCal n _).set .CH_CAL_STATE (by decide) n _
  exact (h1.modCal n _).set .CAL_POOL_USED (by decide) 0 _

theorem transmit (h : d.ChangesOnly linkRegs [] e) (k vc : Nat) (p : TxPacket) : d.ChangesOnly linkRegs [] (e.transmit k vc p) := by
  unfold Device.transmit
  split
  · exact h
  · exact (((ite (h.modLink k _) h).modLane _ _).emit _).modLink k _

theorem pumpVc (h : d.ChangesOnly linkRegs [] e) (k vc n : Nat) : d.ChangesOnly linkRegs [] (pumpVc k vc n e) := by
  induction n generalizing e with
  | zero => exact h
  | succ n ih =>
    unfold Device.pumpVc
    split
    · exact h
    · exact ih ((h.transmit k vc _).modLink k _)

theorem pump (h : d.ChangesOnly linkRegs [] e) (k : Nat) : d.ChangesOnly linkRegs [] (e.pump k) := foldl (fun vc h => h.pumpVc k vc _) _ h

theorem sendPacket (h : d.ChangesOnly linkRegs [] e) (k vc : Nat) (p : TxPacket) (urgent : Bool) : d.ChangesOnly linkRegs [] (e.sendPacket k vc p urgent) :=
  ite h ((h.modLink k _).pump k)

theorem sendCredits (h : d.ChangesOnly linkRegs [] e) (k : Nat) : d.ChangesOnly linkRegs [] (e.sendCredits k) := by
  unfold Device.sendCredits
  extract_lets p e1 lim e2
  have h2 : d.ChangesOnly linkRegs [] e2 := foldl (fun vc h => h.modLink k _) _ (h.transmit k 2 _)
  exact ite h (ite (h2.set .CH_CREDIT_VC0 (by decide) k _) h2)

theorem startRequest (h : d.ChangesOnly linkRegs [] e) (k : Nat) (r : Request) (urgent : Bool) : d.ChangesOnly linkRegs [] (e.startRequest k r urgent) :=
  (h.modLink k _).sendPacket k 2 _ urgent

theorem request (h : d.ChangesOnly linkRegs [] e) (k op : Nat) (args : Octets) (ahead : Bool) : d.ChangesOnly linkRegs [] (e.request k op args ahead) := by
  unfold Device.request
  dsimp only
  split
  · exact h.startRequest k _ _
  · exact h.modLink k _

theorem refreshState (h : d.ChangesOnly linkRegs [] e) (k : Nat) : d.ChangesOnly linkRegs [] (e.refreshState k) :=
  ite (h.set .CH_LINK_STATE (by decide) k _) h

theorem sendMode (h : d.ChangesOnly linkRegs [] e) (k : Nat) (m : Nat × Nat) : d.ChangesOnly linkRegs [] (e.sendMode k m) :=
  (h.modLink k _).request k 0x04 _ false

theorem enterOn (h : d.ChangesOnly linkRegs [] e) (k : Nat) : d.ChangesOnly linkRegs [] (e.enterOn k) :=
  ite ((h.set .CH_STATE (by decide) k 1).calRefresh k) h

theorem remode (h : d.ChangesOnly linkRegs [] e) (k : Nat) : d.ChangesOnly linkRegs [] (e.remode k) :=
  ite (h.refreshState k) ((ite h (h.sendMode k _)).refreshState k)

theorem linkForm (h : d.ChangesOnly linkRegs [] e) (k : Nat) : d.ChangesOnly linkRegs [] (e.linkForm k) := by
  unfold Device.linkForm
  extract_lets _ e1 e2
  have h1 : d.ChangesOnly linkRegs [] e1 := h.modLink k _
  have h2 : d.ChangesOnly linkRegs [] e2 := h1.beside rfl
  exact h2.sendCredits k

theorem linkFall (h : d.ChangesOnly linkRegs [] e) (k : Nat) : d.ChangesOnly linkRegs [] (e.linkFall k) := by
  unfold Device.linkFall
  extract_lets busy queued e1 e2 e3 e4
  have h1 : d.ChangesOnly linkRegs [] e1 := h.modLink k _
  have h2 : d.ChangesOnly linkRegs [] e2 := ite (h1.set .CH_CREG_STATUS (by decide) k 3) h1
  have h4 : d.ChangesOnly linkRegs [] e4 := ((h2.setOn .CH_TIME_OK (by decide) k false).setOn .CH_CAMSET_BUSY (by decide) k false).set .CH_PREVIEW_STRIDE (by decide) k 0
  exact ite ((h4.enterOn k).refreshState k) h1

theorem matchLanes (h : d.ChangesOnly linkRegs [] e) (k : Nat) : d.ChangesOnly linkRegs [] (e.matchLanes k) := by
  unfold Device.matchLanes
  extract_lets ls x ref rid e1 ms mark e2
  have h2 : d.ChangesOnly linkRegs [] e2 := foldl (fun l h => h.modLane l _) ls (h.modLink k _)
  exact ite (h2.set .CH_LANES_EXCLUDED (by decide) k _) h2

theorem relink (h : d.ChangesOnly linkRegs [] e) (k : Nat) : d.ChangesOnly linkRegs [] (e.relink k) := by
  unfold Device.relink
  extract_lets before e1 us e2 e3 e4 tail e5
  have h2 : d.ChangesOnly linkRegs [] e2 := (h.matchLanes k).modLink k _
  have h3 : d.ChangesOnly linkRegs [] e3 := ite (h2.set .CH_LANES_USABLE (by decide) k _) h2
  have h5 : d.ChangesOnly linkRegs [] e5 := ite (h3.modLink k _) h3
  exact ite (ite ((h3.linkFall k).matchLanes k) (h3.refreshState k))
    (ite ((h3.linkForm k).refreshState k) (ite ((h5.remode k).pump k) (h3.refreshState k)))

theorem laneChanged (h : d.ChangesOnly linkRegs [] e) (l : Nat) : d.ChangesOnly linkRegs [] (e.laneChanged l) := by
  unfold Device.laneChanged
  split
  · exact h.relink _
  · exact h

end Device.ChangesOnly

end Sys2Proof.Machine
end

section
/-!
PROOF. Bits of a fault word, signed readings, and the conditions of faults as they arise and end.
-/
namespace Sys2Proof.Machine

/-! ## Bits and signed readings -/

theorem bit_eq_testBit (n k : Nat) : bit n k = n.testBit k := by
  rw [bit, Nat.testBit_eq_decide_div_mod_eq, Nat.shiftRight_eq_div_pow]
  rfl

theorem bit_mod_two_pow {n w k : Nat} (hk : k < w) : bit (n % 2 ^ w) k = bit n k := by
  simp [bit_eq_testBit, Nat.testBit_mod_two_pow, hk]

theorem bit_num_set_same (d : Device) {r : Reg} (i n : Nat) {k : Nat} (hk : k < r.bits) : bit ((d.set r i n).num r i) k = bit n k := by
  rw [Device.num_set_same, bit_mod_two_pow hk]

theorem bit_setBit_same (n k : Nat) : bit (setBit n k) k = true := by
  simp [bit_eq_testBit, setBit]

/-- A number whose bit `k` is set is `2 ^ k` and what remains without it. -/
theorem two_pow_add_clearBit {n k : Nat} (h : bit n k = true) : n = 2 ^ k + clearBit n k := by
  have hle : 2 ^ k ≤ n := Nat.ge_two_pow_of_testBit (bit_eq_testBit n k ▸ h)
  simp only [clearBit, h, if_true]
  omega

theorem bit_clearBit_same (n k : Nat) : bit (clearBit n k) k = false := by
  cases h : bit n k with
  | false => simp [clearBit, h]
  | true =>
    have hn := Nat.testBit_two_pow_add_eq (clearBit n k) k
    rw [← two_pow_add_clearBit h, ← bit_eq_testBit, ← bit_eq_testBit, h] at hn
    simpa using hn

/-- Clearing a bit leaves those below it. -/
theorem bit_clearBit_below {n j k : Nat} (hj : j < k) : bit (clearBit n k) j = bit n j := by
  cases h : bit n k with
  | false => simp [clearBit, h]
  | true =>
    have hn := Nat.testBit_two_pow_add_gt hj (clearBit n k)
    rw [← two_pow_add_clearBit h] at hn
    simpa [bit_eq_testBit] using hn.symm

/-- A signed number of `w` bits is read back as it was written. -/
theorem toSigned_ofSigned_toSigned (w n : Nat) : toSigned w (ofSigned w (toSigned w n)) = toSigned w n := by
  have hm : ((n % 2 ^ w : Nat) : Int) < 2 ^ w := by exact_mod_cast Nat.mod_lt n (Nat.two_pow_pos w)
  have hlow : ((n % 2 ^ w : Nat) : Int) % 2 ^ w = (n % 2 ^ w : Nat) := Int.emod_eq_of_lt (Int.natCast_nonneg _) hm
  have h : ofSigned w (toSigned w n) = n % 2 ^ w := by
    unfold ofSigned toSigned
    dsimp only
    split
    · rw [Int.sub_emod_right, hlow, Int.toNat_natCast]
    · rw [hlow, Int.toNat_natCast]
  rw [h]
  simp [toSigned]

theorem FaultBit.num_lt (f : FaultBit) : f.num < Reg.bits .FLT_ACTIVE := by cases f <;> decide

namespace Device

/-- A signed object reads back a reading of its own width. -/
theorem int_setI_same (d : Device) (r : Reg) (i n : Nat) : (d.setI r i (toSigned r.bits n)).int r i = toSigned r.bits n := by
  rw [Device.int, num_setI_same, toSigned_ofSigned_toSigned]

theorem int_setI_reg_ne (d : Device) {r r' : Reg} (i i' : Nat) (n : Int) (h : r' ≠ r) : (d.setI r' i' n).int r i = d.int r i := by
  rw [Device.int, num_setI_reg_ne d i i' n h, Device.int]

/-! ## Fault conditions (R453) -/

/-- The live objects outside the event fabric that change as the condition of a fault arises. -/
def conditionKeys : List (Reg × Nat) := (.FLT_ACTIVE, 0) :: raiseKeys

theorem ChangesOnly.faultOn {d e : Device} (h : d.ChangesOnly fabricRegs conditionKeys e) (f : FaultBit) :
    d.ChangesOnly fabricRegs conditionKeys (e.faultOn f) := by
  have hf (x : Device) : x.ChangesOnly fabricRegs conditionKeys (x.raiseFault f) := ((ChangesOnly.refl x).raiseFault f).mono (List.subset_cons_self _ _)
  exact .ite h ((h.setAt .FLT_ACTIVE 0 (by decide) _).trans (hf _))

theorem ChangesOnly.faultOff {regs : List Reg} {keys : List (Reg × Nat)} {d e : Device} (h : d.ChangesOnly regs keys e) (hk : (.FLT_ACTIVE, 0) ∈ keys)
    (f : FaultBit) : d.ChangesOnly regs keys (e.faultOff f) := h.setAt .FLT_ACTIVE 0 hk _

/-- A fault whose condition arises is active. -/
theorem faultOn_active (d : Device) (f : FaultBit) : bit ((d.faultOn f).num .FLT_ACTIVE 0) f.num = true := by
  unfold Device.faultOn
  split
  · assumption
  · rw [((ChangesOnly.refl _).raiseFault f).num .FLT_ACTIVE 0 (by decide) (by decide), bit_num_set_same _ 0 _ (FaultBit.num_lt f), bit_setBit_same]

/-- A fault whose condition ends is not active. -/
theorem faultOff_inactive (d : Device) (f : FaultBit) : bit ((d.faultOff f).num .FLT_ACTIVE 0) f.num = false := by
  rw [Device.faultOff, bit_num_set_same _ 0 _ (FaultBit.num_lt f), bit_clearBit_same]

/-- The end of a condition leaves the faults of lower bits. -/
theorem faultOff_active_below (d : Device) {f g : FaultBit} (h : g.num < f.num) :
    bit ((d.faultOff f).num .FLT_ACTIVE 0) g.num = bit (d.num .FLT_ACTIVE 0) g.num := by
  rw [Device.faultOff, bit_num_set_same _ 0 _ (FaultBit.num_lt g), bit_clearBit_below h]

end Device

end Sys2Proof.Machine
end

section
/-!
PROOF. DEEP_SLEEP and the wake from it, and commands that an object's own rule refuses.
-/
namespace Sys2Proof.Machine

namespace Device

/-! ## DEEP_SLEEP (R444, R445) -/

/-- PWR_SLEEP is not refused in STANDBY with the two-wire block at rest (R444, R470). -/
theorem sleepRefused_none {d : Device} (hp : d.num .PWR_STATE 0 = 1) (hq : d.twi.pending = []) (hc : d.twi.cur = none) : d.sleepRefused = 0 := by
  simp [sleepRefused, hp, hq, hc]

/-- The device as it enters DEEP_SLEEP, before its lanes go to OFF. -/
def asleep (d : Device) : Device := { d.set .PWR_STATE 0 2 with twi := { d.twi with powered := false } }

/-- DEEP_SLEEP changes what the sequencer may, then the power state and the two-wire block, then the lanes. -/
theorem deepSleep_stages (d : Device) : ∃ e : Device, e.staged = d.staged ∧ e.resetDue = d.resetDue ∧ e.asleep.ChangesOnly linkRegs [] d.deepSleep := by
  unfold Device.deepSleep
  extract_lets e1 e2 e3
  have hpoint : ({ d with wakeAt := none } : Device).ChangesOnly fabricRegs pointKeys ({ d with wakeAt := none } : Device).evaluatePoint := (ChangesOnly.refl _).evaluatePoint
  have he : e1.staged = d.staged ∧ e1.resetDue = d.resetDue := by
    dsimp only [e1]
    split
    · exact ⟨hpoint.staged, hpoint.resetDue⟩
    · exact ⟨rfl, rfl⟩
  exact ⟨e1, he.1, he.2, ChangesOnly.foldl (fun l h => (h.toOff l).laneChanged l) _ (ChangesOnly.refl _)⟩

theorem deepSleep_powerState (d : Device) : d.deepSleep.num .PWR_STATE 0 = 2 := by
  obtain ⟨e, -, -, h⟩ := d.deepSleep_stages
  rw [h.num .PWR_STATE 0 (by decide) (by decide)]
  exact num_set_same e .PWR_STATE 0 2

theorem deepSleep_powered (d : Device) : d.deepSleep.twi.powered = false := by
  obtain ⟨e, -, -, h⟩ := d.deepSleep_stages
  exact h.powered

theorem deepSleep_staged (d : Device) : d.deepSleep.staged = d.staged := by
  obtain ⟨e, hs, -, h⟩ := d.deepSleep_stages
  exact h.staged.trans hs

theorem deepSleep_resetDue (d : Device) : d.deepSleep.resetDue = d.resetDue := by
  obtain ⟨e, -, hr, h⟩ := d.deepSleep_stages
  exact h.resetDue.trans hr

theorem wakeCheck_notRequested {d : Device} (h : d.num .DEV_RUN_REQ 0 ≠ 1) : d.wakeCheck = d := by simp [wakeCheck, h]

/-- A wake source brings a sleeping device for which RUN is not requested to STANDBY (R445). -/
theorem deepWake_powerState {d : Device} (hp : d.num .PWR_STATE 0 = 2) (hr : d.num .DEV_RUN_REQ 0 = 0) : d.deepWake.num .PWR_STATE 0 = 1 := by
  unfold Device.deepWake
  rw [if_neg (by simp [hp])]
  extract_lets e1 e2
  have h : e1.ChangesOnly linkRegs [] e2 := ChangesOnly.foldl (fun l h => .ite ((h.toSeek l).laneChanged l) h) _ (ChangesOnly.refl e1)
  have hreq : e2.num .DEV_RUN_REQ 0 = 0 := by rw [h.num .DEV_RUN_REQ 0 (by decide) (by decide), num_set_reg_ne _ _ _ _ (by decide), hr]
  rw [wakeCheck_notRequested (by omega), h.num .PWR_STATE 0 (by decide) (by decide)]
  exact num_set_same d .PWR_STATE 0 1

/-! ## Refused commands (R27) -/

/-- A command's object, in range, passes the checks of class, length and range. -/
theorem formRefused_plain {d : Device} {r : Reg} {i x sz : Nat} (hp : plain r i = true) (hs : r.row.ty.size = some sz) (hcl : d.classRefused ⟨r, i⟩ = false)
    (hx : x < 2 ^ (8 * sz)) (hrange : numInRange ⟨r, i⟩ x = true) : d.formRefused ⟨r, i⟩ (le sz x) = 0 := by
  simp only [plain, Bool.and_eq_true, Bool.not_eq_true', List.contains_cons, List.contains_nil, Bool.or_eq_false_iff, beq_eq_false_iff_ne, Bool.or_false] at hp
  obtain ⟨-, -, -, -, hterm, hmode, hcounts, hoff, hshade⟩ := hp
  have hpast : d.pastTable ⟨r, i⟩ sz = false := by
    unfold pastTable
    split <;> simp_all
  have hdec : decodeVal r.row.ty (le sz x) = .num x := by simp [decodeVal, hs, ofLE_le, Nat.mod_eq_of_lt hx]
  have hlen : lengthOk r sz = true := by
    unfold lengthOk
    rw [hs]
    exact beq_self_eq_true sz
  simp [formRefused, hcl, hlen, hdec, inRange, hrange, hpast, hallFixed, hterm, hmode, hcounts]

/-- A command by a DAP session that an object's own rule refuses answers with the rule's code and changes nothing (R27). -/
theorem command_plain_refused {d : Device} {n : Nat} {r : Reg} {i x sz c : Nat} (hp : plain r i = true) (hs : r.row.ty.size = some sz)
    (hpres : d.ident.present ⟨r, i⟩ = true) (hr : d.Reaches n) (hn : n ≠ 0) (hh : d.heldNow = false) (hcl : d.classRefused ⟨r, i⟩ = false) (hx : x < 2 ^ (8 * sz))
    (hrange : numInRange ⟨r, i⟩ x = true) (happ : d.applyWrite ⟨r, i⟩ (.num x) n = (c, d)) (hc : c ≠ 0) (hclosing : d.closing = false) (hdue : d.resetDue = false) :
    d.command n r i x = d.emit (.result c) := by
  have hform := formRefused_plain hp hs hcl hx hrange
  have hdec : decodeVal r.row.ty (le sz x) = .num x := by simp [decodeVal, hs, ofLE_le, Nat.mod_eq_of_lt hx]
  simp only [plain, Bool.and_eq_true, decide_eq_true_eq, Bool.not_eq_true', List.contains_cons, Bool.or_eq_false_iff, beq_eq_false_iff_ne] at hp
  obtain ⟨⟨⟨⟨⟨hloc, hidx⟩, -⟩, hrws⟩, -⟩, hdev, hch, hbulk, -⟩ := hp
  have hfind : d.findObj (Key.index ⟨r, i⟩) (Key.sub ⟨r, i⟩) = some ⟨r, i⟩ := by simp [findObj, hloc, hpres, hidx]
  have hwrite : d.writeObj n ⟨r, i⟩ (le sz x) = (c, d) := by
    simp [writeObj, hform, furtherWrite, underHold, hh, formingRefused, hrws, hdec, happ, hc]
  obtain ⟨-, hup, hawake, -, -, hopen⟩ := hr
  have hsome : (d.session n).isNone = false := by simpa [hn, Option.isNone_iff_eq_none, Option.isSome_iff_ne_none] using hopen
  have hdue' : (d.emit (.result c)).resetDue = false := hdue
  simp [command, hn, encodeVal, hs, itemWrite, hup, hsome, deepWake_awake hawake, write, hfind, hbulk, hwrite, closeOwn, hclosing, commandReset_none hdue']

/-! ## PWR_SLEEP (R444) -/

theorem sleepRefused_journalWriteOf (d : Device) (n : Nat) (k : Key) (b : Octets) : (d.journalWriteOf n k b).sleepRefused = d.sleepRefused := by
  obtain ⟨j, hj, -⟩ := d.journalWriteOf_eq n k b
  rw [hj]
  rfl

theorem applyWrite_pwrSleep (d : Device) (v : Val) (n : Nat) : d.applyWrite ⟨.PWR_SLEEP, 0⟩ v n = d.refusing d.sleepRefused deepSleep := rfl

/-- What the object table says of PWR_SLEEP: a command of the device of one byte, for which 1 is in range (R27, R444). -/
theorem pwrSleep_row : plain .PWR_SLEEP 0 = true ∧ (Reg.row .PWR_SLEEP).ty.size = some 1 ∧ Key.scope ⟨.PWR_SLEEP, 0⟩ = .device ∧
    (Reg.row .PWR_SLEEP).acc.unwritable = false ∧ numInRange ⟨.PWR_SLEEP, 0⟩ 1 = true := by decide +kernel

theorem present_pwrSleep (id : Identity) : id.present ⟨.PWR_SLEEP, 0⟩ = true := by
  obtain ⟨-, -, hscope, -, -⟩ := pwrSleep_row
  simp [Identity.present, hscope]

theorem classRefused_pwrSleep (d : Device) : d.classRefused ⟨.PWR_SLEEP, 0⟩ = false := by
  obtain ⟨-, -, -, hclass, -⟩ := pwrSleep_row
  simp [classRefused, hclass]

/-- A write of PWR_SLEEP = 1 that is not refused: the journal's entry, DEEP_SLEEP, the result. -/
theorem command_pwrSleep {d : Device} {n : Nat} (hr : d.Reaches n) (hh : d.heldNow = false) (hs : d.sleepRefused = 0) :
    d.command n .PWR_SLEEP 0 1 = ((d.journalWriteOf n ⟨.PWR_SLEEP, 0⟩ (le 1 1)).deepSleep).finish n := by
  have happ {e : Device} (he : e.sleepRefused = 0) : e.applyWrite ⟨.PWR_SLEEP, 0⟩ (.num 1) n = (0, e.deepSleep) := by
    rw [applyWrite_pwrSleep, he]
    rfl
  have hj := happ ((d.sleepRefused_journalWriteOf n ⟨.PWR_SLEEP, 0⟩ (le 1 1)).trans hs)
  obtain ⟨hplain, hsize, -, -, hrange⟩ := pwrSleep_row
  rw [command_plain hplain hsize (present_pwrSleep _) hr hh (classRefused_pwrSleep _) (by decide) hrange (by rw [happ hs]) (by rw [hj]), hj]

/-- A write of PWR_SLEEP = 1 by a DAP session while the device is not in STANDBY is refused (R444). -/
theorem command_pwrSleep_refused {d : Device} {n : Nat} (hr : d.Reaches n) (hn : n ≠ 0) (hh : d.heldNow = false) (hs : d.num .PWR_STATE 0 ≠ 1)
    (hclosing : d.closing = false) (hdue : d.resetDue = false) : d.command n .PWR_SLEEP 0 1 = d.emit (.result 0x06) := by
  have happ : d.applyWrite ⟨.PWR_SLEEP, 0⟩ (.num 1) n = (6, d) := by simp [applyWrite_pwrSleep, refusing, sleepRefused, hs]
  obtain ⟨hplain, hsize, -, -, hrange⟩ := pwrSleep_row
  exact command_plain_refused hplain hsize (present_pwrSleep _) hr hn hh (classRefused_pwrSleep _) (by decide) hrange happ (by decide) hclosing hdue

end Device

end Sys2Proof.Machine
end

section
/-!
PROOF. The die's temperature and the wake limit of STANDBY, and O52.
-/
namespace Sys2Proof.Machine

namespace Device

/-! ## Die temperature (R446) -/

/-- A reading of the die is kept, with its peak. -/
def dieTaken (d : Device) (t : Int) : Device :=
  let d := d.setI .PWR_TJ 0 t
  if d.int .PWR_TJ_PEAK 0 < t then d.setI .PWR_TJ_PEAK 0 t else d

theorem ChangesOnly.dieTaken {regs : List Reg} {keys : List (Reg × Nat)} {d e : Device} (h : d.ChangesOnly regs keys e) (t : Int)
    (htj : (.PWR_TJ, 0) ∈ keys) (hpeak : (.PWR_TJ_PEAK, 0) ∈ keys) : d.ChangesOnly regs keys (e.dieTaken t) :=
  .ite ((h.setIAt .PWR_TJ 0 htj t).setIAt .PWR_TJ_PEAK 0 hpeak t) (h.setIAt .PWR_TJ 0 htj t)

theorem dieTaken_forced (d : Device) (t : Int) : (d.dieTaken t).forced = d.forced :=
  ((ChangesOnly.refl (regs := []) (keys := [(.PWR_TJ, 0), (.PWR_TJ_PEAK, 0)]) d).dieTaken t (by decide) (by decide)).forced

theorem dieTaken_tj (d : Device) (raw : Nat) : (d.dieTaken (toSigned 16 raw)).int .PWR_TJ 0 = toSigned 16 raw := by
  have h := int_setI_same d .PWR_TJ 0 raw
  unfold dieTaken
  dsimp only
  split
  · rwa [int_setI_reg_ne _ 0 0 _ (by decide)]
  · exact h

theorem dieTaken_peak (d : Device) (raw : Nat) :
    (d.dieTaken (toSigned 16 raw)).int .PWR_TJ_PEAK 0 = max (d.int .PWR_TJ_PEAK 0) (toSigned 16 raw) := by
  unfold dieTaken
  dsimp only
  rw [int_setI_reg_ne d 0 0 _ (by decide)]
  split
  · rw [max_eq_right (by omega)]
    exact int_setI_same _ .PWR_TJ_PEAK 0 raw
  · rw [max_eq_left (by omega), int_setI_reg_ne d 0 0 _ (by decide)]

/-- At most 13 °C below the limit, both conditions end. -/
theorem dieReading_cool {d : Device} {raw : Nat} (hv : toSigned 16 raw < d.tjLimit * 16 - 208) (hf : d.forced.tj = false) :
    d.dieReading raw = ((d.dieTaken (toSigned 16 raw)).faultOff .tjWarn).faultOff .tjMax := by
  have hf' : (((d.dieTaken (toSigned 16 raw)).faultOff .tjWarn).faultOff .tjMax).forced.tj = false := by
    rw [← hf, ← d.dieTaken_forced (toSigned 16 raw)]
    rfl
  unfold Device.dieReading
  dsimp only
  rw [if_neg (show ¬ (d.tjLimit : Int) * 16 - 160 ≤ toSigned 16 raw by omega), if_pos (show toSigned 16 raw ≤ (d.tjLimit : Int) * 16 - 208 by omega),
    if_neg (show ¬ (d.tjLimit : Int) * 16 ≤ toSigned 16 raw by omega), if_pos (show toSigned 16 raw ≤ (d.tjLimit : Int) * 16 - 80 by omega)]
  exact if_neg (by rw [Bool.not_eq_true]; exact hf')

/-- From 10 °C below the limit to 5 °C below it, TJ_WARN is present and TJ_MAX is not. -/
theorem dieReading_warm {d : Device} {raw : Nat} (hlo : d.tjLimit * 16 - 160 ≤ toSigned 16 raw) (hhi : toSigned 16 raw < d.tjLimit * 16 - 80)
    (hf : d.forced.tj = false) : d.dieReading raw = ((d.dieTaken (toSigned 16 raw)).faultOn .tjWarn).faultOff .tjMax := by
  have hf' : (((d.dieTaken (toSigned 16 raw)).faultOn .tjWarn).faultOff .tjMax).forced.tj = false := by
    have hon := ((ChangesOnly.refl (d.dieTaken (toSigned 16 raw))).faultOn .tjWarn).forced
    rw [← hf, ← d.dieTaken_forced (toSigned 16 raw), ← hon]
    rfl
  unfold Device.dieReading
  dsimp only
  rw [if_pos hlo, if_neg (show ¬ (d.tjLimit : Int) * 16 ≤ toSigned 16 raw by omega), if_pos (show toSigned 16 raw ≤ (d.tjLimit : Int) * 16 - 80 by omega)]
  exact if_neg (by rw [Bool.not_eq_true]; exact hf')

/-- At the limit, both conditions arise and STANDBY is forced. -/
theorem dieReading_hot {d : Device} {raw : Nat} (hl : d.tjLimit * 16 ≤ toSigned 16 raw) :
    d.dieReading raw = (((d.dieTaken (toSigned 16 raw)).faultOn .tjWarn).faultOn .tjMax).force (fun f => { f with tj := true }) := by
  unfold Device.dieReading
  dsimp only
  rw [if_pos (show (d.tjLimit : Int) * 16 - 160 ≤ toSigned 16 raw by omega), if_pos hl]
  rfl

/-! ## The wake limit of STANDBY (R16) -/

theorem toState_state (d : Device) {st : Nat} (hst : st < 2 ^ 8) : (d.toState st).num .DEV_STATE 0 = st := by
  unfold toState
  dsimp only
  have h8 : Reg.bits .DEV_STATE = 8 := rfl
  split <;> simpa [h8] using hst

theorem toState_entries (d : Device) (st : Nat) : (d.toState st).num .DEV_STATE_ENTRIES 0 = (d.num .DEV_STATE_ENTRIES 0 + 1) % 2 ^ 32 := by
  unfold toState
  dsimp only
  have h32 : Reg.bits .DEV_STATE_ENTRIES = 32 := rfl
  split <;> simp [h32]

theorem toState_wakeAt (d : Device) (st : Nat) : (d.toState st).wakeAt = d.wakeAt := by
  unfold toState
  dsimp only
  split <;> rfl

/-- Leaving STANDBY for another state: the wake is over, the entry counted, PWR_STATE is RUN. -/
theorem leaveStandby_spec (d : Device) {st : Nat} (hst : st < 3) :
    (d.leaveStandby st).num .DEV_STATE 0 = st ∧ (d.leaveStandby st).wakeAt = none ∧ (d.leaveStandby st).num .PWR_STATE 0 = 0 ∧
      (d.leaveStandby st).num .DEV_STATE_ENTRIES 0 = (d.num .DEV_STATE_ENTRIES 0 + 1) % 2 ^ 32 := by
  unfold leaveStandby
  generalize he : (toState { d with wakeAt := none } st).set .PWR_STATE 0 0 = e
  have hstate : e.num .DEV_STATE 0 = st := by
    rw [← he, num_set_reg_ne _ _ _ _ (by decide), toState_state _ (by omega)]
  have hmove : e.resting = false := by simp [resting, hstate, Nat.ne_of_lt hst]
  have h : e.ChangesOnly fabricRegs voltKeys e.evaluatePoint := (ChangesOnly.refl e).evaluatePoint_moving hmove
  refine ⟨(h.num .DEV_STATE 0 (by decide) (by decide)).trans hstate, ?_, ?_, ?_⟩
  · rw [h.wakeAt, ← he, set_wakeAt, toState_wakeAt]
  · rw [h.num .PWR_STATE 0 (by decide) (by decide), ← he, num_set_same, Nat.zero_mod]
  · rw [h.num .DEV_STATE_ENTRIES 0 (by decide) (by decide), ← he, num_set_reg_ne _ _ _ _ (by decide), toState_entries]
    rfl

end Device

/-! ## The commands -/

/-- PWR_SLEEP = 1 by a session that can write. -/
theorem exec_pwrSleep {s : State} {n : Nat} (hn : n < 1024) (hr : s.dev.Reaches n) :
    exec (.pwrSleep n 1) s = .next { s with dev := (s.dev.asked n).command n .PWR_SLEEP 0 1 } := by
  have hwf : WF.pwrSleep n 1 = true := by simp [WF.pwrSleep, WF.session, WF.bits, hn]
  have hrank : s.dev.begin.ranked n = s.dev.asked n := Device.ranked_inOrder hr.1 (by omega)
  show execPwrSleep n 1 s = _
  rw [execPwrSleep, runAs, hwf, ← hrank]
  rfl

theorem exec_deepSleepWake (s : State) : exec .deepSleepWake s = .next { s with dev := s.dev.begin.deepWake } := rfl

theorem exec_dieTempRead (s : State) {raw : Nat} (h : raw < 2 ^ 16) : exec (.dieTempRead raw) s = .next { s with dev := s.dev.begin.dieReading raw } := by
  have hwf : WF.dieTempRead raw = true := by simpa [WF.dieTempRead, WF.bits] using h
  show execDieTempRead raw s = _
  rw [execDieTempRead, hwf]
  rfl

theorem exec_standbyWakeLimit (s : State) :
    exec .standbyWakeLimit s = .next { s with dev := if s.dev.wakeReady && !s.dev.allFull then s.dev.begin.leaveStandby 0 else s.dev.begin } := rfl

/-- PWR_SLEEP = 1 in STANDBY with the two-wire block at rest (R444). -/
theorem pwrSleep_enters {s : State} {n : Nat} (hn : n < 1024) (hr : s.dev.Reaches n) (hh : s.dev.heldNow = false) (hp : s.dev.num .PWR_STATE 0 = 1)
    (hq : s.dev.twi.pending = []) (hc : s.dev.twi.cur = none) :
    ∃ t, exec (.pwrSleep n 1) s = .next t ∧ t.dev.num .PWR_STATE 0 = 2 ∧ t.dev.twi.powered = false ∧ t.dev.staged = s.dev.staged := by
  have hcmd := Device.command_pwrSleep (d := s.dev.asked n) (n := n) ⟨Nat.le_refl n, hr.2⟩ hh (Device.sleepRefused_none hp hq hc)
  obtain ⟨j, hj, -⟩ := (s.dev.asked n).journalWriteOf_eq n ⟨.PWR_SLEEP, 0⟩ (le 1 1)
  rw [hj] at hcmd
  have hpwr := Device.deepSleep_powerState { s.dev.asked n with jrn := j }
  have hoff := Device.deepSleep_powered { s.dev.asked n with jrn := j }
  have hstg : _ = s.dev.staged := Device.deepSleep_staged { s.dev.asked n with jrn := j }
  have hdue : _ = false := Device.deepSleep_resetDue { s.dev.asked n with jrn := j }
  generalize Device.deepSleep { s.dev.asked n with jrn := j } = e at hcmd hpwr hoff hstg hdue
  obtain ⟨x, hx⟩ := Device.finish_eq n hdue
  rw [hx] at hcmd
  refine ⟨_, exec_pwrSleep hn hr, ?_⟩
  rw [hcmd]
  exact ⟨hpwr, hoff, hstg⟩

/-- PWR_SLEEP = 1 by a DAP session outside STANDBY (R444). -/
theorem pwrSleep_refused {s : State} {n : Nat} (hn : n < 1024) (hr : s.dev.Reaches n) (hh : s.dev.heldNow = false) (h0 : n ≠ 0) (hp : s.dev.num .PWR_STATE 0 ≠ 1) :
    exec (.pwrSleep n 1) s = .next { s with dev := { s.dev.asked n with outs := [.result 0x06] } } := by
  rw [exec_pwrSleep hn hr, Device.command_pwrSleep_refused (d := s.dev.asked n) ⟨Nat.le_refl n, hr.2⟩ h0 hh hp rfl rfl]
  rfl

theorem keeps_of_changesOnly {d e : Device} {keys : List (Reg × Nat)} (h : d.begin.ChangesOnly [] keys e) : d.keeps e keys :=
  fun r i hk => h.val r i List.not_mem_nil hk

theorem keepsBeside_of_changesOnly {d e : Device} {keys : List (Reg × Nat)} (h : d.begin.ChangesOnly fabricRegs keys e) : d.keepsBeside e keys := h.val

/-- A reading below the band of TJ_WARN (R446). -/
theorem dieTempRead_cool {s : State} {raw : Nat} (hraw : raw < 2 ^ 16) (hv : toSigned 16 raw < s.dev.tjLimit * 16 - 208) (hf : s.dev.forced.tj = false) :
    ∃ t, exec (.dieTempRead raw) s = .next t ∧ t.dev.int .PWR_TJ 0 = toSigned 16 raw ∧
      t.dev.int .PWR_TJ_PEAK 0 = max (s.dev.int .PWR_TJ_PEAK 0) (toSigned 16 raw) ∧ bit (t.dev.num .FLT_ACTIVE 0) 5 = false ∧ bit (t.dev.num .FLT_ACTIVE 0) 6 = false ∧
      s.dev.keeps t.dev [(.PWR_TJ, 0), (.PWR_TJ_PEAK, 0), (.FLT_ACTIVE, 0)] := by
  refine ⟨_, exec_dieTempRead s hraw, ?_⟩
  rw [Device.dieReading_cool (d := s.dev.begin) hv hf]
  have htj : _ = toSigned 16 raw := s.dev.begin.dieTaken_tj raw
  have hpeak : _ = max (s.dev.int .PWR_TJ_PEAK 0) (toSigned 16 raw) := s.dev.begin.dieTaken_peak raw
  have htaken : s.dev.begin.ChangesOnly [] [(.PWR_TJ, 0), (.PWR_TJ_PEAK, 0), (.FLT_ACTIVE, 0)] (s.dev.begin.dieTaken (toSigned 16 raw)) :=
    (Device.ChangesOnly.refl _).dieTaken _ (by decide) (by decide)
  generalize s.dev.begin.dieTaken (toSigned 16 raw) = e at *
  have hoff : e.ChangesOnly [] [(.FLT_ACTIVE, 0)] ((e.faultOff .tjWarn).faultOff .tjMax) :=
    ((Device.ChangesOnly.refl e).faultOff (by decide) .tjWarn).faultOff (by decide) .tjMax
  refine ⟨?_, ?_, ?_, Device.faultOff_inactive _ .tjMax, keeps_of_changesOnly (htaken.trans (hoff.mono (by simp)))⟩
  · rw [← htj, Device.int, hoff.num .PWR_TJ 0 (by decide) (by decide), Device.int]
  · rw [← hpeak, Device.int, hoff.num .PWR_TJ_PEAK 0 (by decide) (by decide), Device.int]
  · exact (Device.faultOff_active_below _ (f := .tjMax) (g := .tjWarn) (by decide)).trans (e.faultOff_inactive .tjWarn)

/-- A reading in the band of TJ_WARN, below that in which TJ_MAX stays (R446). -/
theorem dieTempRead_warm {s : State} {raw : Nat} (hraw : raw < 2 ^ 16) (hlo : s.dev.tjLimit * 16 - 160 ≤ toSigned 16 raw)
    (hhi : toSigned 16 raw < s.dev.tjLimit * 16 - 80) (hf : s.dev.forced.tj = false) :
    ∃ t, exec (.dieTempRead raw) s = .next t ∧ t.dev.int .PWR_TJ 0 = toSigned 16 raw ∧ bit (t.dev.num .FLT_ACTIVE 0) 5 = true ∧ bit (t.dev.num .FLT_ACTIVE 0) 6 = false ∧
      s.dev.keepsBeside t.dev [(.PWR_TJ, 0), (.PWR_TJ_PEAK, 0), (.FLT_ACTIVE, 0), (.FLT_LATCHED, 0), (.FLT_RAISED, 0), (.FLT_LAST, 0), (.FLT_LAST_TIME, 0)] := by
  refine ⟨_, exec_dieTempRead s hraw, ?_⟩
  rw [Device.dieReading_warm (d := s.dev.begin) hlo hhi hf]
  have htj : _ = toSigned 16 raw := s.dev.begin.dieTaken_tj raw
  have htaken : s.dev.begin.ChangesOnly fabricRegs ([(.PWR_TJ, 0), (.PWR_TJ_PEAK, 0)] ++ Device.conditionKeys) (s.dev.begin.dieTaken (toSigned 16 raw)) :=
    (Device.ChangesOnly.refl _).dieTaken _ (by decide) (by decide)
  generalize s.dev.begin.dieTaken (toSigned 16 raw) = e at *
  have hon : e.ChangesOnly fabricRegs Device.conditionKeys ((e.faultOn .tjWarn).faultOff .tjMax) :=
    ((Device.ChangesOnly.refl e).faultOn .tjWarn).faultOff (by decide) .tjMax
  refine ⟨?_, ?_, Device.faultOff_inactive _ .tjMax, keepsBeside_of_changesOnly (htaken.trans (hon.mono (List.subset_append_right _ _)))⟩
  · rw [← htj, Device.int, hon.num .PWR_TJ 0 (by decide) (by decide), Device.int]
  · exact (Device.faultOff_active_below _ (f := .tjMax) (g := .tjWarn) (by decide)).trans (e.faultOn_active .tjWarn)

/-- A reading at the limit, above every one before it (R446). -/
theorem dieTempRead_hot {s : State} {raw : Nat} (hraw : raw < 2 ^ 16) (hl : s.dev.tjLimit * 16 ≤ toSigned 16 raw) (hp : s.dev.int .PWR_TJ_PEAK 0 < toSigned 16 raw) :
    let hot := (s.dev.begin.setI .PWR_TJ 0 (toSigned 16 raw)).setI .PWR_TJ_PEAK 0 (toSigned 16 raw)
    exec (.dieTempRead raw) s = .next { s with dev := ((hot.faultOn .tjWarn).faultOn .tjMax).force (fun f => { f with tj := true }) } := by
  have htaken : s.dev.begin.dieTaken (toSigned 16 raw) = (s.dev.begin.setI .PWR_TJ 0 (toSigned 16 raw)).setI .PWR_TJ_PEAK 0 (toSigned 16 raw) := by
    refine if_pos ?_
    rw [Device.int_setI_reg_ne _ 0 0 _ (by decide)]
    exact hp
  rw [exec_dieTempRead s hraw, Device.dieReading_hot (d := s.dev.begin) hl, htaken]

/-- At the wake limit with some link not FULL, the device is in LAMBING (R16). -/
theorem standbyWakeLimit_lambs {s : State} (hw : s.dev.wakeReady = true) (hf : s.dev.allFull = false) :
    ∃ t, exec .standbyWakeLimit s = .next t ∧ t.dev.num .DEV_STATE 0 = 0 ∧ t.dev.wakeAt = none ∧ t.dev.num .PWR_STATE 0 = 0 ∧
      t.dev.num .DEV_STATE_ENTRIES 0 = (s.dev.num .DEV_STATE_ENTRIES 0 + 1) % 2 ^ 32 := by
  refine ⟨_, exec_standbyWakeLimit s, ?_⟩
  rw [if_pos (by simp [hw, hf])]
  exact s.dev.begin.leaveStandby_spec (by decide)

/-- Settles O52: each command by the lemma about its effect, DEEP_SLEEP and the wake through what a change of the lanes leaves alone, the readings by their bands. -/
theorem sleepAndTemperature : Obligations.SleepAndTemperature := by
  unfold Obligations.SleepAndTemperature
  refine ⟨fun s n hn hr hh => ⟨pwrSleep_enters hn hr hh, fun h0 hp => pwrSleep_refused hn hr hh h0 (by omega)⟩, fun s => ⟨fun hp hrun => ?_, fun hp => ?_⟩,
    fun s raw hraw => ⟨dieTempRead_cool hraw, dieTempRead_warm hraw, dieTempRead_hot hraw⟩, fun s => ⟨standbyWakeLimit_lambs, fun h => ?_⟩⟩
  · exact ⟨_, exec_deepSleepWake s, Device.deepWake_powerState (d := s.dev.begin) hp hrun⟩
  · rw [exec_deepSleepWake, Device.deepWake_awake (d := s.dev.begin) hp]
  · rw [exec_standbyWakeLimit, if_neg (by rcases h with h | h <;> simp [h])]

end Sys2Proof.Machine
end

section
/-!
PROOF. What a change of a lane brings about beyond the lane itself: its link is judged again (R82, R100, R101), which reaches objects of channels, packets and the
matching of lanes, and nothing else that the lanes' own commands speak of.
-/
namespace Sys2Proof.Machine

/-- A lane without what its link decides of it: whether it is matched, and the packets it carries. -/
def Lane.own (x : Lane) : Lane := { x with matched := false, excluded := false, tx := { x.tx with packets := [] } }

/-- The live objects that change as a link is judged again: those of its channel's link, camera control and calibration. -/
def channelRegs : List Reg :=
  [.CH_LINK_STATE, .CH_STATE, .CH_CREG_STATUS, .CH_TIME_OK, .CH_CAMSET_BUSY, .CH_PREVIEW_STRIDE, .CH_CREDIT_VC0, .CH_LANES_EXCLUDED, .CH_LANES_USABLE, .CH_CAL_STATE,
    .CH_CAL_DISCARDS, .CH_CAL_PENDING, .CAL_POOL_USED]

/-- From `d` to `e` only links have been at work: channel objects change, further things may have been sent, and every lane is its own as it was. -/
structure Device.Relinks (d e : Device) : Prop where
  changes : d.ChangesOnly channelRegs [] e
  dram : e.dram = d.dram
  outs : d.outs ⊆ e.outs
  lane : ∀ l, (e.lane l).own = (d.lane l).own

theorem modTab_beyond {α : Type} (n : Nat) (z : α) (l : List α) {i : Nat} (f : α → α) (h : n ≤ i) : modTab n z l i f = l := by
  induction n generalizing l i with
  | zero => cases l <;> rfl
  | succ n ih =>
    cases i with
    | zero => omega
    | succ i =>
      cases l with
      | nil => simp [modTab, show ¬ i < n by omega]
      | cons x xs => simp [modTab, ih xs (i := i) (by omega)]

/-- A lane after a change of a lane: only a lane that there is changes. -/
theorem Device.lane_modLane (d : Device) (l j : Nat) (f : Lane → Lane) : (d.modLane l f).lane j = if j = l ∧ l < 36 then f (d.lane j) else d.lane j := by
  unfold Device.lane Device.modLane
  by_cases hl : l < 36
  · by_cases hj : j = l
    · subst hj
      simp only [hl, and_self, if_true]
      exact getD_modTab_same 36 {} d.lanes j f hl
    · simp only [hj, false_and, if_false]
      exact getD_modTab_ne 36 {} d.lanes f hj
  · simp only [hl, and_false, if_false]
    rw [modTab_beyond 36 {} d.lanes f (by omega)]

namespace Device.Relinks

variable {d e : Device}

theorem refl (d : Device) : d.Relinks d := ⟨.refl d, rfl, List.Subset.refl _, fun _ => rfl⟩

/-- An update that leaves alone the live objects, what is sent and the lanes. -/
theorem beside {f : Device} (h : d.Relinks e) (same : f.held = e.held) (hd : f.dram = e.dram) (ho : f.outs = e.outs) (hl : f.lanes = e.lanes) : d.Relinks f :=
  ⟨h.changes.beside same, hd.trans h.dram, ho ▸ h.outs, fun l => by rw [Device.lane, hl]; exact h.lane l⟩

theorem set (h : d.Relinks e) (r : Reg) (hr : r ∈ channelRegs) (i n : Nat) : d.Relinks (e.set r i n) :=
  ⟨h.changes.set r hr i n, h.dram, h.outs, h.lane⟩

theorem setOn (h : d.Relinks e) (r : Reg) (hr : r ∈ channelRegs) (i : Nat) (b : Bool) : d.Relinks (e.setOn r i b) := h.set r hr i _

theorem emit (h : d.Relinks e) (o : Out) : d.Relinks (e.emit o) :=
  ⟨h.changes.emit o, h.dram, fun _ hm => List.mem_append_left _ (h.outs hm), h.lane⟩

theorem modLane (h : d.Relinks e) (l : Nat) {f : Lane → Lane} (hf : ∀ x, (f x).own = x.own) : d.Relinks (e.modLane l f) := by
  refine ⟨h.changes.beside rfl, h.dram, h.outs, fun j => ?_⟩
  rw [e.lane_modLane]
  split
  · rw [hf, h.lane]
  · exact h.lane j

theorem modLink (h : d.Relinks e) (k : Nat) (f : Link → Link) : d.Relinks (e.modLink k f) := h.beside rfl rfl rfl rfl

theorem modCal (h : d.Relinks e) (n : Nat) (f : Calib → Calib) : d.Relinks (e.modCal n f) := h.beside rfl rfl rfl rfl

theorem ite {c : Prop} [Decidable c] {a b : Device} (ha : d.Relinks a) (hb : d.Relinks b) : d.Relinks (if c then a else b) := by
  split
  · exact ha
  · exact hb

/-- What each step of a fold holds, the fold holds. -/
theorem foldl {α : Type} {f : Device → α → Device} (hf : ∀ {e : Device} (x : α), d.Relinks e → d.Relinks (f e x)) (xs : List α) (h : d.Relinks e) :
    d.Relinks (xs.foldl f e) := by
  induction xs generalizing e with
  | nil => exact h
  | cons x xs ih => exact ih (hf x h)

theorem calRefresh (h : d.Relinks e) (n : Nat) : d.Relinks (e.calRefresh n) := by
  unfold Device.calRefresh
  extract_lets on blocked st holds e1
  have h1 : d.Relinks e1 := by
    refine ite (ite (h.set .CH_CAL_STATE (by decide) n 1) h) ?_
    have hc : d.Relinks (e.bumpIf (e.calRuns n) .CH_CAL_DISCARDS n) := ite (h.set .CH_CAL_DISCARDS (by decide) n _) h
    exact ((hc.setOn .CH_CAL_PENDING (by decide) n false).modCal n _).set .CH_CAL_STATE (by decide) n _
  exact (h1.modCal n _).set .CAL_POOL_USED (by decide) 0 _

theorem transmit (h : d.Relinks e) (k vc : Nat) (p : TxPacket) : d.Relinks (e.transmit k vc p) := by
  unfold Device.transmit
  split
  · exact h
  · extract_lets c t1 w e1 e2
    have h1 : d.Relinks e1 := ite (h.modLink k _) h
    have h2 : d.Relinks e2 := h1.modLane _ fun _ => rfl
    exact (h2.emit _).modLink k _

theorem pumpVc (h : d.Relinks e) (k vc n : Nat) : d.Relinks (pumpVc k vc n e) := by
  induction n generalizing e with
  | zero => exact h
  | succ n ih =>
    unfold Device.pumpVc
    split
    · exact h
    · exact ih ((h.transmit k vc _).modLink k _)

theorem pump (h : d.Relinks e) (k : Nat) : d.Relinks (e.pump k) := foldl (fun vc h => h.pumpVc k vc _) _ h

theorem sendPacket (h : d.Relinks e) (k vc : Nat) (p : TxPacket) (urgent : Bool) : d.Relinks (e.sendPacket k vc p urgent) :=
  ite h ((h.modLink k _).pump k)

theorem sendCredits (h : d.Relinks e) (k : Nat) : d.Relinks (e.sendCredits k) := by
  unfold Device.sendCredits
  extract_lets p e1 lim e2
  have h2 : d.Relinks e2 := foldl (fun vc h => h.modLink k _) _ (h.transmit k 2 _)
  exact ite h (ite (h2.set .CH_CREDIT_VC0 (by decide) k _) h2)

theorem request (h : d.Relinks e) (k op : Nat) (args : Octets) (ahead : Bool) : d.Relinks (e.request k op args ahead) := by
  unfold Device.request
  dsimp only
  split
  · exact (h.modLink k _).sendPacket k 2 _ _
  · exact h.modLink k _

theorem refreshState (h : d.Relinks e) (k : Nat) : d.Relinks (e.refreshState k) := ite (h.set .CH_LINK_STATE (by decide) k _) h

theorem enterOn (h : d.Relinks e) (k : Nat) : d.Relinks (e.enterOn k) := ite ((h.set .CH_STATE (by decide) k 1).calRefresh k) h

theorem remode (h : d.Relinks e) (k : Nat) : d.Relinks (e.remode k) :=
  ite (h.refreshState k) ((ite h ((h.modLink k _).request k 0x04 _ false)).refreshState k)

theorem linkForm (h : d.Relinks e) (k : Nat) : d.Relinks (e.linkForm k) := by
  unfold Device.linkForm
  extract_lets _ e1 e2
  have h1 : d.Relinks e1 := h.modLink k _
  have h2 : d.Relinks e2 := h1.beside rfl rfl rfl rfl
  exact h2.sendCredits k

theorem linkFall (h : d.Relinks e) (k : Nat) : d.Relinks (e.linkFall k) := by
  unfold Device.linkFall
  extract_lets busy queued e1 e2 e3 e4
  have h1 : d.Relinks e1 := h.modLink k _
  have h2 : d.Relinks e2 := ite (h1.set .CH_CREG_STATUS (by decide) k 3) h1
  have h4 : d.Relinks e4 := ((h2.setOn .CH_TIME_OK (by decide) k false).setOn .CH_CAMSET_BUSY (by decide) k false).set .CH_PREVIEW_STRIDE (by decide) k 0
  exact ite ((h4.enterOn k).refreshState k) h1

theorem matchLanes (h : d.Relinks e) (k : Nat) : d.Relinks (e.matchLanes k) := by
  unfold Device.matchLanes
  extract_lets ls x ref rid e1 ms mark e2
  have hmark {x : Device} (l : Nat) (hx : d.Relinks x) : d.Relinks (mark x l) := hx.modLane l fun _ => rfl
  have h2 : d.Relinks e2 := foldl hmark ls (h.modLink k _)
  exact ite (h2.set .CH_LANES_EXCLUDED (by decide) k _) h2

theorem relink (h : d.Relinks e) (k : Nat) : d.Relinks (e.relink k) := by
  unfold Device.relink
  extract_lets before e1 us e2 e3 e4 tail e5
  have h2 : d.Relinks e2 := (h.matchLanes k).modLink k _
  have h3 : d.Relinks e3 := ite (h2.set .CH_LANES_USABLE (by decide) k _) h2
  have h5 : d.Relinks e5 := ite (h3.modLink k _) h3
  exact ite (ite ((h3.linkFall k).matchLanes k) (h3.refreshState k))
    (ite ((h3.linkForm k).refreshState k) (ite ((h5.remode k).pump k) (h3.refreshState k)))

end Device.Relinks

namespace Device

/-- What has been sent before an update that only sends more stays sent. -/
theorem sends_mono {d e : Device} {l : Nat} {p : Octets → Prop} (h : d.sends l p) (ho : d.outs ⊆ e.outs) : e.sends l p := by
  obtain ⟨f, hm, hok, hp⟩ := h
  exact ⟨f, ho hm, hok, hp⟩

/-- A change of a lane puts its link to work, and nothing else. -/
theorem relinks_laneChanged (d : Device) (l : Nat) : d.Relinks (d.laneChanged l) := by
  unfold Device.laneChanged
  split
  · exact (Relinks.refl d).relink _
  · exact .refl d

theorem num_laneChanged (d : Device) (l i : Nat) {r : Reg} (hr : r ∉ channelRegs) : (d.laneChanged l).num r i = d.num r i :=
  (d.relinks_laneChanged l).changes.num r i hr List.not_mem_nil

theorem oct_laneChanged (d : Device) (l i : Nat) {r : Reg} (hr : r ∉ channelRegs) : (d.laneChanged l).oct r i = d.oct r i :=
  congrArg Val.toOctets ((d.relinks_laneChanged l).changes.val r i hr List.not_mem_nil)

@[simp] theorem lstate_laneChanged (d : Device) (l j : Nat) : (d.laneChanged l).lstate j = d.lstate j := d.num_laneChanged l j (by decide)

@[simp] theorem lrung_laneChanged (d : Device) (l j : Nat) : (d.laneChanged l).lrung j = d.lrung j := d.num_laneChanged l j (by decide)

@[simp] theorem staged_laneChanged (d : Device) (l : Nat) : (d.laneChanged l).staged = d.staged := (d.relinks_laneChanged l).changes.staged

@[simp] theorem resetDue_laneChanged (d : Device) (l : Nat) : (d.laneChanged l).resetDue = d.resetDue := (d.relinks_laneChanged l).changes.resetDue

@[simp] theorem dram_laneChanged (d : Device) (l : Nat) : (d.laneChanged l).dram = d.dram := (d.relinks_laneChanged l).dram

theorem own_laneChanged (d : Device) (l j : Nat) : ((d.laneChanged l).lane j).own = (d.lane j).own := (d.relinks_laneChanged l).lane j

@[simp] theorem change_laneChanged (d : Device) (l j : Nat) : ((d.laneChanged l).lane j).change = (d.lane j).change :=
  (congrArg Lane.change (d.own_laneChanged l j) :)

@[simp] theorem retryWait_laneChanged (d : Device) (l j : Nat) : ((d.laneChanged l).lane j).retryWait = (d.lane j).retryWait :=
  (congrArg Lane.retryWait (d.own_laneChanged l j) :)

@[simp] theorem wakeWait_laneChanged (d : Device) (l j : Nat) : ((d.laneChanged l).lane j).wakeWait = (d.lane j).wakeWait :=
  (congrArg Lane.wakeWait (d.own_laneChanged l j) :)

/-- A frame that has left is not taken back as the link is judged. -/
theorem sends_laneChanged {d : Device} {l j : Nat} {p : Octets → Prop} (h : d.sends j p) : (d.laneChanged l).sends j p :=
  sends_mono h (d.relinks_laneChanged l).outs

end Device

end Sys2Proof.Machine
end

section
/-!
PROOF. What the operations of a lane do: the lane and its objects after a change of the lane, the training frames that leave (R63), the states of R58 as they are
entered, and how a command of a lane runs.
-/
namespace Sys2Proof.Machine

/-! ## The commands of a lane -/

/-- A well-formed command changes the device by its meaning. -/
theorem exec_run {c : Instr} {s : State} {ok : Bool} {f : Device → Device} (hrun : exec c s = run ok s f) (hok : ok = true) :
    exec c s = .next { s with dev := f s.dev.begin } := by
  rw [hrun, hok]
  rfl

theorem wf_lane {l : Nat} (hl : l < 36) : WF.lane l = true := decide_eq_true hl

theorem wf_laneFrame {l : Nat} {f : Octets} (hl : l < 36) (hf : WF.frame f = true) : (WF.lane l && WF.frame f) = true := by rw [wf_lane hl, hf]; rfl

/-! ## Octets -/

theorem length_slice (bs : Octets) (a n : Nat) : (slice bs a n).length = n := by
  simp [slice]

/-- An octet of a slice is that of the whole. -/
theorem octet_slice (bs : Octets) (a n : Nat) {k : Nat} (hk : k < n) : octet (slice bs a n) k = octet bs (a + k) := by
  unfold octet slice
  dsimp only
  by_cases h : a + k < bs.length
  · have ht : k < ((bs.drop a).take n).length := by simp; omega
    rw [List.getD_append _ _ _ _ ht, List.getD_eq_getElem _ _ ht, List.getD_eq_getElem _ _ h]
    simp
  · have ht : ((bs.drop a).take n).length ≤ k := by simp; omega
    rw [List.getD_append_right _ _ _ _ ht, List.getD_eq_default bs _ (by omega), List.getD_replicate _ (by simp; omega)]

theorem ofLE_lt (bs : Octets) : ofLE bs < 2 ^ (8 * bs.length) := by
  induction bs with
  | nil => simp [ofLE]
  | cons b bs ih =>
    rw [ofLE, List.length_cons, show 8 * (bs.length + 1) = 8 + 8 * bs.length by omega, Nat.pow_add]
    omega

theorem leAt_lt (bs : Octets) (a n : Nat) : leAt bs a n < 2 ^ (8 * n) := by
  have h := ofLE_lt (slice bs a n)
  rwa [length_slice] at h

/-- The CRC of a training frame is two octets. -/
theorem length_crcTail (bs : Octets) : (crcTail bs).length = 2 := by simp [crcTail, be]

namespace Device

/-! ## A lane and its objects after a change -/

theorem lane_modLane_same (d : Device) {l : Nat} (hl : l < 36) (f : Lane → Lane) : (d.modLane l f).lane l = f (d.lane l) := by
  rw [lane_modLane, if_pos ⟨rfl, hl⟩]

@[simp] theorem num_modLane (d : Device) (l : Nat) (f : Lane → Lane) (r : Reg) (i : Nat) : (d.modLane l f).num r i = d.num r i := rfl

@[simp] theorem lstate_modLane (d : Device) (l : Nat) (f : Lane → Lane) (j : Nat) : (d.modLane l f).lstate j = d.lstate j := rfl

@[simp] theorem lrung_modLane (d : Device) (l : Nat) (f : Lane → Lane) (j : Nat) : (d.modLane l f).lrung j = d.lrung j := rfl

@[simp] theorem staged_modLane (d : Device) (l : Nat) (f : Lane → Lane) : (d.modLane l f).staged = d.staged := rfl

@[simp] theorem dram_modLane (d : Device) (l : Nat) (f : Lane → Lane) : (d.modLane l f).dram = d.dram := rfl

@[simp] theorem outs_modLane (d : Device) (l : Nat) (f : Lane → Lane) : (d.modLane l f).outs = d.outs := rfl

@[simp] theorem staged_setLane (d : Device) (l st rung : Nat) : (d.setLane l st rung).staged = d.staged := by simp [setLane]

@[simp] theorem dram_setLane (d : Device) (l st rung : Nat) : (d.setLane l st rung).dram = d.dram := by simp [setLane]

@[simp] theorem outs_setLane (d : Device) (l st rung : Nat) : (d.setLane l st rung).outs = d.outs := by simp [setLane]

@[simp] theorem lane_set (d : Device) (r : Reg) (i n j : Nat) : (d.set r i n).lane j = d.lane j := rfl

@[simp] theorem lane_setLane (d : Device) (l st rung j : Nat) : (d.setLane l st rung).lane j = d.lane j := rfl

@[simp] theorem lane_emit (d : Device) (o : Out) (j : Nat) : (d.emit o).lane j = d.lane j := rfl

theorem lstate_set_same (d : Device) (l : Nat) {n : Nat} (hn : n < 256) : (d.set .LNK_STATE l n).lstate l = n :=
  (d.num_set_same .LNK_STATE l n).trans (Nat.mod_eq_of_lt hn)

theorem lstate_set_reg_ne (d : Device) {r : Reg} (hr : r ≠ .LNK_STATE) (i n l : Nat) : (d.set r i n).lstate l = d.lstate l := d.num_set_reg_ne l i n hr

theorem lrung_set_reg_ne (d : Device) {r : Reg} (hr : r ≠ .LNK_RUNG) (i n l : Nat) : (d.set r i n).lrung l = d.lrung l := d.num_set_reg_ne l i n hr

theorem lstate_setLane (d : Device) (l : Nat) {st : Nat} (hst : st < 256) (rung : Nat) : (d.setLane l st rung).lstate l = st := by
  rw [setLane, lstate_set_reg_ne _ (by decide), lstate_set_same _ _ hst]

theorem lrung_setLane (d : Device) (l st : Nat) {rung : Nat} (hr : rung < 256) : (d.setLane l st rung).lrung l = rung :=
  (num_set_same _ .LNK_RUNG l rung).trans (Nat.mod_eq_of_lt hr)

theorem num_setLane (d : Device) (l st rung i : Nat) {r : Reg} (hs : r ≠ .LNK_STATE) (hr : r ≠ .LNK_RUNG) : (d.setLane l st rung).num r i = d.num r i := by
  rw [setLane, num_set_reg_ne _ _ _ _ hr.symm, num_set_reg_ne _ _ _ _ hs.symm]

/-! ## Training frames (R63) -/

/-- Octets 3 to 29 of the next training frame of a lane. -/
def frameBody (d : Device) (l : Nat) (payload : Octets) : Octets := d.lstate l :: slice payload 0 26

/-- SEQ of the next training frame of a lane. -/
def frameSeq (d : Device) (l : Nat) (payload : Octets) : Nat :=
  if (d.lane l).txLast = d.frameBody l payload then (d.lane l).txSeq else ((d.lane l).txSeq + 1) % 256

/-- The next training frame of a lane. -/
def frameNext (d : Device) (l ty : Nat) (payload : Octets) : Octets :=
  let head := [ty, d.senderBit l, d.frameSeq l payload] ++ d.frameBody l payload
  head ++ crcTail head

/-- The lane after that frame has joined those that its transmitter has due. -/
def laneSent (d : Device) (l ty : Nat) (payload : Octets) (x : Lane) : Lane :=
  { x with txLast := d.frameBody l payload, txSeq := d.frameSeq l payload, tx := x.tx.due (d.frameNext l ty payload) }

theorem sendFrame_eq (d : Device) (l ty : Nat) (payload : Octets) :
    d.sendFrame l ty payload = (d.modLane l (d.laneSent l ty payload)).emit (.frame l (d.frameNext l ty payload)) := rfl

theorem lane_sendFrame (d : Device) {l : Nat} (hl : l < 36) (ty : Nat) (payload : Octets) :
    (d.sendFrame l ty payload).lane l = d.laneSent l ty payload (d.lane l) := by
  rw [sendFrame_eq, lane_emit, lane_modLane_same d hl]

@[simp] theorem num_sendFrame (d : Device) (l ty : Nat) (payload : Octets) (r : Reg) (i : Nat) : (d.sendFrame l ty payload).num r i = d.num r i := rfl

@[simp] theorem staged_sendFrame (d : Device) (l ty : Nat) (payload : Octets) : (d.sendFrame l ty payload).staged = d.staged := rfl

@[simp] theorem dram_sendFrame (d : Device) (l ty : Nat) (payload : Octets) : (d.sendFrame l ty payload).dram = d.dram := rfl

@[simp] theorem lstate_sendFrame (d : Device) (l ty : Nat) (payload : Octets) (j : Nat) : (d.sendFrame l ty payload).lstate j = d.lstate j := rfl

@[simp] theorem lrung_sendFrame (d : Device) (l ty : Nat) (payload : Octets) (j : Nat) : (d.sendFrame l ty payload).lrung j = d.lrung j := rfl

theorem ChangesOnly.sendFrame {regs : List Reg} {keys : List (Reg × Nat)} {d e : Device} (h : d.ChangesOnly regs keys e) (l ty : Nat) (payload : Octets) :
    d.ChangesOnly regs keys (e.sendFrame l ty payload) := h.beside rfl

theorem ChangesOnly.laneOnly {regs : List Reg} {keys : List (Reg × Nat)} {d e : Device} (h : d.ChangesOnly regs keys e) (l : Nat) (f : Lane → Lane) :
    d.ChangesOnly regs keys (e.modLane l f) := h.beside rfl

theorem frameOk_frameNext (d : Device) (l ty : Nat) (payload : Octets) : frameOk (d.frameNext l ty payload) = true := by
  have hlen : ([ty, d.senderBit l, d.frameSeq l payload] ++ d.frameBody l payload).length = 30 := by simp [frameBody, length_slice]
  have htail := length_crcTail ([ty, d.senderBit l, d.frameSeq l payload] ++ d.frameBody l payload)
  unfold frameOk frameNext
  dsimp only
  generalize [ty, d.senderBit l, d.frameSeq l payload] ++ d.frameBody l payload = head at hlen htail
  simp [slice, List.drop_left' hlen, List.take_left' hlen, hlen, htail]

theorem octet_frameNext_type (d : Device) (l ty : Nat) (payload : Octets) : octet (d.frameNext l ty payload) 0 = ty := rfl

theorem octet_frameNext_state (d : Device) (l ty : Nat) (payload : Octets) : octet (d.frameNext l ty payload) 3 = d.lstate l := rfl

/-- The octets of a frame from 4 on are those of its payload. -/
theorem octet_frameNext (d : Device) (l ty : Nat) (payload : Octets) {k : Nat} (hk : k < 26) : octet (d.frameNext l ty payload) (4 + k) = octet payload k := by
  have h : octet (d.frameNext l ty payload) (4 + k) = octet (slice payload 0 26 ++ crcTail ([ty, d.senderBit l, d.frameSeq l payload] ++ d.frameBody l payload)) k := by
    rw [octet, Nat.add_comm]
    rfl
  rw [h, octet, List.getD_append _ _ _ _ (by rwa [length_slice])]
  exact (octet_slice payload 0 26 hk).trans (by rw [Nat.zero_add])

/-- A frame that is sent leaves, with its type, the lane's state and its payload. -/
theorem sends_sendFrame (d : Device) (l ty : Nat) (payload : Octets) {p : Octets → Prop}
    (hp : ∀ f, octet f 0 = ty → octet f 3 = d.lstate l → (∀ k < 26, octet f (4 + k) = octet payload k) → p f) : (d.sendFrame l ty payload).sends l p :=
  ⟨d.frameNext l ty payload, List.mem_append_right _ (List.mem_singleton.mpr rfl), d.frameOk_frameNext l ty payload,
    hp _ (d.octet_frameNext_type l ty payload) (d.octet_frameNext_state l ty payload) fun _ hk => d.octet_frameNext l ty payload hk⟩

end Device

end Sys2Proof.Machine
end

section
/-!
PROOF. The states of R58 as a lane enters them, and the exits that its time limits take (R58, R61): O15.
-/
namespace Sys2Proof.Machine

namespace Device

/-! ## Entering a state (R58) -/

theorem num_toSeek (d : Device) (l i : Nat) {r : Reg} (hr : r ∉ linkRegs) : (d.toSeek l).num r i = d.num r i :=
  ((ChangesOnly.refl d).toSeek l).num r i hr List.not_mem_nil

@[simp] theorem lstate_toSeek (d : Device) (l : Nat) : (d.toSeek l).lstate l = LS.seek := by
  rw [toSeek, lstate_modLane, lstate_set_reg_ne _ (by decide), lstate_set_reg_ne _ (by decide), lstate_setLane _ _ (by decide)]

@[simp] theorem lrung_toSeek (d : Device) (l : Nat) : (d.toSeek l).lrung l = 0 := by
  rw [toSeek, lrung_modLane, lrung_set_reg_ne _ (by decide), lrung_set_reg_ne _ (by decide), lrung_setLane _ _ _ (by decide)]

theorem num_toSeek_test (d : Device) (l : Nat) : (d.toSeek l).num .LNK_TEST l = 0 := num_set_same _ .LNK_TEST l 0

@[simp] theorem lstate_toLow (d : Device) (l : Nat) : (d.toLow l).lstate l = LS.low := lstate_setLane d l (by decide) 1

@[simp] theorem lrung_toLow (d : Device) (l : Nat) : (d.toLow l).lrung l = 1 := lrung_setLane d l LS.low (rung := 1) (by decide)

@[simp] theorem lstate_toRelock (d : Device) (l : Nat) : (d.toRelock l).lstate l = LS.relock := by
  rw [toRelock, lstate_modLane, lstate_set_reg_ne _ (by decide), lstate_setLane _ _ (by decide)]

@[simp] theorem lrung_toRelock (d : Device) (l : Nat) : (d.toRelock l).lrung l = 1 := by
  rw [toRelock, lrung_modLane, lrung_set_reg_ne _ (by decide), lrung_setLane _ _ _ (by decide)]

theorem num_toRelock (d : Device) (l i : Nat) {r : Reg} (hs : r ≠ .LNK_STATE) (hr : r ≠ .LNK_RUNG) (he : r ≠ .LNK_TX_EQ) : (d.toRelock l).num r i = d.num r i := by
  rw [toRelock, num_modLane, num_set_reg_ne _ _ _ _ he.symm, num_setLane _ _ _ _ _ hs hr]

@[simp] theorem lstate_toRecover (d : Device) (l : Nat) : (d.toRecover l).lstate l = LS.recover := by
  rw [toRecover, lstate_modLane]
  exact (num_bump_reg_ne _ l l (by decide)).trans (lstate_set_same d l (by decide))

theorem wakeWait_toRelock (d : Device) {l : Nat} (hl : l < 36) : ((d.toRelock l).lane l).wakeWait = false := by
  rw [toRelock, lane_modLane_same _ hl]

theorem wakeWait_toRecover (d : Device) {l : Nat} (hl : l < 36) : ((d.toRecover l).lane l).wakeWait = (d.lane l).wakeWait := by
  rw [toRecover, lane_modLane_same _ hl]
  rfl

/-! ## Failure exits (R58) -/

/-- A lane's training has failed: it is in a state at a rung, the failure is counted, and the staging copy and the stack are as they were. -/
def FailedTo (d e : Device) (l st rung : Nat) : Prop :=
  e.lstate l = st ∧ e.lrung l = rung ∧ e.num .LNK_TRAIN_FAILS l = (d.num .LNK_TRAIN_FAILS l + 1) % 2 ^ 32 ∧ e.staged = d.staged ∧ e.dram = d.dram

theorem FailedTo.laneChanged {d e : Device} {l st rung : Nat} (h : d.FailedTo e l st rung) : d.FailedTo (e.laneChanged l) l st rung := by
  obtain ⟨hst, hrung, hfails, hstaged, hdram⟩ := h
  refine ⟨?_, ?_, ?_, ?_, ?_⟩
  · rw [lstate_laneChanged, hst]
  · rw [lrung_laneChanged, hrung]
  · rw [num_laneChanged _ _ _ (by decide), hfails]
  · rw [staged_laneChanged, hstaged]
  · rw [dram_laneChanged, hdram]

theorem num_trainFail (d : Device) (l : Nat) : (d.trainFail l).num .LNK_TRAIN_FAILS l = (d.num .LNK_TRAIN_FAILS l + 1) % 2 ^ 32 := d.num_bump_same _ _

theorem failedTo_failToSeek (d : Device) (l : Nat) : d.FailedTo (d.failToSeek l) l LS.seek 0 :=
  ⟨lstate_toSeek _ l, lrung_toSeek _ l, (num_toSeek _ l l (by decide)).trans (d.num_trainFail l), by simp [failToSeek, toSeek, sendAbort, trainFail],
    by simp [failToSeek, toSeek, sendAbort, trainFail]⟩

theorem failedTo_toRelock (d : Device) (l rung : Nat) : d.FailedTo (((d.trainFail l).markFailed l rung).toRelock l) l LS.relock 1 := by
  refine ⟨lstate_toRelock _ l, lrung_toRelock _ l, ?_, by simp [toRelock, markFailed, trainFail], by simp [toRelock, markFailed, trainFail]⟩
  rw [num_toRelock _ _ _ (by decide) (by decide) (by decide), markFailed, num_modLane, num_trainFail]

/-- The exit of STEP2 (R58, R61; log entry 53): LOW, with the 10 s retry wait. -/
theorem failedTo_retryWait (d : Device) (l : Nat) : d.FailedTo (((d.trainFail l).toLow l).modLane l (fun x => { x with retryWait := true })) l LS.low 1 := by
  refine ⟨by rw [lstate_modLane, lstate_toLow], by rw [lrung_modLane, lrung_toLow], ?_, by simp [toLow, trainFail], by simp [toLow, trainFail]⟩
  rw [num_modLane, toLow, num_modLane, num_setLane _ _ _ _ _ (by decide) (by decide), num_trainFail]

/-- TRAIN1 fails to SEEK, TRAIN2 to RELOCK. -/
theorem failedTo_trainingFails_train1 {d : Device} {l : Nat} (h : d.lstate l = LS.train1) : d.FailedTo (d.trainingFails l) l LS.seek 0 := by
  rw [trainingFails, if_pos h]
  exact (d.failedTo_failToSeek l).laneChanged

theorem failedTo_trainingFails_train2 {d : Device} {l : Nat} (h : d.lstate l = LS.train2) : d.FailedTo (d.trainingFails l) l LS.relock 1 := by
  rw [trainingFails, if_neg (by rw [h]; decide), if_pos h]
  exact (d.failedTo_toRelock l _).laneChanged

end Device

/-! ## The commands -/

/-- A command that limits the time a lane may spend in a state: there it takes the failure exit, elsewhere it changes nothing. -/
theorem timeLimit {c : Instr} {s : State} {l st out rung : Nat} {f : Device → Device}
    (hrun : exec c s = .next { s with dev := if s.dev.begin.lstate l = st then f s.dev.begin else s.dev.begin })
    (hf : s.dev.begin.lstate l = st → s.dev.begin.FailedTo (f s.dev.begin) l out rung) :
    (s.dev.lstate l = st → ∃ t, exec c s = .next t ∧ t.pending = s.pending ∧ t.dev.lstate l = out ∧ t.dev.lrung l = rung ∧
      t.dev.num .LNK_TRAIN_FAILS l = (s.dev.num .LNK_TRAIN_FAILS l + 1) % 2 ^ 32 ∧ t.dev.staged = s.dev.staged ∧ t.dev.dram = s.dev.dram) ∧
    (s.dev.lstate l ≠ st → exec c s = .next { s with dev := s.dev.begin }) := by
  refine ⟨fun h => ⟨_, hrun, rfl, ?_⟩, fun h => ?_⟩
  · rw [if_pos (show s.dev.begin.lstate l = st from h)]
    exact hf h
  · rw [hrun, if_neg (show ¬ s.dev.begin.lstate l = st from h)]

/-- RUNG_ACK_TIMEOUT of an unanswered request in STEP1. -/
theorem rungAckTimeout_step1 {s : State} {l : Nat} {x : RungChange} (hl : l < 36) (hx : (s.dev.lane l).change = some x) (ha : x.acked = false)
    (hst : s.dev.lstate l = LS.step1) :
    ∃ t, exec (.rungAckTimeout l) s = .next t ∧ t.dev.lstate l = LS.seek ∧ t.dev.num .LNK_TRAIN_FAILS l = (s.dev.num .LNK_TRAIN_FAILS l + 1) % 2 ^ 32 := by
  have hx' : (s.dev.begin.lane l).change = some x := hx
  have hst' : s.dev.begin.lstate l = LS.step1 := hst
  refine ⟨_, exec_run (show execRungAckTimeout l s = _ from rfl) (wf_lane hl), ?_⟩
  simp only [hx', hst', ha, decide_true, Bool.not_false, Bool.true_or, Bool.and_self, if_true]
  obtain ⟨hseek, -, hfails, -, -⟩ := (s.dev.begin.failedTo_failToSeek l).laneChanged
  exact ⟨hseek, hfails⟩

/-- RUNG_ACK_TIMEOUT of an unanswered request in STEP2. -/
theorem rungAckTimeout_step2 {s : State} {l : Nat} {x : RungChange} (hl : l < 36) (hx : (s.dev.lane l).change = some x) (ha : x.acked = false)
    (hst : s.dev.lstate l = LS.step2) :
    ∃ t, exec (.rungAckTimeout l) s = .next t ∧ t.dev.lstate l = LS.low ∧ (t.dev.lane l).retryWait = true ∧
      t.dev.num .LNK_TRAIN_FAILS l = (s.dev.num .LNK_TRAIN_FAILS l + 1) % 2 ^ 32 := by
  have hx' : (s.dev.begin.lane l).change = some x := hx
  have hst' : s.dev.begin.lstate l = LS.step2 := hst
  refine ⟨_, exec_run (show execRungAckTimeout l s = _ from rfl) (wf_lane hl), ?_⟩
  have hne : decide (LS.step2 = LS.step1) = false := rfl
  simp only [hx', hst', hne, ha, Bool.false_and, Bool.false_eq_true, if_false, decide_true, Bool.not_false, Bool.and_self, if_true]
  obtain ⟨hlow, -, hfails, -, -⟩ := (s.dev.begin.failedTo_retryWait l).laneChanged
  exact ⟨hlow, by rw [Device.retryWait_laneChanged, Device.lane_modLane_same _ hl], hfails⟩

/-- Settles O15: each limit by the failure exit of its state. -/
theorem laneTimeLimits : Obligations.LaneTimeLimits := by
  unfold Obligations.LaneTimeLimits
  refine ⟨fun s l st c hl hc => ?_, fun s l x hl hx ha => ⟨rungAckTimeout_step1 hl hx ha, rungAckTimeout_step2 hl hx ha⟩⟩
  simp only [List.mem_cons, Prod.mk.injEq, List.not_mem_nil, or_false] at hc
  obtain ⟨rfl, rfl⟩ | ⟨rfl, rfl⟩ | ⟨rfl, rfl⟩ | ⟨rfl, rfl⟩ | ⟨rfl, rfl⟩ := hc
  · exact timeLimit (out := LS.seek) (rung := 0) (f := fun d => (d.failToSeek l).laneChanged l)
      (exec_run (show execIdentTimeout l s = _ from rfl) (wf_lane hl)) fun _ => (Device.failedTo_failToSeek _ l).laneChanged
  · exact timeLimit (out := LS.seek) (rung := 0) (f := fun d => d.trainingFails l)
      (exec_run (show execTrain1Timeout l s = _ from rfl) (wf_lane hl)) Device.failedTo_trainingFails_train1
  · exact timeLimit (out := LS.seek) (rung := 0) (f := fun d => (d.failToSeek l).laneChanged l)
      (exec_run (show execRelockTimeout l s = _ from rfl) (wf_lane hl)) fun _ => (Device.failedTo_failToSeek _ l).laneChanged
  · exact timeLimit (out := LS.relock) (rung := 1) (f := fun d => d.trainingFails l)
      (exec_run (show execTrain2Timeout l s = _ from rfl) (wf_lane hl)) Device.failedTo_trainingFails_train2
  · exact timeLimit (out := LS.relock) (rung := 1) (f := fun d => (((d.trainFail l).markFailed l (d.lrung l)).toRelock l).laneChanged l)
      (exec_run (show execRecoverTimeout l s = _ from rfl) (wf_lane hl)) fun _ => (Device.failedTo_toRelock _ l _).laneChanged

end Sys2Proof.Machine
end

section
/-!
PROOF. The equaliser exchange of a training lane (R69 to R71): O18.
-/
namespace Sys2Proof.Machine

theorem presetEq_lt (p : Nat) : presetEq p < 2 ^ 32 := by
  unfold presetEq
  split <;> decide

/-- What a lane holds of the exchange but for its own request: the STATUS and RX_READY that it reports, its timeouts, and the far end's RX_READY. -/
def Lane.report (x : Lane) : Nat × Bool × Nat × Nat := (x.eqStatus, x.ready, x.eqTimeouts, x.readyGot)

namespace Device

/-! ## EQ frames (R69) -/

/-- From `d` to `e` an EQ frame has left on lane `l` with the STATUS and RX_READY that this end reports, both as they were, and no live object has changed. -/
def EqSent (d e : Device) (l : Nat) : Prop :=
  d.ChangesOnly [] [] e ∧ (e.lane l).report = (d.lane l).report ∧
    e.sends l (fun q => octet q 0 = 0x05 ∧ octet q 6 = (d.lane l).report.1 ∧ octet q 7 = b2n (d.lane l).report.2.1)

theorem eqSent_sendEq (d : Device) {l : Nat} (hl : l < 36) : d.EqSent (d.sendEq l) l := by
  unfold sendEq
  extract_lets x e
  refine ⟨((ChangesOnly.refl d).sendFrame l 0x05 _).laneOnly l _, ?_, ?_⟩
  · rw [lane_modLane_same _ hl, lane_sendFrame _ hl]
    rfl
  · exact d.sends_sendFrame l 0x05 _ fun f hty _ hp => ⟨hty, hp 2 (by decide), hp 3 (by decide)⟩

/-- A change of the lane that leaves what the EQ frame reports may come before it. -/
theorem EqSent.after_modLane {d e : Device} {l : Nat} (hl : l < 36) {f : Lane → Lane} (h : (d.modLane l f).EqSent e l)
    (hf : (f (d.lane l)).report = (d.lane l).report) : d.EqSent e l := by
  obtain ⟨hkeeps, hreport, hsends⟩ := h
  simp only [d.lane_modLane_same hl, hf] at hreport hsends
  exact ⟨((ChangesOnly.refl d).laneOnly l f).trans hkeeps, hreport, hsends⟩

/-- The next request of the device is free: what it asks for changes no more than the lane's own request. -/
theorem nextRequest_eq (d : Device) (l : Nat) :
    ∃ f : Lane → Lane, (∀ x, (f x).report = x.report) ∧ d.nextRequest l = (((d.fresh 256).2.fresh 4).2.modLane l f).sendEq l := by
  refine ⟨_, ?_, rfl⟩
  exact fun _ => rfl

theorem eqSent_nextRequest (d : Device) {l : Nat} (hl : l < 36) : d.EqSent (d.nextRequest l) l := by
  obtain ⟨f, hf, heq⟩ := d.nextRequest_eq l
  obtain ⟨hkeeps, hreport, hsends⟩ := (eqSent_sendEq (((d.fresh 256).2.fresh 4).2.modLane l f) hl).after_modLane hl (hf _)
  rw [heq]
  exact ⟨(((ChangesOnly.refl d).fresh 256).fresh 4).trans hkeeps, hreport, hsends⟩

/-- TRAIN1 begins with the transmitter's coefficients as given (R58, R69). -/
theorem changesOnly_toTrain1 (d : Device) {l : Nat} (hl : l < 36) (eq : Nat) :
    ((d.setLane l LS.train1 1).set .LNK_TX_EQ l eq).ChangesOnly [] [] (d.toTrain1 l eq) :=
  (((ChangesOnly.refl _).laneOnly l _).laneOnly l _).trans (eqSent_nextRequest _ hl).1

theorem lstate_toTrain1 (d : Device) {l : Nat} (hl : l < 36) (eq : Nat) : (d.toTrain1 l eq).lstate l = LS.train1 := by
  rw [lstate, (d.changesOnly_toTrain1 hl eq).num _ _ List.not_mem_nil List.not_mem_nil]
  exact (lstate_set_reg_ne _ (by decide) l eq l).trans (lstate_setLane d l (by decide) 1)

theorem lrung_toTrain1 (d : Device) {l : Nat} (hl : l < 36) (eq : Nat) : (d.toTrain1 l eq).lrung l = 1 := by
  rw [lrung, (d.changesOnly_toTrain1 hl eq).num _ _ List.not_mem_nil List.not_mem_nil]
  exact (lrung_set_reg_ne _ (by decide) l eq l).trans (lrung_setLane d l LS.train1 (by decide))

theorem num_toTrain1_eq (d : Device) {l eq : Nat} (hl : l < 36) (he : eq < 2 ^ 32) : (d.toTrain1 l eq).num .LNK_TX_EQ l = eq := by
  rw [(d.changesOnly_toTrain1 hl eq).num _ _ List.not_mem_nil List.not_mem_nil, num_set_same]
  exact Nat.mod_eq_of_lt he

theorem num_toTrain1 (d : Device) {l : Nat} (hl : l < 36) (eq i : Nat) {r : Reg} (hs : r ≠ .LNK_STATE) (hr : r ≠ .LNK_RUNG) (he : r ≠ .LNK_TX_EQ) :
    (d.toTrain1 l eq).num r i = d.num r i := by
  rw [(d.changesOnly_toTrain1 hl eq).num _ _ List.not_mem_nil List.not_mem_nil, num_set_reg_ne _ _ _ _ he.symm, num_setLane _ _ _ _ _ hs hr]

/-- The training goes on until both ends are ready. -/
theorem trainingComplete_unready {d : Device} {l : Nat} (h : (d.lane l).ready = false ∨ (d.lane l).readyGot < 3) : d.trainingComplete l = d := by
  have hc : ((d.lane l).ready && decide (3 ≤ (d.lane l).readyGot)) = false := by
    rcases h with h | h
    · rw [h, Bool.false_and]
    · rw [decide_eq_false (by omega), Bool.and_false]
  simp [trainingComplete, hc]

/-- An EQ frame received in TRAIN1 as the device takes it in: the far end's coefficients, and its RX_READY. -/
def eqHeard (d : Device) (l : Nat) (f : Octets) : Device :=
  (d.set .LNK_FAR_TX_EQ l (leAt f 10 4)).modLane l (fun x => { x with readyGot := if bit (octet f 7) 0 then x.readyGot + 1 else 0 })

/-- A preset asked for by the far end in TRAIN1 is taken, and its STATUS is that every tap has been updated. -/
def presetTaken (d : Device) (l pre : Nat) : Device := (d.set .LNK_TX_EQ l (presetEq pre)).modLane l (fun x => { x with eqStatus := 0x54 })

/-- What this end says of its own request leaves with the next EQ frame, whatever the far end's STATUS (R69). -/
theorem eqSent_ownRequest (d : Device) {l : Nat} (hl : l < 36) (relock : Bool) (stat v : Nat) :
    d.EqSent (if relock || (d.lane l).eqDone then d.sendEq l
      else if !(d.lane l).eqAcked && decide (stat ≠ 0) then
        (d.modLane l (fun y => { y with eqAcked := true, eqReq := 0, eqPreset := 0, violMark := v, window := [] })).sendEq l
      else if (d.lane l).eqAcked && decide (stat = 0) then d.nextRequest l
      else d.sendEq l) l := by
  split
  · exact d.eqSent_sendEq hl
  · split
    · exact (eqSent_sendEq _ hl).after_modLane hl rfl
    · split
      · exact d.eqSent_nextRequest hl
      · exact d.eqSent_sendEq hl

/-- The preset request of an EQ frame in TRAIN1 (R69). -/
theorem eqIn_preset {d : Device} {l pre : Nat} {f : Octets} (hl : l < 36) (hst : d.lstate l = LS.train1) (hpre : octet f 5 % 4 = pre) (hp : pre ≠ 0)
    (hs : (d.lane l).eqStatus = 0) (hr : (d.lane l).ready = false) : ((d.eqHeard l f).presetTaken l pre).EqSent (d.eqIn l f) l := by
  have hheard : ((d.eqHeard l f).lane l).eqStatus = 0 := by
    rw [eqHeard, lane_modLane_same _ hl]
    exact hs
  have htaken : (((d.eqHeard l f).presetTaken l pre).lane l).ready = false := by
    rw [presetTaken, lane_modLane_same _ hl, lane_set, eqHeard, lane_modLane_same _ hl]
    exact hr
  unfold eqIn
  extract_lets st req pre' stat d1 rdy d2 d3 x v d4
  have hst' : st = LS.train1 := hst
  have hno : ¬ (decide (req = 0) && decide (pre' = 0)) = true := by simp [pre', hpre, hp]
  have h3 : d3 = (d.eqHeard l f).presetTaken l pre := by
    dsimp only [d3]
    rw [if_neg (by rw [hst']; decide), if_neg hno, if_neg (show ¬ (d2.lane l).eqStatus ≠ 0 from not_not.mpr hheard), if_pos (show pre' ≠ 0 from hpre.trans_ne hp), hst',
      show pre' = pre from hpre]
    rfl
  have h4 : d3.EqSent d4 l := d3.eqSent_ownRequest hl _ stat v
  rw [if_pos (by rw [hst']; rfl)]
  rw [h3] at h4
  have hready : (d4.lane l).ready = false := (congrArg (fun r => r.2.1) h4.2.1).trans htaken
  rwa [trainingComplete_unready (.inl hready)]

/-- The receiver's estimate is taken; at rung 1 it is kept for the start preset too (R70). -/
def snrTaken (d : Device) (l snr : Nat) : Device :=
  let d := d.set .LNK_RX_SNR l snr
  if d.lrung l = 1 then d.modLane l (fun x => { x with snr1 := snr }) else d

theorem lane_snrTaken (d : Device) {l : Nat} (hl : l < 36) (snr : Nat) : ∃ n, (d.snrTaken l snr).lane l = { d.lane l with snr1 := n } := by
  unfold snrTaken
  dsimp only
  split
  · exact ⟨snr, lane_modLane_same _ hl _⟩
  · exact ⟨(d.lane l).snr1, rfl⟩

theorem num_snrTaken (d : Device) (l snr i : Nat) {r : Reg} (hr : r ≠ .LNK_RX_SNR) : (d.snrTaken l snr).num r i = d.num r i := by
  unfold snrTaken
  dsimp only
  split <;> exact num_set_reg_ne d i l snr hr.symm

theorem num_snrTaken_snr (d : Device) (l : Nat) {snr : Nat} (hs : snr < 2 ^ 16) : (d.snrTaken l snr).num .LNK_RX_SNR l = snr := by
  unfold snrTaken
  dsimp only
  split <;> exact (num_set_same d .LNK_RX_SNR l snr).trans (Nat.mod_eq_of_lt hs)

/-- RX_READY is set and sent once the device's last request has been answered (R71). -/
def readyMade (d : Device) (l : Nat) : Device := (d.modLane l (fun y => { y with eqDone := true, eqReq := 0, eqPreset := 0, ready := true })).sendEq l

theorem readyMade_spec (d : Device) {l : Nat} (hl : l < 36) : d.ChangesOnly [] [] (d.readyMade l) ∧
    ((d.readyMade l).lane l).ready = true ∧ ((d.readyMade l).lane l).readyGot = (d.lane l).readyGot ∧
    (d.readyMade l).sends l (fun q => octet q 0 = 0x05 ∧ octet q 7 = 1) := by
  obtain ⟨hkeeps, hreport, q, hm, hok, hq, -, hq7⟩ := eqSent_sendEq (d.modLane l (fun y => { y with eqDone := true, eqReq := 0, eqPreset := 0, ready := true })) hl
  rw [lane_modLane_same _ hl] at hreport hq7
  exact ⟨((ChangesOnly.refl d).laneOnly l _).trans hkeeps, congrArg (fun r => r.2.1) hreport, congrArg (fun r => r.2.2.2) hreport, q, hm, hok, hq, hq7⟩

/-- RX_READY where the receiver's conditions in its state are met (R71). -/
def readyIfMet (d : Device) (l : Nat) : Device :=
  let st := d.lstate l
  let x := d.lane l
  let low := x.comma && d.num .LNK_CODE_VIOL l == x.violMark
  let met := ((st = LS.train1 || st = LS.relock) && low) || (st = LS.train2 && windowMet x)
  if met && x.eqAcked then (d.readyMade l).trainingComplete l else d

/-- The conditions in TRAIN1: comma lock, and no violation since the last answered request. -/
theorem readyIfMet_train1 {d : Device} {l : Nat} (hst : d.lstate l = LS.train1) (hc : (d.lane l).comma = true) (ha : (d.lane l).eqAcked = true)
    (hv : (d.lane l).violMark = d.num .LNK_CODE_VIOL l) : d.readyIfMet l = (d.readyMade l).trainingComplete l := by
  have hmet : (((decide (d.lstate l = LS.train1) || decide (d.lstate l = LS.relock)) && ((d.lane l).comma && d.num .LNK_CODE_VIOL l == (d.lane l).violMark) ||
      decide (d.lstate l = LS.train2) && windowMet (d.lane l)) && (d.lane l).eqAcked) = true := by simp [hst, hv, hc, ha]
  exact if_pos hmet

end Device

/-! ## The commands -/

/-- EQ_RX with a request for preset 2 in TRAIN1 (R69). -/
theorem eqRx_preset {s : State} {l : Nat} {f : Octets} (hl : l < 36) (hf : WF.frame f = true) (hst : s.dev.lstate l = LS.train1) (hty : frameIs 0x05 f = true)
    (hpre : octet f 5 = 2) (hs : (s.dev.lane l).eqStatus = 0) (hr : (s.dev.lane l).ready = false) :
    ∃ t, exec (.eqRx l f) s = .next t ∧ t.dev.num .LNK_TX_EQ l = presetEq 2 ∧ t.dev.num .LNK_FAR_TX_EQ l = leAt f 10 4 ∧ (t.dev.lane l).eqStatus = 0x54 ∧
      t.dev.sends l (fun q => octet q 0 = 0x05 ∧ octet q 6 = 0x54) := by
  refine ⟨_, exec_run (show execEqRx l f s = _ from rfl) (wf_laneFrame hl hf), ?_⟩
  rw [if_pos hty]
  obtain ⟨hkeeps, hreport, hsends⟩ := Device.eqIn_preset (d := s.dev.begin) hl hst (show octet f 5 % 4 = 2 by rw [hpre]) (by decide) hs hr
  have hstatus : ((((s.dev.begin.eqHeard l f).presetTaken l 2).lane l).report).1 = 0x54 := by
    rw [Device.presetTaken, Device.lane_modLane_same _ hl]
    rfl
  refine ⟨?_, ?_, (congrArg Prod.fst hreport).trans hstatus, ?_⟩
  · rw [hkeeps.num _ _ List.not_mem_nil List.not_mem_nil, Device.presetTaken, Device.num_modLane, Device.num_set_same]
    exact Nat.mod_eq_of_lt (presetEq_lt 2)
  · rw [hkeeps.num _ _ List.not_mem_nil List.not_mem_nil, Device.presetTaken, Device.num_modLane, Device.num_set_reg_ne _ _ _ _ (by decide), Device.eqHeard,
      Device.num_modLane, Device.num_set_same]
    exact Nat.mod_eq_of_lt (leAt_lt f 10 4)
  · obtain ⟨q, hm, hok, hq, hq6, -⟩ := hsends
    exact ⟨q, hm, hok, hq, hq6.trans hstatus⟩

/-- EQ_STEP_TIMEOUT of a step that is asked again (R69). -/
theorem eqStepTimeout_again {s : State} {l : Nat} (hl : l < 36) (hst : s.dev.lstate l = LS.train1) (ha : (s.dev.lane l).eqAcked = false)
    (ht : (s.dev.lane l).eqTimeouts < 2) :
    ∃ t, exec (.eqStepTimeout l) s = .next t ∧ (t.dev.lane l).eqTimeouts = (s.dev.lane l).eqTimeouts + 1 ∧ t.dev.sends l (fun q => octet q 0 = 0x05) ∧
      s.dev.keeps t.dev [] := by
  have hst' : s.dev.begin.lstate l = LS.train1 := hst
  have ha' : (s.dev.begin.lane l).eqAcked = false := ha
  have ht' : ¬ 2 ≤ (s.dev.begin.lane l).eqTimeouts := Nat.not_le.mpr ht
  refine ⟨_, exec_run (show execEqStepTimeout l s = _ from rfl) (wf_lane hl), ?_⟩
  simp only [hst', ha', decide_true, Bool.true_or, Bool.not_false, Bool.and_self, if_true, if_neg ht']
  have hsent := Device.eqSent_sendEq (s.dev.begin.modLane l (fun y => { y with eqTimeouts := y.eqTimeouts + 1 })) hl
  obtain ⟨hkeeps, hreport, q, hm, hok, hq, -⟩ := hsent
  refine ⟨?_, ⟨q, hm, hok, hq⟩, keeps_of_changesOnly (((Device.ChangesOnly.refl _).laneOnly l _).trans hkeeps)⟩
  rw [Device.lane_modLane_same _ hl] at hreport
  exact congrArg (fun r => r.2.2.1) hreport

/-- The third EQ_STEP_TIMEOUT in TRAIN1 (R69). -/
theorem eqStepTimeout_third {s : State} {l : Nat} (hl : l < 36) (hst : s.dev.lstate l = LS.train1) (ha : (s.dev.lane l).eqAcked = false)
    (ht : 2 ≤ (s.dev.lane l).eqTimeouts) : ∃ t, exec (.eqStepTimeout l) s = .next t ∧ t.dev.lstate l = LS.seek := by
  have hst' : s.dev.begin.lstate l = LS.train1 := hst
  have ha' : (s.dev.begin.lane l).eqAcked = false := ha
  refine ⟨_, exec_run (show execEqStepTimeout l s = _ from rfl) (wf_lane hl), ?_⟩
  simp only [hst', ha', decide_true, Bool.true_or, Bool.not_false, Bool.and_self, if_true, if_pos (show 2 ≤ (s.dev.begin.lane l).eqTimeouts from ht)]
  exact (Device.failedTo_trainingFails_train1 hst').1

/-- PRESET_ROTATE without marker lock (R70). -/
theorem presetRotate_unlocked {s : State} {l : Nat} (hl : l < 36) (hst : s.dev.lstate l = LS.train2) (hm : (s.dev.lane l).marker = false)
    (hr : (s.dev.lane l).rotations < 3) (hp : (s.dev.lane l).preset ≤ 3) :
    let p := (s.dev.lane l).preset % 3 + 1
    ∃ t, exec (.presetRotate l) s = .next t ∧ (t.dev.lane l).preset = p ∧ t.dev.num .LNK_TX_EQ l = presetEq p ∧ s.dev.keeps t.dev [(.LNK_TX_EQ, l)] := by
  intro p
  have hnext : (if (s.dev.begin.lane l).preset = 3 then 1 else (s.dev.begin.lane l).preset + 1) = p := by
    show (if (s.dev.lane l).preset = 3 then 1 else (s.dev.lane l).preset + 1) = (s.dev.lane l).preset % 3 + 1
    split <;> omega
  have hst' : s.dev.begin.lstate l = LS.train2 := hst
  have hm' : (s.dev.begin.lane l).marker = false := hm
  have hr' : (s.dev.begin.lane l).rotations < 3 := hr
  refine ⟨_, exec_run (show execPresetRotate l s = _ from rfl) (wf_lane hl), ?_⟩
  simp only [hst', hm', hr', hnext, decide_true, Bool.not_false, Bool.and_self, if_true]
  refine ⟨?_, ?_, keeps_of_changesOnly (((Device.ChangesOnly.refl _).laneOnly l _).setAt .LNK_TX_EQ l (List.mem_singleton.mpr rfl) _)⟩
  · rw [Device.lane_set, Device.lane_modLane_same _ hl]
  · rw [Device.num_set_same]
    exact Nat.mod_eq_of_lt (presetEq_lt p)

theorem exec_rxReadySet (s : State) {l snr : Nat} (hl : l < 36) (hsnr : snr < 2 ^ 16) :
    exec (.rxReadySet l snr) s = .next { s with dev := (s.dev.begin.snrTaken l snr).readyIfMet l } := by
  have hwf : WF.rxReadySet l snr = true := by rw [WF.rxReadySet, wf_lane hl, WF.bits, decide_eq_true hsnr, Bool.and_self]
  exact exec_run (c := .rxReadySet l snr) (show execRxReadySet l snr s = _ from rfl) hwf

/-- RX_READY_SET of a receiver that is satisfied in TRAIN1, ahead of the far end (R71). -/
theorem rxReadySet_train1 {s : State} {l snr : Nat} (hl : l < 36) (hsnr : snr < 2 ^ 16) (hst : s.dev.lstate l = LS.train1) (hc : (s.dev.lane l).comma = true)
    (ha : (s.dev.lane l).eqAcked = true) (hv : (s.dev.lane l).violMark = s.dev.num .LNK_CODE_VIOL l) (hg : (s.dev.lane l).readyGot < 3) :
    ∃ t, exec (.rxReadySet l snr) s = .next t ∧ (t.dev.lane l).ready = true ∧ t.dev.num .LNK_RX_SNR l = snr ∧
      t.dev.sends l (fun q => octet q 0 = 0x05 ∧ octet q 7 = 1) := by
  obtain ⟨n, hlane⟩ := s.dev.begin.lane_snrTaken hl snr
  have hnum {r : Reg} (hr : r ≠ .LNK_RX_SNR) : (s.dev.begin.snrTaken l snr).num r l = s.dev.num r l := s.dev.begin.num_snrTaken l snr l hr
  have hsnr' := s.dev.begin.num_snrTaken_snr l hsnr
  refine ⟨_, exec_rxReadySet s hl hsnr, ?_⟩
  generalize s.dev.begin.snrTaken l snr = d at hlane hnum hsnr'
  obtain ⟨hkeeps, hready, hgot, hsends⟩ := d.readyMade_spec hl
  have hmet : d.readyIfMet l = (d.readyMade l).trainingComplete l := by
    refine Device.readyIfMet_train1 ((hnum (by decide)).trans hst) ?_ ?_ ?_
    · rwa [hlane]
    · rwa [hlane]
    · rwa [hlane, hnum (by decide)]
  have hfar : ((d.readyMade l).lane l).readyGot < 3 := by rwa [hgot, hlane]
  rw [hmet, Device.trainingComplete_unready (.inr hfar)]
  exact ⟨hready, (hkeeps.num _ _ List.not_mem_nil List.not_mem_nil).trans hsnr', hsends⟩

/-- Settles O18: a request for preset 2, the timeouts, the rotation of presets and RX_READY, each by the lemma about its command. -/
theorem equaliserExchange : Obligations.EqualiserExchange := by
  unfold Obligations.EqualiserExchange
  intro s l f hl hf
  exact ⟨fun hst hty _ hpre hs hr => eqRx_preset hl hf hst hty hpre hs hr, fun hst ha ht => eqStepTimeout_again hl hst ha ht,
    fun hst ha ht => eqStepTimeout_third hl hst ha ht, fun hst hm hr _ hp => presetRotate_unlocked hl hst hm hr hp,
    fun snr hsnr hst hc ha hv hg => rxReadySet_train1 hl (by omega) hst hc ha hv hg⟩

end Sys2Proof.Machine
end

section
/-!
PROOF. The sleep of a lane's directions (R75 to R77): O20.
-/
namespace Sys2Proof.Machine

theorem octet_of_sleepFrame {action : Nat} {f : Octets} (h : sleepFrame action f = true) : octet f 4 = action := by
  simp only [sleepFrame, Bool.and_eq_true, beq_iff_eq] at h
  exact h.2

namespace Device

/-! ## Falling asleep (R75) -/

theorem sends_sendSleep (d : Device) (l action dir : Nat) : (d.sendSleep l action dir).sends l (fun q => octet q 0 = 0x06 ∧ octet q 4 = action ∧ octet q 5 = dir) :=
  d.sends_sendFrame l 0x06 _ fun _ hty _ hp => ⟨hty, hp 0 (by decide), hp 1 (by decide)⟩

theorem ChangesOnly.sendSleep {regs : List Reg} {keys : List (Reg × Nat)} {d e : Device} (h : d.ChangesOnly regs keys e) (l action dir : Nat) :
    d.ChangesOnly regs keys (e.sendSleep l action dir) := h.sendFrame l 0x06 _

theorem lane_sendSleep (d : Device) {l : Nat} (hl : l < 36) (action dir : Nat) : (d.sendSleep l action dir).lane l = d.laneSent l 0x06 [action, dir] (d.lane l) :=
  d.lane_sendFrame hl 0x06 _

/-- The transmitter begins to fall asleep: so much idle comes before SLEEP NOW. -/
theorem nod_txSleep (d : Device) {l : Nat} (hl : l < 36) : ((d.txSleep l).lane l).tx.nod = some (if d.lrung l ≤ 1 then 20 else 2) := by
  rw [txSleep, lane_modLane_same _ hl]

theorem ChangesOnly.txSleep {regs : List Reg} {keys : List (Reg × Nat)} {d e : Device} (h : d.ChangesOnly regs keys e) (l : Nat) :
    d.ChangesOnly regs keys (e.txSleep l) := h.laneOnly l _

/-- A request for the device's transmitter is granted while the lane is free and little waits to be sent. -/
theorem sleepReqIn_granted {d : Device} {l : Nat} (hst : d.lstate l ≠ LS.off) (hr : d.lrung l ≠ 0) (hb : d.laneBusy l = false) (htx : d.busyTx l = false) :
    d.sleepReqIn l 1 = (d.sendSleep l 2 1).txSleep l := by
  simp [sleepReqIn, hst, hr, hb, htx]

/-- A request is refused during a rung change or a test. -/
theorem sleepReqIn_busy_far {d : Device} {l : Nat} (hst : d.lstate l ≠ LS.off) (hr : d.lrung l ≠ 0) (hb : d.laneBusy l = true) (hq : (d.lane l).sleepReq = none) :
    d.sleepReqIn l 0 = d.sendSleep l 3 0 := by
  simp [sleepReqIn, hst, hr, hb, hq]

theorem sleepReqIn_busy_own {d : Device} {l : Nat} (hst : d.lstate l ≠ LS.off) (hr : d.lrung l ≠ 0) (hb : d.laneBusy l = true) (hq : (d.lane l).sleepReq = none) :
    d.sleepReqIn l 1 = (d.sendSleep l 3 1).modLane l id := by
  simp [sleepReqIn, hst, hr, hb, hq]
  rfl

/-- A request for the far transmitter is granted where R77 lets it sleep. -/
theorem sleepReqIn_far {d : Device} {l : Nat} (hst : d.lstate l ≠ LS.off) (hr : d.lrung l ≠ 0) (hb : d.laneBusy l = false) (hq : (d.lane l).sleepReq = none)
    (hm : d.mayFarSleep l = true) : d.sleepReqIn l 0 = d.sendSleep l 2 0 := by
  simp [sleepReqIn, hst, hr, hb, hq, hm]

/-! ## SLEEP frames by their ACTION -/

theorem sleepIn_ack_own {d : Device} {l n : Nat} {f : Octets} (h : octet f 4 = 2) (hq : (d.lane l).sleepReq = some (0, n)) : d.sleepIn l f = d.txSleep l := by
  simp [sleepIn, h, hq]

theorem sleepIn_ack_far {d : Device} {l dir n : Nat} {f : Octets} (h : octet f 4 = 2) (hq : (d.lane l).sleepReq = some (dir, n)) (hdir : dir ≠ 0) :
    d.sleepIn l f = d.modLane l (fun x => { x with sleepReq := none, sleepAcked := true }) := by
  cases dir with
  | zero => exact absurd rfl hdir
  | succ dir => simp [sleepIn, h, hq]

theorem sleepIn_nak (d : Device) (l : Nat) {f : Octets} (h : octet f 4 = 3) : d.sleepIn l f = d.modLane l (fun x => { x with sleepReq := none }) := by
  simp [sleepIn, h]

theorem sleepIn_now_rung0 {d : Device} {l : Nat} {f : Octets} (h : octet f 4 = 4) (hr : d.lrung l = 0) : d.sleepIn l f = d := by
  simp [sleepIn, h, hr]

theorem sleepIn_now {d : Device} {l : Nat} {f : Octets} (h : octet f 4 = 4) (hst : d.lstate l ≠ LS.off) (hr : d.lrung l ≠ 0) :
    d.sleepIn l f = (d.set .LNK_SLEEP_STATE l (setBit (d.num .LNK_SLEEP_STATE l) 1)).modLane l (fun x => { x with sleepAcked := false }) := by
  simp [sleepIn, h, hst, hr]

/-- WAKE for the device's transmitter: a request that crosses it ends, and the transmitter wakes. -/
theorem sleepIn_wake (d : Device) (l : Nat) {f : Octets} (h : octet f 4 = 5) (h1 : octet f 5 = 1) : ∃ g : Lane → Lane, d.sleepIn l f = (d.modLane l g).txWake l :=
  ⟨_, by unfold sleepIn; rw [h, h1]; rfl⟩

/-! ## Waking (R76) -/

/-- A sleeping transmitter wakes: its bit of LNK_SLEEP_STATE is cleared, and idle fill comes before packets. -/
theorem txWake_asleep {d : Device} {l : Nat} (hl : l < 36) (hb : bit (d.num .LNK_SLEEP_STATE l) 0 = true) :
    (d.txWake l).num .LNK_SLEEP_STATE l = clearBit (d.num .LNK_SLEEP_STATE l) 0 % 2 ^ 8 ∧ ((d.txWake l).lane l).tx.fill = (if d.lrung l ≤ 1 then 64 else 12) ∧
      ((d.txWake l).lane l).tx.lastP = 0 ∧ Out.lane l "wake" ∈ (d.txWake l).outs ∧ d.ChangesOnly [] [(.LNK_SLEEP_STATE, l)] (d.txWake l) := by
  unfold txWake
  extract_lets x e n e2
  rw [if_pos (by rw [hb]; rfl)]
  have hlane : (e2.emit (.lane l "wake")).lane l = _ := lane_modLane_same e hl _
  refine ⟨num_set_same d .LNK_SLEEP_STATE l _, ?_, ?_, List.mem_append_right _ (List.mem_singleton.mpr rfl), ?_⟩
  · rw [hlane]
    show n = _
    dsimp only [n]
    rw [lrung_set_reg_ne d (by decide)]
  · rw [hlane]
  · exact (((ChangesOnly.refl d).setAt .LNK_SLEEP_STATE l (List.mem_singleton.mpr rfl) _).laneOnly l _).emit _

/-! ## The transmitter behind SLEEP NOW (R75) -/

/-- Behind SLEEP NOW, with nothing left to send, the transmitter is asleep. -/
theorem wireTick_asleep {d : Device} {l : Nat} (hst : d.lstate l ≠ LS.off) (hs : d.num .LNK_SLEEP_STATE l = 0) (hr : d.lrung l ≤ 1)
    (htr : (d.lane l).tx.rung = d.lrung l) (hh : (d.lane l).tx.hush = 0) (hc : (d.lane l).tx.closing = true) (hd : (d.lane l).tx.drained = true)
    (hch : (d.lane l).tx.chars = []) (hp : (d.lane l).tx.pattern = false) :
    ∃ f : LaneTx → LaneTx, d.wireTick l = ((d.set .LNK_SLEEP_STATE l 1).modWire l f).emit (.lane l "sleep") := by
  have hawake : bit (d.num .LNK_SLEEP_STATE l) 0 = false := by rw [hs]; rfl
  have hbit : setBit (d.num .LNK_SLEEP_STATE l) 0 = 1 := by rw [hs]; rfl
  unfold wireTick
  simp [hst, hawake, hh, hc, hd, hch, hp, htr, hr, hbit]
  exact ⟨_, rfl⟩

end Device

/-! ## The commands -/

/-- SLEEP REQ for the device's transmitter on a lane that is free. -/
theorem sleepReqRx_own {s : State} {l : Nat} {f : Octets} (hl : l < 36) (hf : WF.frame f = true) (hst : s.dev.lstate l ≠ LS.off) (hr : s.dev.lrung l ≠ 0)
    (hb : s.dev.laneBusy l = false) (htx : s.dev.busyTx l = false) (hty : sleepFrame 1 f = true) (hdir : octet f 5 = 1) :
    ∃ t, exec (.sleepReqRx l f) s = .next t ∧ (t.dev.lane l).tx.nod = some (if s.dev.lrung l ≤ 1 then 20 else 2) ∧
      t.dev.sends l (fun q => octet q 0 = 0x06 ∧ octet q 4 = 2 ∧ octet q 5 = 1) ∧ s.dev.keeps t.dev [] := by
  refine ⟨_, exec_run (show execSleepReqRx l f s = _ from rfl) (wf_laneFrame hl hf), ?_⟩
  rw [if_pos hty, hdir, Device.sleepReqIn_granted (d := s.dev.begin) hst hr hb htx]
  exact ⟨Device.nod_txSleep _ hl, s.dev.begin.sends_sendSleep l 2 1, keeps_of_changesOnly (((Device.ChangesOnly.refl _).sendSleep l 2 1).txSleep l)⟩

/-- SLEEP REQ during a rung change or a test. -/
theorem sleepReqRx_busy {s : State} {l : Nat} {f : Octets} (hl : l < 36) (hf : WF.frame f = true) (hst : s.dev.lstate l ≠ LS.off) (hr : s.dev.lrung l ≠ 0)
    (hb : s.dev.laneBusy l = true) (hq : (s.dev.lane l).sleepReq = none) (hty : sleepFrame 1 f = true) (hdir : octet f 5 ≤ 1) :
    ∃ t, exec (.sleepReqRx l f) s = .next t ∧ t.dev.sends l (fun q => octet q 0 = 0x06 ∧ octet q 4 = 3 ∧ octet q 5 = octet f 5) ∧
      (t.dev.lane l).tx.nod = (s.dev.lane l).tx.nod ∧ s.dev.keeps t.dev [] := by
  refine ⟨_, exec_run (show execSleepReqRx l f s = _ from rfl) (wf_laneFrame hl hf), ?_⟩
  rw [if_pos hty]
  have hsent : s.dev.begin.ChangesOnly [] [] (s.dev.begin.sendSleep l 3 (octet f 5)) := (Device.ChangesOnly.refl _).sendSleep l 3 _
  have hsends := s.dev.begin.sends_sendSleep l 3 (octet f 5)
  obtain h | h : octet f 5 = 0 ∨ octet f 5 = 1 := by omega
  · rw [h] at hsent hsends ⊢
    rw [Device.sleepReqIn_busy_far (d := s.dev.begin) hst hr hb hq]
    exact ⟨hsends, by rw [Device.lane_sendSleep _ hl]; rfl, keeps_of_changesOnly hsent⟩
  · rw [h] at hsent hsends ⊢
    rw [Device.sleepReqIn_busy_own (d := s.dev.begin) hst hr hb hq]
    exact ⟨hsends, by rw [Device.lane_modLane_same _ hl, Device.lane_sendSleep _ hl]; rfl, keeps_of_changesOnly (hsent.laneOnly l id)⟩

/-- SLEEP REQ for the far transmitter where R77 lets it sleep. -/
theorem sleepReqRx_far {s : State} {l : Nat} {f : Octets} (hl : l < 36) (hf : WF.frame f = true) (hst : s.dev.lstate l ≠ LS.off) (hr : s.dev.lrung l ≠ 0)
    (hb : s.dev.laneBusy l = false) (hq : (s.dev.lane l).sleepReq = none) (hm : s.dev.mayFarSleep l = true) (hty : sleepFrame 1 f = true) (hdir : octet f 5 = 0) :
    ∃ t, exec (.sleepReqRx l f) s = .next t ∧ t.dev.sends l (fun q => octet q 0 = 0x06 ∧ octet q 4 = 2 ∧ octet q 5 = 0) ∧ s.dev.keeps t.dev [] := by
  refine ⟨_, exec_run (show execSleepReqRx l f s = _ from rfl) (wf_laneFrame hl hf), ?_⟩
  rw [if_pos hty, hdir, Device.sleepReqIn_far (d := s.dev.begin) hst hr hb hq hm]
  exact ⟨s.dev.begin.sends_sendSleep l 2 0, keeps_of_changesOnly ((Device.ChangesOnly.refl _).sendSleep l 2 0)⟩

/-- SLEEP ACK of the device's own request. -/
theorem sleepAckRx_spec {s : State} {l dir n : Nat} {f : Octets} (hl : l < 36) (hf : WF.frame f = true) (hq : (s.dev.lane l).sleepReq = some (dir, n))
    (hty : sleepFrame 2 f = true) :
    ∃ t, exec (.sleepAckRx l f) s = .next t ∧ (t.dev.lane l).sleepReq = none ∧ s.dev.keeps t.dev [] ∧
      (dir = 0 → (t.dev.lane l).tx.nod = some (if s.dev.lrung l ≤ 1 then 20 else 2)) ∧ (dir ≠ 0 → (t.dev.lane l).sleepAcked = true) := by
  have hq' : (s.dev.begin.lane l).sleepReq = some (dir, n) := hq
  refine ⟨_, exec_run (show execSleepAckRx l f s = _ from rfl) (wf_laneFrame hl hf), ?_⟩
  rw [if_pos hty]
  by_cases hdir : dir = 0
  · subst hdir
    rw [Device.sleepIn_ack_own (octet_of_sleepFrame hty) hq']
    exact ⟨by rw [Device.txSleep, Device.lane_modLane_same _ hl], keeps_of_changesOnly ((Device.ChangesOnly.refl _).txSleep l), fun _ => Device.nod_txSleep _ hl,
      fun h => absurd rfl h⟩
  · rw [Device.sleepIn_ack_far (octet_of_sleepFrame hty) hq' hdir, Device.lane_modLane_same _ hl]
    exact ⟨rfl, keeps_of_changesOnly ((Device.ChangesOnly.refl _).laneOnly l _), fun h => absurd h hdir, fun _ => rfl⟩

/-- SLEEP NAK ends the device's request. -/
theorem sleepNakRx_spec {s : State} {l : Nat} {f : Octets} (hl : l < 36) (hf : WF.frame f = true) (hty : sleepFrame 3 f = true) :
    ∃ t, exec (.sleepNakRx l f) s = .next t ∧ (t.dev.lane l).sleepReq = none ∧ s.dev.keeps t.dev [] := by
  refine ⟨_, exec_run (show execSleepNakRx l f s = _ from rfl) (wf_laneFrame hl hf), ?_⟩
  rw [if_pos hty, Device.sleepIn_nak _ l (octet_of_sleepFrame hty), Device.lane_modLane_same _ hl]
  exact ⟨rfl, keeps_of_changesOnly ((Device.ChangesOnly.refl _).laneOnly l _)⟩

/-- The far transmitter's bit, set in the two bits of LNK_SLEEP_STATE. -/
theorem setBit_one_of_lt {n : Nat} (h : n < 4) : setBit n 1 = n % 2 + 2 := by
  interval_cases n <;> rfl

/-- SLEEP NOW is the far transmitter's, which rung 0 does not have. -/
theorem sleepNowRx_spec {s : State} {l : Nat} {f : Octets} (hl : l < 36) (hf : WF.frame f = true) (hst : s.dev.lstate l ≠ LS.off) (hty : sleepFrame 4 f = true)
    (hs : s.dev.num .LNK_SLEEP_STATE l < 4) :
    ∃ t, exec (.sleepNowRx l f) s = .next t ∧
      t.dev.num .LNK_SLEEP_STATE l = (if s.dev.lrung l = 0 then s.dev.num .LNK_SLEEP_STATE l else s.dev.num .LNK_SLEEP_STATE l % 2 + 2) ∧
      s.dev.keeps t.dev [(.LNK_SLEEP_STATE, l)] := by
  refine ⟨_, exec_run (show execSleepNowRx l f s = _ from rfl) (wf_laneFrame hl hf), ?_⟩
  rw [if_pos hty]
  by_cases hr : s.dev.lrung l = 0
  · rw [Device.sleepIn_now_rung0 (d := s.dev.begin) (octet_of_sleepFrame hty) hr, if_pos hr]
    exact ⟨rfl, keeps_of_changesOnly (.refl _)⟩
  · rw [Device.sleepIn_now (d := s.dev.begin) (octet_of_sleepFrame hty) hst hr, if_neg hr]
    refine ⟨?_, keeps_of_changesOnly (((Device.ChangesOnly.refl _).setAt .LNK_SLEEP_STATE l (List.mem_singleton.mpr rfl) _).laneOnly l _)⟩
    rw [Device.num_modLane, Device.num_set_same, show s.dev.begin.num .LNK_SLEEP_STATE l = s.dev.num .LNK_SLEEP_STATE l from rfl, setBit_one_of_lt hs]
    exact Nat.mod_eq_of_lt (show _ < 2 ^ 8 by omega)

/-- A command that wakes the device's transmitter, after a change of no live object. -/
theorem wake_spec {c : Instr} {s : State} {l : Nat} {e : Device} (hl : l < 36) (hrun : exec c s = .next { s with dev := e.txWake l })
    (he : s.dev.begin.ChangesOnly [] [] e) (hs : s.dev.num .LNK_SLEEP_STATE l = 1 ∨ s.dev.num .LNK_SLEEP_STATE l = 3) :
    ∃ t, exec c s = .next t ∧ t.dev.num .LNK_SLEEP_STATE l = s.dev.num .LNK_SLEEP_STATE l - 1 ∧ (t.dev.lane l).tx.fill = (if s.dev.lrung l ≤ 1 then 64 else 12) ∧
      (t.dev.lane l).tx.lastP = 0 ∧ Out.lane l "wake" ∈ t.dev.outs ∧ s.dev.keeps t.dev [(.LNK_SLEEP_STATE, l)] := by
  have hnum (r : Reg) : e.num r l = s.dev.num r l := he.num r l List.not_mem_nil List.not_mem_nil
  have hb : bit (e.num .LNK_SLEEP_STATE l) 0 = true := by rcases hs with h | h <;> rw [hnum, h] <;> rfl
  have hclear : clearBit (s.dev.num .LNK_SLEEP_STATE l) 0 % 2 ^ 8 = s.dev.num .LNK_SLEEP_STATE l - 1 := by rcases hs with h | h <;> rw [h] <;> rfl
  obtain ⟨hstate, hfill, hlast, hout, hkeeps⟩ := Device.txWake_asleep hl hb
  refine ⟨_, hrun, hstate.trans (by rw [hnum, hclear]), ?_, hlast, hout, keeps_of_changesOnly ((he.mono (List.nil_subset _)).trans hkeeps)⟩
  rw [show s.dev.lrung l = e.lrung l from (hnum .LNK_RUNG).symm]
  exact hfill

theorem exec_laneTxWake (s : State) {l : Nat} (hl : l < 36) : exec (.laneTxWake l) s = .next { s with dev := s.dev.begin.txWake l } :=
  exec_run (c := .laneTxWake l) (show execLaneTxWake l s = _ from rfl) (wf_lane hl)

theorem exec_sleepWakeRx (s : State) {l : Nat} {f : Octets} (hl : l < 36) (hf : WF.frame f = true) (hty : sleepFrame 5 f = true) :
    exec (.sleepWakeRx l f) s = .next { s with dev := s.dev.begin.sleepIn l f } := by
  rw [exec_run (c := .sleepWakeRx l f) (show execSleepWakeRx l f s = _ from rfl) (wf_laneFrame hl hf), if_pos hty]

/-- An unanswered request is repeated, and lapses after eight repeats. -/
theorem sleepReqRepeat_spec {s : State} {l dir n : Nat} (hl : l < 36) (hq : (s.dev.lane l).sleepReq = some (dir, n)) :
    ∃ t, exec (.sleepReqRepeat l) s = .next t ∧ (t.dev.lane l).sleepReq = (if 8 ≤ n then none else some (dir, n + 1)) ∧ s.dev.keeps t.dev [] ∧
      (n < 8 → dir < 256 → t.dev.sends l (fun q => octet q 0 = 0x06 ∧ octet q 4 = 1 ∧ octet q 5 = dir)) := by
  have hq' : (s.dev.begin.lane l).sleepReq = some (dir, n) := hq
  refine ⟨_, exec_run (show execSleepReqRepeat l s = _ from rfl) (wf_lane hl), ?_⟩
  simp only [hq']
  by_cases hn : 8 ≤ n
  · rw [if_pos hn, if_pos hn, Device.lane_modLane_same _ hl]
    exact ⟨rfl, keeps_of_changesOnly ((Device.ChangesOnly.refl _).laneOnly l _), fun h => absurd hn (by omega)⟩
  · rw [if_neg hn, if_neg hn, Device.lane_sendSleep _ hl, Device.lane_modLane_same _ hl]
    exact ⟨rfl, keeps_of_changesOnly (((Device.ChangesOnly.refl _).laneOnly l _).sendSleep l 1 dir), fun _ _ => Device.sends_sendSleep _ l 1 dir⟩

/-- LNK_TX_SLEEP_AUTO begins the sleep of an idle transmitter. -/
theorem laneAutoSleep_spec {s : State} {l : Nat} (hl : l < 32) (ha : s.dev.on .LNK_TX_SLEEP_AUTO l = true) (hm : s.dev.maySleep l = true)
    (hs : s.dev.num .LNK_SLEEP_STATE l = 0) :
    ∃ t, exec (.laneAutoSleep l) s = .next t ∧ (t.dev.lane l).tx.nod = some (if s.dev.lrung l ≤ 1 then 20 else 2) ∧ s.dev.keeps t.dev [] := by
  have ha' : s.dev.begin.on .LNK_TX_SLEEP_AUTO l = true := ha
  have hm' : s.dev.begin.maySleep l = true := hm
  have hb : bit (s.dev.begin.num .LNK_SLEEP_STATE l) 0 = false := by
    rw [show s.dev.begin.num .LNK_SLEEP_STATE l = 0 from hs]
    rfl
  refine ⟨_, exec_run (show execLaneAutoSleep l s = _ from rfl) (wf_lane (by omega)), ?_⟩
  rw [if_pos (by simp [hl, ha', hm', hb])]
  exact ⟨Device.nod_txSleep _ (by omega), keeps_of_changesOnly ((Device.ChangesOnly.refl _).txSleep l)⟩

/-- The signal returns to a receiver whose far transmitter was asleep. -/
theorem signalDetectReturn_spec {s : State} {l : Nat} (hl : l < 36) (hs : s.dev.num .LNK_SLEEP_STATE l = 2) :
    ∃ t, exec (.signalDetectReturn l) s = .next t ∧ t.dev.num .LNK_SLEEP_STATE l = 0 ∧ (t.dev.lane l).wakeWait = true ∧ s.dev.keeps t.dev [(.LNK_SLEEP_STATE, l)] := by
  have hs' : s.dev.begin.num .LNK_SLEEP_STATE l = 2 := hs
  refine ⟨_, exec_run (show execSignalDetectReturn l s = _ from rfl) (wf_lane hl), ?_⟩
  rw [hs', if_pos (show bit 2 1 = true from rfl), Device.num_modLane, Device.num_set_same, Device.lane_modLane_same _ hl]
  exact ⟨rfl, rfl, keeps_of_changesOnly (((Device.ChangesOnly.refl _).setAt .LNK_SLEEP_STATE l (List.mem_singleton.mpr rfl) _).laneOnly l _)⟩

/-- No lock 2 ms after the signal returned. -/
theorem wakeLockTimeout_spec {s : State} {l : Nat} (hl : l < 36) (hw : (s.dev.lane l).wakeWait = true) :
    ∃ t, exec (.wakeLockTimeout l) s = .next t ∧ t.dev.lstate l = (if s.dev.lrung l ≤ 1 then LS.relock else LS.recover) ∧ (t.dev.lane l).wakeWait = false := by
  have hw' : (s.dev.begin.lane l).wakeWait = true := hw
  refine ⟨_, exec_run (show execWakeLockTimeout l s = _ from rfl) (wf_lane hl), ?_⟩
  by_cases hr : s.dev.lrung l ≤ 1
  · have hr' : s.dev.begin.lrung l ≤ 1 := hr
    simp only [hw', if_true, Device.lrung_modLane, hr', hr, Device.lstate_laneChanged, Device.lstate_toRelock, Device.wakeWait_laneChanged, true_and]
    exact Device.wakeWait_toRelock _ hl
  · have hr' : ¬ s.dev.begin.lrung l ≤ 1 := hr
    simp only [hw', if_true, Device.lrung_modLane, hr', hr, if_false, Device.lstate_laneChanged, Device.lstate_toRecover, Device.wakeWait_laneChanged, true_and]
    rw [Device.wakeWait_toRecover _ hl, Device.lane_modLane_same _ hl]

/-- Settles O20: each frame and each limit by the lemma about its command, and the end of SLEEP NOW by the transmitter's tick. -/
theorem lanesSleepAndWake : Obligations.LanesSleepAndWake := by
  unfold Obligations.LanesSleepAndWake
  intro s l f hl hf
  refine ⟨fun hst hr hb htx hty hdir => sleepReqRx_own hl hf hst hr hb htx hty hdir, fun hst hr hb hq hty hdir => sleepReqRx_busy hl hf hst hr hb hq hty hdir,
    fun hst hr hb hq hm hty hdir => sleepReqRx_far hl hf hst hr hb hq hm hty hdir, fun dir n hq hty => sleepAckRx_spec hl hf hq hty, sleepNakRx_spec hl hf,
    fun hst hty hs => sleepNowRx_spec hl hf hst hty hs, fun c hc hs => ?_, fun dir n hq => sleepReqRepeat_spec hl hq, fun hl' ha hm hs => laneAutoSleep_spec hl' ha hm hs,
    signalDetectReturn_spec hl, wakeLockTimeout_spec hl, fun hst hs hr htr hh hc hd hch hp => ?_⟩
  · obtain rfl | ⟨rfl, hty, hdir⟩ := hc
    · exact wake_spec hl (exec_laneTxWake s hl) (.refl _) hs
    · obtain ⟨g, hg⟩ := s.dev.begin.sleepIn_wake l (octet_of_sleepFrame hty) hdir
      exact wake_spec hl (by rw [exec_sleepWakeRx s hl hf hty, hg]) ((Device.ChangesOnly.refl _).laneOnly l g) hs
  · obtain ⟨g, hg⟩ := Device.wireTick_asleep hst hs hr htr hh hc hd hch hp
    rw [hg]
    exact ⟨Device.num_set_same _ .LNK_SLEEP_STATE l 1, rfl⟩

end Sys2Proof.Machine
end

section
/-!
PROOF. Lane tests (R72, R74): O19.
-/
namespace Sys2Proof.Machine

/-! ## The checker (R72) -/

/-- A PRBS code is played by both ends alike (R73). -/
theorem testRole_prbs (l : Nat) {t : LaneTest} (h1 : 1 ≤ t.code) (h4 : t.code ≤ 4) : Device.testRole l t = t.code := by
  unfold Device.testRole
  split
  · split <;> omega
  · rfl

theorem testPattern_prbs (l : Nat) {t : LaneTest} (h1 : 1 ≤ t.code) (h4 : t.code ≤ 4) : Device.testPattern l t = some t.code := by
  simp [Device.testPattern, testRole_prbs l h1 h4, h1, h4]

/-- A wrong bit at a locked checker that has seen none wrong before counts, and the checker stays locked. -/
theorem checkBits_wrong {code b : Nat} {c : Checker} (hlock : c.locked = true) (hrecent : c.recent = []) (hb : b ≠ prbsNext code c.reg) :
    (Device.checkBits code 1 1 [b] c 0).2 = 1 := by
  have hne : (prbsNext code c.reg != b) = true := by simpa using hb.symm
  simp [Device.checkBits, hlock, Device.countUnit, hrecent, hne, b2n]

theorem rightBits_single (inverted : Bool) (b : Nat) : Device.rightBits inverted false [b] = [if inverted then 1 - b else b] := by
  cases inverted <;> rfl

namespace Device

theorem loopBack_of_prbs {d : Device} {l : Nat} {t : LaneTest} (ht : (d.lane l).test = some t) (h1 : 1 ≤ t.code) (h4 : t.code ≤ 4) (bits : List Nat) :
    d.loopBack l bits = d := by
  have h8 : testRole l t ≠ 8 := by rw [testRole_prbs l h1 h4]; omega
  unfold loopBack runningTest
  rw [ht]
  cases hr : t.running <;> simp [hr, h8]

/-- One wrong bit of a PRBS test at rung 1 counts once in LNK_TEST_ERR. -/
theorem checkIn_wrong {d : Device} {l b : Nat} {t : LaneTest} (ht : (d.lane l).test = some t) (hrun : t.running = true) (h1 : 1 ≤ t.code) (h4 : t.code ≤ 4)
    (hr : d.lrung l = 1) (hlock : (d.lane l).checker.locked = true) (hrecent : (d.lane l).checker.recent = []) (hb : b ≠ prbsNext t.code (d.lane l).checker.reg) :
    ∃ f : Lane → Lane, d.checkIn l [b] = (d.modLane l f).add .LNK_TEST_ERR l 1 := by
  have hpat : (d.runningTest l).bind (testPattern l) = some t.code := by simp [runningTest, ht, hrun, testPattern_prbs l h1 h4]
  have hw : (if 2 ≤ d.lrung l then 2 else 1) = 1 := by rw [hr]; rfl
  unfold checkIn
  rw [hpat]
  dsimp only [List.length_singleton]
  rw [hw, checkBits_wrong hlock hrecent hb]
  exact ⟨fun x => { x with checker := (checkBits t.code 1 1 [b] (d.lane l).checker 0).1 }, rfl⟩

/-! ## The course of a test (R74) -/

theorem sends_sendTest (d : Device) (l code ms action : Nat) : (d.sendTest l code ms action).sends l (fun q => octet q 0 = 0x07 ∧ octet q 4 = code ∧ octet q 7 = action) :=
  d.sends_sendFrame l 0x07 _ fun _ hty _ hp => ⟨hty, hp 0 (by decide), hp 3 (by decide)⟩

/-- A test that begins: the lane is in TEST, no error is counted yet, and what has been sent stays sent. -/
theorem testRun_spec {d : Device} {l : Nat} {t : LaneTest} (ht : (d.lane l).test = some t) :
    (d.testRun l).lstate l = LS.test ∧ (d.testRun l).num .LNK_TEST_ERR l = 0 ∧ d.outs ⊆ (d.testRun l).outs := by
  unfold testRun
  rw [ht]
  refine ⟨?_, ?_, fun o ho => (relinks_laneChanged _ l).outs (List.mem_append_left _ ho)⟩
  · rw [lstate_laneChanged]
    exact (lstate_set_reg_ne _ (r := .LNK_TEST_ERR) (by decide) l 0 l).trans (lstate_set_same d l (n := LS.test) (by decide))
  · rw [num_laneChanged _ _ _ (by decide)]
    exact num_set_same _ .LNK_TEST_ERR l 0

/-- A PRBS test that the device asked for, refused or without an answer, is over. -/
theorem testRefused_prbs {d : Device} {l : Nat} {t : LaneTest} (ht : (d.lane l).test = some t) (hrun : t.running = false) (hfar : t.far = false) (h4 : t.code ≤ 4) :
    d.testRefused l = ((d.set .LNK_TEST l 0).set .LNK_TEST_ERR l 0xFFFFFFFF).modLane l (fun x => { x with test := none }) := by
  have h5 : t.code ≠ 5 := by omega
  have h6 : t.code ≠ 6 := by omega
  simp [testRefused, ht, hrun, hfar, h5, h6]

/-- A TEST REQ in LOW for a pattern of the rung is answered with ACK, and the test runs. -/
theorem testReqIn_low {d : Device} {l : Nat} {f : Octets} (hst : d.lstate l = LS.low) (hr : d.lrung l = 1) (hc : (d.lane l).change = none) (hcode : octet f 4 = 2) :
    d.testReqIn l f = ((d.sendTest l 2 (leAt f 5 2) 2).modLane l (fun x =>
      { x with test := some { code := 2, ms := leAt f 5 2, far := true, running := false, saved := 0 } })).testRun l := by
  simp [testReqIn, hst, hr, hc, hcode, prbsMisfit, LS.off, LS.low]

/-- A test that is asked for: LNK_TEST names it, and TEST REQ leaves. -/
theorem testAsk_spec (d : Device) (l : Nat) {code : Nat} (hc : code < 256) :
    (d.testAsk l code).num .LNK_TEST l = code ∧ (d.testAsk l code).sends l (fun q => octet q 0 = 0x07 ∧ octet q 4 = code ∧ octet q 7 = 1) ∧
      d.ChangesOnly [] [(.LNK_TEST, l)] (d.testAsk l code) := by
  unfold testAsk
  extract_lets ms e1 eq e2
  refine ⟨(num_set_same d .LNK_TEST l code).trans (Nat.mod_eq_of_lt hc), sends_sendTest e2 l code ms 1, ?_⟩
  exact (((ChangesOnly.refl d).setAt .LNK_TEST l (List.mem_singleton.mpr rfl) _).laneOnly l _).sendFrame l 0x07 _

/-- LNK_TEST = 0 ends a running test in SEEK. -/
theorem testStop_running {d : Device} {l : Nat} (hst : d.lstate l = LS.test) : d.testStop l = ((d.set .LNK_TEST l 0).toSeek l).laneChanged l :=
  if_pos ((lstate_set_reg_ne d (by decide) l 0 l).trans hst)

/-- A test at rung 1 that expires: TRAIN1 from the saved coefficients. -/
theorem testExpire_rung1 {d : Device} {l : Nat} {t : LaneTest} (ht : (d.lane l).test = some t) (hst : d.lstate l = LS.test) (hr : d.lrung l = 1) :
    d.testExpire l = ((d.set .LNK_TEST l 0).toTrain1 l t.saved).laneChanged l := by
  have hr' : (d.set .LNK_TEST l 0).lrung l ≤ 1 := by rw [lrung_set_reg_ne d (by decide), hr]
  unfold testExpire
  rw [ht]
  dsimp only
  rw [if_pos hst, if_pos hr']

/-! ## LNK_TEST (R74) -/

theorem applyWrite_lnkTest (d : Device) (l : Nat) (v : Val) (n : Nat) : d.applyWrite ⟨.LNK_TEST, l⟩ v n = d.writeTest l v.toNat := rfl

theorem writeTest_start {d : Device} {l : Nat} (hst : d.lstate l = LS.low) (hr : d.lrung l = 1) : d.writeTest l 1 = (0, d.testAsk l 1) := by
  simp [writeTest, refusing, hst, hr, prbsMisfit]

theorem writeTest_stop (d : Device) (l : Nat) : d.writeTest l 0 = (0, d.testStop l) := rfl

/-- What the object table says of LNK_TEST: a number of one byte of every lane, of the device, whose every value of a test is in range. -/
theorem lnkTest_row : (∀ l < 36, plain .LNK_TEST l = true ∧ Key.scope ⟨.LNK_TEST, l⟩ = .device ∧ numInRange ⟨.LNK_TEST, l⟩ 0 = true ∧
    numInRange ⟨.LNK_TEST, l⟩ 1 = true) ∧ (Reg.row .LNK_TEST).ty.size = some 1 ∧ (Reg.row .LNK_TEST).acc.unwritable = false := by decide +kernel

/-- A write of LNK_TEST that is not refused: the journal's entry, its effect, the result. -/
theorem command_lnkTest {d : Device} {n l x : Nat} {f : Device → Device} (hl : l < 36) (hr : d.Reaches n) (hh : d.heldNow = false) (hx : x ≤ 1)
    (hw : ∀ j, ({ d with jrn := j } : Device).writeTest l x = (0, f { d with jrn := j })) (hdue : ∀ j, (f { d with jrn := j }).resetDue = false) :
    ∃ j y, d.command n .LNK_TEST l x = { f { d with jrn := j } with sess := y, outs := (f { d with jrn := j }).outs ++ [.result 0] } := by
  obtain ⟨hlanes, hsize, hclass⟩ := lnkTest_row
  obtain ⟨hplain, hscope, h0, h1⟩ := hlanes l hl
  have hrange : numInRange ⟨.LNK_TEST, l⟩ x = true := by
    obtain rfl | rfl : x = 0 ∨ x = 1 := by omega
    · exact h0
    · exact h1
  have hpres : d.ident.present ⟨.LNK_TEST, l⟩ = true := by simp [Identity.present, hscope]
  have hcl : d.classRefused ⟨.LNK_TEST, l⟩ = false := by simp [classRefused, hclass]
  obtain ⟨j, hj, -⟩ := d.journalWriteOf_eq n ⟨.LNK_TEST, l⟩ (le 1 x)
  have happ : d.applyWrite ⟨.LNK_TEST, l⟩ (.num x) n = (0, f d) := hw d.jrn
  have happ2 : (d.journalWriteOf n ⟨.LNK_TEST, l⟩ (le 1 x)).applyWrite ⟨.LNK_TEST, l⟩ (.num x) n = (0, f { d with jrn := j }) := by
    rw [hj]
    exact hw j
  rw [command_plain hplain hsize hpres hr hh hcl (by omega) hrange (by rw [happ]) (by rw [happ2]), happ2]
  obtain ⟨y, hy⟩ := finish_eq n (hdue j)
  exact ⟨j, y, hy⟩

end Device

/-! ## The commands -/

/-- A command of a session that can write finds the device in its place among the accesses of the tick. -/
theorem exec_runAs {c : Instr} {s : State} {n : Nat} {ok : Bool} {f : Device → Device} (hn : n < 1024) (hr : s.dev.Reaches n) (hrun : exec c s = runAs n ok s f)
    (hok : ok = true) : exec c s = .next { s with dev := f (s.dev.asked n) } := by
  have hrank : s.dev.begin.ranked n = s.dev.asked n := Device.ranked_inOrder hr.1 (by omega)
  rw [hrun, runAs, hok, ← hrank]
  rfl

/-- LNK_TEST = 1 in LOW at rung 1. -/
theorem lnkTestStart_low {s : State} {l n : Nat} (hl : l < 36) (hn : n < 1024) (hr : s.dev.Reaches n) (hh : s.dev.heldNow = false) (hst : s.dev.lstate l = LS.low)
    (hrung : s.dev.lrung l = 1) :
    ∃ t, exec (.lnkTestStart n l 1) s = .next t ∧ t.dev.num .LNK_TEST l = 1 ∧ t.dev.sends l (fun q => octet q 0 = 0x07 ∧ octet q 4 = 1 ∧ octet q 7 = 1) ∧
      s.dev.keeps t.dev [(.LNK_TEST, l)] := by
  have hwf : WF.lnkTestStart n l 1 = true := by simp [WF.lnkTestStart, WF.session, wf_lane hl, WF.bits, hn]
  have hspec (j : Journal) := Device.testAsk_spec { s.dev.asked n with jrn := j } l (code := 1) (by decide)
  obtain ⟨j, y, hcmd⟩ := Device.command_lnkTest (d := s.dev.asked n) (n := n) (x := 1) (f := fun d => d.testAsk l 1) hl ⟨Nat.le_refl n, hr.2⟩ hh (Nat.le_refl 1)
    (fun j => Device.writeTest_start hst hrung) fun j => (hspec j).2.2.resetDue
  obtain ⟨hnum, hsends, hkeeps⟩ := hspec j
  refine ⟨_, exec_runAs (c := .lnkTestStart n l 1) hn hr (show execLnkTestStart n l 1 s = _ from rfl) hwf, ?_⟩
  rw [hcmd]
  exact ⟨hnum, Device.sends_mono hsends (List.subset_append_left _ _), fun r i hk => hkeeps.val r i List.not_mem_nil hk⟩

/-- LNK_TEST = 0 during a test. -/
theorem lnkTestStop_running {s : State} {l n : Nat} (hl : l < 36) (hn : n < 1024) (hr : s.dev.Reaches n) (hh : s.dev.heldNow = false) (hst : s.dev.lstate l = LS.test) :
    ∃ t, exec (.lnkTestStop n l) s = .next t ∧ t.dev.num .LNK_TEST l = 0 ∧ t.dev.lstate l = LS.seek := by
  have hwf : WF.lnkTestStop n l = true := by simp [WF.lnkTestStop, WF.session, wf_lane hl, hn]
  have hstop (j : Journal) : ({ s.dev.asked n with jrn := j } : Device).testStop l = _ := Device.testStop_running hst
  have hdue (j : Journal) : (({ s.dev.asked n with jrn := j } : Device).testStop l).resetDue = false := by
    rw [hstop, Device.resetDue_laneChanged, ((Device.ChangesOnly.refl _).toSeek l).resetDue]
    rfl
  obtain ⟨j, y, hcmd⟩ := Device.command_lnkTest (d := s.dev.asked n) (n := n) (x := 0) (f := fun d => d.testStop l) hl ⟨Nat.le_refl n, hr.2⟩ hh (by omega)
    (fun j => Device.writeTest_stop _ l) hdue
  refine ⟨_, exec_runAs (c := .lnkTestStop n l) hn hr (show execLnkTestStop n l s = _ from rfl) hwf, ?_⟩
  rw [hcmd]
  have hnum : (({ s.dev.asked n with jrn := j } : Device).testStop l).num .LNK_TEST l = 0 := by
    rw [hstop, Device.num_laneChanged _ _ _ (by decide), Device.num_toSeek_test]
  have hseek : (({ s.dev.asked n with jrn := j } : Device).testStop l).lstate l = LS.seek := by
    rw [hstop, Device.lstate_laneChanged, Device.lstate_toSeek]
  exact ⟨hnum, hseek⟩

/-- An ACK runs the test that was asked for. -/
theorem testAckRx_runs {s : State} {l : Nat} {f : Octets} {x : LaneTest} (hl : l < 36) (hf : WF.frame f = true) (hx : (s.dev.lane l).test = some x)
    (hrun : x.running = false) (hfar : x.far = false) (hty : testFrame 2 f = true) :
    ∃ t, exec (.testAckRx l f) s = .next t ∧ t.dev.lstate l = LS.test ∧ t.dev.num .LNK_TEST_ERR l = 0 := by
  have hx' : (s.dev.begin.lane l).test = some x := hx
  have h7 : octet f 7 = 2 := by
    simp only [testFrame, Bool.and_eq_true, beq_iff_eq] at hty
    exact hty.2
  have hin : s.dev.begin.testIn l f = s.dev.begin.testRun l := by simp [Device.testIn, h7, hx', hrun, hfar]
  refine ⟨_, exec_run (show execTestAckRx l f s = _ from rfl) (wf_laneFrame hl hf), ?_⟩
  rw [if_pos hty, hin]
  obtain ⟨htest, herr, -⟩ := Device.testRun_spec hx'
  exact ⟨htest, herr⟩

theorem exec_testReqTimeout (s : State) {l : Nat} (hl : l < 36) : exec (.testReqTimeout l) s = .next { s with dev := s.dev.begin.testRefused l } :=
  exec_run (c := .testReqTimeout l) (show execTestReqTimeout l s = _ from rfl) (wf_lane hl)

theorem exec_testNakRx (s : State) {l : Nat} {f : Octets} (hl : l < 36) (hf : WF.frame f = true) (hty : testFrame 3 f = true) :
    exec (.testNakRx l f) s = .next { s with dev := s.dev.begin.testRefused l } := by
  rw [exec_run (c := .testNakRx l f) (show execTestNakRx l f s = _ from rfl) (wf_laneFrame hl hf), if_pos hty]

/-- A command by which a PRBS test that was asked for does not start. -/
theorem testRefused_spec {c : Instr} {s : State} {l : Nat} {x : LaneTest} (hl : l < 36) (hrun : exec c s = .next { s with dev := s.dev.begin.testRefused l })
    (hx : (s.dev.lane l).test = some x) (hr : x.running = false) (hfar : x.far = false) (h4 : x.code ≤ 4) :
    ∃ t, exec c s = .next t ∧ t.dev.num .LNK_TEST l = 0 ∧ t.dev.num .LNK_TEST_ERR l = 0xFFFFFFFF ∧ (t.dev.lane l).test = none ∧
      s.dev.keeps t.dev [(.LNK_TEST, l), (.LNK_TEST_ERR, l)] := by
  refine ⟨_, hrun, ?_⟩
  rw [Device.testRefused_prbs (d := s.dev.begin) hx hr hfar h4, Device.lane_modLane_same _ hl, Device.num_modLane, Device.num_modLane,
    Device.num_set_reg_ne _ _ _ _ (by decide), Device.num_set_same, Device.num_set_same]
  refine ⟨rfl, rfl, rfl, keeps_of_changesOnly ?_⟩
  exact (((Device.ChangesOnly.refl _).setAt .LNK_TEST l (by simp) 0).setAt .LNK_TEST_ERR l (by simp) 0xFFFFFFFF).laneOnly l _

/-- A TEST REQ received in LOW. -/
theorem testReqRx_low {s : State} {l : Nat} {f : Octets} (hl : l < 36) (hf : WF.frame f = true) (hst : s.dev.lstate l = LS.low) (hr : s.dev.lrung l = 1)
    (hc : (s.dev.lane l).change = none) (hty : testFrame 1 f = true) (hcode : octet f 4 = 2) :
    ∃ t, exec (.testReqRx l f) s = .next t ∧ t.dev.lstate l = LS.test ∧ t.dev.sends l (fun q => octet q 0 = 0x07 ∧ octet q 7 = 2) := by
  refine ⟨_, exec_run (show execTestReqRx l f s = _ from rfl) (wf_laneFrame hl hf), ?_⟩
  rw [if_pos hty, Device.testReqIn_low (d := s.dev.begin) hst hr hc hcode]
  have ht := Device.lane_modLane_same (s.dev.begin.sendTest l 2 (leAt f 5 2) 2) hl fun x =>
    { x with test := some { code := 2, ms := leAt f 5 2, far := true, running := false, saved := 0 } }
  obtain ⟨htest, -, houts⟩ := Device.testRun_spec (congrArg Lane.test ht)
  obtain ⟨q, hm, hok, hq, -, hq7⟩ := s.dev.begin.sends_sendTest l 2 (leAt f 5 2) 2
  exact ⟨htest, q, houts hm, hok, hq, hq7⟩

/-- A test at rung 1 expires. -/
theorem testExpire_spec {s : State} {l : Nat} {x : LaneTest} (hl : l < 36) (hx : (s.dev.lane l).test = some x) (hst : s.dev.lstate l = LS.test) (hr : s.dev.lrung l = 1)
    (hs : x.saved < 2 ^ 32) :
    ∃ t, exec (.testExpire l) s = .next t ∧ t.dev.lstate l = LS.train1 ∧ t.dev.num .LNK_TX_EQ l = x.saved ∧ t.dev.num .LNK_TEST l = 0 := by
  refine ⟨_, exec_run (c := .testExpire l) (show execTestExpire l s = _ from rfl) (wf_lane hl), ?_⟩
  rw [Device.testExpire_rung1 (d := s.dev.begin) hx hst hr, Device.lstate_laneChanged, Device.num_laneChanged _ _ _ (by decide), Device.num_laneChanged _ _ _ (by decide)]
  exact ⟨Device.lstate_toTrain1 _ hl _, Device.num_toTrain1_eq _ hl hs, (Device.num_toTrain1 _ hl _ l (by decide) (by decide) (by decide)).trans (Device.num_set_same _ _ _ _)⟩

/-- A wrong bit at the locked checker of a PRBS test at rung 1. -/
theorem prbsCheckerLock_wrong {s : State} {l b : Nat} {x : LaneTest} (hl : l < 36) (hx : (s.dev.lane l).test = some x) (hrun : x.running = true) (hcode : x.code = 1)
    (hr : s.dev.lrung l = 1) (hlock : (s.dev.lane l).checker.locked = true) (hrecent : (s.dev.lane l).checker.recent = []) (hb : b < 2)
    (hwrong : (if s.dev.on .LNK_RX_INVERTED l then 1 - b else b) ≠ prbsNext 1 (s.dev.lane l).checker.reg) :
    ∃ t, exec (.prbsCheckerLock l [b]) s = .next t ∧ t.dev.num .LNK_TEST_ERR l = (s.dev.num .LNK_TEST_ERR l + 1) % 2 ^ 32 ∧ s.dev.keeps t.dev [(.LNK_TEST_ERR, l)] := by
  have hwf : WF.prbsCheckerLock l [b] = true := by simp [WF.prbsCheckerLock, wf_lane hl]; omega
  have hpam : decide (2 ≤ s.dev.begin.lrung l) = false := by rw [show s.dev.begin.lrung l = 1 from hr]; rfl
  obtain ⟨f, hf⟩ := Device.checkIn_wrong (d := s.dev.begin) hx hrun (by omega) (by omega) hr hlock hrecent (by rw [hcode]; exact hwrong)
  refine ⟨_, exec_run (show execPrbsCheckerLock l [b] s = _ from rfl) hwf, ?_⟩
  dsimp only
  rw [hpam, rightBits_single, Device.loopBack_of_prbs (d := s.dev.begin) hx (by omega) (by omega), show s.dev.begin.on .LNK_RX_INVERTED l = s.dev.on .LNK_RX_INVERTED l from rfl, hf]
  refine ⟨(Device.num_add_same _ .LNK_TEST_ERR l 1).trans rfl, keeps_of_changesOnly ?_⟩
  exact ((Device.ChangesOnly.refl _).laneOnly l f).bumpAt .LNK_TEST_ERR l (List.mem_singleton.mpr rfl)

/-- Settles O19: each step of a test by the lemma about its command. -/
theorem laneTests : Obligations.LaneTests := by
  unfold Obligations.LaneTests
  intro s l f hl hf
  refine ⟨fun n hn hr hh hst hrung => lnkTestStart_low hl hn hr hh hst hrung, fun n hn hr hh hst => lnkTestStop_running hl hn hr hh hst,
    fun x hx hrun hfar hty => testAckRx_runs hl hf hx hrun hfar hty, fun x c hx hrun hfar _ h4 hc => ?_,
    fun hst hr hc hty hcode => testReqRx_low hl hf hst hr hc hty hcode, fun x hx hst hr hs => testExpire_spec hl hx hst hr hs,
    fun x b hx hrun hcode hr hlock hrecent hb hwrong => prbsCheckerLock_wrong hl hx hrun hcode hr hlock hrecent hb hwrong⟩
  obtain rfl | ⟨hty, rfl⟩ := hc
  · exact testRefused_spec hl (exec_testReqTimeout s hl) hx hrun hfar h4
  · exact testRefused_spec hl (exec_testNakRx s hl hf hty) hx hrun hfar h4

end Sys2Proof.Machine
end

section
/-!
PROOF. The climb of a lane (R58, R59, R61, R63, R70): O16.
-/
namespace Sys2Proof.Machine

/-- The lane with a change of rung in progress. -/
def Lane.changing (c : RungChange) (x : Lane) : Lane := { x with change := some c }

namespace Device

/-! ## The end that leads (R58, R63) -/

/-- The link of a fold lane. -/
theorem linkOfLane_fold (d : Device) {l : Nat} (h : 32 ≤ l) : d.linkOfLane l = some (if l < 34 then 17 else 16) := by
  unfold linkOfLane
  rw [if_neg (by omega)]
  split <;> rfl

/-- A camera lane belongs to the link of a channel, or to none. -/
theorem linkOfLane_camera {d : Device} {l k : Nat} (h : l < 32) (hk : d.linkOfLane l = some k) : k < 16 := by
  rw [linkOfLane, if_pos h] at hk
  exact List.mem_range.mp (List.mem_of_find?_eq_some hk)

/-- The device leads its camera lanes. -/
theorem leads_camera (d : Device) {l : Nat} (h : l < 32) : d.leads l = true := by simp [leads, senderBit, h]

/-- On a fold lane the member of the lower FOLD_ID leads. -/
theorem leads_fold {d : Device} {l k far : Nat} (h : 32 ≤ l) (hk : d.linkOfLane l = some k) (hf : (d.link k).farFold = some far) (hid : d.num .FLD_ID 0 ≤ far) :
    d.leads l = true := by
  simp [leads, senderBit, show ¬ l < 32 by omega, hk, hf, show ¬ far < d.num .FLD_ID 0 by omega, b2n]

theorem foldLinkCheck_camera (d : Device) {l : Nat} (h : l < 32) (far : Nat) : d.foldLinkCheck l far = d := by
  unfold foldLinkCheck
  split
  · next k hk => rw [if_pos (linkOfLane_camera h hk)]
  · rfl

/-- The check of a fold link's neighbour keeps its FOLD_ID. -/
theorem farFold_foldLinkCheck (d : Device) {l k : Nat} (h : 32 ≤ l) (hk : d.linkOfLane l = some k) (far : Nat) : ((d.foldLinkCheck l far).link k).farFold = some far := by
  have h16 : 16 ≤ k ∧ k < 18 := by
    rw [linkOfLane_fold d h, Option.some.injEq] at hk
    split at hk <;> omega
  have hlink (c : Bool) (e : Device) : (e.bumpIf c .FLD_LINK_REFUSED 0).link k = e.link k := by cases c <;> rfl
  unfold foldLinkCheck
  rw [hk]
  dsimp only
  rw [if_neg (by omega), hlink]
  exact congrArg Link.farFold (getD_modTab_same 18 {} d.links k _ h16.2)

theorem ChangesOnly.foldLinkCheck {regs : List Reg} {keys : List (Reg × Nat)} {d e : Device} (h : d.ChangesOnly regs keys e) (hr : .FLD_LINK_REFUSED ∈ regs)
    (l far : Nat) : d.ChangesOnly regs keys (e.foldLinkCheck l far) := by
  unfold Device.foldLinkCheck
  split
  · exact ite h ((h.beside (f := e.modLink _ _) rfl).bumpIf _ .FLD_LINK_REFUSED hr 0)
  · exact h

/-! ## Asking for a rung (R61) -/

theorem sendRungReq_eq {d : Device} {l : Nat} {x : RungChange} (hx : (d.lane l).change = some x) : d.sendRungReq l = d.sendFrame l 0x03 [x.target, x.count, x.preset] := by
  rw [sendRungReq, hx]

/-- A RUNG_REQ leaves for a change as it now stands. -/
theorem sendRungReq_changing (d : Device) {l : Nat} (hl : l < 36) (c : RungChange) :
    (((d.modLane l (Lane.changing c)).sendRungReq l).lane l).change = some c ∧
      (((d.modLane l (Lane.changing c)).sendRungReq l).lane l).retryWait = (d.lane l).retryWait ∧
      ((d.modLane l (Lane.changing c)).sendRungReq l).sends l (fun q => octet q 0 = 0x03 ∧ octet q 4 = c.target ∧ octet q 5 = c.count) ∧
      d.ChangesOnly [] [] ((d.modLane l (Lane.changing c)).sendRungReq l) := by
  have hlane : (d.modLane l (Lane.changing c)).lane l = Lane.changing c (d.lane l) := d.lane_modLane_same hl _
  have hchange : ((d.modLane l (Lane.changing c)).lane l).change = some c := by rw [hlane]; rfl
  rw [sendRungReq_eq hchange, lane_sendFrame _ hl]
  refine ⟨hchange, ?_, sends_sendFrame _ l 0x03 _ fun _ hty _ hp => ⟨hty, hp 0 (by decide), hp 1 (by decide)⟩, ((ChangesOnly.refl d).laneOnly l _).sendFrame l 0x03 _⟩
  exact (congrArg Lane.retryWait hlane :)

theorem startChange_eq (d : Device) (l target preset : Nat) :
    d.startChange l target preset = (d.modLane l (Lane.changing { target := target, count := 8, preset := preset })).sendRungReq l := rfl

/-- A rung change begins with COUNT 8. -/
theorem startChange_spec (d : Device) {l : Nat} (hl : l < 36) (target preset : Nat) :
    ((d.startChange l target preset).lane l).change = some { target := target, count := 8, preset := preset } ∧
      ((d.startChange l target preset).lane l).retryWait = (d.lane l).retryWait ∧
      (d.startChange l target preset).sends l (fun q => octet q 0 = 0x03 ∧ octet q 4 = target ∧ octet q 5 = 8) ∧
      d.ChangesOnly [] [] (d.startChange l target preset) := by
  rw [startChange_eq]
  exact d.sendRungReq_changing hl _

/-! ## Waking before a change (R77) -/

theorem ChangesOnly.txWake {regs : List Reg} {keys : List (Reg × Nat)} {d e : Device} {l : Nat} (h : d.ChangesOnly regs keys e) (hk : (.LNK_SLEEP_STATE, l) ∈ keys) :
    d.ChangesOnly regs keys (e.txWake l) :=
  ite (((h.setAt .LNK_SLEEP_STATE l hk _).laneOnly l _).emit _) (ite (h.laneOnly l _) h)

theorem ChangesOnly.wakeForChange {regs : List Reg} {keys : List (Reg × Nat)} {d e : Device} {l : Nat} (h : d.ChangesOnly regs keys e)
    (hk : (.LNK_SLEEP_STATE, l) ∈ keys) : d.ChangesOnly regs keys (e.wakeForChange l) :=
  ite ((h.txWake hk).sendSleep l 5 1) (h.txWake hk)

theorem retryWait_txWake (d : Device) {l : Nat} (hl : l < 36) : ((d.txWake l).lane l).retryWait = (d.lane l).retryWait := by
  unfold txWake
  dsimp only
  split
  · rw [lane_emit, lane_modLane_same _ hl, lane_set]
  · split
    · rw [lane_modLane_same _ hl]
    · rfl

theorem retryWait_wakeForChange (d : Device) {l : Nat} (hl : l < 36) : ((d.wakeForChange l).lane l).retryWait = (d.lane l).retryWait := by
  unfold wakeForChange
  dsimp only
  split
  · rw [lane_sendSleep _ hl]
    exact d.retryWait_txWake hl
  · exact d.retryWait_txWake hl

theorem lstate_wakeForChange (d : Device) (l : Nat) : (d.wakeForChange l).lstate l = d.lstate l :=
  ((ChangesOnly.refl d).wakeForChange (List.mem_singleton.mpr rfl)).num .LNK_STATE l List.not_mem_nil (by simp)

/-- STEP2 begins. -/
theorem startStep2_spec (d : Device) {l : Nat} (hl : l < 36) (target : Nat) :
    ∃ x, (d.startStep2 l target).lstate l = LS.step2 ∧ ((d.startStep2 l target).lane l).change = some x ∧ x.target = target ∧ x.count = 8 ∧
      ((d.startStep2 l target).lane l).retryWait = (d.lane l).retryWait ∧
      (d.startStep2 l target).sends l (fun q => octet q 0 = 0x03 ∧ octet q 4 = target ∧ octet q 5 = 8) := by
  unfold startStep2
  extract_lets e
  obtain ⟨hchange, hretry, hsends, hkeeps⟩ := (e.set .LNK_STATE l LS.step2).startChange_spec hl target (e.startPreset l)
  refine ⟨_, ?_, (change_laneChanged _ l l).trans hchange, rfl, rfl, ?_, sends_laneChanged hsends⟩
  · rw [lstate_laneChanged]
    exact (hkeeps.num _ _ List.not_mem_nil List.not_mem_nil).trans (lstate_set_same e l (by decide))
  · rw [retryWait_laneChanged, hretry, lane_set]
    exact d.retryWait_wakeForChange hl

/-! ## Targets of a step (R59) -/

theorem stepTarget_two {d : Device} {l : Nat} {i : Octets} (hi : (d.lane l).ident = some i) (h14 : octet i 14 % 4 = 2) (hmax : d.num .LNK_RUNG_MAX l = 2)
    (hf : (d.lane l).failed2 = false) : d.stepTarget l false = some 2 := by
  simp [stepTarget, hi, hmax, hf, farRung2, h14]

theorem stepTarget_three {d : Device} {l : Nat} {i : Octets} (hi : (d.lane l).ident = some i) (h14 : octet i 14 % 4 = 3) (hmax : d.num .LNK_RUNG_MAX l = 3) :
    d.stepTarget l true = some 3 := by
  simp [stepTarget, hi, hmax, far2H, h14]

/-! ## Frames received (R58, R61, R63) -/

/-- SEEK to IDENT, where the device sends its own IDENT. -/
theorem discoverIn_spec {d : Device} {l : Nat} (hst : d.lstate l = LS.seek) (hc : (d.lane l).comma = true) :
    (d.discoverIn l).lstate l = LS.ident ∧ (d.discoverIn l).sends l (fun q => octet q 0 = 0x02) ∧
      d.ChangesOnly [] [(.LNK_STATE, l), (.LNK_RUNG, l)] (d.discoverIn l) := by
  have hdue : (decide (d.lstate l = LS.seek) && (d.lane l).comma) = true := by rw [hst, hc]; rfl
  unfold discoverIn
  rw [if_pos hdue]
  dsimp only
  have hsends := (d.setLane l LS.ident 0).sends_sendFrame l 0x02 (ownIdent (d.setLane l LS.ident 0) l) (p := fun q => octet q 0 = 0x02) fun _ hty _ _ => hty
  refine ⟨?_, sends_mono hsends (by rw [outs_modLane]; exact List.Subset.refl _), ?_⟩
  · rw [lstate_modLane, lstate_sendFrame, lstate_setLane d l (by decide)]
  exact ((((ChangesOnly.refl d).setAt .LNK_STATE l (by simp) LS.ident).setAt .LNK_RUNG l (by simp) 0).sendFrame l 0x02 _).laneOnly l _

/-- A valid IDENT as it is taken in: kept, and the neighbour of a fold link checked. -/
def identTaken (d : Device) (l : Nat) (body : Octets) : Device :=
  ((d.setOct .LNK_FAR_ID l body).modLane l (fun x => { x with ident := some body })).foldLinkCheck l (octet body 17)

theorem identIn_capable {d : Device} {l : Nat} {f : Octets} (hst : d.lstate l = LS.ident) (hcap : capable l (slice f 4 26) = true) :
    d.identIn l f =
      (let e := (d.identTaken l (slice f 4 26)).setLane l LS.step1 0
       if e.leads l then e.startChange l 1 1 else e).laneChanged l := by
  have hoff : ¬ LS.ident = LS.off := by decide
  have hseek : ¬ LS.ident = LS.seek := by decide
  unfold identIn
  dsimp only
  rw [hst, if_neg hoff, decide_eq_false hseek, Bool.false_and, if_neg Bool.false_ne_true, if_neg hseek, if_pos rfl, if_pos hcap]
  rfl

theorem changesOnly_identTaken (d : Device) (l : Nat) (body : Octets) : (d.setOct .LNK_FAR_ID l body).ChangesOnly [.FLD_LINK_REFUSED] [] (d.identTaken l body) :=
  ((ChangesOnly.refl _).laneOnly l _).foldLinkCheck (List.mem_singleton.mpr rfl) l _

/-- The end of the lower FOLD_ID leads once the far end's is known. -/
theorem leads_identTaken (d : Device) {l : Nat} (body : Octets) (st rung : Nat) (h : l < 32 ∨ d.num .FLD_ID 0 ≤ octet body 17) :
    ((d.identTaken l body).setLane l st rung).leads l = true := by
  by_cases hl : l < 32
  · exact leads_camera _ hl
  · have h32 : 32 ≤ l := by omega
    refine leads_fold h32 (linkOfLane_fold _ h32) (farFold_foldLinkCheck _ h32 (linkOfLane_fold _ h32) _) ?_
    rw [num_setLane _ _ _ _ _ (by decide) (by decide), (d.changesOnly_identTaken l body).num _ _ (by decide) List.not_mem_nil,
      num_setOct_reg_ne _ _ _ _ (by decide)]
    exact h.resolve_left hl

/-- IDENT to STEP1, with the RUNG_REQ of the end that leads. -/
theorem identIn_spec {d : Device} {l : Nat} {f : Octets} (hl : l < 36) (hst : d.lstate l = LS.ident) (hcap : capable l (slice f 4 26) = true) :
    (d.identIn l f).lstate l = LS.step1 ∧ (d.identIn l f).oct .LNK_FAR_ID l = slice f 4 26 ∧
      (l < 32 ∨ d.num .FLD_ID 0 ≤ octet f 21 → (d.identIn l f).sends l (fun q => octet q 0 = 0x03 ∧ octet q 4 = 1 ∧ octet q 5 = 8)) := by
  rw [identIn_capable hst hcap]
  extract_lets e
  obtain ⟨-, -, hsends, hkeeps⟩ := e.startChange_spec hl 1 1
  have hasked : e.ChangesOnly [] [] (if e.leads l then e.startChange l 1 1 else e) := .ite hkeeps (.refl e)
  have hlstate : e.lstate l = LS.step1 := lstate_setLane _ l (by decide) 0
  have hfar : (d.setOct .LNK_FAR_ID l (slice f 4 26)).ChangesOnly [.FLD_LINK_REFUSED] [(.LNK_STATE, l), (.LNK_RUNG, l)] e :=
    (((d.changesOnly_identTaken l (slice f 4 26)).mono (List.nil_subset _)).setAt .LNK_STATE l (by simp) LS.step1).setAt .LNK_RUNG l (by simp) 0
  refine ⟨?_, ?_, fun h => sends_laneChanged ?_⟩
  · rw [lstate_laneChanged]
    exact (hasked.num _ _ List.not_mem_nil List.not_mem_nil).trans hlstate
  · rw [oct_laneChanged _ _ _ (by decide), oct, hasked.val _ _ List.not_mem_nil List.not_mem_nil, hfar.val _ _ (by decide) (by simp)]
    exact oct_setOct_same d .LNK_FAR_ID l _
  · have h17 : octet (slice f 4 26) 17 = octet f 21 := octet_slice f 4 26 (by decide)
    rw [if_pos (d.leads_identTaken (slice f 4 26) LS.step1 0 (by rwa [h17]))]
    exact hsends

/-- A RUNG_REQ in LOW for a rung of the device. -/
theorem rungReqIn_answered {d : Device} {l : Nat} {f : Octets} (hst : d.lstate l = LS.low) (hc : (d.lane l).change = none) (h1 : 1 ≤ octet f 4) (h3 : octet f 4 ≤ 3)
    (h5 : octet f 5 ≠ 0) :
    d.rungReqIn l f = ((d.wakeForChange l).modLane l (fun x => { x with
      change := some { target := octet f 4, count := octet f 5, preset := octet f 6, asks := false } })).sendFrame l 0x04 [octet f 4, octet f 5] := by
  have hrung : ¬ (octet f 4 = 0 ∨ 3 < octet f 4) := by omega
  simp [rungReqIn, hst, hc, h5, hrung, LS.low, LS.off, LS.seek, LS.test]

/-- A RUNG_REQ that crosses one of the end that leads. -/
theorem rungReqIn_crossing {d : Device} {l : Nat} {f : Octets} {x : RungChange} (hx : (d.lane l).change = some x) (ha : x.asks = true) (hlead : d.leads l = true)
    (h1 : 1 ≤ octet f 4) (h3 : octet f 4 ≤ 3) : d.rungReqIn l f = d := by
  have hrung : ¬ (octet f 4 = 0 ∨ 3 < octet f 4) := by omega
  simp [rungReqIn, hx, ha, hlead, hrung]

/-- A RUNG_REQ in LOW for a rung that the device does not have. -/
theorem rungReqIn_refused {d : Device} {l : Nat} {f : Octets} (hst : d.lstate l = LS.low) (hrung : octet f 4 = 0 ∨ 4 ≤ octet f 4) :
    d.rungReqIn l f = ((d.sendAbort l 1).toSeek l).laneChanged l := by
  have hrung' : octet f 4 = 0 ∨ 3 < octet f 4 := hrung
  simp [rungReqIn, hst, hrung', LS.low, LS.off, LS.seek, LS.test]

theorem rungAckIn_asked {d : Device} {l : Nat} {f : Octets} {x : RungChange} (hx : (d.lane l).change = some x) (ha : x.asks = true) (hs : x.switched = false)
    (hz : x.sentZero = false) (h4 : octet f 4 = x.target) : d.rungAckIn l f = d.modLane l (fun y => { y with change := some { x with acked := true } }) := by
  simp [rungAckIn, hx, ha, hs, hz, h4]

end Device

/-! ## The commands from SEEK to TRAIN1 -/

/-- DISCOVER_SEND in SEEK. -/
theorem discoverSend_spec {s : State} {l : Nat} (hl : l < 36) (hst : s.dev.lstate l = LS.seek) (hup : s.dev.sdUp = true) :
    ∃ t, exec (.discoverSend l) s = .next t ∧ t.dev.sends l (fun q => octet q 0 = 0x01 ∧ octet q 3 = LS.seek) ∧ s.dev.keeps t.dev [] := by
  have hst' : s.dev.begin.lstate l = LS.seek := hst
  have hup' : s.dev.begin.sdUp = true := hup
  refine ⟨_, exec_run (show execDiscoverSend l s = _ from rfl) (wf_lane hl), ?_⟩
  simp only [hst', hup', decide_true, Bool.and_self, if_true]
  exact ⟨s.dev.begin.sends_sendFrame l 0x01 [] fun _ hty hstate _ => ⟨hty, hstate.trans hst'⟩, keeps_of_changesOnly ((Device.ChangesOnly.refl _).sendFrame l 0x01 [])⟩

/-- DISCOVER_RX in SEEK with comma lock. -/
theorem discoverRx_spec {s : State} {l : Nat} {f : Octets} (hl : l < 36) (hf : WF.frame f = true) (hst : s.dev.lstate l = LS.seek) (hup : s.dev.sdUp = true)
    (hc : (s.dev.lane l).comma = true) (hty : frameIs 0x01 f = true) :
    ∃ t, exec (.discoverRx l f) s = .next t ∧ t.dev.lstate l = LS.ident ∧ t.dev.sends l (fun q => octet q 0 = 0x02) ∧
      s.dev.keeps t.dev [(.LNK_STATE, l), (.LNK_RUNG, l)] := by
  have hup' : s.dev.begin.sdUp = true := hup
  refine ⟨_, exec_run (show execDiscoverRx l f s = _ from rfl) (wf_laneFrame hl hf), ?_⟩
  simp only [hty, hup', Bool.and_self, if_true]
  obtain ⟨hident, hsends, hkeeps⟩ := Device.discoverIn_spec (d := s.dev.begin) hst hc
  exact ⟨hident, hsends, keeps_of_changesOnly hkeeps⟩

/-- IDENT_RX of a capable far end in IDENT. -/
theorem identRx_spec {s : State} {l : Nat} {f : Octets} (hl : l < 36) (hf : WF.frame f = true) (hst : s.dev.lstate l = LS.ident) (hty : frameIs 0x02 f = true)
    (hcap : Device.capable l (slice f 4 26) = true) :
    ∃ t, exec (.identRx l f) s = .next t ∧ t.dev.lstate l = LS.step1 ∧ t.dev.oct .LNK_FAR_ID l = slice f 4 26 ∧
      (l < 32 ∨ s.dev.num .FLD_ID 0 ≤ octet f 21 → t.dev.sends l (fun q => octet q 0 = 0x03 ∧ octet q 4 = 1 ∧ octet q 5 = 8)) := by
  refine ⟨_, exec_run (show execIdentRx l f s = _ from rfl) (wf_laneFrame hl hf), ?_⟩
  rw [if_pos hty]
  exact Device.identIn_spec (d := s.dev.begin) hl hst hcap

/-- Comma lock at rung 1 in STEP1. -/
theorem commaLockAcquire_step1 {s : State} {l : Nat} (hl : l < 36) (hst : s.dev.lstate l = LS.step1) (hr : s.dev.lrung l = 1) :
    ∃ t, exec (.commaLockAcquire l false) s = .next t ∧ t.dev.lstate l = LS.train1 ∧ t.dev.lrung l = 1 ∧ t.dev.num .LNK_TX_EQ l = 0x00400000 := by
  have hst' : s.dev.begin.lstate l = LS.step1 := hst
  have hr' : s.dev.begin.lrung l = 1 := hr
  have hopen : ¬ (LS.step1 = LS.off ∨ 1 < 1) := by decide
  refine ⟨_, exec_run (show execCommaLockAcquire l false s = _ from rfl) (wf_lane hl), ?_⟩
  simp only [hst', hr', if_neg hopen, Bool.and_false, Bool.false_eq_true, if_false, decide_true, Bool.and_self, if_true]
  rw [Device.lstate_laneChanged, Device.lrung_laneChanged,
    Device.num_laneChanged _ _ _ (by decide)]
  exact ⟨Device.lstate_toTrain1 _ hl _, Device.lrung_toTrain1 _ hl _, Device.num_toTrain1_eq _ hl (presetEq_lt 1)⟩

/-! ## The commands of a step from LOW -/

/-- STEP2_START towards rung 2. -/
theorem step2Start_two {s : State} {l : Nat} {i : Octets} (hl : l < 36) (hst : s.dev.lstate l = LS.low) (hlead : s.dev.leads l = true)
    (hw : (s.dev.lane l).retryWait = false) (ht : (s.dev.lane l).test = none) (hi : (s.dev.lane l).ident = some i) (h14 : octet i 14 % 4 = 2)
    (hmax : s.dev.num .LNK_RUNG_MAX l = 2) (hf : (s.dev.lane l).failed2 = false) :
    ∃ t x, exec (.step2Start l) s = .next t ∧ t.dev.lstate l = LS.step2 ∧ (t.dev.lane l).change = some x ∧ x.target = 2 ∧ x.count = 8 ∧
      t.dev.sends l (fun q => octet q 0 = 0x03 ∧ octet q 4 = 2 ∧ octet q 5 = 8) := by
  have hdue : (decide (s.dev.begin.lstate l = LS.low) && s.dev.begin.leads l && !(s.dev.begin.lane l).retryWait && (s.dev.begin.lane l).test.isNone) = true := by
    have hst' : s.dev.begin.lstate l = LS.low := hst
    have hlead' : s.dev.begin.leads l = true := hlead
    have hw' : (s.dev.begin.lane l).retryWait = false := hw
    have ht' : (s.dev.begin.lane l).test = none := ht
    rw [hst', hlead', hw', ht']
    rfl
  have htarget : s.dev.begin.stepTarget l false = some 2 := Device.stepTarget_two (d := s.dev.begin) hi h14 hmax hf
  obtain ⟨x, hstate, hchange, h2, h8, -, hsends⟩ := s.dev.begin.startStep2_spec hl 2
  refine ⟨_, x, exec_run (show execStep2Start l s = _ from rfl) (wf_lane hl), ?_⟩
  rw [if_pos hdue, htarget]
  exact ⟨hstate, hchange, h2, h8, hsends⟩

/-- STEP2_RETRY towards 2H. -/
theorem step2Retry_three {s : State} {l : Nat} {i : Octets} (hl : l < 36) (hst : s.dev.lstate l = LS.low) (hw : (s.dev.lane l).retryWait = true)
    (hi : (s.dev.lane l).ident = some i) (h14 : octet i 14 % 4 = 3) (hmax : s.dev.num .LNK_RUNG_MAX l = 3) :
    ∃ t x, exec (.step2Retry l) s = .next t ∧ t.dev.lstate l = LS.step2 ∧ (t.dev.lane l).change = some x ∧ x.target = 3 ∧ x.count = 8 ∧
      (t.dev.lane l).retryWait = false := by
  have hlane := s.dev.begin.lane_modLane_same hl fun x => { x with retryWait := false }
  have hst' : (s.dev.begin.modLane l fun x => { x with retryWait := false }).lstate l = LS.low := hst
  have htarget := Device.stepTarget_three ((congrArg Lane.ident hlane).trans hi) h14 (show (s.dev.begin.modLane l _).num .LNK_RUNG_MAX l = 3 from hmax)
  obtain ⟨x, hstate, hchange, h3, h8, hretry, -⟩ := (s.dev.begin.modLane l fun x => { x with retryWait := false }).startStep2_spec hl 3
  refine ⟨_, x, exec_run (show execStep2Retry l s = _ from rfl) (wf_lane hl), ?_⟩
  rw [if_pos (show (s.dev.begin.lane l).retryWait = true from hw), if_pos hst', htarget]
  exact ⟨hstate, hchange, h3, h8, hretry.trans (congrArg Lane.retryWait hlane)⟩

/-- RUNG_REQ_SEND before COUNT reaches 0. -/
theorem rungReqSend_spec {s : State} {l : Nat} {x : RungChange} (hl : l < 36) (hx : (s.dev.lane l).change = some x) (ha : x.asks = true) (hs : x.switched = false)
    (h2 : 2 ≤ x.count) :
    ∃ t, exec (.rungReqSend l) s = .next t ∧ (t.dev.lane l).change = some { x with count := x.count - 1, sentZero := false } ∧
      t.dev.sends l (fun q => octet q 0 = 0x03 ∧ octet q 4 = x.target ∧ octet q 5 = x.count - 1) ∧ s.dev.keeps t.dev [] := by
  have hx' : (s.dev.begin.lane l).change = some x := hx
  have hn : decide (x.count - 1 = 0) = false := decide_eq_false (by omega)
  have hgo : (x.asks && !x.switched) = true := by rw [ha, hs]; rfl
  obtain ⟨hchange, -, hsends, hkeeps⟩ := s.dev.begin.sendRungReq_changing hl { x with count := x.count - 1, sentZero := false }
  refine ⟨_, exec_run (show execRungReqSend l s = _ from rfl) (wf_lane hl), ?_⟩
  simp only [hx', hgo, hn, Bool.false_and, Bool.false_eq_true, if_true, if_false]
  exact ⟨hchange, hsends, keeps_of_changesOnly hkeeps⟩

/-- RUNG_REQ_RX in LOW for a rung of the device. -/
theorem rungReqRx_answered {s : State} {l : Nat} {f : Octets} (hl : l < 36) (hf : WF.frame f = true) (hst : s.dev.lstate l = LS.low)
    (hc : (s.dev.lane l).change = none) (hty : frameIs 0x03 f = true) (h1 : 1 ≤ octet f 4) (h3 : octet f 4 ≤ 3) (h5 : octet f 5 ≠ 0) :
    ∃ t, exec (.rungReqRx l f) s = .next t ∧ t.dev.sends l (fun q => octet q 0 = 0x04 ∧ octet q 4 = octet f 4 ∧ octet q 5 = octet f 5) ∧ t.dev.lstate l = LS.low := by
  refine ⟨_, exec_run (show execRungReqRx l f s = _ from rfl) (wf_laneFrame hl hf), ?_⟩
  rw [if_pos hty, Device.rungReqIn_answered (d := s.dev.begin) hst hc h1 h3 h5]
  refine ⟨Device.sends_sendFrame _ l 0x04 _ fun _ hty' _ hp => ⟨hty', hp 0 (by decide), hp 1 (by decide)⟩, ?_⟩
  rw [Device.lstate_sendFrame, Device.lstate_modLane, Device.lstate_wakeForChange]
  exact hst

/-- RUNG_REQ_RX that crosses the request of the end that leads. -/
theorem rungReqRx_crossing {s : State} {l : Nat} {f : Octets} {x : RungChange} (hl : l < 36) (hf : WF.frame f = true) (hx : (s.dev.lane l).change = some x)
    (ha : x.asks = true) (hlead : s.dev.leads l = true) (hty : frameIs 0x03 f = true) (h1 : 1 ≤ octet f 4) (h3 : octet f 4 ≤ 3) :
    exec (.rungReqRx l f) s = .next { s with dev := s.dev.begin } := by
  rw [exec_run (c := .rungReqRx l f) (show execRungReqRx l f s = _ from rfl) (wf_laneFrame hl hf), if_pos hty,
    Device.rungReqIn_crossing (d := s.dev.begin) hx ha hlead h1 h3]

/-- RUNG_REQ_RX in LOW for a rung that the device does not have. -/
theorem rungReqRx_refused {s : State} {l : Nat} {f : Octets} (hl : l < 36) (hf : WF.frame f = true) (hst : s.dev.lstate l = LS.low) (hty : frameIs 0x03 f = true)
    (hrung : octet f 4 = 0 ∨ 4 ≤ octet f 4) :
    ∃ t, exec (.rungReqRx l f) s = .next t ∧ t.dev.sends l (fun q => octet q 0 = 0x08 ∧ octet q 4 = 1) ∧ t.dev.lstate l = LS.seek := by
  refine ⟨_, exec_run (show execRungReqRx l f s = _ from rfl) (wf_laneFrame hl hf), ?_⟩
  rw [if_pos hty, Device.rungReqIn_refused (d := s.dev.begin) hst hrung, Device.lstate_laneChanged, Device.lstate_toSeek]
  have hsends : (s.dev.begin.sendAbort l 1).sends l (fun q => octet q 0 = 0x08 ∧ octet q 4 = 1) :=
    s.dev.begin.sends_sendFrame l 0x08 [1] fun _ hty' _ hp => ⟨hty', hp 0 (by decide)⟩
  exact ⟨Device.sends_laneChanged (Device.sends_mono hsends (List.Subset.refl _)), rfl⟩

/-- RUNG_ACK_RX of the device's own request. -/
theorem rungAckRx_asked {s : State} {l : Nat} {f : Octets} {x : RungChange} (hl : l < 36) (hf : WF.frame f = true) (hx : (s.dev.lane l).change = some x)
    (ha : x.asks = true) (hs : x.switched = false) (hz : x.sentZero = false) (hty : frameIs 0x04 f = true) (h4 : octet f 4 = x.target) :
    ∃ t, exec (.rungAckRx l f) s = .next t ∧ (t.dev.lane l).change = some { x with acked := true } ∧ s.dev.keeps t.dev [] := by
  refine ⟨_, exec_run (show execRungAckRx l f s = _ from rfl) (wf_laneFrame hl hf), ?_⟩
  rw [if_pos hty, Device.rungAckIn_asked (d := s.dev.begin) hx ha hs hz h4, Device.lane_modLane_same _ hl]
  exact ⟨rfl, keeps_of_changesOnly ((Device.ChangesOnly.refl _).laneOnly l _)⟩

/-- Settles O16: the climb from SEEK to TRAIN1, then the step from LOW, each by the lemma about its command. -/
theorem lanesClimb : Obligations.LanesClimb := by
  unfold Obligations.LanesClimb
  refine ⟨fun s l f hl hf => ?_, fun s l f hl hf => ?_⟩
  · exact ⟨fun hst hup => discoverSend_spec hl hst hup, fun hst hup hc hty => discoverRx_spec hl hf hst hup hc hty,
      fun hst hty hcap => identRx_spec hl hf hst hty hcap, fun hst hr => commaLockAcquire_step1 hl hst hr⟩
  · exact ⟨fun i hst hlead hw ht hi h14 hmax hf2 => step2Start_two hl hst hlead hw ht hi h14 hmax hf2,
      fun i hst hw hi h14 hmax => step2Retry_three hl hst hw hi h14 hmax, fun x hx ha hs h2 _ _ => rungReqSend_spec hl hx ha hs h2,
      fun hst hc hty h1 h3 h5 => rungReqRx_answered hl hf hst hc hty h1 h3 h5, fun x hx ha hlead hty h1 h3 => rungReqRx_crossing hl hf hx ha hlead hty h1 h3,
      fun hst hty hrung => rungReqRx_refused hl hf hst hty hrung, fun x hx ha hs hz hty h4 => rungAckRx_asked hl hf hx ha hs hz hty h4⟩

end Sys2Proof.Machine
end

section
/-!
PROOF. A link as packets leave it and are taken from it: the link after a change of its own, what sending leaves of the device and of every link, requests put on a link
(R95, R98), and packets taken from its receive window (R88).
-/
namespace Sys2Proof.Machine

/-- A link without what the sending of a packet changes: the transmission of its VCs, and T1 of the echo in flight (R83, R87, R99). -/
def Link.unsent (x : Link) : Link := { x with tx := [], echoT1 := 0 }

/-- From `d` to `e` nothing but packets have been sent: the live objects and every link but for its transmission are what they were. -/
structure Device.Transmits (d e : Device) : Prop where
  held : e.held = d.held
  link : ∀ j, (e.link j).unsent = (d.link j).unsent

/-- A change of an entry that leaves alone what `g` reads of an entry leaves it alone in the whole table. -/
theorem getD_modTab_of {α β : Type} (g : α → β) (n : Nat) (z : α) (l : List α) (i j : Nat) {f : α → α} (hf : ∀ x, g (f x) = g x) :
    g ((modTab n z l i f).getD j z) = g (l.getD j z) := by
  by_cases hi : i < n
  · by_cases hj : j = i
    · rw [hj, getD_modTab_same n z l i f hi, hf]
    · rw [getD_modTab_ne n z l f hj]
  · rw [modTab_beyond n z l f (by omega)]

namespace Device

/-! ## A link after a change -/

theorem link_modLink_same (d : Device) {k : Nat} (hk : k < 18) (f : Link → Link) : (d.modLink k f).link k = f (d.link k) :=
  getD_modTab_same 18 ({} : Link) d.links k f hk

/-- A change of a link that leaves alone what `g` reads of a link leaves it alone in every link. -/
theorem link_modLink_of {α : Type} (g : Link → α) (d : Device) (j k : Nat) {f : Link → Link} (hf : ∀ x, g (f x) = g x) : g ((d.modLink k f).link j) = g (d.link j) :=
  getD_modTab_of g 18 {} d.links k j hf

theorem rxOf_modRx_same (d : Device) {k vc : Nat} (hk : k < 18) (hvc : vc < 4) (f : VcRx → VcRx) : (d.modRx k vc f).rxOf k vc = f (d.rxOf k vc) := by
  rw [rxOf, modRx, link_modLink_same d hk]
  exact getD_modTab_same 4 {} (d.link k).rx vc f hvc

theorem txOf_modTx_same (d : Device) {k vc : Nat} (hk : k < 18) (hvc : vc < 4) (f : VcTx → VcTx) : (d.modTx k vc f).txOf k vc = f (d.txOf k vc) := by
  rw [txOf, modTx, link_modLink_same d hk]
  exact getD_modTab_same 4 {} (d.link k).tx vc f hvc

theorem txOf_modTx_ne (d : Device) {k vc vc' : Nat} (hk : k < 18) (h : vc' ≠ vc) (f : VcTx → VcTx) : (d.modTx k vc f).txOf k vc' = d.txOf k vc' := by
  rw [txOf, modTx, link_modLink_same d hk]
  exact getD_modTab_ne 4 {} (d.link k).tx f h

/-- A change of the transmission of a VC that leaves alone what `g` reads leaves it alone on every VC of the link. -/
theorem txOf_modTx_of {α : Type} (g : VcTx → α) (d : Device) {k : Nat} (hk : k < 18) (vc vc' : Nat) {f : VcTx → VcTx} (hf : ∀ t, g (f t) = g t) :
    g ((d.modTx k vc f).txOf k vc') = g (d.txOf k vc') := by
  rw [txOf, modTx, link_modLink_same d hk]
  exact getD_modTab_of g 4 {} (d.link k).tx vc vc' hf

/-- What is changed of a link beside its transmission leaves what its VCs send. -/
theorem txOf_modLink (d : Device) (k : Nat) {f : Link → Link} (hf : ∀ x, (f x).tx = x.tx) (j vc : Nat) : (d.modLink k f).txOf j vc = d.txOf j vc :=
  congrArg (fun l => l.getD vc {}) (d.link_modLink_of Link.tx j k hf)

theorem txOf_modRx (d : Device) (k vc : Nat) (f : VcRx → VcRx) (j vc' : Nat) : (d.modRx k vc f).txOf j vc' = d.txOf j vc' := d.txOf_modLink k (fun _ => by rfl) j vc'

/-! ## Sending (R83, R87) -/

/-- The device with T1 taken, where the packet that leaves is a TIME_ECHO request (R99). -/
def stamped (d : Device) (k : Nat) (p : TxPacket) : Device :=
  if p.dt = 0x39 ∧ octet p.payload 2 = 0x05 then d.modLink k (fun x => { x with echoT1 := d.now % 2 ^ 48 }) else d

/-- The octets that leave for a packet that is next on its VC (R79, R84, R99). -/
def wireNext (d : Device) (k vc : Nat) (p : TxPacket) : Octets := wirePacket vc p.ctl p.dt (d.txOf k vc).count (stampEcho (d.now % 2 ^ 48) p)

theorem transmit_eq {d : Device} {k l : Nat} (hl : d.txLane k = some l) (vc : Nat) (p : TxPacket) :
    d.transmit k vc p = (((d.stamped k p).modLane l (fun x => { x with tx := { x.tx with packets := x.tx.packets ++ [d.wireNext k vc p] } })).emit
      (.packet l (d.wireNext k vc p))).modTx k vc (fun t => { t with count := ((d.txOf k vc).count + 1) % 2 ^ 32 }) := by
  unfold transmit
  rw [hl]
  rfl

theorem txOf_stamped (d : Device) (k : Nat) (p : TxPacket) (j vc : Nat) : (d.stamped k p).txOf j vc = d.txOf j vc := by
  unfold stamped
  split
  · exact d.txOf_modLink k (fun _ => by rfl) j vc
  · rfl

theorem outs_stamped (d : Device) (k : Nat) (p : TxPacket) : (d.stamped k p).outs = d.outs := by
  unfold stamped
  split <;> rfl

theorem outs_transmit {d : Device} {k l : Nat} (hl : d.txLane k = some l) (vc : Nat) (p : TxPacket) :
    (d.transmit k vc p).outs = d.outs ++ [.packet l (d.wireNext k vc p)] := by
  rw [transmit_eq hl, ← d.outs_stamped k p]
  rfl

theorem txOf_transmit_same {d : Device} {k l vc : Nat} (hl : d.txLane k = some l) (hk : k < 18) (hvc : vc < 4) (p : TxPacket) :
    (d.transmit k vc p).txOf k vc = { d.txOf k vc with count := ((d.txOf k vc).count + 1) % 2 ^ 32 } := by
  rw [transmit_eq hl, txOf_modTx_same _ hk hvc, ← d.txOf_stamped k p k vc]
  rfl

theorem txOf_transmit_ne {d : Device} {k l vc vc' : Nat} (hl : d.txLane k = some l) (hk : k < 18) (h : vc' ≠ vc) (p : TxPacket) :
    (d.transmit k vc p).txOf k vc' = d.txOf k vc' := by
  rw [transmit_eq hl, txOf_modTx_ne _ hk h, ← d.txOf_stamped k p k vc']
  rfl

/-- T1 of a TIME_ECHO request is the device's time as it leaves (R99). -/
theorem echoT1_transmit {d : Device} {k l : Nat} (hl : d.txLane k = some l) (hk : k < 18) (vc : Nat) {p : TxPacket} (hdt : p.dt = 0x39) (hop : octet p.payload 2 = 0x05) :
    ((d.transmit k vc p).link k).echoT1 = d.now % 2 ^ 48 := by
  have hs : (d.stamped k p).link k = { d.link k with echoT1 := d.now % 2 ^ 48 } := by rw [stamped, if_pos ⟨hdt, hop⟩, link_modLink_same d hk]
  rw [transmit_eq hl, modTx, link_modLink_same _ hk]
  exact congrArg Link.echoT1 hs

namespace Transmits

variable {d e : Device}

theorem refl (d : Device) : d.Transmits d := ⟨rfl, fun _ => rfl⟩

theorem modLink (h : d.Transmits e) (k : Nat) {f : Link → Link} (hf : ∀ x, (f x).unsent = x.unsent) : d.Transmits (e.modLink k f) :=
  ⟨h.held, fun j => (e.link_modLink_of Link.unsent j k hf).trans (h.link j)⟩

theorem modTx (h : d.Transmits e) (k vc : Nat) (f : VcTx → VcTx) : d.Transmits (e.modTx k vc f) := h.modLink k fun _ => rfl

theorem stamp (h : d.Transmits e) (k t1 : Nat) : d.Transmits (e.modLink k (fun x => { x with echoT1 := t1 })) := h.modLink k fun _ => rfl

theorem modLane (h : d.Transmits e) (l : Nat) (f : Lane → Lane) : d.Transmits (e.modLane l f) := ⟨h.held, h.link⟩

theorem emit (h : d.Transmits e) (o : Out) : d.Transmits (e.emit o) := ⟨h.held, h.link⟩

theorem ite {c : Prop} [Decidable c] {a b : Device} (ha : d.Transmits a) (hb : d.Transmits b) : d.Transmits (if c then a else b) := by
  split
  · exact ha
  · exact hb

theorem transmit (h : d.Transmits e) (k vc : Nat) (p : TxPacket) : d.Transmits (e.transmit k vc p) := by
  unfold Device.transmit
  split
  · exact h
  · extract_lets c t1 w e1 e2
    have h1 : d.Transmits e1 := ite (h.stamp k t1) h
    exact ((h1.modLane _ _).emit _).modTx k vc _

theorem pumpVc (h : d.Transmits e) (k vc n : Nat) : d.Transmits (pumpVc k vc n e) := by
  induction n generalizing e with
  | zero => exact h
  | succ n ih =>
    unfold Device.pumpVc
    split
    · exact h
    · exact ih ((h.transmit k vc _).modTx k vc _)

theorem pump (h : d.Transmits e) (k : Nat) : d.Transmits (e.pump k) := by
  have hfold (vcs : List Nat) {e : Device} (h : d.Transmits e) :
      d.Transmits (vcs.foldl (fun e vc => Device.pumpVc k vc (e.txOf k vc).waiting.length e) e) := by
    induction vcs generalizing e with
    | nil => exact h
    | cons vc vcs ih => exact ih (h.pumpVc k vc _)
  exact hfold _ h

theorem sendPacket (h : d.Transmits e) (k vc : Nat) (p : TxPacket) (urgent : Bool) : d.Transmits (e.sendPacket k vc p urgent) := by
  exact ite h ((h.modTx k vc _).pump k)

end Transmits

theorem ChangesOnly.transmits {regs : List Reg} {keys : List (Reg × Nat)} {d e f : Device} (h : d.ChangesOnly regs keys e) (ht : e.Transmits f) :
    d.ChangesOnly regs keys f := h.beside ht.held

theorem ChangesOnly.linkOnly {regs : List Reg} {keys : List (Reg × Nat)} {d e : Device} (h : d.ChangesOnly regs keys e) (k : Nat) (f : Link → Link) :
    d.ChangesOnly regs keys (e.modLink k f) := h.beside rfl

/-- A VC with nothing waiting sends nothing. -/
theorem pump_idle {d : Device} {k : Nat} (h : ∀ vc < 4, (d.txOf k vc).waiting = []) : d.pump k = d := by
  simp [pump, List.range_succ, h 0 (by decide), h 1 (by decide), h 2 (by decide), h 3 (by decide), pumpVc]

/-! ## Requests (R95, R98) -/

/-- The next control TAG of a link (R95). -/
def linkTag (d : Device) (k : Nat) : Nat := ((d.link k).tag + 1) % 65536

/-- The device with a request put on a link under a new TAG, before its packet leaves. -/
def asks (d : Device) (k : Nat) (r : Request) : Device := d.modLink k (fun x => { x with tag := d.linkTag k, out := some { r with tag := d.linkTag k, waitBusy := false } })

theorem transmits_startRequest (d : Device) (k : Nat) (r : Request) (urgent : Bool) : (d.asks k r).Transmits (d.startRequest k r urgent) :=
  (Transmits.refl (d.asks k r)).sendPacket k 2 _ urgent

/-- A request put on a link is the one outstanding; beside it and its TAG only the transmission of the link changes. -/
theorem link_startRequest (d : Device) {k : Nat} (hk : k < 18) (r : Request) (urgent : Bool) :
    ((d.startRequest k r urgent).link k).unsent =
      { (d.link k).unsent with tag := d.linkTag k, out := some { r with tag := d.linkTag k, waitBusy := false } } := by
  rw [(d.transmits_startRequest k r urgent).link k, asks, link_modLink_same d hk]
  rfl

theorem out_startRequest (d : Device) {k : Nat} (hk : k < 18) (r : Request) (urgent : Bool) :
    ((d.startRequest k r urgent).link k).out = some { r with tag := d.linkTag k, waitBusy := false } :=
  (congrArg Link.out (d.link_startRequest hk r urgent) :)

theorem activateDue_startRequest (d : Device) {k : Nat} (hk : k < 18) (r : Request) (urgent : Bool) :
    ((d.startRequest k r urgent).link k).activateDue = (d.link k).activateDue :=
  (congrArg Link.activateDue (d.link_startRequest hk r urgent) :)

theorem ChangesOnly.asked {regs : List Reg} {keys : List (Reg × Nat)} {d e : Device} (h : d.ChangesOnly regs keys e) (k : Nat) (r : Request) (urgent : Bool) :
    d.ChangesOnly regs keys (e.startRequest k r urgent) := (h.linkOnly k _).transmits (e.transmits_startRequest k r urgent)

/-- With no request outstanding a request goes on the link. -/
theorem request_idle {d : Device} {k : Nat} (h : (d.link k).out = none) (op : Nat) (args : Octets) (ahead : Bool) :
    d.request k op args ahead = d.startRequest k { tag := 0, op := op, args := args } (decide (op = 0x03)) := by
  simp only [request, h]

/-- With none queued behind it, a request that ends leaves none outstanding. -/
theorem endRequest_last {d : Device} {k : Nat} (hk : k < 18) (h : (d.link k).queue = []) : d.endRequest k = d.modLink k (fun x => { x with out := none }) := by
  simp only [endRequest, link_modLink_same d hk, h]

theorem endRequest_next {d : Device} {k op : Nat} {args : Octets} {rest : List (Nat × Octets)} (hk : k < 18) (h : (d.link k).queue = (op, args) :: rest) :
    d.endRequest k = ((d.modLink k (fun x => { x with out := none })).modLink k (fun x => { x with queue := rest })).startRequest k
      { tag := 0, op := op, args := args } (decide (op = 0x03)) := by
  simp only [endRequest, link_modLink_same d hk, h]

/-- A request made ahead of the others follows the one outstanding as soon as that ends. -/
theorem endRequest_request_ahead {d : Device} {k op : Nat} {args : Octets} {r : Request} (hk : k < 18) (hout : (d.link k).out = some r) (hq : (d.link k).queue = []) :
    ∃ e : Device, (d.request k op args true).endRequest k = e.startRequest k { tag := 0, op := op, args := args } (decide (op = 0x03)) ∧
      e.link k = { d.link k with out := none } := by
  have hreq : d.request k op args true = d.modLink k (fun x => { x with queue := (op, args) :: x.queue }) := by
    simp only [request, hout, Bool.or_true, if_true]
  have hlink : (d.request k op args true).link k = { d.link k with queue := [(op, args)] } := by
    rw [hreq, link_modLink_same d hk, hq]
  refine ⟨_, endRequest_next (rest := []) hk (by rw [hlink]), ?_⟩
  rw [link_modLink_same _ hk, link_modLink_same _ hk, hlink, ← hq]

theorem ChangesOnly.requested {regs : List Reg} {keys : List (Reg × Nat)} {d e : Device} (h : d.ChangesOnly regs keys e) (k op : Nat) (args : Octets) (ahead : Bool) :
    d.ChangesOnly regs keys (e.request k op args ahead) := by
  unfold Device.request
  dsimp only
  split
  · exact h.asked k _ _
  · exact h.linkOnly k _

theorem ChangesOnly.endRequest {regs : List Reg} {keys : List (Reg × Nat)} {d e : Device} (h : d.ChangesOnly regs keys e) (k : Nat) :
    d.ChangesOnly regs keys (e.endRequest k) := by
  unfold Device.endRequest
  dsimp only
  split
  · exact h.linkOnly k _
  · exact ((h.linkOnly k _).linkOnly k _).asked k _ _

/-! ## Packets taken (R88) -/

/-- The device with its first packet released on a VC taken. -/
def packetTaken (d : Device) (k vc : Nat) : Device := d.modRx k vc (fun r => { r with released := r.released.eraseIdx 0 })

theorem takePacket_single {d : Device} {k vc : Nat} {p : Packet} {f : Packet → Bool} (h : (d.rxOf k vc).released = [p]) (hp : f p = true) :
    d.takePacket k vc f = some (p, d.packetTaken k vc) := by
  simp only [takePacket, h, findIdxFrom, hp, if_true]
  rfl

theorem takeFree_single {d : Device} {k vc : Nat} {p : Packet} {f : Packet → Bool} (h : (d.rxOf k vc).released = [p]) (hp : f p = true) :
    d.takeFree k vc f = some (p, (d.packetTaken k vc).freeCredits k vc p.cls p.cost) := by
  simp only [takeFree, takePacket_single h hp]

end Device

end Sys2Proof.Machine
end

section
/-!
PROOF. Packets on a link (R79 to R88): the parts of a packet as sent, a packet received in order, counts declared lost, and credits.
-/
namespace Sys2Proof.Machine

/-! ## Serial counts (R84, R87) -/

/-- A count is no way off the one that its low octet is taken from. -/
theorem count_offset (e : Nat) : toSigned 8 (ofSigned 8 (((e % 256 : Nat) : Int) - e)) = 0 := by
  have h : ofSigned 8 (((e % 256 : Nat) : Int) - e) = 0 := by
    unfold ofSigned
    omega
  rw [h]
  rfl

theorem ofSigned_nat {w n : Nat} (h : n < 2 ^ w) : ofSigned w (n : Int) = n := by
  unfold ofSigned
  rw [Int.emod_eq_of_lt (Int.natCast_nonneg n) (by exact_mod_cast h), Int.toNat_natCast]

/-! ## The parts of a packet (R79, R85) -/

theorem slice_append (a b c : Octets) : slice (a ++ (b ++ c)) a.length b.length = b := by simp [slice]

namespace Device

/-- Octets 0 to 5 of a packet of `n` octets of payload (R79). -/
def packetHead (vc ctl dt count n : Nat) : Octets := [0x5C, vc * 64 + ctl, dt, count % 256] ++ le 2 n

/-- What the CRC-32C of a packet covers (R85): the pseudo-header, octets 0 to 5 and the payload. -/
def packetCovered (vc ctl dt count : Nat) (payload : Octets) : Octets := [vc, 0, 0, 0] ++ le 4 count ++ packetHead vc ctl dt count payload.length ++ payload

section
variable (vc ctl dt count : Nat) (payload : Octets)

theorem length_packetHead (n : Nat) : (packetHead vc ctl dt count n).length = 6 := by simp [packetHead]

theorem wirePacket_eq : wirePacket vc ctl dt count payload = packetHead vc ctl dt count payload.length ++
    (crcTail (packetHead vc ctl dt count payload.length) ++ (payload ++ le 4 (crc32c (packetCovered vc ctl dt count payload)))) := by
  simp only [wirePacket, packetHead, packetCovered, List.append_assoc]

theorem length_wirePacket : (wirePacket vc ctl dt count payload).length = 12 + payload.length := by
  simp only [wirePacket_eq, List.length_append, length_packetHead, length_crcTail, length_le]
  omega

theorem take_wirePacket : (wirePacket vc ctl dt count payload).take 6 = packetHead vc ctl dt count payload.length := by
  rw [wirePacket_eq]
  exact List.take_left' (length_packetHead _ _ _ _ _)

theorem headCrc_wirePacket : slice (wirePacket vc ctl dt count payload) 6 2 = crcTail (packetHead vc ctl dt count payload.length) := by
  have h := slice_append (packetHead vc ctl dt count payload.length) (crcTail (packetHead vc ctl dt count payload.length))
    (payload ++ le 4 (crc32c (packetCovered vc ctl dt count payload)))
  rwa [length_packetHead, length_crcTail, ← wirePacket_eq] at h

theorem body_wirePacket : slice (wirePacket vc ctl dt count payload) 8 payload.length = payload := by
  have h := slice_append (packetHead vc ctl dt count payload.length ++ crcTail (packetHead vc ctl dt count payload.length)) payload
    (le 4 (crc32c (packetCovered vc ctl dt count payload)))
  rwa [List.length_append, length_packetHead, length_crcTail, List.append_assoc, ← wirePacket_eq] at h

theorem crc_wirePacket : leAt (wirePacket vc ctl dt count payload) (8 + payload.length) 4 = crc32c (packetCovered vc ctl dt count payload) := by
  have h := leAt_append (packetHead vc ctl dt count payload.length ++ (crcTail (packetHead vc ctl dt count payload.length) ++ payload)) [] 4
    (crc32c (packetCovered vc ctl dt count payload))
  rw [List.append_nil, List.append_assoc, List.append_assoc, ← wirePacket_eq, Nat.mod_eq_of_lt (crc32c_lt _), List.length_append, List.length_append,
    length_packetHead, length_crcTail] at h
  rwa [show 8 + payload.length = 6 + (2 + payload.length) by omega]

theorem lengthField_wirePacket (h : payload.length < 2 ^ 16) : leAt (wirePacket vc ctl dt count payload) 4 2 = payload.length := by
  have hl := leAt_append [0x5C, vc * 64 + ctl, dt, count % 256] (crcTail (packetHead vc ctl dt count payload.length) ++
    (payload ++ le 4 (crc32c (packetCovered vc ctl dt count payload)))) 2 payload.length
  rw [← List.append_assoc] at hl
  rw [wirePacket_eq]
  exact hl.trans (Nat.mod_eq_of_lt h)

/-- A packet as sent has the form of R79. -/
theorem headerForm_wirePacket (hctl : ctl % 8 = 0) (h1 : 1 ≤ payload.length) (hl : payload.length ≤ 8192) : headerForm (wirePacket vc ctl dt count payload) = true := by
  have h0 : octet (wirePacket vc ctl dt count payload) 0 = 0x5C := rfl
  have h8 : octet (wirePacket vc ctl dt count payload) 1 = vc * 64 + ctl := rfl
  have hmod : (vc * 64 + ctl) % 8 = 0 := by omega
  simp [headerForm, h0, h8, hmod, headCrc_wirePacket, take_wirePacket, lengthField_wirePacket _ _ _ _ payload (by omega), h1, hl]

/-- A packet as sent is made of octets. -/
theorem octets_wirePacket (hvc : vc < 4) (hctl : ctl < 64) (hdt : dt < 256) (hb : ∀ x ∈ payload, x < 256) : WF.octets (wirePacket vc ctl dt count payload) = true := by
  have hhead : ∀ x ∈ packetHead vc ctl dt count payload.length, x < 256 := by
    intro x hx
    simp only [packetHead, List.mem_append, List.mem_cons, List.not_mem_nil, or_false] at hx
    obtain (rfl | rfl | rfl | rfl) | hx := hx
    · decide
    · omega
    · exact hdt
    · omega
    · exact le_lt _ _ x hx
  have htail : ∀ x ∈ crcTail (packetHead vc ctl dt count payload.length), x < 256 := fun x hx => le_lt _ _ x (List.mem_reverse.mp hx)
  rw [WF.octets, List.all_eq_true]
  intro x hx
  rw [wirePacket_eq] at hx
  simp only [List.mem_append] at hx
  obtain hx | hx | hx | hx := hx
  · exact decide_eq_true (hhead x hx)
  · exact decide_eq_true (htail x hx)
  · exact decide_eq_true (hb x hx)
  · exact decide_eq_true (le_lt _ _ x hx)

end

/-! ## Reception in order (R84 to R86) -/

/-- The device with a packet held under its SEQ32, its credits counted as used (R86, R87). -/
def packetHeld (d : Device) (k vc seq : Nat) (q : Packet) : Device :=
  d.modRx k vc (fun r => { r with held := r.held ++ [(seq, q)], cr := modAt r.cr q.cls (fun c => { c with used := (c.used + q.cost) % 2 ^ 32 }) })

/-- A packet as it is held when it has passed every check. -/
def packetGood (ctl dt t : Nat) (b : Octets) : Packet :=
  { dt := dt, first := bit ctl 5, last := bit ctl 4, bin := bit ctl 3, cls := 0, cost := packetCost b.length, time := t, payload := some b }

/-- A packet of a camera with the next count of its VC and within the credits is held, and what is in order is released. -/
theorem packetIn_inOrder {d : Device} {l k vc ctl dt t : Nat} {b : Octets} (hl : d.linkOfLane l = some k) (hk : k < 16)
    (hu : (d.link k).usable.any (fun e => e.1 == l) = true) (hctl : ctl < 64) (hctl8 : ctl % 8 = 0) (hdt : dtBound false dt vc = true) (hd : dt ≠ 0x3D)
    (h1 : 1 ≤ b.length) (hlen : b.length ≤ 8192) (hseq : (d.rxOf k vc).expect < 2 ^ 32) (hheld : (d.rxOf k vc).held = [])
    {c : Credit} (hc : (d.rxOf k vc).cr.getD 0 {} = c) (hcr : toSigned 32 (ofSigned 32 ((c.used : Int) + packetCost b.length - c.limit)) ≤ 0) :
    d.packetIn l (wirePacket vc ctl dt (d.rxOf k vc).expect b) false t =
      let e := d.packetHeld k vc (d.rxOf k vc).expect (packetGood (vc * 64 + ctl) dt t b)
      releaseRun k vc (e.rxOf k vc).held.length e := by
  have o1 : octet (wirePacket vc ctl dt (d.rxOf k vc).expect b) 1 = vc * 64 + ctl := rfl
  have o2 : octet (wirePacket vc ctl dt (d.rxOf k vc).expect b) 2 = dt := rfl
  have o3 : octet (wirePacket vc ctl dt (d.rxOf k vc).expect b) 3 = (d.rxOf k vc).expect % 256 := rfl
  have hvc : (vc * 64 + ctl) / 64 = vc := by omega
  have hlf := lengthField_wirePacket vc ctl dt (d.rxOf k vc).expect b (by omega)
  have hcrc : leAt (wirePacket vc ctl dt (d.rxOf k vc).expect b) (8 + b.length) 4 =
      crc32c ([vc, 0, 0, 0] ++ le 4 (d.rxOf k vc).expect ++ packetHead vc ctl dt (d.rxOf k vc).expect b.length ++ b) := crc_wirePacket _ _ _ _ _
  have hk' : decide (16 ≤ k) = false := decide_eq_false (by omega)
  have hle := length_wirePacket vc ctl dt (d.rxOf k vc).expect b
  simp only [packetIn, hl, hu, headerForm_wirePacket vc ctl dt (d.rxOf k vc).expect b hctl8 h1 hlen, o1, o2, o3, hvc, hk', hdt, hlf, body_wirePacket,
    take_wirePacket, hcrc, count_offset, Int.add_zero, ofSigned_nat hseq, hheld, hle, Bool.false_and, Bool.false_eq_true, if_false, hc]
  simp [hd, Int.not_lt.mpr hcr, packetHeld, packetGood]

/-- With no packet held under the next count, none is released. -/
theorem releaseRun_waits {d : Device} {k vc : Nat} (n : Nat) (h : getKeyed Prod.fst (d.rxOf k vc).expect (d.rxOf k vc).held = none) : releaseRun k vc n d = d := by
  cases n with
  | zero => rfl
  | succ n => simp only [releaseRun, h]

/-- The only packet held, under the next count and with its payload, is released and counted (R86). -/
theorem releaseRun_next {d : Device} {k vc : Nat} {q : Packet} (hk : k < 16) (hvc : vc < 4) (hheld : (d.rxOf k vc).held = [((d.rxOf k vc).expect, q)])
    (hq : q.payload.isNone = false) :
    let e := releaseRun k vc 1 d
    e.rxOf k vc = { d.rxOf k vc with expect := ((d.rxOf k vc).expect + 1) % 2 ^ 32, held := [], released := (d.rxOf k vc).released ++ [q] } ∧
      e.num .CH_PKT_RX k = (d.num .CH_PKT_RX k + 1) % 2 ^ 32 ∧ d.ChangesOnly [] [(.CH_PKT_RX, k)] e := by
  have hget : getKeyed Prod.fst (d.rxOf k vc).expect [((d.rxOf k vc).expect, q)] = some ((d.rxOf k vc).expect, q) := by simp [getKeyed]
  let next : VcRx → VcRx := fun r => { r with expect := (r.expect + 1) % 2 ^ 32, held := dropKeyed Prod.fst r.expect r.held }
  let out : VcRx → VcRx := fun r => { r with released := r.released ++ [q] }
  have hrun : releaseRun k vc 1 d = ((d.modRx k vc next).bump .CH_PKT_RX k).modRx k vc out := by simp [releaseRun, hheld, hget, releaseOne, hk, hq, next, out]
  have hrx : (((d.modRx k vc next).bump .CH_PKT_RX k).modRx k vc out).rxOf k vc = out (next (d.rxOf k vc)) :=
    (rxOf_modRx_same ((d.modRx k vc next).bump .CH_PKT_RX k) (by omega) hvc out).trans (congrArg out (d.rxOf_modRx_same (by omega) hvc next))
  intro e
  refine ⟨?_, ?_, ?_⟩
  · rw [show e = _ from hrun, hrx]
    simp [next, out, hheld, dropKeyed]
  · exact (congrArg (fun x : Device => x.num .CH_PKT_RX k) hrun).trans ((d.modRx k vc next).num_bump_same .CH_PKT_RX k)
  · rw [show e = _ from hrun]
    exact (((ChangesOnly.refl d).linkOnly k _).bumpAt .CH_PKT_RX k (by simp)).linkOnly k _

/-- A packet that is held while no other is, under the next count and with its payload, is released (R86). -/
theorem packetHeld_released {d : Device} {k vc : Nat} {q : Packet} (hk : k < 16) (hvc : vc < 4) (hheld : (d.rxOf k vc).held = []) (hq : q.payload.isNone = false) :
    let e := d.packetHeld k vc (d.rxOf k vc).expect q
    let f := releaseRun k vc (e.rxOf k vc).held.length e
    (f.rxOf k vc).released = (d.rxOf k vc).released ++ [q] ∧ (f.rxOf k vc).expect = ((d.rxOf k vc).expect + 1) % 2 ^ 32 ∧
      f.num .CH_PKT_RX k = (d.num .CH_PKT_RX k + 1) % 2 ^ 32 ∧ d.ChangesOnly [] [(.CH_PKT_RX, k)] f := by
  intro e f
  have hrx : e.rxOf k vc = _ := d.rxOf_modRx_same (by omega) hvc _
  have hexp : (e.rxOf k vc).expect = (d.rxOf k vc).expect := (congrArg VcRx.expect hrx :)
  have hrel : (e.rxOf k vc).released = (d.rxOf k vc).released := (congrArg VcRx.released hrx :)
  have hone : (e.rxOf k vc).held = [((e.rxOf k vc).expect, q)] := by simp [hrx, hheld]
  have hf : f = releaseRun k vc 1 e := by simp only [f, hone, List.length_singleton]
  obtain ⟨hrx', hnum, hch⟩ := releaseRun_next hk hvc hone hq
  rw [hf, hrx', ← hexp, ← hrel]
  exact ⟨rfl, rfl, hnum, ((ChangesOnly.refl d).linkOnly k _).trans hch⟩

end Device

/-! ## The commands -/

theorem wf_link {k : Nat} (hk : k < 18) : WF.link k = true := decide_eq_true hk

theorem exec_packetRx {s : State} {l t0 : Nat} {p : Octets} (hw : WF.packetRx l (some (p, t0)) = true) (hr : s.dev.lrung l = 1) :
    exec (.packetRx l (some (p, t0))) s = .next { s with dev := s.dev.begin.packetIn l p false t0 } := by
  have hr' : s.dev.begin.lrung l = 1 := hr
  rw [exec_run (c := .packetRx l (some (p, t0))) (show execPacketRx l (some (p, t0)) s = _ from rfl) hw]
  simp only [hr', if_true]

/-- PACKET_RX of a status packet with the next count. -/
theorem packetRx_status {s : State} {l k t0 : Nat} {b : Octets} (hl : l < 32) (hk : k < 16) (hr : s.dev.lrung l = 1) (hlink : s.dev.linkOfLane l = some k)
    (hu : (s.dev.link k).usable.any (fun e => e.1 == l) = true) (hheld : (s.dev.rxOf k 1).held = []) (hseq : (s.dev.rxOf k 1).expect < 2 ^ 32)
    (hcr : (s.dev.rxOf k 1).cr = [{ used := 0, limit := 256 }, {}]) (hb : b.length = 16) (hoct : ∀ x ∈ b, x < 256) (ht : t0 < 2 ^ 64) :
    ∃ (t : State) (q : Packet), exec (.packetRx l (some (Device.wirePacket 1 0x30 0x30 (s.dev.rxOf k 1).expect b, t0))) s = .next t ∧
      (t.dev.rxOf k 1).released = (s.dev.rxOf k 1).released ++ [q] ∧ q.dt = 0x30 ∧ q.first = true ∧ q.last = true ∧ q.payload = some b ∧ q.time = t0 ∧
      (t.dev.rxOf k 1).expect = ((s.dev.rxOf k 1).expect + 1) % 2 ^ 32 ∧ t.dev.num .CH_PKT_RX k = (s.dev.num .CH_PKT_RX k + 1) % 2 ^ 32 ∧
      s.dev.keeps t.dev [(.CH_PKT_RX, k)] := by
  have hwf : WF.packetRx l (some (Device.wirePacket 1 0x30 0x30 (s.dev.rxOf k 1).expect b, t0)) = true := by
    have ho := Device.octets_wirePacket 1 0x30 0x30 (s.dev.rxOf k 1).expect b (by decide) (by decide) (by decide) hoct
    rw [WF.packetRx, wf_lane (by omega), ho, Device.length_wirePacket]
    simp only [WF.bits, Bool.true_and, Bool.and_eq_true, decide_eq_true_eq]
    exact ⟨by omega, ht⟩
  have hcost : toSigned 32 (ofSigned 32 (((0 : Nat) : Int) + packetCost b.length - (256 : Nat))) ≤ 0 := by
    rw [hb]
    decide
  have hin := Device.packetIn_inOrder (d := s.dev.begin) (vc := 1) (ctl := 0x30) (dt := 0x30) (t := t0) (b := b) (c := { used := 0, limit := 256 }) hlink hk hu (by decide)
    (by decide) (by decide) (by decide) (by omega) (by omega) hseq hheld (congrArg (fun l => l.getD 0 {}) hcr) hcost
  refine ⟨_, Device.packetGood (1 * 64 + 0x30) 0x30 t0 b, exec_packetRx hwf hr, ?_⟩
  rw [show s.dev.begin.packetIn l (Device.wirePacket 1 0x30 0x30 (s.dev.rxOf k 1).expect b) false t0 = _ from hin]
  obtain ⟨hrel, hexp, hnum, hch⟩ := Device.packetHeld_released (d := s.dev.begin) (q := Device.packetGood (1 * 64 + 0x30) 0x30 t0 b) hk (show 1 < 4 by decide) hheld rfl
  exact ⟨hrel, rfl, (by decide : bit 0x70 5 = true), (by decide : bit 0x70 4 = true), rfl, rfl, hexp, hnum, keeps_of_changesOnly hch⟩

/-- PACKET_RX of octets whose header fails its check. -/
theorem packetRx_badHeader {s : State} {l k t0 : Nat} {p : Octets} (hw : WF.packetRx l (some (p, t0)) = true) (hk : k < 16) (hr : s.dev.lrung l = 1)
    (hlink : s.dev.linkOfLane l = some k) (hu : (s.dev.link k).usable.any (fun e => e.1 == l) = true) (hp : octet p 0 ≠ 0x5C) :
    ∃ t, exec (.packetRx l (some (p, t0))) s = .next t ∧ t.dev.num .CH_PKT_HDR k = (s.dev.num .CH_PKT_HDR k + 1) % 2 ^ 32 ∧ s.dev.keeps t.dev [(.CH_PKT_HDR, k)] ∧
      t.dev.links = s.dev.links := by
  have hform : headerForm p = false := by simp [headerForm, hp]
  have hin : s.dev.begin.packetIn l p false t0 = s.dev.begin.bump .CH_PKT_HDR k := by
    have hl' : s.dev.begin.linkOfLane l = some k := hlink
    have hu' : (s.dev.begin.link k).usable.any (fun e => e.1 == l) = true := hu
    simp [Device.packetIn, hl', hu', hform, hk]
  refine ⟨_, exec_packetRx hw hr, ?_⟩
  rw [hin]
  exact ⟨s.dev.begin.num_bump_same .CH_PKT_HDR k, keeps_of_changesOnly ((Device.ChangesOnly.refl _).bumpAt _ _ (by simp)), rfl⟩

/-- PACKET_LOSS_DECLARE off VC0, while a packet is held that does not follow the count declared lost. -/
theorem packetLossDeclare_gap {s : State} {k vc : Nat} {q : Packet} (hk : k < 16) (h1 : 1 ≤ vc) (h4 : vc < 4)
    (hheld : (s.dev.rxOf k vc).held = [((s.dev.rxOf k vc).expect + 5, q)]) (hseq : (s.dev.rxOf k vc).expect < 2 ^ 31) :
    ∃ t, exec (.packetLossDeclare k vc) s = .next t ∧ (t.dev.rxOf k vc).expect = (s.dev.rxOf k vc).expect + 1 ∧
      t.dev.num .CH_PKT_LOST k = (s.dev.num .CH_PKT_LOST k + 1) % 2 ^ 32 ∧ s.dev.keeps t.dev [(.CH_PKT_LOST, k)] := by
  have hwf : WF.packetLossDeclare k vc = true := by simp [WF.packetLossDeclare, wf_link (show k < 18 by omega), h4]
  have h0 : vc ≠ 0 := by omega
  let e := (s.dev.begin.bump .CH_PKT_LOST k).modRx k vc (fun r => { r with expect := (r.expect + 1) % 2 ^ 32 })
  have hrx : e.rxOf k vc = { s.dev.rxOf k vc with expect := ((s.dev.rxOf k vc).expect + 1) % 2 ^ 32 } := Device.rxOf_modRx_same _ (by omega) h4 _
  have hwait : getKeyed Prod.fst (e.rxOf k vc).expect (e.rxOf k vc).held = none := by
    rw [getKeyed, List.find?_eq_none, hrx]
    simp only [hheld, List.mem_singleton, decide_eq_true_eq]
    rintro x rfl
    omega
  have hgap : (s.dev.begin.rxOf k vc).held ≠ [] := by
    rw [show s.dev.begin.rxOf k vc = s.dev.rxOf k vc from rfl, hheld]
    exact List.cons_ne_nil _ _
  refine ⟨{ s with dev := e }, ?_, ?_, s.dev.begin.num_bump_same .CH_PKT_LOST k, ?_⟩
  · rw [exec_run (c := .packetLossDeclare k vc) (show execPacketLossDeclare k vc s = _ from rfl) hwf]
    simp only [if_neg hgap, hk, if_true, h0, and_false, if_false, decide_false, Bool.false_and, Bool.false_eq_true]
    rw [Device.releaseRun_waits _ hwait]
  · simp only [hrx]
    omega
  · exact keeps_of_changesOnly (((Device.ChangesOnly.refl _).bumpAt _ _ (by simp)).linkOnly k _)

end Sys2Proof.Machine
end

section
/-!
PROOF. Credits of a link (R87, R88): a credit update received and sent, test packets, and the obligation on packets.
-/
namespace Sys2Proof.Machine

namespace Device

/-! ## Credits (R87) -/

/-- A credit of class `c` on VC `vc` after a credit update: the cumulative limit rises to the one that the update names (R87, R414). -/
def creditRaised (b : Octets) (vc c : Nat) (cr : Credit) : Credit :=
  let cl := leAt b (16 * c + 4 * vc) 4
  if 16 * c + 4 * vc + 4 ≤ b.length ∧ 0 < serialDiff 32 cl cr.limit then { cr with limit := cl } else cr

/-- A VC's transmission after a credit update. -/
def vcRaised (b : Octets) (vc : Nat) (t : VcTx) : VcTx := { t with cr := modAt (modAt t.cr 0 (creditRaised b vc 0)) 1 (creditRaised b vc 1) }

/-- The device with the limits of a link raised by a credit update. -/
def creditsRaised (d : Device) (k : Nat) (b : Octets) : Device := (List.range 4).foldl (fun d vc => d.modTx k vc (vcRaised b vc)) d

theorem waiting_creditsRaised (d : Device) {k : Nat} (hk : k < 18) (b : Octets) (vc : Nat) : ((d.creditsRaised k b).txOf k vc).waiting = (d.txOf k vc).waiting := by
  have hfold (vcs : List Nat) : ∀ d : Device, ((vcs.foldl (fun d vc => d.modTx k vc (vcRaised b vc)) d).txOf k vc).waiting = (d.txOf k vc).waiting := by
    induction vcs with
    | nil => exact fun _ => rfl
    | cons v vcs ih => exact fun d => (ih _).trans (d.txOf_modTx_of VcTx.waiting hk v vc (fun _ => by rfl))
  exact hfold _ d

theorem txOf_creditsRaised_zero (d : Device) {k : Nat} (hk : k < 18) (b : Octets) : (d.creditsRaised k b).txOf k 0 = vcRaised b 0 (d.txOf k 0) := by
  have h (e : Device) : (((e.modTx k 1 (vcRaised b 1)).modTx k 2 (vcRaised b 2)).modTx k 3 (vcRaised b 3)).txOf k 0 = e.txOf k 0 := by
    rw [txOf_modTx_ne _ hk (by decide), txOf_modTx_ne _ hk (by decide), txOf_modTx_ne _ hk (by decide)]
  exact (h _).trans (d.txOf_modTx_same hk (by decide) _)

/-- Beside the limits, a credit update leaves the live objects and the links. -/
theorem transmits_creditsRaised (d : Device) (k : Nat) (b : Octets) : d.Transmits (d.creditsRaised k b) :=
  ((((Transmits.refl d).modTx k 0 _).modTx k 1 _).modTx k 2 _).modTx k 3 _

/-- A limit that the update puts ahead rises, and the class that a camera's update does not name stays. -/
theorem cr_vcRaised {b : Octets} {t : VcTx} {a c : Credit} (hcr : t.cr = [a, c]) (hb : b.length = 16) (hup : 0 < serialDiff 32 (leAt b 0 4) a.limit) :
    (vcRaised b 0 t).cr = [{ a with limit := leAt b 0 4 }, c] := by
  simp [vcRaised, hcr, modAt, creditRaised, hb, hup]

/-- The device with the limits that it has advertised in force for the far end (R87). -/
def creditsAdvertised (d : Device) (k : Nat) : Device :=
  (List.range 4).foldl (fun d vc => d.modRx k vc (fun r => { r with cr := r.cr.map (fun c => { c with limit := (c.freed + d.window k vc) % 2 ^ 32 }) })) d

/-- A credit update as it is sent. -/
def creditUpdate (d : Device) (k : Nat) : TxPacket := { dt := 0x3D, ctl := 0, cls := 0, payload := d.creditPayload k }

theorem sendCredits_up {d : Device} {k : Nat} (hk : k < 16) (h : (d.link k).up = true) :
    d.sendCredits k =
      ((d.transmit k 2 (d.creditUpdate k)).creditsAdvertised k).set .CH_CREDIT_VC0 k (((d.transmit k 2 (d.creditUpdate k)).creditsAdvertised k).window k 0) := by
  simp only [sendCredits, h, hk, if_true, Bool.true_eq_false, if_false]
  rfl

theorem txOf_creditsAdvertised (d : Device) (k j vc : Nat) : (d.creditsAdvertised k).txOf j vc = d.txOf j vc := by
  have hfold (vcs : List Nat) : ∀ d : Device, (vcs.foldl (fun d vc => d.modRx k vc (fun r => { r with cr := r.cr.map (fun c =>
      { c with limit := (c.freed + d.window k vc) % 2 ^ 32 }) })) d).txOf j vc = d.txOf j vc := by
    induction vcs with
    | nil => exact fun _ => rfl
    | cons v vcs ih => exact fun d => (ih _).trans (d.txOf_modRx k v _ j vc)
  exact hfold _ d

theorem outs_creditsAdvertised (d : Device) (k : Nat) : (d.creditsAdvertised k).outs = d.outs := rfl

theorem ChangesOnly.creditsAdvertised {regs : List Reg} {keys : List (Reg × Nat)} {d e : Device} (h : d.ChangesOnly regs keys e) (k : Nat) :
    d.ChangesOnly regs keys (e.creditsAdvertised k) := foldl (fun _ h => h.linkOnly k _) _ h

theorem transmits_creditUpdate (d : Device) (k : Nat) : d.Transmits (d.transmit k 2 (d.creditUpdate k)) := (Transmits.refl d).transmit k 2 _

end Device

/-! ## The commands -/

/-- CREDIT_UPDATE_RX on a link that has had its first, with nothing waiting. -/
theorem creditUpdateRx_raises {s : State} {k : Nat} {p : Packet} {b : Octets} {a c : Credit} (hk : k < 16) (hrel : (s.dev.rxOf k 2).released = [p]) (hdt : p.dt = 0x3D)
    (hpay : p.payload = some b) (hb : b.length = 16) (hcred : (s.dev.link k).credited = true) (hcr : (s.dev.txOf k 0).cr = [a, c])
    (hw : ∀ vc, vc < 4 → (s.dev.txOf k vc).waiting = []) (hup : 0 < serialDiff 32 (leAt b 0 4) a.limit) :
    ∃ t, exec (.creditUpdateRx k) s = .next t ∧ (t.dev.txOf k 0).cr = [{ a with limit := leAt b 0 4 }, c] ∧ s.dev.keeps t.dev [] := by
  have hk18 : k < 18 := by omega
  let d1 := s.dev.begin.packetTaken k 2
  have htx (vc : Nat) : d1.txOf k vc = s.dev.txOf k vc := s.dev.begin.txOf_modRx k 2 _ k vc
  have htake : s.dev.begin.takePacket k 2 (fun p => p.dt == 0x3D) = some (p, d1) := Device.takePacket_single hrel (by simp [hdt])
  let e := (d1.creditsRaised k b).modLink k (fun x => { x with credited := true })
  have hte (vc : Nat) : e.txOf k vc = (d1.creditsRaised k b).txOf k vc := (d1.creditsRaised k b).txOf_modLink k (fun _ => by rfl) k vc
  have hcd : ((d1.creditsRaised k b).link k).credited = true := by
    have h : ((d1.creditsRaised k b).link k).credited = (d1.link k).credited := (congrArg Link.credited ((d1.transmits_creditsRaised k b).link k) :)
    exact h.trans <| (s.dev.begin.link_modLink_of Link.credited k k (fun _ => by rfl)).trans hcred
  have hidle : e.pump k = e := Device.pump_idle fun vc hvc => by rw [hte, d1.waiting_creditsRaised hk18, htx, hw vc hvc]
  have hch : s.dev.begin.ChangesOnly [] [] e := (((Device.ChangesOnly.refl _).linkOnly k _).transmits (d1.transmits_creditsRaised k b)).linkOnly k _
  refine ⟨{ s with dev := e }, ?_, ?_, keeps_of_changesOnly hch⟩
  · rw [exec_run (c := .creditUpdateRx k) (show execCreditUpdateRx k s = _ from rfl) (wf_link hk18)]
    simp only [htake, hpay, Option.getD_some]
    show Host.Outcome.next { s with dev := if (decide (k < 16) && !((d1.creditsRaised k b).link k).credited && decide (_ = 2)) = true then _ else _ } = _
    rw [if_neg (by simp [hcd])]
    show Host.Outcome.next { s with dev := Device.pump (if (!((d1.creditsRaised k b).link k).credited && decide (k < 16)) = true then _ else e) k } = _
    rw [if_neg (by simp [hcd]), hidle]
  · show (e.txOf k 0).cr = _
    rw [hte, d1.txOf_creditsRaised_zero hk18, htx]
    exact Device.cr_vcRaised hcr hb hup

/-- TEST_PACKET_RX. -/
theorem testPacketRx_frees {s : State} {k : Nat} {p : Packet} {a c : Credit} (hk : k < 16) (hrel : (s.dev.rxOf k 3).released = [p]) (hdt : p.dt = 0x3F) (hcls : p.cls = 0)
    (hcr : (s.dev.rxOf k 3).cr = [a, c]) :
    ∃ t, exec (.testPacketRx k) s = .next t ∧ (t.dev.rxOf k 3).released = [] ∧ (t.dev.rxOf k 3).cr = [{ a with freed := (a.freed + p.cost) % 2 ^ 32 }, c] ∧
      s.dev.keeps t.dev [] := by
  have hk18 : k < 18 := by omega
  have htake : s.dev.begin.takeFree k 3 (fun p => p.dt == 0x3F) = some (p, (s.dev.begin.packetTaken k 3).freeCredits k 3 p.cls p.cost) :=
    Device.takeFree_single hrel (by simp [hdt])
  let e := (s.dev.begin.packetTaken k 3).freeCredits k 3 p.cls p.cost
  have h1 : (s.dev.begin.packetTaken k 3).rxOf k 3 = _ := s.dev.begin.rxOf_modRx_same hk18 (by decide) _
  have hrx : e.rxOf k 3 = _ := (s.dev.begin.packetTaken k 3).rxOf_modRx_same hk18 (by decide) _
  rw [h1] at hrx
  have hrel' : (s.dev.begin.rxOf k 3).released = [p] := hrel
  have hcr' : (s.dev.begin.rxOf k 3).cr = [a, c] := hcr
  refine ⟨{ s with dev := e }, ?_, ?_, ?_, keeps_of_changesOnly (((Device.ChangesOnly.refl _).linkOnly k _).linkOnly k _)⟩
  · rw [exec_run (c := .testPacketRx k) (show execTestPacketRx k s = _ from rfl) (wf_link hk18), htake]
  · simp [hrx, hrel']
  · simp [hrx, hcr', hcls, modAt]

/-- CREDIT_UPDATE_SEND. -/
theorem creditUpdateSend_spec {s : State} {k l r : Nat} {us : List (Nat × Nat)} (hk : k < 16) (hup : (s.dev.link k).up = true) (hus : (s.dev.link k).usable = (l, r) :: us) :
    ∃ t, exec (.creditUpdateSend k) s = .next t ∧ t.dev.outs = [.packet l (Device.wirePacket 2 0 0x3D (s.dev.txOf k 2).count (s.dev.creditPayload k))] ∧
      (t.dev.txOf k 2).count = ((s.dev.txOf k 2).count + 1) % 2 ^ 32 ∧ s.dev.keeps t.dev [(.CH_CREDIT_VC0, k)] := by
  have hk18 : k < 18 := by omega
  have hl : s.dev.begin.txLane k = some l := by
    have h : (s.dev.begin.link k).usable = (l, r) :: us := hus
    simp [Device.txLane, h]
  refine ⟨_, exec_run (show execCreditUpdateSend k s = _ from rfl) (wf_link hk18), ?_⟩
  rw [Device.sendCredits_up (d := s.dev.begin) hk hup]
  refine ⟨?_, ?_, ?_⟩
  · exact (Device.outs_creditsAdvertised _ k).trans (Device.outs_transmit hl 2 _)
  · have h := Device.txOf_transmit_same hl hk18 (vc := 2) (by decide) (s.dev.begin.creditUpdate k)
    exact congrArg VcTx.count ((Device.txOf_creditsAdvertised _ k k 2).trans h)
  · have h := (Device.ChangesOnly.refl (regs := []) (keys := [(.CH_CREDIT_VC0, k)]) s.dev.begin).transmits (s.dev.begin.transmits_creditUpdate k)
    exact keeps_of_changesOnly ((h.creditsAdvertised k).setAt .CH_CREDIT_VC0 k (by simp) _)

/-- Settles O21: reception in order, a bad header, loss and credits, each by the lemma about its command. -/
theorem packetsAndCredits : Obligations.PacketsAndCredits := by
  unfold Obligations.PacketsAndCredits
  refine ⟨⟨?_, ?_⟩, fun s k hk => ⟨?_, ?_, ?_, ?_⟩⟩
  · exact fun s l k t0 b hl hk hr hlink hu hheld hseq hcr hb hoct ht => packetRx_status hl hk hr hlink hu hheld hseq hcr hb hoct ht
  · exact fun s l k t0 p hw hk hr hlink hu hp => packetRx_badHeader hw hk hr hlink hu hp
  · exact fun vc q h1 h4 hheld hseq => packetLossDeclare_gap hk h1 h4 hheld hseq
  · exact fun p b a c hrel hdt hpay hb hcred hcr hw hup => creditUpdateRx_raises hk hrel hdt hpay hb hcred hcr hw hup
  · exact fun p a c hrel hdt hcls hcr => testPacketRx_frees hk hrel hdt hcls hcr
  · exact fun l r us hup hus => creditUpdateSend_spec hk hup hus

end Sys2Proof.Machine
end

section
/-!
PROOF. The answers of a camera to the request outstanding (R95 to R100, R104): how a response is taken, and what each command makes of it.
-/
namespace Sys2Proof.Machine

theorem wf_chan {n : Nat} (hn : n < 16) : WF.chan n = true := decide_eq_true hn

namespace Device

/-! ## A response taken (R95, R97) -/

/-- The only packet released on VC2 of a channel's link is the response with operation `op` to the request outstanding (R95). -/
structure HasAnswer (d : Device) (n op : Nat) (r : Request) (p : Packet) (b : Octets) : Prop where
  released : (d.rxOf n 2).released = [p]
  dt : p.dt = 0x38
  payload : p.payload = some b
  octets : octet b 2 = op
  out : (d.link n).out = some r
  asked : r.op = op
  tag : r.tag = leAt b 0 2
  idle : r.waitBusy = false

/-- The device with the response taken and its credits freed. -/
def answerTaken (d : Device) (n : Nat) (p : Packet) : Device := (d.packetTaken n 2).freeCredits n 2 p.cls p.cost

/-- A response that is taken leaves its link but for the reception. -/
theorem link_answerTaken (d : Device) {n : Nat} (hn : n < 18) (p : Packet) : ∃ rx, (d.answerTaken n p).link n = { d.link n with rx := rx } := by
  rw [answerTaken, freeCredits, modRx, link_modLink_same _ hn, packetTaken, modRx, link_modLink_same _ hn]
  exact ⟨_, rfl⟩

theorem changesOnly_answerTaken (regs : List Reg) (keys : List (Reg × Nat)) (d : Device) (n : Nat) (p : Packet) : d.ChangesOnly regs keys (d.answerTaken n p) :=
  ((ChangesOnly.refl d).linkOnly n _).linkOnly n _

section
variable {d : Device} {n op : Nat} {r : Request} {p : Packet} {b : Octets} (h : d.HasAnswer n op r p b)
include h

theorem takeResponse_answer (hn : n < 18) : d.takeResponse n op = (some (r, p, b), d.answerTaken n p) := by
  have htake : d.takeFree n 2 (fun p => p.dt == 0x38 && octet (p.payload.getD []) 2 == op) = some (p, d.answerTaken n p) :=
    takeFree_single h.released (by simp [h.dt, h.payload, h.octets])
  obtain ⟨rx, hx⟩ := d.link_answerTaken hn p
  simp only [takeResponse, htake, hx, h.out, h.asked, h.payload, h.tag, h.idle, Option.getD_some, Bool.not_false, Bool.and_self, decide_true, if_true]

/-- An answer of STATUS 0 is done (R97). -/
theorem answered_done (hn : n < 18) (hst : octet b 3 = 0) (done : Device → Request → Packet → Octets → Device) (other : Nat → Device → Request → Device) :
    d.answered n op done other = done (d.answerTaken n p) r p b := by
  simp only [answered, takeResponse_answer h hn, hst]

/-- An answer of STATUS 4 or more is one of its operation (R97). -/
theorem answered_other (hn : n < 18) {st : Nat} (hst : octet b 3 = st + 4) (done : Device → Request → Packet → Octets → Device)
    (other : Nat → Device → Request → Device) : d.answered n op done other = other (st + 4) (d.answerTaken n p) r := by
  simp only [answered, takeResponse_answer h hn, hst]

end

/-! ## The end of a request (R95) -/

theorem link_endRequest_last {d : Device} {k : Nat} (hk : k < 18) (h : (d.link k).queue = []) : (d.endRequest k).link k = { d.link k with out := none } := by
  rw [endRequest_last hk h, link_modLink_same d hk]

/-! ## Settings and MODE (R98, R100) -/

namespace ChangesOnly

theorem moreRegs {regs regs' : List Reg} {keys : List (Reg × Nat)} {d e : Device} (h : d.ChangesOnly regs keys e) (hs : regs ⊆ regs') : d.ChangesOnly regs' keys e :=
  { h with val := fun r i hr hk => h.val r i (fun hm => hr (hs hm)) hk }

theorem bringMode {d e : Device} (h : d.ChangesOnly linkRegs [] e) (k : Nat) : d.ChangesOnly linkRegs [] (e.bringMode k) := by
  unfold Device.bringMode
  extract_lets e1 m e2
  have h2 : d.ChangesOnly linkRegs [] e2 := ((h.modLink k _).sendMode k _).enterOn k
  exact ite (h.refreshState k) (ite (((h.sendMode k _).enterOn k).refreshState k) (ite (h.refreshState k) ((ite (h2.sendMode k _) h2).refreshState k)))

theorem sendSettings {regs : List Reg} {keys : List (Reg × Nat)} {d e : Device} (h : d.ChangesOnly regs keys e) (k g : Nat) (v : View) :
    d.ChangesOnly regs keys (e.sendSettings k g v) := (h.linkOnly k _).requested k 0x02 _ false

end ChangesOnly

/-- Step 4 of R100 reaches CH_CAM_FAULT and what a link reaches. -/
theorem changesOnly_settingsStep (d : Device) (n : Nat) : d.ChangesOnly (.CH_CAM_FAULT :: linkRegs) [] (d.settingsStep n) := by
  unfold settingsStep
  extract_lets v f e1 g e2 e3
  have h1 : d.ChangesOnly (.CH_CAM_FAULT :: linkRegs) [] e1 := (ChangesOnly.refl d).set .CH_CAM_FAULT List.mem_cons_self n f
  have h2 : e1.ChangesOnly linkRegs [] e2 := (ChangesOnly.refl e1).beside rfl
  have hsets : e1.ChangesOnly linkRegs [] (e3.sendSettings n g v) := (h2.linkOnly n _).sendSettings n g v
  have hmode : e1.ChangesOnly linkRegs [] ((e1.modLink n (fun x => { x with step := 5 })).bringMode n) := ((ChangesOnly.refl e1).linkOnly n _).bringMode n
  exact h1.trans (ChangesOnly.moreRegs (ChangesOnly.ite hsets hmode) (List.subset_cons_self _ _))

/-! ## Offsets (R99) -/

/-- The first echo since the link formed has no residual: its offset is taken as it is. -/
theorem echoDone_first {d : Device} {n : Nat} (hn : n < 18) (t4 : Nat) (b : Octets) (hech : (d.link n).echoes = []) :
    let e := (echoOf (d.link n).echoT1 (leAt b 4 6) (leAt b 10 6) (t4 % 2 ^ 48)).1
    (∃ x : Link, (d.echoDone n t4 b).link n = { x with echoes := [e] } ∧ x.queue = (d.link n).queue) ∧
      (d.echoDone n t4 b).num .CH_TIME_OFFSET n = e.offset % 2 ^ 48 := by
  intro e
  let f : Link → Link := fun y => { y with
    echoes := (e :: y.echoes).take 2, echoBad := 0, echoGood := (d.link n).echoGood
    delay := (echoOf (d.link n).echoT1 (leAt b 4 6) (leAt b 10 6) (t4 % 2 ^ 48)).2.toNat }
  let e1 := (d.modLink n f).set .CH_TIME_OFFSET n e.offset
  have heq : d.echoDone n t4 b = if 2 ≤ (d.link n).echoGood then e1.setOn .CH_TIME_OK n true else e1 := by
    simp only [echoDone, hech, echoResid]
    rfl
  have hlink : (d.echoDone n t4 b).link n = f (d.link n) := by
    rw [heq]
    split <;> exact d.link_modLink_same hn f
  refine ⟨⟨f (d.link n), ?_, rfl⟩, ?_⟩
  · rw [hlink]
    simp [f, hech]
  · have hset : e1.num .CH_TIME_OFFSET n = e.offset % 2 ^ 48 := (d.modLink n f).num_set_same .CH_TIME_OFFSET n e.offset
    rw [heq]
    split
    · exact (e1.num_setOn_reg_ne n n true (by decide)).trans hset
    · exact hset

end Device

/-! ## SETTINGS, ACTIVATE and MODE (R98, R100) -/

section
variable {s : State} {n : Nat} {r : Request} {p : Packet} {b : Octets} (hn : n < 16)
include hn

/-- A command that takes an answer of STATUS 0 does what its operation does when done. -/
theorem exec_answered {c : Instr} {op : Nat} {done : Device → Request → Packet → Octets → Device} {other : Nat → Device → Request → Device}
    (hrun : exec c s = run (WF.chan n) s fun d => d.answered n op done other) (h : s.dev.begin.HasAnswer n op r p b) (hst : octet b 3 = 0) :
    exec c s = .next { s with dev := done (s.dev.begin.answerTaken n p) r p b } := by
  rw [exec_run hrun (wf_chan hn), Device.answered_done h (by omega) hst]

/-- A command that takes an answer of STATUS 4 or more does what its operation does with it. -/
theorem exec_answered_other {c : Instr} {op st : Nat} {done : Device → Request → Packet → Octets → Device} {other : Nat → Device → Request → Device}
    (hrun : exec c s = run (WF.chan n) s fun d => d.answered n op done other) (h : s.dev.begin.HasAnswer n op r p b) (hst : octet b 3 = st + 4) :
    exec c s = .next { s with dev := other (st + 4) (s.dev.begin.answerTaken n p) r } := by
  rw [exec_run hrun (wf_chan hn), Device.answered_other h (by omega) hst]

/-- The link after a change of it that follows the taking of a response. -/
theorem link_afterAnswer (p : Packet) (f : Link → Link) : ∃ rx, ((s.dev.begin.answerTaken n p).modLink n f).link n = f { s.dev.link n with rx := rx } := by
  obtain ⟨rx, hx⟩ := s.dev.begin.link_answerTaken (n := n) (by omega) p
  rw [Device.link_modLink_same _ (by omega), hx]
  exact ⟨rx, rfl⟩

/-- SETTINGS acknowledged, with no ACTIVATE due for its generation. -/
theorem settingsDone_acked (h : s.dev.begin.HasAnswer n 0x02 r p b) (hst : octet b 3 = 0) (hq : (s.dev.link n).queue = [])
    (hdue : (s.dev.link n).activateDue.contains (leAt r.args 0 4) = false) :
    ∃ t, exec (.settingsDone n) s = .next t ∧ (t.dev.link n).ackedGen = some (leAt r.args 0 4) ∧ (t.dev.link n).out = none ∧ s.dev.keeps t.dev [] := by
  let e := (s.dev.begin.answerTaken n p).modLink n (fun x => { x with ackedGen := some (leAt r.args 0 4) })
  obtain ⟨rx, he⟩ : ∃ rx, e.link n = _ := link_afterAnswer hn p _
  refine ⟨{ s with dev := e.endRequest n }, ?_, ?_⟩
  · rw [exec_answered hn (show exec (.settingsDone n) s = _ from rfl) h hst]
    show Host.Outcome.next { s with dev := (if (e.link n).activateDue.contains (leAt r.args 0 4) = true then _ else e).endRequest n } = _
    rw [he, if_neg (by simp only [hdue, Bool.false_eq_true, not_false_eq_true])]
  · have hend : (e.endRequest n).link n = _ := Device.link_endRequest_last (by omega) (by rw [he]; exact hq)
    rw [he] at hend
    exact ⟨congrArg Link.ackedGen hend, congrArg Link.out hend, keeps_of_changesOnly (((Device.changesOnly_answerTaken _ _ _ n p).linkOnly n _).endRequest n)⟩

/-- ACTIVATE done after bring-up has reached MODE. -/
theorem activateDone_late (h : s.dev.begin.HasAnswer n 0x03 r p b) (hst : octet b 3 = 0) (hq : (s.dev.link n).queue = []) (hstep : (s.dev.link n).step = 6) :
    ∃ t, exec (.activateDone n) s = .next t ∧ (t.dev.link n).out = none ∧ s.dev.keeps t.dev [] := by
  let e := s.dev.begin.answerTaken n p
  obtain ⟨rx, he⟩ : ∃ rx, e.link n = { s.dev.link n with rx := rx } := s.dev.begin.link_answerTaken (by omega) p
  have hend : (e.endRequest n).link n = _ := Device.link_endRequest_last (by omega) (by rw [he]; exact hq)
  rw [he] at hend
  have hne : ((e.endRequest n).link n).step ≠ 4 := by
    rw [hend, hstep]
    decide
  refine ⟨{ s with dev := e.endRequest n }, ?_, congrArg Link.out hend, keeps_of_changesOnly ((Device.changesOnly_answerTaken _ _ _ n p).endRequest n)⟩
  rw [exec_answered hn (show exec (.activateDone n) s = _ from rfl) h hst]
  exact congrArg (fun d => Host.Outcome.next { s with dev := d }) (if_neg hne)

/-- ACTIVATE answered with STATUS 0x04: the camera has lost the settings of the generation, which go to it again. -/
theorem activateDone_resend {g : Nat} {a : Octets} (h : s.dev.begin.HasAnswer n 0x03 r p b) (hst : octet b 3 = 4) (hq : (s.dev.link n).queue = [])
    (hg : leAt r.args 0 4 = g) (ha : (s.dev.link n).sentArgs.find? (fun e => e.1 == g) = some (g, a)) :
    ∃ t q, exec (.activateDone n) s = .next t ∧ (t.dev.link n).out = some q ∧ q.op = 0x02 ∧ q.args = a ∧
      g ∈ (t.dev.link n).activateDue ∧ s.dev.keeps t.dev [] := by
  have hn18 : n < 18 := by omega
  subst hg
  let e := (s.dev.begin.answerTaken n p).modLink n (fun x =>
    { x with ackedGen := none, activateDue := leAt r.args 0 4 :: x.activateDue.filter (fun h => h != leAt r.args 0 4) })
  obtain ⟨rx, he⟩ : ∃ rx, e.link n = _ := link_afterAnswer hn p _
  have hout : (e.link n).out = some r := by
    rw [he]
    exact h.out
  obtain ⟨f, hf, hlink⟩ := Device.endRequest_request_ahead (op := 0x02) (args := a) hn18 hout (by rw [he]; exact hq)
  have hdue : leAt r.args 0 4 ∈ (((e.request n 0x02 a true).endRequest n).link n).activateDue := by
    rw [hf, f.activateDue_startRequest hn18, hlink, he]
    exact List.mem_cons_self
  have hasks := (congrArg (fun d : Device => (d.link n).out) hf).trans (f.out_startRequest hn18 _ _)
  have hch : s.dev.begin.ChangesOnly [] [] ((e.request n 0x02 a true).endRequest n) :=
    (((Device.changesOnly_answerTaken _ _ _ n p).linkOnly n _).requested n _ _ _).endRequest n
  refine ⟨{ s with dev := (e.request n 0x02 a true).endRequest n }, _, ?_, hasks, rfl, rfl, hdue, keeps_of_changesOnly hch⟩
  obtain ⟨rx0, he0⟩ := s.dev.begin.link_answerTaken hn18 p
  have ha0 : ((s.dev.begin.answerTaken n p).link n).sentArgs.find? (fun e => e.1 == leAt r.args 0 4) = some (leAt r.args 0 4, a) := by
    rw [he0]
    exact ha
  rw [exec_answered_other hn (st := 0) (show exec (.activateDone n) s = _ from rfl) h hst]
  simp only [Nat.zero_add, if_true, ha0]
  rfl

/-- MODE FULL acknowledged. -/
theorem modeDone_full (h : s.dev.begin.HasAnswer n 0x04 r p b) (hst : octet b 3 = 0) (hq : (s.dev.link n).queue = []) (hm : octet r.args 0 = 2) :
    ∃ t, exec (.modeDone n) s = .next t ∧ (t.dev.link n).modeAcked = 2 ∧ t.dev.num .CH_PREVIEW_STRIDE n = 0 ∧ (t.dev.link n).out = none ∧
      s.dev.keeps t.dev [(.CH_PREVIEW_STRIDE, n), (.CH_LINK_STATE, n)] := by
  let e := (s.dev.begin.answerTaken n p).modLink n (fun x => { x with modeAcked := octet r.args 0, afterStop := x.afterStop || octet r.args 0 == 0, fullTail := false })
  obtain ⟨rx, he⟩ : ∃ rx, e.link n = _ := link_afterAnswer hn p _
  let e1 := e.set .CH_PREVIEW_STRIDE n 0
  have hlast : e1.endRequest n = e1.modLink n (fun x => { x with out := none }) :=
    Device.endRequest_last (by omega) (show (e.link n).queue = [] by rw [he]; exact hq)
  have hend : (e1.endRequest n).link n = { e.link n with out := none } := by
    rw [hlast, Device.link_modLink_same _ (by omega)]
    rfl
  have hch : s.dev.begin.ChangesOnly [] [(.CH_PREVIEW_STRIDE, n), (.CH_LINK_STATE, n)] (e1.endRequest n) :=
    (((Device.changesOnly_answerTaken _ _ _ n p).linkOnly n _).setAt .CH_PREVIEW_STRIDE n (by simp) 0).endRequest n
  have hstate : (e1.endRequest n).refreshState n = (e1.endRequest n).set .CH_LINK_STATE n ((e1.endRequest n).linkStateNow n) := if_pos hn
  refine ⟨{ s with dev := (e1.endRequest n).refreshState n }, ?_, ?_⟩
  · rw [exec_answered hn (show exec (.modeDone n) s = _ from rfl) h hst]
    show Host.Outcome.next { s with dev := ((e.set .CH_PREVIEW_STRIDE n (if octet r.args 0 = 1 then octet r.args 1 else 0)).endRequest n).refreshState n } = _
    rw [if_neg (by rw [hm]; decide)]
  · rw [hstate]
    refine ⟨?_, ?_, ?_, keeps_of_changesOnly (hch.setAt .CH_LINK_STATE n (by simp) _)⟩
    · refine (congrArg Link.modeAcked hend).trans ?_
      rw [he]
      exact hm
    · rw [Device.num_set_reg_ne _ _ _ _ (by decide), hlast]
      exact e.num_set_same .CH_PREVIEW_STRIDE n 0
    · exact congrArg Link.out hend

/-! ## TIME_ECHO (R99) -/

/-- The first TIME_ECHO answered since the link formed. -/
theorem timeEchoDone_first (h : s.dev.begin.HasAnswer n 0x05 r p b) (hst : octet b 3 = 0) (hq : (s.dev.link n).queue = []) (hech : (s.dev.link n).echoes = []) :
    let e := (Device.echoOf (s.dev.link n).echoT1 (leAt b 4 6) (leAt b 10 6) (p.time % 2 ^ 48)).1
    ∃ t, exec (.timeEchoDone n) s = .next t ∧ (t.dev.link n).echoes = [e] ∧ t.dev.num .CH_TIME_OFFSET n = e.offset % 2 ^ 48 ∧ (t.dev.link n).out = none := by
  intro e
  have hn18 : n < 18 := by omega
  let e0 := s.dev.begin.answerTaken n p
  obtain ⟨rx, he0⟩ : ∃ rx, e0.link n = { s.dev.link n with rx := rx } := s.dev.begin.link_answerTaken hn18 p
  obtain ⟨hlink, hnum⟩ := Device.echoDone_first (d := e0) hn18 p.time b (by rw [he0]; exact hech)
  rw [show (e0.link n).echoT1 = (s.dev.link n).echoT1 by rw [he0]] at hlink hnum
  obtain ⟨x, hx, hxq⟩ := hlink
  have hq' : ((e0.echoDone n p.time b).link n).queue = [] := by rw [hx, hxq, he0]; exact hq
  have hend := Device.link_endRequest_last hn18 hq'
  refine ⟨_, exec_answered hn (show exec (.timeEchoDone n) s = _ from rfl) h hst, ?_, ?_, congrArg Link.out hend⟩
  · exact (congrArg Link.echoes hend).trans (congrArg Link.echoes hx)
  · rw [Device.endRequest_last hn18 hq']
    exact hnum

/-! ## Register accesses (R97, R104) -/

/-- What ends the request outstanding, with none queued behind it, leaves none outstanding and the live objects. -/
theorem ended_last {e : Device} (p : Packet) (hlinks : e.links = (s.dev.begin.answerTaken n p).links) (hq : (s.dev.link n).queue = []) :
    ((e.endRequest n).link n).out = none ∧ (e.endRequest n).held = e.held := by
  have hn18 : n < 18 := by omega
  obtain ⟨rx, h0⟩ := s.dev.begin.link_answerTaken hn18 p
  have hlink : e.link n = { s.dev.link n with rx := rx } := (congrArg (fun l => l.getD n {}) hlinks).trans h0
  have hqe : (e.link n).queue = [] := by
    rw [hlink]
    exact hq
  exact ⟨congrArg Link.out (Device.link_endRequest_last hn18 hqe), by rw [Device.endRequest_last hn18 hqe]; rfl⟩

/-- A register read answered. -/
theorem regReadDone_spec (h : s.dev.begin.HasAnswer n 0x06 r p b) (hst : octet b 3 = 0) (hq : (s.dev.link n).queue = []) :
    ∃ t, exec (.regReadDone n) s = .next t ∧ t.dev.oct .CH_CREG_DATA n = slice b 4 (octet r.args 4) ∧ t.dev.num .CH_CREG_STATUS n = 2 ∧ (t.dev.link n).out = none ∧
      s.dev.keeps t.dev [(.CH_CREG_DATA, n), (.CH_CREG_STATUS, n)] := by
  let e0 := s.dev.begin.answerTaken n p
  let e1 := e0.setOct .CH_CREG_DATA n (slice b 4 (octet r.args 4))
  let e := e1.set .CH_CREG_STATUS n 2
  obtain ⟨hout, hheld⟩ := ended_last hn (e := e) p rfl hq
  have hend : e.ChangesOnly [] [] (e.endRequest n) := (Device.ChangesOnly.refl e).beside hheld
  refine ⟨_, exec_answered hn (show exec (.regReadDone n) s = _ from rfl) h hst, ?_, ?_, hout, ?_⟩
  · have hset : e1.ChangesOnly [] [(.CH_CREG_STATUS, n)] e := (Device.ChangesOnly.refl e1).setAt .CH_CREG_STATUS n (by simp) 2
    have hkeep := (hset.trans (hend.mono (List.nil_subset _))).val .CH_CREG_DATA n List.not_mem_nil (by simp)
    exact (congrArg Val.toOctets hkeep).trans (e0.oct_setOct_same .CH_CREG_DATA n _)
  · exact (hend.num .CH_CREG_STATUS n List.not_mem_nil List.not_mem_nil).trans (e1.num_set_same .CH_CREG_STATUS n 2)
  · have hch : s.dev.begin.ChangesOnly [] [(.CH_CREG_DATA, n), (.CH_CREG_STATUS, n)] e1 := (Device.changesOnly_answerTaken _ _ _ n p).put _ (.inr (by simp))
    exact keeps_of_changesOnly ((hch.setAt .CH_CREG_STATUS n (by simp) 2).beside hheld)

/-- A register write answered. -/
theorem regWriteDone_spec (h : s.dev.begin.HasAnswer n 0x07 r p b) (hst : octet b 3 = 0) (hq : (s.dev.link n).queue = []) :
    ∃ t, exec (.regWriteDone n) s = .next t ∧ t.dev.num .CH_CREG_STATUS n = 2 ∧ (t.dev.link n).out = none ∧ s.dev.keeps t.dev [(.CH_CREG_STATUS, n)] := by
  let e0 := s.dev.begin.answerTaken n p
  let e := e0.set .CH_CREG_STATUS n 2
  obtain ⟨hout, hheld⟩ := ended_last hn (e := e) p rfl hq
  have hend : e.ChangesOnly [] [] (e.endRequest n) := (Device.ChangesOnly.refl e).beside hheld
  have hch : s.dev.begin.ChangesOnly [] [(.CH_CREG_STATUS, n)] e := (Device.changesOnly_answerTaken _ _ _ n p).setAt .CH_CREG_STATUS n (by simp) 2
  refine ⟨_, exec_answered hn (show exec (.regWriteDone n) s = _ from rfl) h hst, ?_, hout, keeps_of_changesOnly (hch.beside hheld)⟩
  exact (hend.num .CH_CREG_STATUS n List.not_mem_nil List.not_mem_nil).trans (e0.num_set_same .CH_CREG_STATUS n 2)

/-- A register write that the camera refuses with STATUS 0x05. -/
theorem regWriteDone_refused (h : s.dev.begin.HasAnswer n 0x07 r p b) (hst : octet b 3 = 5) (hq : (s.dev.link n).queue = []) :
    ∃ t, exec (.regWriteDone n) s = .next t ∧ t.dev.num .CH_CREG_STATUS n = 4 ∧ t.dev.num .CH_CREG_CAMCODE n = 5 ∧ (t.dev.link n).out = none := by
  let e0 := s.dev.begin.answerTaken n p
  let e1 := e0.set .CH_CREG_STATUS n 4
  let e := e1.set .CH_CREG_CAMCODE n 5
  obtain ⟨hout, hheld⟩ := ended_last hn (e := e) p rfl hq
  have hend : e.ChangesOnly [] [] (e.endRequest n) := (Device.ChangesOnly.refl e).beside hheld
  refine ⟨{ s with dev := e.endRequest n }, exec_answered_other hn (st := 1) (show exec (.regWriteDone n) s = _ from rfl) h hst, ?_, ?_, hout⟩
  · rw [hend.num .CH_CREG_STATUS n List.not_mem_nil List.not_mem_nil, e1.num_set_reg_ne n n 5 (by decide)]
    exact e0.num_set_same .CH_CREG_STATUS n 4
  · rw [hend.num .CH_CREG_CAMCODE n List.not_mem_nil List.not_mem_nil]
    exact e1.num_set_same .CH_CREG_CAMCODE n 5

/-! ## GET_INFO (R96, R100, R103) -/

/-- GET_INFO answered. -/
theorem getInfoDone_spec (h : s.dev.begin.HasAnswer n 0x01 r p b) (hst : octet b 3 = 0) :
    ∃ t, exec (.getInfoDone n) s = .next t ∧ t.dev.oct .CH_CAM_INFO n = slice b 4 21 ∧ t.dev.oct .CH_CAM_ID n = slice (s.dev.link n).refIdent 0 18 := by
  obtain ⟨rx, h0⟩ := s.dev.begin.link_answerTaken (show n < 18 by omega) p
  let e0 := s.dev.begin.answerTaken n p
  let e1 := e0.setOct .CH_CAM_INFO n (slice b 4 21)
  let e := e1.setOct .CH_CAM_ID n (slice (e0.link n).refIdent 0 18)
  have hsent : e.ChangesOnly linkRegs [] ((e.endRequest n).sendCredits n) := ((Device.ChangesOnly.refl e).endRequest n).sendCredits n
  have hch : e.ChangesOnly (.CH_CAM_FAULT :: linkRegs) [] (((e.endRequest n).sendCredits n).settingsStep n) :=
    (hsent.moreRegs (List.subset_cons_self _ _)).trans (Device.changesOnly_settingsStep _ n)
  have hinfo : e.oct .CH_CAM_INFO n = slice b 4 21 :=
    (congrArg Val.toOctets (Device.val_put_ne e1 (by simp) _)).trans (e0.oct_setOct_same .CH_CAM_INFO n _)
  have hid : e.oct .CH_CAM_ID n = slice (s.dev.link n).refIdent 0 18 := (e1.oct_setOct_same .CH_CAM_ID n _).trans (by rw [h0]; rfl)
  refine ⟨{ s with dev := ((e.endRequest n).sendCredits n).settingsStep n }, exec_answered hn (show exec (.getInfoDone n) s = _ from rfl) h hst, ?_, ?_⟩
  · exact (congrArg Val.toOctets (hch.val .CH_CAM_INFO n (by decide) List.not_mem_nil)).trans hinfo
  · exact (congrArg Val.toOctets (hch.val .CH_CAM_ID n (by decide) List.not_mem_nil)).trans hid

end

end Sys2Proof.Machine
end

section
/-!
PROOF. What the device does of itself about control requests (R95, R97, R99, R100): repeats, timeouts, the request after BUSY, and TIME_ECHO with the time at which it leaves.
-/
namespace Sys2Proof.Machine

namespace Device

/-! ## Timeouts (R97, R100) -/

/-- A channel that starts again reaches no more than its lanes and its link do. -/
theorem ChangesOnly.restartLink {d e : Device} (h : d.ChangesOnly linkRegs [] e) (k : Nat) : d.ChangesOnly linkRegs [] (e.restartLink k) := by
  unfold Device.restartLink
  extract_lets each
  have heach {x : Device} (l : Nat) (hx : d.ChangesOnly linkRegs [] x) : d.ChangesOnly linkRegs [] (each x l) := ite hx ((hx.sendFrame l 0x08 [3]).toSeek l)
  exact (foldl heach _ h).relink k

/-- A timeout of a register access, with no request behind it. -/
theorem controlTimeout_register {d : Device} {n : Nat} (hn : n < 16) (hq : (d.link n).queue = []) :
    d.controlTimeout n 0x06 = ((d.bump .CH_CTRL_TIMEOUT n).set .CH_CREG_STATUS n 3).modLink n (fun x => { x with out := none }) := by
  simp only [controlTimeout, hn, if_true, true_or]
  exact endRequest_last (d := (d.bump .CH_CTRL_TIMEOUT n).set .CH_CREG_STATUS n 3) (by omega) hq

/-- A timeout of GET_INFO, as that of the first credits, restarts the channel. -/
theorem controlTimeout_getInfo (d : Device) {n : Nat} (hn : n < 16) : d.controlTimeout n 0x01 = (d.bump .CH_CTRL_TIMEOUT n).restartLink n := by
  simp [controlTimeout, hn]

/-! ## A request that leaves at once (R83, R87, R95) -/

/-- Whether a packet may start does not change with what of its link it does not read. -/
theorem mayStart_modLink (d : Device) (k vc : Nat) (p : TxPacket) {f : Link → Link} (hu : ∀ x, (f x).usable = x.usable) (hc : ∀ x, (f x).credited = x.credited)
    (hcr : ∀ x, ((f x).tx.getD vc {}).cr = (x.tx.getD vc {}).cr) : (d.modLink k f).mayStart k vc p = d.mayStart k vc p := by
  have h1 : ((d.modLink k f).link k).usable = (d.link k).usable := d.link_modLink_of Link.usable k k hu
  have h2 : ((d.modLink k f).link k).credited = (d.link k).credited := d.link_modLink_of Link.credited k k hc
  have h3 : ((d.modLink k f).txOf k vc).cr = (d.txOf k vc).cr := d.link_modLink_of (fun x => (x.tx.getD vc {}).cr) k k hcr
  have hl : (d.modLink k f).txLane k = d.txLane k := by rw [txLane, h1, txLane]
  unfold mayStart
  rw [hl, creditFor, h2, h3, creditFor]
  rfl

/-- The only packet waiting on a VC leaves when it may start. -/
theorem pumpVc_single {d : Device} {k vc : Nat} {p : TxPacket} (hw : (d.txOf k vc).waiting = [p]) (hcls : p.cls = 0) (hmay : d.mayStart k vc p = true) :
    ∃ f, pumpVc k vc 1 d = (d.transmit k vc p).modTx k vc f := by
  have hheads : pumpVc.heads [p] = [(0, p)] := by simp [pumpVc.heads, findIdxFrom, hcls]
  simp only [pumpVc, hw, hheads, findIdxFrom, hmay, if_true]
  exact ⟨_, rfl⟩

/-- With one packet waiting, on VC2, which may start, a link sends that packet. -/
theorem pump_single {d : Device} {k l : Nat} {p : TxPacket} (hk : k < 18) (hl : d.txLane k = some l) (hw : ∀ vc < 4, vc ≠ 2 → (d.txOf k vc).waiting = [])
    (h2 : (d.txOf k 2).waiting = [p]) (hcls : p.cls = 0) (hmay : d.mayStart k 2 p = true) : ∃ f, d.pump k = (d.transmit k 2 p).modTx k 2 f := by
  obtain ⟨f, hf⟩ := pumpVc_single h2 hcls hmay
  have h3 : (((d.transmit k 2 p).modTx k 2 f).txOf k 3).waiting = [] := by
    rw [txOf_modTx_ne _ hk (by decide), txOf_transmit_ne hl hk (by decide)]
    exact hw 3 (by decide) (by decide)
  have hidle (vc : Nat) (e : Device) : pumpVc k vc 0 e = e := rfl
  refine ⟨f, ?_⟩
  simp only [pump, show List.range 4 = [0, 1, 2, 3] from rfl, List.foldl_cons, List.foldl_nil, hw 0 (by decide) (by decide), hw 1 (by decide) (by decide), h2,
    List.length_nil, List.length_singleton, hidle, hf, h3]

/-- A packet of VC2 that may start leaves at once from a link with nothing waiting. -/
theorem sendPacket_leaves {d : Device} {k l : Nat} {p : TxPacket} (urgent : Bool) (hk : k < 18) (hup : (d.link k).up = true) (hl : d.txLane k = some l)
    (hw : ∀ vc < 4, (d.txOf k vc).waiting = []) (hcls : p.cls = 0) (hmay : d.mayStart k 2 p = true) :
    (d.sendPacket k 2 p urgent).outs = d.outs ++ [.packet l (d.wireNext k 2 p)] ∧
      (p.dt = 0x39 → octet p.payload 2 = 0x05 → ((d.sendPacket k 2 p urgent).link k).echoT1 = d.now % 2 ^ 48) := by
  let queued : VcTx → VcTx := fun t => { t with waiting := if urgent then p :: t.waiting else t.waiting ++ [p] }
  let e := d.modTx k 2 queued
  have hsend : d.sendPacket k 2 p urgent = e.pump k := if_neg (by rw [hup]; decide)
  have hle : e.txLane k = some l := by
    have hu : (e.link k).usable = (d.link k).usable := d.link_modLink_of Link.usable k k (fun _ => by rfl)
    rw [txLane, hu]
    exact hl
  have hwe : ∀ vc < 4, vc ≠ 2 → (e.txOf k vc).waiting = [] := fun vc hvc hne => by rw [txOf_modTx_ne d hk hne, hw vc hvc]
  have h2 : (e.txOf k 2).waiting = [p] := by
    rw [d.txOf_modTx_same hk (by decide)]
    simp [queued, hw 2 (by decide)]
  have hmaye : e.mayStart k 2 p = true :=
    (d.mayStart_modLink k 2 p (fun _ => by rfl) (fun _ => by rfl) fun x => by
      exact getD_modTab_of VcTx.cr 4 {} x.tx 2 2 (f := queued) fun _ => rfl).trans hmay
  have hwire : e.wireNext k 2 p = d.wireNext k 2 p := by
    rw [wireNext, d.txOf_modTx_of VcTx.count hk 2 2 (fun _ => by rfl)]
    rfl
  obtain ⟨f, hf⟩ := pump_single hk hle hwe h2 hcls hmaye
  rw [hsend, hf]
  refine ⟨?_, fun hdt hop => ?_⟩
  · exact (outs_transmit hle 2 p).trans (by rw [hwire]; rfl)
  · exact ((e.transmit k 2 p).link_modLink_of Link.echoT1 k k (fun _ => by rfl)).trans (echoT1_transmit hle hk 2 hdt hop)

/-! ## TIME_ECHO (R99) -/

/-- A TIME_ECHO request as it is put on a link, with no T1 yet. -/
def echoRequest (tag : Nat) : TxPacket := { dt := 0x39, ctl := 0, cls := 0, payload := le 2 tag ++ [0x05, 0] ++ le 6 0 }

theorem stampEcho_echoRequest (tag t1 : Nat) : stampEcho t1 (echoRequest tag) = le 2 tag ++ [0x05, 0] ++ le 6 t1 := by
  simp [stampEcho, echoRequest, octet, le]

/-- A TIME_ECHO request that may start leaves at once with the device's time as its T1. -/
theorem startRequest_echo {d : Device} {k l : Nat} (hk : k < 18) (hup : (d.link k).up = true) (hl : d.txLane k = some l) (hw : ∀ vc < 4, (d.txOf k vc).waiting = [])
    (hmay : d.mayStart k 2 (echoRequest (d.linkTag k)) = true) (urgent : Bool) :
    let e := d.startRequest k { tag := 0, op := 0x05, args := le 6 0 } urgent
    (e.link k).echoT1 = d.now % 2 ^ 48 ∧
      e.outs = d.outs ++ [.packet l (wirePacket 2 0 0x39 (d.txOf k 2).count (le 2 (d.linkTag k) ++ [0x05, 0] ++ le 6 (d.now % 2 ^ 48)))] := by
  let r : Request := { tag := 0, op := 0x05, args := le 6 0 }
  have hle : (d.asks k r).txLane k = some l := by
    have hu : ((d.asks k r).link k).usable = (d.link k).usable := d.link_modLink_of Link.usable k k (fun _ => by rfl)
    rw [txLane, hu]
    exact hl
  have htx (vc : Nat) : (d.asks k r).txOf k vc = d.txOf k vc := d.txOf_modLink k (fun _ => by rfl) k vc
  have hupe : ((d.asks k r).link k).up = true := (d.link_modLink_of Link.up k k (fun _ => by rfl)).trans hup
  have hmaye : (d.asks k r).mayStart k 2 (echoRequest (d.linkTag k)) = true :=
    (d.mayStart_modLink k 2 _ (fun _ => by rfl) (fun _ => by rfl) fun _ => by rfl).trans hmay
  obtain ⟨houts, hecho⟩ := sendPacket_leaves (d := d.asks k r) urgent hk hupe hle (fun vc hvc => by rw [htx, hw vc hvc]) rfl hmaye
  rw [wireNext, stampEcho_echoRequest, htx] at houts
  exact ⟨hecho rfl rfl, houts⟩

end Device

/-! ## The commands -/

section
variable {s : State} {n : Nat} (hn : n < 16)
include hn

/-- CONTROL_RETRANSMIT before the third repeat. -/
theorem controlRetransmit_again {r : Request} (hout : (s.dev.link n).out = some r) (hbusy : r.waitBusy = false) (hr : r.retries < 3) :
    ∃ t, exec (.controlRetransmit n) s = .next t ∧ t.dev.num .CH_CTRL_RETRY n = (s.dev.num .CH_CTRL_RETRY n + 1) % 2 ^ 32 ∧
      (t.dev.link n).out = some { r with retries := r.retries + 1 } ∧ s.dev.keeps t.dev [(.CH_CTRL_RETRY, n)] := by
  have hn18 : n < 18 := by omega
  have hout' : (s.dev.begin.link n).out = some r := hout
  let e := s.dev.begin.modLink n (fun x => { x with out := some { r with retries := r.retries + 1 } })
  let packet : TxPacket := { dt := 0x39, ctl := 0, cls := 0, payload := le 2 r.tag ++ [r.op, 0] ++ r.args }
  have hsent := (Device.Transmits.refl (e.bump .CH_CTRL_RETRY n)).sendPacket n 2 packet (decide (r.op = 0x03))
  have hch : s.dev.begin.ChangesOnly [] [(.CH_CTRL_RETRY, n)] (e.bump .CH_CTRL_RETRY n) := ((Device.ChangesOnly.refl _).linkOnly n _).bumpAt .CH_CTRL_RETRY n (by simp)
  have hend : (e.bump .CH_CTRL_RETRY n).ChangesOnly [] [] _ := (Device.ChangesOnly.refl _).transmits hsent
  have hlink : (e.link n).out = some { r with retries := r.retries + 1 } := congrArg Link.out (s.dev.begin.link_modLink_same hn18 _)
  refine ⟨{ s with dev := (e.bump .CH_CTRL_RETRY n).sendPacket n 2 packet (decide (r.op = 0x03)) }, ?_, ?_, ?_, keeps_of_changesOnly (hch.transmits hsent)⟩
  · rw [exec_run (c := .controlRetransmit n) (show execControlRetransmit n s = _ from rfl) (wf_chan hn)]
    simp only [hout', if_neg (Bool.eq_false_iff.mp hbusy), if_neg (Nat.not_le.mpr hr)]
    rfl
  · exact (hend.num .CH_CTRL_RETRY n List.not_mem_nil List.not_mem_nil).trans (e.num_bump_same .CH_CTRL_RETRY n)
  · exact (congrArg Link.out (hsent.link n) :).trans hlink

/-- CONTROL_RETRANSMIT of a register read after the third repeat. -/
theorem controlRetransmit_timeout {r : Request} (hout : (s.dev.link n).out = some r) (hbusy : r.waitBusy = false) (hr : 3 ≤ r.retries) (hop : r.op = 0x06)
    (hq : (s.dev.link n).queue = []) :
    ∃ t, exec (.controlRetransmit n) s = .next t ∧ t.dev.num .CH_CTRL_TIMEOUT n = (s.dev.num .CH_CTRL_TIMEOUT n + 1) % 2 ^ 32 ∧ t.dev.num .CH_CREG_STATUS n = 3 ∧
      (t.dev.link n).out = none := by
  have hout' : (s.dev.begin.link n).out = some r := hout
  let e1 := s.dev.begin.bump .CH_CTRL_TIMEOUT n
  let e := e1.set .CH_CREG_STATUS n 3
  refine ⟨{ s with dev := e.modLink n (fun x => { x with out := none }) }, ?_, ?_, ?_, ?_⟩
  · rw [exec_run (c := .controlRetransmit n) (show execControlRetransmit n s = _ from rfl) (wf_chan hn)]
    simp only [hout', hbusy, Bool.false_eq_true, if_false, if_pos hr, hop]
    rw [Device.controlTimeout_register (d := s.dev.begin) hn hq]
  · exact (e1.num_set_reg_ne (r := .CH_CTRL_TIMEOUT) (r' := .CH_CREG_STATUS) n n 3 (by decide)).trans (s.dev.begin.num_bump_same .CH_CTRL_TIMEOUT n)
  · exact e1.num_set_same .CH_CREG_STATUS n 3
  · exact congrArg Link.out (e.link_modLink_same (by omega) _)

/-- CONTROL_BUSY_RETRY. -/
theorem controlBusyRetry_spec {r : Request} (hout : (s.dev.link n).out = some r) (hbusy : r.waitBusy = true) :
    ∃ t, exec (.controlBusyRetry n) s = .next t ∧ (t.dev.link n).out = some { r with tag := ((s.dev.link n).tag + 1) % 65536, waitBusy := false, retries := 0 } ∧
      s.dev.keeps t.dev [] := by
  have hout' : (s.dev.begin.link n).out = some r := hout
  refine ⟨{ s with dev := s.dev.begin.startRequest n { r with retries := 0 } (decide (r.op = 0x03)) }, ?_, s.dev.begin.out_startRequest (by omega) _ _,
    keeps_of_changesOnly ((Device.ChangesOnly.refl _).asked n _ _)⟩
  rw [exec_run (c := .controlBusyRetry n) (show execControlBusyRetry n s = _ from rfl) (wf_chan hn)]
  simp only [hout', hbusy, if_true]

/-- FIRST_CREDIT_TIMEOUT on a link whose first credits have not come. -/
theorem firstCreditTimeout_spec (hup : (s.dev.link n).up = true) (hcr : (s.dev.link n).credited = false) :
    ∃ t, exec (.firstCreditTimeout n) s = .next t ∧ t.dev.num .CH_CTRL_TIMEOUT n = (s.dev.num .CH_CTRL_TIMEOUT n + 1) % 2 ^ 32 := by
  have hwait : ((s.dev.begin.link n).up && !(s.dev.begin.link n).credited) = true := by
    rw [show (s.dev.begin.link n).up = true from hup, show (s.dev.begin.link n).credited = false from hcr]
    rfl
  have hch := (Device.ChangesOnly.refl (s.dev.begin.bump .CH_CTRL_TIMEOUT n)).restartLink n
  refine ⟨_, exec_run (c := .firstCreditTimeout n) (show execFirstCreditTimeout n s = _ from rfl) (wf_chan hn), ?_⟩
  rw [if_pos hwait, Device.controlTimeout_getInfo _ hn, hch.num .CH_CTRL_TIMEOUT n (by decide) List.not_mem_nil]
  exact s.dev.begin.num_bump_same .CH_CTRL_TIMEOUT n

/-- TIME_ECHO_SEND once bring-up is past ACTIVATE, with no request outstanding or queued. -/
theorem timeEchoSend_spec (hup : (s.dev.link n).up = true) (hstep : 5 ≤ (s.dev.link n).step) (hout : (s.dev.link n).out = none) (hq : (s.dev.link n).queue = []) :
    ∃ t r, exec (.timeEchoSend n) s = .next t ∧ (t.dev.link n).out = some r ∧ r.op = 0x05 ∧ r.tag = ((s.dev.link n).tag + 1) % 65536 ∧ s.dev.keeps t.dev [] ∧
      (∀ l rung us, (s.dev.link n).usable = (l, rung) :: us → (∀ vc, vc < 4 → (s.dev.txOf n vc).waiting = []) →
        s.dev.mayStart n 2 { dt := 0x39, ctl := 0, cls := 0, payload := le 2 r.tag ++ [0x05, 0] ++ le 6 0 } = true →
        (t.dev.link n).echoT1 = s.dev.now % 2 ^ 48 ∧
          t.dev.outs = [.packet l (Device.wirePacket 2 0 0x39 (s.dev.txOf n 2).count (le 2 r.tag ++ [0x05, 0] ++ le 6 (s.dev.now % 2 ^ 48)))]) := by
  have hn18 : n < 18 := by omega
  have hout' : (s.dev.begin.link n).out = none := hout
  have hup' : (s.dev.begin.link n).up = true := hup
  have hstep' : 5 ≤ (s.dev.begin.link n).step := hstep
  have hq' : (s.dev.begin.link n).queue = [] := hq
  refine ⟨{ s with dev := s.dev.begin.startRequest n { tag := 0, op := 0x05, args := le 6 0 } false }, _, ?_, s.dev.begin.out_startRequest hn18 _ _, rfl, rfl,
    keeps_of_changesOnly ((Device.ChangesOnly.refl _).asked n _ _), fun l rung us hus hw hmay => ?_⟩
  · rw [exec_run (c := .timeEchoSend n) (show execTimeEchoSend n s = _ from rfl) (wf_chan hn)]
    simp only [hup', hstep', hout', hq', List.any_nil, Bool.or_false, Bool.not_false, decide_true, Bool.and_self, if_true, Device.request_idle hout']
    rfl
  · have hl : s.dev.begin.txLane n = some l := by
      rw [Device.txLane, show (s.dev.begin.link n).usable = (l, rung) :: us from hus]
      rfl
    exact Device.startRequest_echo (d := s.dev.begin) hn18 hup hl hw hmay false

end

end Sys2Proof.Machine
end

section
/-!
PROOF. CH_CREG_GO (R104), and the obligation on camera control.
-/
namespace Sys2Proof.Machine

namespace Device

/-- A command that nothing refuses, on an object of at most 32 bits without a rule of its own before the effect: the journal's entry, its effect, the result. -/
theorem command_effect {d : Device} {n : Nat} {r : Reg} {i x sz : Nat} {f : Device → Device} (hp : plain r i = true) (hs : r.row.ty.size = some sz)
    (hpres : d.ident.present ⟨r, i⟩ = true) (hr : d.Reaches n) (hh : d.heldNow = false) (hcl : d.classRefused ⟨r, i⟩ = false) (hx : x < 2 ^ (8 * sz))
    (hrange : numInRange ⟨r, i⟩ x = true) (happ : ∀ j, ({ d with jrn := j } : Device).applyWrite ⟨r, i⟩ (.num x) n = (0, f { d with jrn := j }))
    (hdue : ∀ j, (f { d with jrn := j }).resetDue = false) :
    ∃ j y, d.command n r i x = { f { d with jrn := j } with sess := y, outs := (f { d with jrn := j }).outs ++ [.result 0] } := by
  obtain ⟨j, hj, -⟩ := d.journalWriteOf_eq n ⟨r, i⟩ (le sz x)
  have hfirst : d.applyWrite ⟨r, i⟩ (.num x) n = (0, f d) := happ d.jrn
  have hthen : (d.journalWriteOf n ⟨r, i⟩ (le sz x)).applyWrite ⟨r, i⟩ (.num x) n = (0, f { d with jrn := j }) := by
    rw [hj]
    exact happ j
  rw [command_plain hp hs hpres hr hh hcl hx hrange (by rw [hfirst]) (by rw [hthen]), hthen]
  obtain ⟨y, hy⟩ := finish_eq n (hdue j)
  exact ⟨j, y, hy⟩

/-- What the object table says of CH_CREG_GO: a number of one byte of each channel, 1 or 2. -/
theorem cregGo_row : (∀ n < 16, plain .CH_CREG_GO n = true ∧ Key.scope ⟨.CH_CREG_GO, n⟩ = .channel n ∧ numInRange ⟨.CH_CREG_GO, n⟩ 1 = true ∧
    numInRange ⟨.CH_CREG_GO, n⟩ 2 = true) ∧ (Reg.row .CH_CREG_GO).ty.size = some 1 ∧ (Reg.row .CH_CREG_GO).acc.unwritable = false := by decide +kernel

theorem applyWrite_cregGo {d : Device} {n : Nat} (h : d.num .CH_CREG_STATUS n ≠ 1) (v : Val) (session : Nat) :
    d.applyWrite ⟨.CH_CREG_GO, n⟩ v session = (0, d.cregGo n v.toNat) := by
  show d.refusing (if d.num .CH_CREG_STATUS n = 1 then 0x06 else 0) (fun d => d.cregGo n v.toNat) = _
  rw [if_neg h]
  rfl

/-- A register access on a channel whose link is down ends at once (R101, R104). -/
theorem cregGo_down {d : Device} {n : Nat} (hup : (d.link n).up = false) (v : Nat) : d.cregGo n v = (d.set .CH_CREG_STATUS n 1).set .CH_CREG_STATUS n 3 := if_pos hup

/-- A register access on a link that is up is asked of the camera, with its address and its length (R104). -/
theorem cregGo_up {d : Device} {n : Nat} (hup : (d.link n).up = true) (hout : (d.link n).out = none) (v : Nat) :
    ∃ data, d.cregGo n v = (d.set .CH_CREG_STATUS n 1).startRequest n
      { tag := 0, op := if v = 1 then 0x06 else 0x07, args := le 4 (d.num .CH_CREG_ADDR n) ++ [d.num .CH_CREG_LEN n] ++ data } false := by
  have hup' : ¬ ((d.set .CH_CREG_STATUS n 1).link n).up = false := by
    show ¬ (d.link n).up = false
    rw [hup]
    decide
  have hout' : ((d.set .CH_CREG_STATUS n 1).link n).out = none := hout
  by_cases hv : v = 1
  · refine ⟨[], ?_⟩
    simp only [cregGo, if_neg hup', if_pos hv, request_idle hout', List.append_nil]
    rfl
  · refine ⟨slice ((d.set .CH_CREG_STATUS n 1).oct .CH_CREG_DATA n) 0 (d.num .CH_CREG_LEN n), ?_⟩
    simp only [cregGo, if_neg hup', if_neg hv, request_idle hout']
    rfl

theorem resetDue_cregGo {d : Device} (h : d.resetDue = false) (n v : Nat) : (d.cregGo n v).resetDue = false := by
  have hset : d.ChangesOnly [.CH_CREG_STATUS] [] (d.set .CH_CREG_STATUS n 1) := (ChangesOnly.refl d).set _ (by simp) n 1
  have hch : d.ChangesOnly [.CH_CREG_STATUS] [] (d.cregGo n v) := .ite (hset.set _ (by simp) n 3) (.ite (hset.requested n _ _ _) (hset.requested n _ _ _))
  exact hch.resetDue.trans h

end Device

/-- CREG_READ and CREG_WRITE write CH_CREG_GO. -/
theorem exec_creg {s : State} {session n op : Nat} {c : Instr} (hs : session < 1024) (hn : n < 16) (hr : s.dev.Reaches session)
    (hc : (c, op) ∈ [(Instr.cregRead session n, 0x06), (.cregWrite session n, 0x07)]) :
    ∃ v, (if v = 1 then 0x06 else 0x07) = op ∧ 1 ≤ v ∧ v ≤ 2 ∧ exec c s = .next { s with dev := (s.dev.asked session).command session .CH_CREG_GO n v } := by
  have hwf : (WF.session session && WF.chan n) = true := by simp [WF.session, wf_chan hn, hs]
  simp only [List.mem_cons, Prod.mk.injEq, List.not_mem_nil, or_false] at hc
  obtain ⟨rfl, rfl⟩ | ⟨rfl, rfl⟩ := hc
  · exact ⟨1, rfl, by decide, by decide, exec_runAs (c := .cregRead session n) hs hr (show execCregRead session n s = _ from rfl) hwf⟩
  · exact ⟨2, rfl, by decide, by decide, exec_runAs (c := .cregWrite session n) hs hr (show execCregWrite session n s = _ from rfl) hwf⟩

section
variable {s : State} {session n op : Nat} {c : Instr} (hs : session < 1024) (hn : n < 16) (hch : s.dev.ident.hasChan n = true) (hr : s.dev.Reaches session)
  (hh : s.dev.heldNow = false) (hst : s.dev.num .CH_CREG_STATUS n ≠ 1) (hc : (c, op) ∈ [(Instr.cregRead session n, 0x06), (.cregWrite session n, 0x07)])
include hs hn hch hr hh hst hc

/-- A register access that CH_CREG_GO asks for, where none is under way: the journal's entry, its effect, the result. -/
theorem creg_effect :
    ∃ v j y, (if v = 1 then 0x06 else 0x07) = op ∧
      let d : Device := { s.dev.asked session with jrn := j }
      exec c s = .next { s with dev := { d.cregGo n v with sess := y, outs := (d.cregGo n v).outs ++ [.result 0] } } := by
  obtain ⟨v, hop, h1, h2, hexec⟩ := exec_creg hs hn hr hc
  obtain ⟨hchans, hsize, hclass⟩ := Device.cregGo_row
  obtain ⟨hplain, hscope, hone, htwo⟩ := hchans n hn
  have hrange : numInRange ⟨.CH_CREG_GO, n⟩ v = true := by
    obtain rfl | rfl : v = 1 ∨ v = 2 := by omega
    · exact hone
    · exact htwo
  have hpres : (s.dev.asked session).ident.present ⟨.CH_CREG_GO, n⟩ = true := by
    simp only [Identity.present, hscope]
    rw [show (s.dev.asked session).ident = s.dev.ident from rfl, hch]
    rfl
  have hcl : (s.dev.asked session).classRefused ⟨.CH_CREG_GO, n⟩ = false := by simp [Device.classRefused, hclass]
  have hreach : (s.dev.asked session).Reaches session := ⟨Nat.le_refl _, hr.2⟩
  have happ (j : Journal) := Device.applyWrite_cregGo (d := { s.dev.asked session with jrn := j }) hst (.num v) session
  have hdue (j : Journal) := Device.resetDue_cregGo (d := { s.dev.asked session with jrn := j }) rfl n v
  obtain ⟨j, y, hcmd⟩ := Device.command_effect (n := session) (f := fun d => d.cregGo n v) hplain hsize hpres hreach hh hcl (by omega) hrange happ hdue
  exact ⟨v, j, y, hop, by rw [hexec, hcmd]⟩

/-- CH_CREG_GO on a channel whose link is down. -/
theorem creg_down (hup : (s.dev.link n).up = false) :
    ∃ t, exec c s = .next t ∧ t.dev.num .CH_CREG_STATUS n = 3 ∧ s.dev.keeps t.dev [(.CH_CREG_STATUS, n)] := by
  obtain ⟨v, j, y, -, hexec⟩ := creg_effect hs hn hch hr hh hst hc
  let d : Device := { s.dev.asked session with jrn := j }
  have hgo : d.cregGo n v = (d.set .CH_CREG_STATUS n 1).set .CH_CREG_STATUS n 3 := Device.cregGo_down (d := d) hup v
  have hkeep : d.ChangesOnly [] [(.CH_CREG_STATUS, n)] (d.cregGo n v) := by
    rw [hgo]
    exact ((Device.ChangesOnly.refl d).setAt .CH_CREG_STATUS n (by simp) 1).setAt .CH_CREG_STATUS n (by simp) 3
  have hnum : (d.cregGo n v).num .CH_CREG_STATUS n = 3 := by
    rw [hgo]
    exact (d.set .CH_CREG_STATUS n 1).num_set_same .CH_CREG_STATUS n 3
  exact ⟨_, hexec, hnum, fun r i hk => hkeep.val r i List.not_mem_nil hk⟩

/-- CH_CREG_GO on a link that is up, with no request outstanding. -/
theorem creg_asks (hup : (s.dev.link n).up = true) (hout : (s.dev.link n).out = none) :
    ∃ t r, exec c s = .next t ∧ t.dev.num .CH_CREG_STATUS n = 1 ∧ (t.dev.link n).out = some r ∧ r.op = op ∧
      r.args.take 5 = le 4 (s.dev.num .CH_CREG_ADDR n) ++ [s.dev.num .CH_CREG_LEN n] ∧ s.dev.keeps t.dev [(.CH_CREG_STATUS, n)] := by
  obtain ⟨v, j, y, hop, hexec⟩ := creg_effect hs hn hch hr hh hst hc
  let d : Device := { s.dev.asked session with jrn := j }
  obtain ⟨data, hgo⟩ := Device.cregGo_up (d := d) hup hout v
  have hasked : (d.set .CH_CREG_STATUS n 1).ChangesOnly [] [] (d.cregGo n v) := by
    rw [hgo]
    exact (Device.ChangesOnly.refl _).asked n _ false
  have hkeep := ((Device.ChangesOnly.refl (regs := []) (keys := [(.CH_CREG_STATUS, n)]) d).setAt .CH_CREG_STATUS n (by simp) 1).trans (hasked.mono (List.nil_subset _))
  have hnum : (d.cregGo n v).num .CH_CREG_STATUS n = 1 :=
    (hasked.num .CH_CREG_STATUS n List.not_mem_nil List.not_mem_nil).trans (d.num_set_same .CH_CREG_STATUS n 1)
  have houts := (d.set .CH_CREG_STATUS n 1).out_startRequest (show n < 18 by omega)
    { tag := 0, op := if v = 1 then 0x06 else 0x07, args := le 4 (d.num .CH_CREG_ADDR n) ++ [d.num .CH_CREG_LEN n] ++ data } false
  rw [← hgo] at houts
  have htake : (le 4 (d.num .CH_CREG_ADDR n) ++ [d.num .CH_CREG_LEN n] ++ data).take 5 = le 4 (d.num .CH_CREG_ADDR n) ++ [d.num .CH_CREG_LEN n] := List.take_left' (by simp)
  exact ⟨_, _, hexec, hnum, houts, hop, htake, fun r i hk => hkeep.val r i List.not_mem_nil hk⟩

end

/-- Settles O23: what the device does of itself, the answers of the camera, TIME_ECHO and CH_CREG_GO, each by the lemma about its command. -/
theorem cameraControl : Obligations.CameraControl := by
  unfold Obligations.CameraControl
  refine ⟨fun s n r hn => ⟨?_, ?_, ?_, ?_⟩, fun s n r p b op hn hrel hdt hpay hop hout hasked htag hidle hq => ?_, fun s n hn => ⟨?_, ?_⟩⟩
  · exact fun hout hbusy hr => controlRetransmit_again hn hout hbusy hr
  · exact fun hout hbusy hr hop hq => controlRetransmit_timeout hn hout hbusy hr hop hq
  · exact fun hout hbusy => controlBusyRetry_spec hn hout hbusy
  · exact fun hup hcr => firstCreditTimeout_spec hn hup hcr
  · have h : s.dev.begin.HasAnswer n op r p b := ⟨hrel, hdt, hpay, hop, hout, hasked, htag, hidle⟩
    refine ⟨?_, ?_, ?_, ?_, ?_, ?_, ?_, ?_, ?_⟩
    · rintro rfl hst
      exact getInfoDone_spec hn h hst
    · rintro rfl hst hdue
      exact settingsDone_acked hn h hst hq hdue
    · rintro rfl hst hstep
      exact activateDone_late hn h hst hq hstep
    · rintro g a rfl hst hg ha
      exact activateDone_resend hn h hst hq hg ha
    · rintro rfl hst hm
      exact modeDone_full hn h hst hq hm
    · rintro rfl hst hech
      exact timeEchoDone_first hn h hst hq hech
    · rintro rfl hst
      exact regReadDone_spec hn h hst hq
    · rintro rfl hst
      exact regWriteDone_spec hn h hst hq
    · rintro rfl hst
      exact regWriteDone_refused hn h hst hq
  · exact fun hup hstep hout hq => timeEchoSend_spec hn hup hstep hout hq
  · exact fun session v c hs hch hr hh hst hc =>
      ⟨fun hup => creg_down hs hn hch hr hh hst hc hup, fun hup hout => creg_asks hs hn hch hr hh hst hc hup hout⟩

end Sys2Proof.Machine
end

section
/-!
PROOF. What the event fabric leaves alone as it runs (R399 to R402): everything outside its lines and cells, the objects that follow them, and what has been sent before.
-/
namespace Sys2Proof.Machine

/-- A device without what the event fabric works on: the live objects, its lines and cells, the wake it notes, the free values it draws and what is sent. -/
def Device.offFabric (d : Device) : Device := { d with live := [], evt := {}, wakeNow := false, freeCtr := 0, outs := [] }

/-- From `d` to `e` only the event fabric has run, beside live objects: what was sent stays sent. -/
structure Device.RunsFabric (d e : Device) : Prop where
  rest : e.offFabric = d.offFabric
  outs : d.outs ⊆ e.outs

namespace Device.RunsFabric

variable {d e : Device}

theorem refl (d : Device) : d.RunsFabric d := ⟨rfl, List.Subset.refl _⟩

theorem put (h : d.RunsFabric e) (r : Reg) (i : Nat) (v : Val) : d.RunsFabric (e.put r i v) := ⟨h.rest, h.outs⟩

theorem bump (h : d.RunsFabric e) (r : Reg) (i : Nat) : d.RunsFabric (e.bump r i) := h.put r i _

theorem setOn (h : d.RunsFabric e) (r : Reg) (i : Nat) (b : Bool) : d.RunsFabric (e.setOn r i b) := h.put r i _

theorem setLine (h : d.RunsFabric e) (l : Nat) (f : Line → Line) : d.RunsFabric (e.setLine l f) := ⟨h.rest, h.outs⟩

theorem setCell (h : d.RunsFabric e) (c : Nat) (f : Cell → Cell) : d.RunsFabric (e.setCell c f) := ⟨h.rest, h.outs⟩

theorem deliver (h : d.RunsFabric e) (l t : Nat) : d.RunsFabric (e.deliver l t) := ⟨h.rest, h.outs⟩

theorem fresh (h : d.RunsFabric e) (n : Nat) : d.RunsFabric (e.fresh n).2 := ⟨h.rest, h.outs⟩

theorem emit (h : d.RunsFabric e) (o : Out) : d.RunsFabric (e.emit o) := ⟨h.rest, fun _ hm => List.mem_append_left _ (h.outs hm)⟩

theorem ite {c : Prop} [Decidable c] {a b : Device} (ha : d.RunsFabric a) (hb : d.RunsFabric b) : d.RunsFabric (if c then a else b) := by
  split
  · exact ha
  · exact hb

theorem foldl {α : Type} {f : Device → α → Device} (hf : ∀ {e : Device} (x : α), d.RunsFabric e → d.RunsFabric (f e x)) (xs : List α) (h : d.RunsFabric e) :
    d.RunsFabric (xs.foldl f e) := by
  induction xs generalizing e with
  | nil => exact h
  | cons x xs ih => exact ih (hf x h)

theorem accept (h : d.RunsFabric e) (l t : Nat) : d.RunsFabric (riseLine.accept e l t) :=
  (((((h.fresh (e.num .EVT_LINE_RETRIG_NS l / 10 + 41)).setLine l _).bump .EVT_LINE_EDGES l).setOn .EVT_LINE_LEVEL l true).deliver l t).emit _

theorem riseLine (h : d.RunsFabric e) (l : Nat) : d.RunsFabric (e.riseLine l) := by
  unfold Device.riseLine
  dsimp only
  split
  · exact ite ((h.setLine l _).bump .EVT_LINE_SUPPRESSED l) (h.accept l _)
  · exact h.accept l _

theorem fallLine (h : d.RunsFabric e) (l : Nat) : d.RunsFabric (e.fallLine l) := (h.setLine l _).setOn .EVT_LINE_LEVEL l false

theorem followLevel (h : d.RunsFabric e) (l code : Nat) : d.RunsFabric (e.followLevel l code) := ite (h.riseLine l) (ite (h.fallLine l) h)

theorem followCell (h : d.RunsFabric e) (pulse : Bool) (c : Nat) : d.RunsFabric (e.followCell pulse c) := by
  have hp (b : Prop) [Decidable b] (filter : Nat) : d.RunsFabric (if b then e.pulsePasses filter else (true, e)).2 := by
    unfold pulsePasses
    split_ifs
    · exact h
    · exact h.fresh 2
    · exact h
    · exact h
  exact ((hp _ _).setCell c _).setOn .EVT_CELL_OUT c _

theorem settleRounds (h : d.RunsFabric e) (pulse : Bool) (n : Nat) : d.RunsFabric (settleRounds pulse n e) := by
  induction n generalizing e with
  | zero => exact h
  | succ n ih => exact ih (foldl (fun c h => h.followCell pulse c) _ (foldl (fun x h => h.followLevel x.1 x.2) _ h))

theorem settle (h : d.RunsFabric e) : d.RunsFabric e.settle := ite h (h.settleRounds false 33)

theorem pulse (h : d.RunsFabric e) (code : Nat) : d.RunsFabric (e.pulse code) := by
  unfold Device.pulse
  extract_lets ls e1 e2 e3
  have h1 : d.RunsFabric e1 := foldl (fun l h => h.riseLine l) ls h
  have h3 : d.RunsFabric e3 := foldl (fun l h => h.fallLine l) ls (h1.settleRounds true 33)
  exact ite h (h3.settleRounds false 33)

end Device.RunsFabric

namespace Device

/-! ## Pulses and the fabric's settling, field by field -/

theorem rest_pulse (d : Device) (c : Nat) : (d.pulse c).offFabric = d.offFabric := ((RunsFabric.refl d).pulse c).rest

theorem rest_settle (d : Device) : d.settle.offFabric = d.offFabric := (RunsFabric.refl d).settle.rest

theorem outs_pulse (d : Device) (c : Nat) : d.outs ⊆ (d.pulse c).outs := ((RunsFabric.refl d).pulse c).outs

@[simp] theorem pos_pulse (d : Device) (c : Nat) : (d.pulse c).pos = d.pos := by
  show (d.pulse c).offFabric.pos = d.offFabric.pos
  rw [rest_pulse]

@[simp] theorem emus_pulse (d : Device) (c : Nat) : (d.pulse c).emus = d.emus := by
  show (d.pulse c).offFabric.emus = d.offFabric.emus
  rw [rest_pulse]

@[simp] theorem emu_pulse (d : Device) (c e : Nat) : (d.pulse c).emu e = d.emu e := by
  unfold emu
  rw [emus_pulse]

@[simp] theorem dram_pulse (d : Device) (c : Nat) : (d.pulse c).dram = d.dram := by
  show (d.pulse c).offFabric.dram = d.offFabric.dram
  rw [rest_pulse]

@[simp] theorem pos_settle (d : Device) : d.settle.pos = d.pos := by
  show d.settle.offFabric.pos = d.offFabric.pos
  rw [rest_settle]

@[simp] theorem dram_settle (d : Device) : d.settle.dram = d.dram := by
  show d.settle.offFabric.dram = d.offFabric.dram
  rw [rest_settle]

theorem num_pulse (d : Device) (c : Nat) {r : Reg} (hr : r ∉ fabricRegs) (i : Nat) : (d.pulse c).num r i = d.num r i :=
  ((ChangesOnly.refl (keys := []) d).pulse c).num r i hr List.not_mem_nil

theorem num_settle (d : Device) {r : Reg} (hr : r ∉ fabricRegs) (i : Nat) : d.settle.num r i = d.num r i :=
  (ChangesOnly.refl (keys := []) d).settle.num r i hr List.not_mem_nil

end Device

end Sys2Proof.Machine
end

section
/-!
PROOF. What the position interface does at an illegal transition and when a source fails (R131 to R134).
-/
namespace Sys2Proof.Machine

namespace Device

/-! ## The pieces of the position interface -/

@[simp] theorem pos_modPos (d : Device) (f : Pos → Pos) : (d.modPos f).pos = f d.pos := rfl

@[simp] theorem num_modPos (d : Device) (f : Pos → Pos) (r : Reg) (i : Nat) : (d.modPos f).num r i = d.num r i := rfl

@[simp] theorem num_modSource (d : Device) (s : Nat) (f : Source → Source) (r : Reg) (i : Nat) : (d.modSource s f).num r i = d.num r i := rfl

@[simp] theorem num_modEmu (d : Device) (e : Nat) (f : Emu → Emu) (r : Reg) (i : Nat) : (d.modEmu e f).num r i = d.num r i := rfl

theorem source_modSource (d : Device) {s : Nat} (hs : s < 3) (f : Source → Source) : (d.modSource s f).source s = f (d.source s) :=
  getD_modTab_same 3 ({} : Source) d.pos.srcs s f hs

theorem emu_modEmu (d : Device) {e : Nat} (he : e < 4) (f : Emu → Emu) : (d.modEmu e f).emu e = f (d.emu e) := getD_modTab_same 4 ({} : Emu) d.emus e f he

/-- An interface that has had a source does not pick one (R132). -/
theorem ensureActive_picked {d : Device} (h : d.num .POS_QUALITY 0 ≠ 0) : d.ensureActive = d := if_neg h

namespace ChangesOnly

variable {regs : List Reg} {keys : List (Reg × Nat)} {d e : Device}

theorem modPos (h : d.ChangesOnly regs keys e) (f : Pos → Pos) : d.ChangesOnly regs keys (e.modPos f) := h.beside rfl

theorem modSource (h : d.ChangesOnly regs keys e) (s : Nat) (f : Source → Source) : d.ChangesOnly regs keys (e.modSource s f) := h.beside rfl

theorem modEmu (h : d.ChangesOnly regs keys e) (k : Nat) (f : Emu → Emu) : d.ChangesOnly regs keys (e.modEmu k f) := h.beside rfl

theorem setQuality (h : d.ChangesOnly regs keys e) (hk : (.POS_QUALITY, 0) ∈ keys) (q t : Nat) : d.ChangesOnly regs keys (e.setQuality q t) := by
  unfold Device.setQuality
  exact (h.setAt .POS_QUALITY 0 hk q).modPos _

theorem emuCancel (h : d.ChangesOnly regs keys e) : d.ChangesOnly regs keys e.emuCancel := foldl (fun k h => h.modEmu k _) _ h

end ChangesOnly

@[simp] theorem num_setQuality (d : Device) (q t : Nat) : (d.setQuality q t).num .POS_QUALITY 0 = q % 2 ^ 8 := d.num_set_same .POS_QUALITY 0 q

theorem num_setQuality_ne (d : Device) {r : Reg} (hr : Reg.POS_QUALITY ≠ r) (q t i : Nat) : (d.setQuality q t).num r i = d.num r i := d.num_set_reg_ne i 0 q hr

@[simp] theorem pos_emuCancel (d : Device) : d.emuCancel.pos = d.pos := by
  unfold emuCancel
  generalize (List.range 4).filter (fun e => d.num .POS_EMU_SOURCE e = 3) = xs
  induction xs generalizing d with
  | nil => rfl
  | cons e xs ih => exact ih (d.modEmu e _)

/-! ## Failure of the active source (R132 to R134) -/

/-- The device as another source takes over from the active one, without the event (R132, R134). -/
def takenOver (d : Device) (b t : Nat) : Device :=
  ((d.bump .POS_FAILOVERS 0).setQuality 2 t).modPos (fun x => { x with active := some b, usable := 0, hold := 2 })

/-- The device as the interface begins to coast (R136): nothing is active. -/
def coasting (d : Device) (t : Nat) : Device :=
  ((d.setQuality 3 t).modPos
    (fun x => { x with active := none, coastP := d.posAt t, coastT := t, coastNum := x.vNum, coastDen := x.vDen, coastStep := d.stepNow, usable := 0 })).emuCancel

theorem sourceGone_eq (d : Device) (t : Nat) :
    d.sourceGone t = if d.usableSource (d.num .POS_SRC_BACKUP 0) && d.pos.active ≠ some (d.num .POS_SRC_BACKUP 0)
      then (d.takenOver (d.num .POS_SRC_BACKUP 0) t).pulse 0x004 else d.coasting t := rfl

theorem failSource_active {d : Device} {s : Nat} (ha : d.pos.active = some s) (t : Nat) : d.failSource s t = (d.set .POS_ENC_STATE s 2).sourceGone t := if_pos ha

/-- The live objects that change as source `s` fails. -/
def failKeys (s : Nat) : List (Reg × Nat) := [(.POS_ENC_STATE, s), (.POS_QUALITY, 0), (.POS_FAILOVERS, 0)]

theorem changesOnly_failSource (d : Device) (s t : Nat) : d.ChangesOnly fabricRegs (failKeys s) (d.failSource s t) := by
  have h : d.ChangesOnly fabricRegs (failKeys s) (d.set .POS_ENC_STATE s 2) := (ChangesOnly.refl d).setAt _ _ (by simp [failKeys]) 2
  unfold failSource
  extract_lets e
  split
  · rw [sourceGone_eq]
    split
    · exact (((h.bumpAt .POS_FAILOVERS 0 (by simp [failKeys])).setQuality (by simp [failKeys]) 2 t).modPos _).pulse _
    · exact ((h.setQuality (by simp [failKeys]) 3 t).modPos _).emuCancel
  · exact h

/-- A FAILED source whose usable backup is another: the backup is active (R132, R134). -/
theorem failSource_backup {d : Device} {s b : Nat} (ha : d.pos.active = some s) (hb : d.num .POS_SRC_BACKUP 0 = b) (hb3 : b < 3) (hne : b ≠ s)
    (hok : d.num .POS_ENC_STATE b ≠ 2) (t : Nat) :
    (d.failSource s t).num .POS_ENC_STATE s = 2 ∧ (d.failSource s t).pos.active = some b ∧ (d.failSource s t).num .POS_QUALITY 0 = 2 ∧
      (d.failSource s t).num .POS_FAILOVERS 0 = (d.num .POS_FAILOVERS 0 + 1) % 2 ^ 32 := by
  have hstate : (d.set .POS_ENC_STATE s 2).num .POS_ENC_STATE b = d.num .POS_ENC_STATE b := num_set_ne d (fun h => hne h.2.symm) 2
  have hb' : (d.set .POS_ENC_STATE s 2).num .POS_SRC_BACKUP 0 = b := (num_set_reg_ne d 0 s 2 (by decide)).trans hb
  have hgone : d.failSource s t = ((d.set .POS_ENC_STATE s 2).takenOver b t).pulse 0x004 := by
    rw [failSource_active ha, sourceGone_eq, hb', if_pos]
    simp [usableSource, hb3, hstate, hok, ha, Ne.symm hne]
  rw [hgone]
  refine ⟨?_, by simp [takenOver], ?_, ?_⟩
  · rw [num_pulse _ _ (by decide), takenOver, num_modPos, num_setQuality_ne _ (by decide), num_bump_reg_ne _ _ _ (by decide), num_set_same]
    rfl
  · rw [num_pulse _ _ (by decide), takenOver, num_modPos, num_setQuality]
    rfl
  · rw [num_pulse _ _ (by decide), takenOver, num_modPos, num_setQuality_ne _ (by decide), num_bump_same, num_set_reg_ne _ _ _ _ (by decide)]
    rfl

/-- A FAILED source without a backup: nothing is active and the interface coasts (R132, R134). -/
theorem failSource_coasts {d : Device} {s : Nat} (ha : d.pos.active = some s) (hb : d.num .POS_SRC_BACKUP 0 = 0xFF) (t : Nat) :
    (d.failSource s t).num .POS_ENC_STATE s = 2 ∧ (d.failSource s t).num .POS_QUALITY 0 = 3 ∧ (d.failSource s t).pos.active = none ∧
      d.ChangesOnly fabricRegs [(.POS_ENC_STATE, s), (.POS_QUALITY, 0)] (d.failSource s t) := by
  have hb' : (d.set .POS_ENC_STATE s 2).num .POS_SRC_BACKUP 0 = 0xFF := (num_set_reg_ne d 0 s 2 (by decide)).trans hb
  have hgone : d.failSource s t = (d.set .POS_ENC_STATE s 2).coasting t := by
    rw [failSource_active ha, sourceGone_eq, hb', if_neg]
    simp [usableSource]
  rw [hgone]
  have hset : (d.set .POS_ENC_STATE s 2).ChangesOnly fabricRegs [(.POS_QUALITY, 0)] ((d.set .POS_ENC_STATE s 2).setQuality 3 t) :=
    (ChangesOnly.refl _).setQuality (by simp) 3 t
  have hcoast : ((d.set .POS_ENC_STATE s 2).setQuality 3 t).ChangesOnly fabricRegs [] ((d.set .POS_ENC_STATE s 2).coasting t) :=
    ((ChangesOnly.refl _).modPos _).emuCancel
  refine ⟨?_, ?_, by simp [coasting], ?_⟩
  · rw [hcoast.num _ _ (by decide) (by simp), hset.num _ _ (by decide) (by simp), num_set_same]
    rfl
  · rw [hcoast.num _ _ (by decide) (by simp), num_setQuality]
    rfl
  · exact (((ChangesOnly.refl d).setAt .POS_ENC_STATE s (by simp) 2).trans (hset.mono (by simp))).trans (hcoast.mono (by simp))

/-! ## An illegal transition (R131) -/

/-- The device as source `s` has counted an illegal transition at `t`, before it judges the source. -/
def illegalSeen (d : Device) (s t : Nat) : Device :=
  let d := ((d.bump .POS_ERR s).pulse (0x001 + s)).modSource s (fun x => { x with run := x.run + 1 })
  if d.pos.active = some s then d.modPos (fun x => { x with boundAt := t }) else d

theorem illegalCount_eq (d : Device) (s t : Nat) :
    d.illegalCount s t = if (d.illegalSeen s t).num .POS_ENC_STATE s = 2 then d.illegalSeen s t
      else if 4 ≤ ((d.illegalSeen s t).source s).run then (d.illegalSeen s t).failSource s t else (d.illegalSeen s t).set .POS_ENC_STATE s 1 := rfl

theorem active_illegalSeen (d : Device) (s t : Nat) : (d.illegalSeen s t).pos.active = d.pos.active := by
  unfold illegalSeen
  dsimp only
  split <;> simp [modSource]

theorem run_illegalSeen (d : Device) {s : Nat} (hs : s < 3) (t : Nat) : ((d.illegalSeen s t).source s).run = (d.source s).run + 1 := by
  have hpulse : ((d.bump .POS_ERR s).pulse (0x001 + s)).source s = d.source s := by simp [source]
  have hrun := congrArg Source.run (source_modSource ((d.bump .POS_ERR s).pulse (0x001 + s)) hs (fun x => { x with run := x.run + 1 }))
  rw [hpulse] at hrun
  unfold illegalSeen
  dsimp only
  split
  · exact hrun
  · exact hrun

theorem changesOnly_illegalSeen (d : Device) (s t : Nat) : (d.bump .POS_ERR s).ChangesOnly fabricRegs [] (d.illegalSeen s t) := by
  have h := ((ChangesOnly.refl (keys := []) (d.bump .POS_ERR s)).pulse (0x001 + s)).modSource s (fun x => { x with run := x.run + 1 })
  unfold illegalSeen
  dsimp only
  split
  · exact h.modPos _
  · exact h

/-- An illegal transition counts, and beside its own count changes only what a failing source changes. -/
theorem illegalCount_spec (d : Device) (s t : Nat) :
    (d.illegalCount s t).num .POS_ERR s = (d.num .POS_ERR s + 1) % 2 ^ 32 ∧ d.ChangesOnly fabricRegs ((.POS_ERR, s) :: failKeys s) (d.illegalCount s t) := by
  have hjudge : (d.illegalSeen s t).ChangesOnly fabricRegs (failKeys s) (d.illegalCount s t) := by
    rw [illegalCount_eq]
    split_ifs
    · exact .refl _
    · exact changesOnly_failSource _ s t
    · exact (ChangesOnly.refl _).setAt _ s (by simp [failKeys]) 1
  have hall := ((d.changesOnly_illegalSeen s t).mono (List.nil_subset _)).trans hjudge
  refine ⟨(hall.num .POS_ERR s (by decide) (by simp [failKeys])).trans (num_bump_same d .POS_ERR s), ?_⟩
  exact ((ChangesOnly.refl d).bumpAt .POS_ERR s (by simp)).trans (hall.mono (List.subset_cons_self _ _))

section
variable {d : Device} {s : Nat} (hs : s < 3) (hok : d.num .POS_ENC_STATE s ≠ 2)
include hok

theorem state_illegalSeen (t : Nat) : ¬ (d.illegalSeen s t).num .POS_ENC_STATE s = 2 := by
  rwa [(d.changesOnly_illegalSeen s t).num .POS_ENC_STATE s (by decide) (by simp), num_bump_reg_ne _ _ _ (by decide)]

include hs

/-- One of the first three illegal transitions in a row makes the source suspect (R131, R132). -/
theorem illegalCount_early (hrun : (d.source s).run < 3) (t : Nat) :
    (d.illegalCount s t).num .POS_ENC_STATE s = 1 ∧ ((d.illegalCount s t).source s).run = (d.source s).run + 1 ∧
      d.ChangesOnly fabricRegs [(.POS_ERR, s), (.POS_ENC_STATE, s)] (d.illegalCount s t) := by
  have hrun' := d.run_illegalSeen hs t
  have hbump : d.ChangesOnly fabricRegs [(.POS_ERR, s), (.POS_ENC_STATE, s)] (d.bump .POS_ERR s) := (ChangesOnly.refl d).bumpAt _ s (by simp)
  rw [illegalCount_eq, if_neg (state_illegalSeen hok t), if_neg (by omega)]
  exact ⟨num_set_same _ .POS_ENC_STATE s 1, hrun', (hbump.trans ((d.changesOnly_illegalSeen s t).mono (List.nil_subset _))).setAt _ s (by simp) 1⟩

/-- The fourth illegal transition in a row fails the source, and without a backup the interface coasts (R132, R134). -/
theorem illegalCount_fourth (hrun : (d.source s).run = 3) (ha : d.pos.active = some s) (hb : d.num .POS_SRC_BACKUP 0 = 0xFF) (t : Nat) :
    (d.illegalCount s t).num .POS_ENC_STATE s = 2 ∧ (d.illegalCount s t).num .POS_QUALITY 0 = 3 ∧ (d.illegalCount s t).pos.active = none ∧
      d.ChangesOnly fabricRegs [(.POS_ERR, s), (.POS_ENC_STATE, s), (.POS_QUALITY, 0)] (d.illegalCount s t) := by
  have hseen := d.changesOnly_illegalSeen s t
  have hb' : (d.illegalSeen s t).num .POS_SRC_BACKUP 0 = 0xFF := by rwa [hseen.num _ _ (by decide) (by simp), num_bump_reg_ne _ _ _ (by decide)]
  rw [illegalCount_eq, if_neg (state_illegalSeen hok t), if_pos (by rw [d.run_illegalSeen hs t, hrun])]
  obtain ⟨hst, hq, hact, hch⟩ := failSource_coasts ((d.active_illegalSeen s t).trans ha) hb' t
  have hbump : d.ChangesOnly fabricRegs [(.POS_ERR, s), (.POS_ENC_STATE, s), (.POS_QUALITY, 0)] (d.bump .POS_ERR s) := (ChangesOnly.refl d).bumpAt _ s (by simp)
  exact ⟨hst, hq, hact, (hbump.trans (hseen.mono (List.nil_subset _))).trans (hch.mono (List.subset_cons_self _ _))⟩

end

end Device

end Sys2Proof.Machine
end

section
/-!
PROOF. What a legal count of the active source does (R135, R137, R138), and what the emulation outputs change as they follow counts (R141, R142).
-/
namespace Sys2Proof.Machine

/-- The live objects that change as the emulation outputs follow a count. -/
def emuKeys : List (Reg × Nat) := (List.range 4).flatMap (fun e => [(.POS_EMU_BACKLOG, e), (.POS_EMU_DROPS, e)])

theorem mem_emuKeys {e : Nat} (he : e < 4) : (Reg.POS_EMU_BACKLOG, e) ∈ emuKeys ∧ (Reg.POS_EMU_DROPS, e) ∈ emuKeys := by
  simp [emuKeys, he]

theorem not_mem_emuKeys {r : Reg} (h1 : r ≠ .POS_EMU_BACKLOG) (h2 : r ≠ .POS_EMU_DROPS) (i : Nat) : (r, i) ∉ emuKeys := by
  simp [emuKeys, h1, h2]

/-- From `d` to `e` only the emulation outputs have followed counts. -/
structure Device.Emulates (d e : Device) : Prop where
  changes : d.ChangesOnly fabricRegs emuKeys e
  pos : e.pos = d.pos
  dram : e.dram = d.dram

namespace Device.Emulates

variable {d e : Device}

theorem refl (d : Device) : d.Emulates d := ⟨.refl d, rfl, rfl⟩

theorem modEmu (h : d.Emulates e) (k : Nat) (f : Emu → Emu) : d.Emulates (e.modEmu k f) := ⟨h.changes.modEmu k f, h.pos, h.dram⟩

theorem emuEmit (h : d.Emulates e) {k : Nat} (hk : k < 4) (fwd : Bool) (t : Nat) : d.Emulates (emuEmit k fwd t e) := by
  obtain ⟨hb, hd⟩ := mem_emuKeys hk
  unfold Device.emuEmit
  split
  · exact ⟨(h.changes.bumpAt .POS_EMU_DROPS k hd).pulse 0x00F, (pos_pulse _ _).trans h.pos, (dram_pulse _ _).trans h.dram⟩
  · exact ⟨(h.changes.modEmu k _).setAt .POS_EMU_BACKLOG k hb _, h.pos, h.dram⟩

theorem emuEmits (h : d.Emulates e) {k : Nat} (hk : k < 4) (fwd : Bool) (t n : Nat) : d.Emulates (emuEmits k fwd t n e) := by
  induction n generalizing e with
  | zero => exact h
  | succ n ih => exact ih (h.emuEmit hk fwd t)

theorem emuDue (h : d.Emulates e) {k : Nat} (hk : k < 4) (t : Nat) : d.Emulates (e.emuDue k t) := by
  unfold Device.emuDue
  split
  · split
    · exact (h.emuEmit hk true _).modEmu k _
    · exact h
  · exact h

theorem emuCount (h : d.Emulates e) {k : Nat} (hk : k < 4) (fwd : Bool) (t : Nat) (dt : Option Nat) : d.Emulates (emuCount k fwd t dt e) := by
  have hdue := (h.emuDue hk t).modEmu k (fun x => { x with sched := none })
  unfold Device.emuCount
  split
  · exact h
  · dsimp only
    split
    · exact (hdue.emuEmits hk true t _).modEmu k _
    · split
      · exact (hdue.emuEmits hk false t _).modEmu k _
      · exact hdue.modEmu k _

end Device.Emulates

namespace Device

theorem emulates_emuSource (d : Device) (src : Nat) (fwd : Bool) (t : Nat) (dt : Option Nat) : d.Emulates (d.emuSource src fwd t dt) := by
  unfold emuSource
  have hlt : ∀ e ∈ (List.range 4).filter (fun e => d.num .POS_EMU_SOURCE e = src), e < 4 := fun e he => List.mem_range.mp (List.mem_filter.mp he).1
  generalize (List.range 4).filter (fun e => d.num .POS_EMU_SOURCE e = src) = xs at hlt
  suffices h : ∀ e, d.Emulates e → d.Emulates (xs.foldl (fun d e => emuCount e fwd t dt d) e) from h d (.refl d)
  induction xs with
  | nil => exact fun _ h => h
  | cons x xs ih => exact fun e h => ih (fun y hy => hlt y (List.mem_cons_of_mem _ hy)) _ (h.emuCount (hlt x List.mem_cons_self) fwd t dt)

/-! ## A legal count of a source (R129, R131) -/

/-- The live objects that change as source `s` counts, before its count moves the counter. -/
def rawKeys (s : Nat) : List (Reg × Nat) := (.POS_ENC_RAW, s) :: (.POS_ENC_STATE, s) :: emuKeys

/-- The device as source `s` has counted in a direction, before the count moves the counter. -/
def rawCounted (d : Device) (s : Nat) (fwd : Bool) (t : Nat) : Device :=
  let d := (d.setI .POS_ENC_RAW s ((d.num .POS_ENC_RAW s : Int) + if fwd then 1 else -1)).modSource s (fun x => { x with run := 0, stamps := (t :: x.stamps).take 2 })
  let d := if d.num .POS_ENC_STATE s = 1 then d.set .POS_ENC_STATE s 0 else d
  d.emuSource s fwd t (lastInterval (d.source s).stamps)

/-- A source that counts: its own count, and, beside objects that follow the count, nothing but its entry of the position interface. -/
theorem rawCounted_spec (d : Device) {s : Nat} (hs : s < 3) (fwd : Bool) (t : Nat) :
    (d.rawCounted s fwd t).num .POS_ENC_RAW s = ofSigned 32 ((d.num .POS_ENC_RAW s : Int) + if fwd then 1 else -1) ∧
      d.ChangesOnly fabricRegs (rawKeys s) (d.rawCounted s fwd t) ∧ (d.rawCounted s fwd t).pos.active = d.pos.active ∧
      ((d.rawCounted s fwd t).source s).code = (d.source s).code ∧ (d.rawCounted s fwd t).dram = d.dram := by
  unfold rawCounted
  extract_lets e1 e2
  have hcode : (e1.source s).code = (d.source s).code := by
    simp only [e1, source_modSource _ hs]
    rfl
  have h1 : d.ChangesOnly fabricRegs [(.POS_ENC_RAW, s)] e1 := ((ChangesOnly.refl d).setIAt .POS_ENC_RAW s (by simp) _).modSource s _
  have hraw : e1.num .POS_ENC_RAW s = ofSigned 32 ((d.num .POS_ENC_RAW s : Int) + if fwd then 1 else -1) := num_setI_same d .POS_ENC_RAW s _
  have h2 : e1.ChangesOnly fabricRegs [(.POS_ENC_STATE, s)] e2 := .ite ((ChangesOnly.refl e1).setAt .POS_ENC_STATE s (by simp) 0) (.refl e1)
  have hpos : e2.pos = e1.pos := by
    show (if e1.num .POS_ENC_STATE s = 1 then e1.set .POS_ENC_STATE s 0 else e1).pos = e1.pos
    split <;> rfl
  have hdram : e2.dram = e1.dram := by
    show (if e1.num .POS_ENC_STATE s = 1 then e1.set .POS_ENC_STATE s 0 else e1).dram = e1.dram
    split <;> rfl
  obtain ⟨h3, hpos3, hdram3⟩ := e2.emulates_emuSource s fwd t (lastInterval (e2.source s).stamps)
  generalize e2.emuSource s fwd t (lastInterval (e2.source s).stamps) = e3 at h3 hpos3 hdram3
  refine ⟨?_, ?_, ?_, ?_, ?_⟩
  · rw [h3.num _ _ (by decide) (not_mem_emuKeys (by decide) (by decide) s), h2.num _ _ (by decide) (by simp), hraw]
  · exact ((h1.mono (by simp [rawKeys])).trans (h2.mono (by simp [rawKeys]))).trans (h3.mono (fun _ hk => List.mem_cons_of_mem _ (List.mem_cons_of_mem _ hk)))
  · rw [hpos3, hpos]
    rfl
  · rw [source, hpos3, hpos]
    exact hcode
  · rw [hdram3, hdram]
    rfl

theorem legalCount_active {d : Device} {s : Nat} (hs : s < 3) (ha : d.pos.active = some s) (f : Bool) (t : Nat) :
    d.legalCount s f t = (d.rawCounted s (f != d.on .POS_ENC_INVERT s) t).activeCount s (f != d.on .POS_ENC_INVERT s) t := by
  obtain ⟨-, -, hact, -, -⟩ := d.rawCounted_spec hs (f != d.on .POS_ENC_INVERT s) t
  exact if_pos (hact.trans ha)

/-! ## The counter moves (R135, R137, R138) -/

/-- The device as a count has turned the direction and moved the counter to `p` at `t`. -/
def moved (d : Device) (fwd : Bool) (p t : Nat) : Device := (((d.turn fwd).2.set .POS_POSITION 0 p).set .POS_TIME 0 t).setOn .POS_STOPPED 0 false

theorem setOn_modPos (d : Device) (f : Pos → Pos) (r : Reg) (i : Nat) (b : Bool) : (d.modPos f).setOn r i b = (d.setOn r i b).modPos f := rfl

theorem pushCount_eq (d : Device) (p t usable : Nat) :
    ∃ f : Pos → Pos, (∀ x, (f x).srcs = x.srcs) ∧ d.pushCount p t usable = ((d.set .POS_POSITION 0 p).set .POS_TIME 0 t).modPos f := by
  unfold pushCount
  refine ⟨_, ?_, rfl⟩
  exact fun _ => rfl

theorem speedFrom_eq (d : Device) (i : Nat) : ∃ f : Pos → Pos, (∀ x, (f x).srcs = x.srcs) ∧ d.speedFrom i = d.modPos f := by
  unfold speedFrom
  split
  · split
    · exact ⟨id, fun _ => rfl, rfl⟩
    · refine ⟨_, ?_, rfl⟩
      exact fun _ => rfl
  · exact ⟨id, fun _ => rfl, rfl⟩

/-- The new value of the counter after a count of source `s` (R135). -/
def stepped (d : Device) (s : Nat) (fwd : Bool) : Nat :=
  if fwd then (d.num .POS_POSITION 0 + d.num .POS_ENC_STEP s) % 2 ^ 64 else ofSigned 64 ((d.num .POS_POSITION 0 : Int) - d.num .POS_ENC_STEP s)

/-- A count of the active source moves the counter; what it then does to the position interface leaves the sources alone. -/
theorem activeCount_eq (d : Device) (s : Nat) (fwd : Bool) (t : Nat) :
    ∃ (f : Pos → Pos) (dt : Option Nat), (∀ x, (f x).srcs = x.srcs) ∧
      d.activeCount s fwd t = (((d.moved fwd (d.stepped s fwd) t).modPos f).emuSource 3 fwd t dt).settle := by
  unfold activeCount moved
  obtain ⟨turned, d1⟩ := d.turn fwd
  dsimp -zeta only
  extract_lets step p p' d2 stopped d3 d4 i d5 d6
  have hpush : ∃ g : Pos → Pos, (∀ x, (g x).srcs = x.srcs) ∧
      d3 = (((d1.set .POS_POSITION 0 (d.stepped s fwd)).set .POS_TIME 0 t).setOn .POS_STOPPED 0 false).modPos g := by
    obtain ⟨g, hg, hpush⟩ := d1.pushCount_eq p' t (if turned then 2 else d1.pos.usable + 1)
    exact ⟨g, hg, (congrArg (fun e => e.setOn .POS_STOPPED 0 false) hpush).trans (setOn_modPos _ _ _ _ _)⟩
  have hspeed : ∃ f : Pos → Pos, (∀ x, (f x).srcs = x.srcs) ∧ d5 = d3.modPos f := by
    obtain ⟨f, hf, hd⟩ := d4.speedFrom_eq i
    unfold d5
    split
    · refine ⟨_, ?_, rfl⟩
      exact fun _ => rfl
    · exact ⟨_, fun x => hf { x with hold := 0 }, hd⟩
  obtain ⟨g, hg, hd3⟩ := hpush
  obtain ⟨f, hf, hd5⟩ := hspeed
  have hd6 : d6 = ((((d1.set .POS_POSITION 0 (d.stepped s fwd)).set .POS_TIME 0 t).setOn .POS_STOPPED 0 false).modPos
      (fun x => { f (g x) with stamps := (t :: (f (g x)).stamps).take 2 })) := by
    unfold d6
    rw [hd5, hd3]
    rfl
  exact ⟨fun x => { f (g x) with stamps := (t :: (f (g x)).stamps).take 2 }, lastInterval d6.pos.stamps, fun x => (hf (g x)).trans (hg x), congrArg (fun e => (e.emuSource 3 fwd t (lastInterval d6.pos.stamps)).settle) hd6⟩

theorem turn_dir (d : Device) (fwd : Bool) :
    (d.turn fwd).2.num .POS_DIR 0 = (if fwd then 0 else if d.num .POS_DIR 0 = 0 then 1 else d.num .POS_DIR 0) := by
  have hturned (v : Nat) : (((d.set .POS_DIR 0 v).bump .POS_DIR_CHANGES 0).pulse 0x006).num .POS_DIR 0 = v % 2 ^ 8 := by
    rw [num_pulse _ _ (by decide), num_bump_reg_ne _ _ _ (by decide), num_set_same]
    rfl
  by_cases h : d.num .POS_DIR 0 = 0
  · cases fwd <;> simp [turn, h, hturned, b2n]
  · cases fwd <;> simp [turn, h, hturned, b2n]

/-- The live objects that change as a count moves the counter. -/
def moveKeys : List (Reg × Nat) := [(.POS_POSITION, 0), (.POS_TIME, 0), (.POS_DIR, 0), (.POS_DIR_CHANGES, 0), (.POS_STOPPED, 0)]

theorem changesOnly_turn (d : Device) (fwd : Bool) : d.ChangesOnly fabricRegs moveKeys (d.turn fwd).2 := by
  unfold turn
  dsimp only
  split
  · exact (((ChangesOnly.refl d).setAt .POS_DIR 0 (by decide) _).bumpAt .POS_DIR_CHANGES 0 (by decide)).pulse _
  · exact .refl d

theorem pos_turn (d : Device) (fwd : Bool) : (d.turn fwd).2.pos = d.pos := by
  unfold turn
  dsimp only
  split
  · rw [pos_pulse]
    rfl
  · rfl

theorem dram_turn (d : Device) (fwd : Bool) : (d.turn fwd).2.dram = d.dram := by
  unfold turn
  dsimp only
  split
  · rw [dram_pulse]
    rfl
  · rfl

/-- A count that moves the counter: its value, its time, the direction, the end of a stop, and nothing beside (R135, R137). -/
theorem moved_spec (d : Device) (fwd : Bool) (p : Nat) {t : Nat} (ht : t < 2 ^ 64) :
    (d.moved fwd p t).num .POS_POSITION 0 = p % 2 ^ 64 ∧ (d.moved fwd p t).num .POS_TIME 0 = t ∧
      (d.moved fwd p t).num .POS_DIR 0 = (if fwd then 0 else if d.num .POS_DIR 0 = 0 then 1 else d.num .POS_DIR 0) ∧
      (d.moved fwd p t).num .POS_STOPPED 0 = 0 ∧ d.ChangesOnly fabricRegs moveKeys (d.moved fwd p t) := by
  unfold moved
  refine ⟨?_, ?_, ?_, ?_, ?_⟩
  · rw [num_setOn_reg_ne _ _ _ _ (by decide), num_set_reg_ne _ _ _ _ (by decide), num_set_same]
    rfl
  · rw [num_setOn_reg_ne _ _ _ _ (by decide), num_set_same]
    exact Nat.mod_eq_of_lt ht
  · rw [num_setOn_reg_ne _ _ _ _ (by decide), num_set_reg_ne _ _ _ _ (by decide), num_set_reg_ne _ _ _ _ (by decide), turn_dir]
  · rw [num_setOn_same]
    rfl
  · exact (((d.changesOnly_turn fwd).setAt .POS_POSITION 0 (by decide) p).setAt .POS_TIME 0 (by decide) t).put _ (.inr (by decide))

theorem stepped_lt (d : Device) (s : Nat) (fwd : Bool) : d.stepped s fwd < 2 ^ 64 := by
  unfold stepped ofSigned
  split <;> omega

/-- What a legal count of the active source changes of the position interface (R135, R137, R138). -/
theorem activeCount_spec (d : Device) (s : Nat) (fwd : Bool) {t : Nat} (ht : t < 2 ^ 64) :
    let e := d.activeCount s fwd t
    e.num .POS_POSITION 0 = d.stepped s fwd ∧ e.num .POS_TIME 0 = t ∧
      e.num .POS_DIR 0 = (if fwd then 0 else if d.num .POS_DIR 0 = 0 then 1 else d.num .POS_DIR 0) ∧
      e.num .POS_STOPPED 0 = 0 ∧ d.ChangesOnly fabricRegs (moveKeys ++ emuKeys) e ∧ e.pos.srcs = d.pos.srcs ∧ e.dram = d.dram := by
  obtain ⟨f, dt, hf, heq⟩ := d.activeCount_eq s fwd t
  obtain ⟨hp, htime, hdir, hstop, hmoved⟩ := d.moved_spec fwd (d.stepped s fwd) ht
  have hpos : (d.moved fwd (d.stepped s fwd) t).pos = d.pos := d.pos_turn fwd
  have hdram : (d.moved fwd (d.stepped s fwd) t).dram = d.dram := d.dram_turn fwd
  rw [Nat.mod_eq_of_lt (d.stepped_lt s fwd)] at hp
  rw [heq]
  generalize d.moved fwd (d.stepped s fwd) t = m at *
  obtain ⟨hemu, hpos', hdram'⟩ := (m.modPos f).emulates_emuSource 3 fwd t dt
  have hrest : m.ChangesOnly fabricRegs emuKeys ((m.modPos f).emuSource 3 fwd t dt).settle := (((ChangesOnly.refl m).modPos f).trans hemu).settle
  have hnum {r : Reg} (hr : r ∉ fabricRegs ∧ r ≠ .POS_EMU_BACKLOG ∧ r ≠ .POS_EMU_DROPS) (i : Nat) := hrest.num r i hr.1 (not_mem_emuKeys hr.2.1 hr.2.2 i)
  refine ⟨(hnum (by decide) 0).trans hp, (hnum (by decide) 0).trans htime, (hnum (by decide) 0).trans hdir, (hnum (by decide) 0).trans hstop, ?_, ?_, ?_⟩
  · exact (hmoved.mono (List.subset_append_left _ _)).trans (hrest.mono (List.subset_append_right _ _))
  · rw [pos_settle, hpos', pos_modPos, hf, hpos]
  · rw [dram_settle, hdram']
    exact hdram

/-- From `d` to `e` the active source `s` has counted in a direction at `t` (R129, R135, R137). -/
structure Counts (d : Device) (s : Nat) (fwd : Bool) (t : Nat) (e : Device) : Prop where
  position : e.num .POS_POSITION 0 = d.stepped s fwd
  time : e.num .POS_TIME 0 = t
  dir : e.num .POS_DIR 0 = (if fwd then 0 else if d.num .POS_DIR 0 = 0 then 1 else d.num .POS_DIR 0)
  stopped : e.num .POS_STOPPED 0 = 0
  raw : e.num .POS_ENC_RAW s = ofSigned 32 ((d.num .POS_ENC_RAW s : Int) + if fwd then 1 else -1)
  code : (e.source s).code = (d.source s).code
  changes : d.ChangesOnly fabricRegs (moveKeys ++ rawKeys s) e
  dram : e.dram = d.dram

theorem legalCount_counts {d : Device} {s t : Nat} (hs : s < 3) (ht : t < 2 ^ 64) (ha : d.pos.active = some s) (f : Bool) :
    d.Counts s (f != d.on .POS_ENC_INVERT s) t (d.legalCount s f t) := by
  rw [legalCount_active hs ha]
  generalize (f != d.on .POS_ENC_INVERT s) = fwd
  obtain ⟨hraw, hch, -, hcode, hdram⟩ := d.rawCounted_spec hs fwd t
  generalize d.rawCounted s fwd t = m at *
  obtain ⟨hp, htime, hdir, hstop, hmove, hsrcs, hdram'⟩ := m.activeCount_spec s fwd ht
  have hnum {r : Reg} (hr : r ∉ fabricRegs ∧ r ≠ .POS_ENC_RAW ∧ r ≠ .POS_ENC_STATE ∧ r ≠ .POS_EMU_BACKLOG ∧ r ≠ .POS_EMU_DROPS) (i : Nat) : m.num r i = d.num r i := by
    obtain ⟨hfab, h1, h2, h3, h4⟩ := hr
    exact hch.num r i hfab (by simp [rawKeys, h1, h2, not_mem_emuKeys h3 h4])
  have hstep : m.stepped s fwd = d.stepped s fwd := by rw [stepped, stepped, hnum (by decide), hnum (by decide)]
  refine ⟨hp.trans hstep, htime, ?_, hstop, ?_, ?_, ?_, hdram'.trans hdram⟩
  · rw [hdir, hnum (by decide)]
  · rw [hmove.num _ _ (by decide) (by simp [moveKeys, not_mem_emuKeys]), hraw]
  · rw [source, hsrcs]
    exact hcode
  · refine (hch.mono (List.subset_append_right _ _)).trans (hmove.mono (List.append_subset.mpr ⟨List.subset_append_left _ _, fun _ hk => ?_⟩))
    exact List.mem_append_right _ (List.mem_cons_of_mem _ (List.mem_cons_of_mem _ hk))

end Device

end Sys2Proof.Machine
end

section
/-!
PROOF. The obligations on encoder levels, on the Hall triplet and on emulated counts.
-/
namespace Sys2Proof.Machine

namespace Device

/-- The device as accepted levels of source `s` have become its decoder's state (R128). -/
def levelsTaken (d : Device) (s code : Nat) : Device := d.begin.modSource s (fun x => { x with code := some code })

theorem num_levelsTaken (d : Device) (s b : Nat) (r : Reg) (i : Nat) : (d.levelsTaken s b).num r i = d.num r i := rfl

theorem active_levelsTaken (d : Device) (s b : Nat) : (d.levelsTaken s b).pos.active = d.pos.active := rfl

theorem code_levelsTaken (d : Device) {s : Nat} (hs : s < 3) (b : Nat) : ((d.levelsTaken s b).source s).code = some b := by
  rw [levelsTaken, source_modSource _ hs]

theorem run_levelsTaken (d : Device) {s : Nat} (hs : s < 3) (b : Nat) : ((d.levelsTaken s b).source s).run = (d.source s).run := by
  rw [levelsTaken, source_modSource _ hs]
  rfl

theorem changesOnly_levelsTaken (d : Device) (s b : Nat) (regs : List Reg) (keys : List (Reg × Nat)) : d.begin.ChangesOnly regs keys (d.levelsTaken s b) :=
  (ChangesOnly.refl d.begin).modSource s _

/-- Levels that a source has had before are judged as its transition (R129 to R131). -/
theorem positionEdge_judged {d : Device} {s a : Nat} (hq : d.num .POS_QUALITY 0 ≠ 0) (hc : (d.source s).code = some a) (b t : Nat) :
    (∀ f, transition s a b = .legal f → d.begin.positionEdge s b t = (d.levelsTaken s b).legalCount s f t) ∧
      (transition s a b = .illegal → d.begin.positionEdge s b t = (d.levelsTaken s b).illegalCount s t) := by
  have hc' : (d.begin.source s).code = some a := hc
  unfold positionEdge levelsTaken
  rw [ensureActive_picked (d := d.begin) hq]
  dsimp only
  rw [hc']
  exact ⟨fun f h => by simp only [h], fun h => by simp only [h]⟩

end Device

/-- What a command makes of the device, as the next state has it. -/
theorem exec_device {c : Instr} {s : State} {d : Device} (h : exec c s = .next { s with dev := d }) : ∃ t, exec c s = .next t ∧ t.dev = d := ⟨_, h, rfl⟩

section
variable {s : State} {src a b t0 : Nat} (hw : WF.positionEdge src b t0 = true) (hq : s.dev.num .POS_QUALITY 0 ≠ 0) (hc : (s.dev.source src).code = some a)
include hw

theorem wf_positionEdge : src < 3 ∧ t0 < 2 ^ 64 := by
  simp only [WF.positionEdge, WF.bits, Bool.and_eq_true, decide_eq_true_eq] at hw
  exact ⟨hw.1.1, hw.2⟩

include hq hc

theorem exec_positionEdge_legal {f : Bool} (ht : transition src a b = .legal f) :
    ∃ t, exec (.positionEdge src b t0) s = .next t ∧ t.dev = (s.dev.levelsTaken src b).legalCount src f t0 := by
  refine exec_device ?_
  rw [exec_run (c := .positionEdge src b t0) (show execPositionEdge src b t0 s = _ from rfl) hw, (Device.positionEdge_judged hq hc b t0).1 f ht]

theorem exec_positionEdge_illegal (ht : transition src a b = .illegal) :
    ∃ t, exec (.positionEdge src b t0) s = .next t ∧ t.dev = (s.dev.levelsTaken src b).illegalCount src t0 := by
  refine exec_device ?_
  rw [exec_run (c := .positionEdge src b t0) (show execPositionEdge src b t0 s = _ from rfl) hw, (Device.positionEdge_judged hq hc b t0).2 ht]

/-- A legal transition of the active source (R129, R135, R137). -/
theorem positionEdge_legal (ha : s.dev.pos.active = some src) {f : Bool} (ht : transition src a b = .legal f) :
    ∃ t, exec (.positionEdge src b t0) s = .next t ∧ (s.dev.levelsTaken src b).Counts src (f != s.dev.on .POS_ENC_INVERT src) t0 t.dev := by
  obtain ⟨hsrc, ht0⟩ := wf_positionEdge hw
  have hinv : (s.dev.levelsTaken src b).on .POS_ENC_INVERT src = s.dev.on .POS_ENC_INVERT src := rfl
  have hcounts := Device.legalCount_counts hsrc ht0 ((s.dev.active_levelsTaken src b).trans ha) f
  rw [hinv] at hcounts
  obtain ⟨t, hexec, hdev⟩ := exec_positionEdge_legal hw hq hc ht
  exact ⟨t, hexec, hdev ▸ hcounts⟩

/-- An illegal transition counts and is no count of the source (R131). -/
theorem positionEdge_illegal (ht : transition src a b = .illegal) :
    ∃ t, exec (.positionEdge src b t0) s = .next t ∧ t.dev.num .POS_ERR src = (s.dev.num .POS_ERR src + 1) % 2 ^ 32 ∧
      t.dev.num .POS_ENC_RAW src = s.dev.num .POS_ENC_RAW src := by
  obtain ⟨herr, hch⟩ := (s.dev.levelsTaken src b).illegalCount_spec src t0
  have hraw := hch.num .POS_ENC_RAW src (by decide) (by simp [Device.failKeys])
  rw [Device.num_levelsTaken] at herr hraw
  obtain ⟨t, hexec, hdev⟩ := exec_positionEdge_illegal hw hq hc ht
  refine ⟨t, hexec, ?_⟩
  rw [hdev]
  exact ⟨herr, hraw⟩

section
variable (ht : transition src a b = .illegal) (hok : s.dev.num .POS_ENC_STATE src ≠ 2)
include ht hok

/-- One of the first three illegal transitions in a row (R131). -/
theorem positionEdge_suspect (hrun : (s.dev.source src).run < 3) :
    ∃ t, exec (.positionEdge src b t0) s = .next t ∧ t.dev.num .POS_ERR src = (s.dev.num .POS_ERR src + 1) % 2 ^ 32 ∧ t.dev.num .POS_ENC_STATE src = 1 ∧
      (t.dev.source src).run = (s.dev.source src).run + 1 ∧ s.dev.keepsBeside t.dev [(.POS_ERR, src), (.POS_ENC_STATE, src)] := by
  obtain ⟨hsrc, -⟩ := wf_positionEdge hw
  obtain ⟨herr, -⟩ := (s.dev.levelsTaken src b).illegalCount_spec src t0
  rw [← s.dev.run_levelsTaken hsrc b] at hrun ⊢
  rw [← s.dev.num_levelsTaken src b] at hok
  rw [Device.num_levelsTaken] at herr
  obtain ⟨hst, hrun', hch⟩ := Device.illegalCount_early hsrc hok hrun t0
  obtain ⟨t, hexec, hdev⟩ := exec_positionEdge_illegal hw hq hc ht
  refine ⟨t, hexec, ?_⟩
  rw [hdev]
  exact ⟨herr, hst, hrun', keepsBeside_of_changesOnly ((s.dev.changesOnly_levelsTaken src b _ _).trans hch)⟩

/-- The fourth illegal transition in a row of the active source, without a backup (R132). -/
theorem positionEdge_fails (hrun : (s.dev.source src).run = 3) (ha : s.dev.pos.active = some src) (hb : s.dev.num .POS_SRC_BACKUP 0 = 0xFF) :
    ∃ t, exec (.positionEdge src b t0) s = .next t ∧ t.dev.num .POS_ERR src = (s.dev.num .POS_ERR src + 1) % 2 ^ 32 ∧ t.dev.num .POS_ENC_STATE src = 2 ∧
      t.dev.num .POS_QUALITY 0 = 3 ∧ t.dev.pos.active = none ∧ s.dev.keepsBeside t.dev [(.POS_ERR, src), (.POS_ENC_STATE, src), (.POS_QUALITY, 0)] := by
  obtain ⟨hsrc, -⟩ := wf_positionEdge hw
  obtain ⟨herr, -⟩ := (s.dev.levelsTaken src b).illegalCount_spec src t0
  rw [← s.dev.run_levelsTaken hsrc b] at hrun
  rw [← s.dev.num_levelsTaken src b] at hok hb
  rw [← s.dev.active_levelsTaken src b] at ha
  rw [Device.num_levelsTaken] at herr
  obtain ⟨hst, hq', hact, hch⟩ := Device.illegalCount_fourth hsrc hok hrun ha hb t0
  obtain ⟨t, hexec, hdev⟩ := exec_positionEdge_illegal hw hq hc ht
  refine ⟨t, hexec, ?_⟩
  rw [hdev]
  exact ⟨herr, hst, hq', hact, keepsBeside_of_changesOnly ((s.dev.changesOnly_levelsTaken src b _ _).trans hch)⟩

end

end

/-! ## Emulated counts (R141, R142) -/

namespace Device

theorem emuDue_spec {d : Device} {e ts : Nat} (he : e < 4) (hts : (d.emu e).sched = some ts) (hlen : (d.emu e).backlog.length < 65535) :
    ((d.emuDue e ts).emu e).backlog = (d.emu e).backlog ++ [(true, ts)] ∧ ((d.emuDue e ts).emu e).sched = none ∧
      ((d.emuDue e ts).emu e).a = (d.emu e).a - d.num .POS_EMU_M e ∧ (d.emuDue e ts).num .POS_EMU_BACKLOG e = (d.emu e).backlog.length + 1 ∧
      d.ChangesOnly [] [(.POS_EMU_BACKLOG, e)] (d.emuDue e ts) := by
  have hroom : ¬ 65535 ≤ (d.emu e).backlog.length := by omega
  unfold emuDue
  rw [hts]
  dsimp only
  rw [if_pos (Nat.le_refl ts), emuEmit, if_neg hroom]
  dsimp only
  have hadd := d.emu_modEmu he (fun x => { x with backlog := x.backlog ++ [(true, ts)] })
  have hch := (ChangesOnly.refl (regs := []) (keys := [(.POS_EMU_BACKLOG, e)]) d).modEmu e (fun x => { x with backlog := x.backlog ++ [(true, ts)] })
  have hm : (d.modEmu e (fun x => { x with backlog := x.backlog ++ [(true, ts)] })).num .POS_EMU_M e = d.num .POS_EMU_M e := rfl
  generalize d.modEmu e (fun x => { x with backlog := x.backlog ++ [(true, ts)] }) = d1 at *
  have hlast : (d1.emu e).backlog.length = (d.emu e).backlog.length + 1 := by simp [hadd]
  have hset : (d1.set .POS_EMU_BACKLOG e (d1.emu e).backlog.length).emu e = d1.emu e := rfl
  have hm' := d1.num_set_reg_ne e e (d1.emu e).backlog.length (show Reg.POS_EMU_BACKLOG ≠ Reg.POS_EMU_M by decide)
  have hch' := (hch.setAt .POS_EMU_BACKLOG e (by simp) (d1.emu e).backlog.length).modEmu e
    (fun x => { x with a := x.a - (d1.set .POS_EMU_BACKLOG e (d1.emu e).backlog.length).num .POS_EMU_M e, sched := none })
  refine ⟨?_, ?_, ?_, ?_, hch'⟩
  · rw [emu_modEmu _ he, hset, hadd]
  · rw [emu_modEmu _ he]
  · rw [emu_modEmu _ he, hset, hm', hm, hadd]
  · rw [num_modEmu, num_set_same, hlast]
    exact Nat.mod_eq_of_lt (show _ < 2 ^ 16 by omega)

/-- What the pins show is the output's own affair: the counts that wait stay as they are. -/
theorem emuShow_eq (d : Device) (e : Nat) (fwd z : Bool) (t : Nat) : ∃ f : Emu → Emu, (∀ x, (f x).backlog = x.backlog) ∧ d.emuShow e fwd z t = d.modEmu e f := by
  unfold emuShow
  split
  · refine ⟨_, ?_, rfl⟩
    exact fun _ => rfl
  · split
    · refine ⟨_, ?_, rfl⟩
      exact fun _ => rfl
    · refine ⟨_, ?_, rfl⟩
      exact fun _ => rfl

/-- The device as a count has reached the pins of its output, with or without a Z pulse, before the event pulses (R142). -/
def pinned (d : Device) (e : Nat) (fwd z : Bool) (n : Nat) (rest : List (Bool × Nat)) : Device :=
  let d := (d.modEmu e (fun x => { x with backlog := rest, zCount := n })).emuShow e fwd z d.now
  let d := (d.set .POS_EMU_BACKLOG e rest.length).bump .POS_EMU_OUT e
  if d.on .POS_EMU_ENABLE e then d.emit (.emu e fwd z) else d

theorem pinned_spec (d : Device) {e : Nat} (he : e < 4) (fwd z : Bool) (n : Nat) (rest : List (Bool × Nat)) :
    ((d.pinned e fwd z n rest).emu e).backlog = rest ∧ (d.pinned e fwd z n rest).num .POS_EMU_OUT e = (d.num .POS_EMU_OUT e + 1) % 2 ^ 32 ∧
      d.ChangesOnly fabricRegs [(.POS_EMU_BACKLOG, e), (.POS_EMU_OUT, e)] (d.pinned e fwd z n rest) ∧
      (d.num .POS_EMU_ENABLE e = 1 → Out.emu e fwd z ∈ (d.pinned e fwd z n rest).outs) := by
  unfold pinned
  obtain ⟨f, hf, hshow⟩ := emuShow_eq (d.modEmu e (fun x => { x with backlog := rest, zCount := n })) e fwd z d.now
  rw [hshow]
  extract_lets d1 d2
  have h1 : d.ChangesOnly fabricRegs [(.POS_EMU_BACKLOG, e), (.POS_EMU_OUT, e)] d1 := ((ChangesOnly.refl d).modEmu e _).modEmu e f
  have hbacklog : (d1.emu e).backlog = rest := by
    unfold d1
    rw [emu_modEmu _ he, hf, emu_modEmu _ he]
  have hout1 : d1.num .POS_EMU_OUT e = d.num .POS_EMU_OUT e := rfl
  have hon1 : d1.num .POS_EMU_ENABLE e = d.num .POS_EMU_ENABLE e := rfl
  clear_value d1
  have h2 : d.ChangesOnly fabricRegs [(.POS_EMU_BACKLOG, e), (.POS_EMU_OUT, e)] d2 := (h1.setAt .POS_EMU_BACKLOG e (by simp) _).bumpAt .POS_EMU_OUT e (by simp)
  have hemu : d2.emu e = d1.emu e := rfl
  have hout2 : d2.num .POS_EMU_OUT e = (d.num .POS_EMU_OUT e + 1) % 2 ^ 32 := by
    rw [← hout1, ← num_set_reg_ne d1 (r' := .POS_EMU_BACKLOG) e e rest.length (by decide)]
    exact num_bump_same _ .POS_EMU_OUT e
  have hon2 : d2.num .POS_EMU_ENABLE e = d.num .POS_EMU_ENABLE e := h2.num _ _ (by decide) (by simp)
  clear_value d2
  split
  · exact ⟨by rw [← hbacklog, ← hemu]; rfl, hout2, h2.emit _, fun _ => List.mem_append_right _ (by simp)⟩
  · next hoff =>
    refine ⟨by rw [hemu, hbacklog], hout2, h2, fun hen => absurd ?_ hoff⟩
    rw [on, hon2, hen]
    rfl

end Device

section
variable {s : State} {e : Nat} (he : e < 4)
include he

/-- A scheduled count joins those that wait for the pins of its output (R141). -/
theorem emuScheduledEmit_spec {ts : Nat} (hts : (s.dev.emu e).sched = some ts) (hlen : (s.dev.emu e).backlog.length < 65535) :
    ∃ t, exec (.emuScheduledEmit e) s = .next t ∧ (t.dev.emu e).backlog = (s.dev.emu e).backlog ++ [(true, ts)] ∧ (t.dev.emu e).sched = none ∧
      (t.dev.emu e).a = (s.dev.emu e).a - s.dev.num .POS_EMU_M e ∧ t.dev.num .POS_EMU_BACKLOG e = (s.dev.emu e).backlog.length + 1 ∧
      s.dev.keeps t.dev [(.POS_EMU_BACKLOG, e)] := by
  have hts' : (s.dev.begin.emu e).sched = some ts := hts
  have hexec := exec_run (c := .emuScheduledEmit e) (show execEmuScheduledEmit e s = _ from rfl) (decide_eq_true he)
  rw [hts'] at hexec
  obtain ⟨t, hgo, hdev⟩ := exec_device hexec
  obtain ⟨hb, hsched, ha, hnum, hch⟩ := Device.emuDue_spec he hts' hlen
  refine ⟨t, hgo, ?_⟩
  rw [hdev]
  exact ⟨hb, hsched, ha, hnum, keeps_of_changesOnly hch⟩

/-- The oldest count waiting reaches the pins (R142). -/
theorem emuPinEmit_spec {f : Bool} {ts : Nat} {rest : List (Bool × Nat)} (hb : (s.dev.emu e).backlog = (f, ts) :: rest) :
    ∃ t, exec (.emuPinEmit e) s = .next t ∧ (t.dev.emu e).backlog = rest ∧ t.dev.num .POS_EMU_OUT e = (s.dev.num .POS_EMU_OUT e + 1) % 2 ^ 32 ∧
      s.dev.keepsBeside t.dev [(.POS_EMU_BACKLOG, e), (.POS_EMU_OUT, e)] ∧ (s.dev.num .POS_EMU_ENABLE e = 1 → ∃ z, Out.emu e f z ∈ t.dev.outs) := by
  have hb' : (s.dev.begin.emu e).backlog = (f, ts) :: rest := hb
  have hexec := exec_run (c := .emuPinEmit e) (show execEmuPinEmit e s = _ from rfl) (decide_eq_true he)
  rw [hb'] at hexec
  obtain ⟨t, hgo, hdev⟩ := exec_device hexec
  have hpin : ∃ z n, t.dev = (s.dev.begin.pinned e f z n rest).pulse (0x00B + e) := ⟨_, _, hdev⟩
  clear hdev
  obtain ⟨z, n, hdev⟩ := hpin
  obtain ⟨hbacklog, hout, hch, hsent⟩ := s.dev.begin.pinned_spec he f z n rest
  refine ⟨t, hgo, ?_⟩
  rw [hdev, Device.num_pulse _ _ (by decide), Device.emu_pulse]
  exact ⟨hbacklog, hout, keepsBeside_of_changesOnly (hch.pulse _), fun hen => ⟨z, Device.outs_pulse _ _ (hsent hen)⟩⟩

end

/-- Settles O26: each transition of the active source by the lemma about it, then the emission of a scheduled count and the count that reaches the pins. -/
theorem encodersAndTheirEmulation : Obligations.EncodersAndTheirEmulation := by
  unfold Obligations.EncodersAndTheirEmulation
  refine ⟨fun s src a b t0 hw hq hc ha => ⟨fun f ht => ?_, fun ht hrun hok => positionEdge_suspect hw hq hc ht hok hrun,
    fun ht hrun hok hb => positionEdge_fails hw hq hc ht hok hrun ha hb⟩,
    fun s e he => ⟨fun ts hts hlen => emuScheduledEmit_spec he hts hlen, fun f ts rest hb => emuPinEmit_spec he hb⟩⟩
  obtain ⟨hsrc, -⟩ := wf_positionEdge hw
  obtain ⟨t, hexec, hcounts⟩ := positionEdge_legal hw hq hc ha ht
  have hch := (s.dev.changesOnly_levelsTaken src b fabricRegs (Device.moveKeys ++ Device.rawKeys src)).trans hcounts.changes
  exact ⟨t, hexec, hcounts.position, hcounts.time, hcounts.dir, hcounts.stopped, hcounts.raw, hcounts.code.trans (s.dev.code_levelsTaken hsrc b),
    keepsBeside_of_changesOnly hch, hcounts.dram, hch.staged⟩

/-! ## The Hall triplet (R130) -/

/-- The forward sequence of the Hall codes. -/
def hallSequence : List Nat := [1, 3, 2, 6, 4, 5]

theorem transition_hall_forward : ∀ i < 6, transition 2 (hallSequence.getD i 0) (hallSequence.getD ((i + 1) % 6) 0) = .legal true := by decide

theorem transition_hall_reverse : ∀ i < 6, transition 2 (hallSequence.getD i 0) (hallSequence.getD ((i + 5) % 6) 0) = .legal false := by decide

theorem transition_hall_invalid : ∀ i < 6, ∀ b, b = 0 ∨ b = 7 → transition 2 (hallSequence.getD i 0) b = .illegal := by
  rintro i hi b (rfl | rfl)
  · revert i
    decide
  · revert i
    decide

theorem hallSequence_lt : ∀ i < 6, hallSequence.getD i 0 < 8 := by decide

theorem wf_hallEdge {b t0 : Nat} (hb : b < 8) (ht : t0 < 2 ^ 64) : WF.positionEdge 2 b t0 = true := by
  simp only [WF.positionEdge, WF.bits, Bool.and_eq_true, decide_eq_true_eq]
  exact ⟨⟨by decide, hb⟩, ht⟩

/-- Settles O60: each neighbour in the sequence is a legal transition and each invalid code an illegal one, and the lemmas about those say what counts. -/
theorem hallTripletCounts : Obligations.HallTripletCounts := by
  unfold Obligations.HallTripletCounts
  intro s t0 ht hq ha raw i a hi hia hc
  subst hia
  refine ⟨?_, ?_, fun b hb => ?_⟩
  · obtain ⟨t, hexec, hcounts⟩ := positionEdge_legal (wf_hallEdge (hallSequence_lt _ (Nat.mod_lt _ (by decide))) ht) hq hc ha (transition_hall_forward i hi)
    refine ⟨t, hexec, hcounts.raw.trans ?_⟩
    cases s.dev.on .POS_ENC_INVERT 2 <;> rfl
  · obtain ⟨t, hexec, hcounts⟩ := positionEdge_legal (wf_hallEdge (hallSequence_lt _ (Nat.mod_lt _ (by decide))) ht) hq hc ha (transition_hall_reverse i hi)
    refine ⟨t, hexec, hcounts.raw.trans ?_⟩
    cases s.dev.on .POS_ENC_INVERT 2 <;> rfl
  · obtain ⟨t, hexec, herr, hraw⟩ := positionEdge_illegal (wf_hallEdge (by omega) ht) hq hc (transition_hall_invalid i hi b hb)
    exact ⟨t, hexec, hraw, herr⟩

end Sys2Proof.Machine
end

section
/-!
PROOF. The obligation on the failure of the position sources (R132 to R134), the end of coasting, the stop (R138) and the index pulse (R139).
-/
namespace Sys2Proof.Machine

/-! ## A broken pair (R132) -/

theorem encFailsafeDetect_backup {s : State} {src b : Nat} (hsrc : src < 2) (hb3 : b < 3) (hne : b ≠ src) (hq : s.dev.num .POS_QUALITY 0 ≠ 0)
    (hok : s.dev.num .POS_ENC_STATE src ≠ 2) (ha : s.dev.pos.active = some src) (hb : s.dev.num .POS_SRC_BACKUP 0 = b) (hbok : s.dev.num .POS_ENC_STATE b ≠ 2) :
    ∃ t, exec (.encFailsafeDetect src) s = .next t ∧ t.dev.num .POS_ENC_STATE src = 2 ∧ t.dev.pos.active = some b ∧ t.dev.num .POS_QUALITY 0 = 2 ∧
      t.dev.num .POS_FAILOVERS 0 = (s.dev.num .POS_FAILOVERS 0 + 1) % 2 ^ 32 ∧ s.dev.keepsBeside t.dev [(.POS_ENC_STATE, src), (.POS_QUALITY, 0), (.POS_FAILOVERS, 0)] := by
  have hexec := exec_run (c := .encFailsafeDetect src) (show execEncFailsafeDetect src s = _ from rfl) (decide_eq_true hsrc)
  dsimp only at hexec
  rw [Device.ensureActive_picked (d := s.dev.begin) hq, if_neg (show ¬ s.dev.begin.num .POS_ENC_STATE src = 2 from hok)] at hexec
  obtain ⟨t, hgo, hdev⟩ := exec_device hexec
  obtain ⟨hst, hact, hqual, hover⟩ := Device.failSource_backup (d := s.dev.begin) ha hb hb3 hne hbok s.dev.begin.now
  refine ⟨t, hgo, ?_⟩
  rw [hdev]
  exact ⟨hst, hact, hqual, hover, keepsBeside_of_changesOnly (Device.changesOnly_failSource _ src _)⟩

/-! ## POS_REARM (R133) -/

namespace Device

/-- A FAILED source that is re-armed is OK, with no illegal transition behind it. -/
theorem rearm_spec {d : Device} {s : Nat} (hs : s < 3) (hst : d.num .POS_ENC_STATE s = 2) :
    (d.rearm s).num .POS_ENC_STATE s = 0 ∧ ((d.rearm s).source s).run = 0 ∧ d.ChangesOnly [] [(.POS_ENC_STATE, s)] (d.rearm s) ∧ (d.rearm s).outs = d.outs := by
  unfold rearm
  rw [if_pos hst]
  extract_lets e prim back
  have hnum : e.num .POS_ENC_STATE s = 0 := num_set_same d .POS_ENC_STATE s 0
  have hrun : (e.source s).run = 0 := by
    unfold e
    rw [source_modSource _ hs]
  have hch : d.ChangesOnly [] [(.POS_ENC_STATE, s)] e := ((ChangesOnly.refl d).setAt .POS_ENC_STATE s (by simp) 0).modSource s _
  have houts : e.outs = d.outs := rfl
  clear_value e
  split
  · exact ⟨hnum, hrun, hch.modPos _, houts⟩
  · exact ⟨hnum, hrun, hch, houts⟩

/-- What the object table says of POS_REARM: a command of the device of one byte, for which each source is in range. -/
theorem posRearm_row : plain .POS_REARM 0 = true ∧ (Reg.row .POS_REARM).ty.size = some 1 ∧ Key.scope ⟨.POS_REARM, 0⟩ = .device ∧
    (Reg.row .POS_REARM).acc.unwritable = false ∧ ∀ src < 3, numInRange ⟨.POS_REARM, 0⟩ src = true := by decide +kernel

end Device

theorem posRearm_failed {s : State} {session src : Nat} (hn : session < 1024) (hsrc : src < 3) (hr : s.dev.Reaches session) (hh : s.dev.heldNow = false)
    (hst : s.dev.num .POS_ENC_STATE src = 2) :
    ∃ t, exec (.posRearm session src) s = .next t ∧ t.dev.num .POS_ENC_STATE src = 0 ∧ (t.dev.source src).run = 0 ∧ s.dev.keeps t.dev [(.POS_ENC_STATE, src)] ∧
      t.dev.outs = [.result 0] := by
  obtain ⟨hplain, hsize, hscope, hclass, hrange⟩ := Device.posRearm_row
  have hspec (j : Journal) := Device.rearm_spec (d := { s.dev.asked session with jrn := j }) hsrc hst
  have hwf : WF.posRearm session src = true := by simp [WF.posRearm, WF.session, WF.bits, hn]; omega
  obtain ⟨j, y, hcmd⟩ := Device.command_effect (d := s.dev.asked session) (n := session) (r := .POS_REARM) (i := 0) (x := src) (f := fun d => d.rearm src)
    hplain hsize (by simp [Identity.present, hscope]) ⟨Nat.le_refl session, hr.2⟩ hh (by simp [Device.classRefused, hclass]) (by omega) (hrange src hsrc)
    (fun _ => rfl) (fun j => (hspec j).2.2.1.resetDue)
  have hexec := exec_runAs (c := .posRearm session src) hn hr (show execPosRearm session src s = _ from rfl) hwf
  rw [hcmd] at hexec
  obtain ⟨t, hgo, hdev⟩ := exec_device hexec
  obtain ⟨hnum, hrun, hch, houts⟩ := hspec j
  have hasked : s.dev.begin.ChangesOnly [] [(.POS_ENC_STATE, src)] { s.dev.asked session with jrn := j } := (Device.ChangesOnly.refl _).beside rfl
  have hall := hasked.trans hch
  generalize Device.rearm { s.dev.asked session with jrn := j } src = e at *
  refine ⟨t, hgo, ?_⟩
  rw [hdev]
  exact ⟨hnum, hrun, keeps_of_changesOnly (hall.beside rfl), congrArg (fun os => os ++ [Out.result 0]) houts⟩

/-! ## The end of coasting and the stop (R134, R138) -/

theorem coastEnd_spec {s : State} (hq : s.dev.num .POS_QUALITY 0 = 3) :
    ∃ t, exec .coastEnd s = .next t ∧ t.dev.num .POS_QUALITY 0 = 4 ∧ t.dev.pos.vNum = 0 ∧
      t.dev.num .POS_POSITION 0 = s.dev.posAt (s.dev.pos.coastT + 1000000 * s.dev.num .POS_COAST_MS 0) % 2 ^ 64 ∧
      s.dev.keepsBeside t.dev [(.POS_QUALITY, 0), (.POS_POSITION, 0), (.POS_TIME, 0)] := by
  have hexec := exec_run (c := .coastEnd) (s := s) (show execCoastEnd s = _ from rfl) rfl
  rw [if_pos (show s.dev.begin.num .POS_QUALITY 0 = 3 from hq)] at hexec
  obtain ⟨t, hgo, hdev⟩ := exec_device hexec
  dsimp only at hdev
  have hp : s.dev.begin.posAt (s.dev.begin.pos.coastT + 1000000 * s.dev.begin.num .POS_COAST_MS 0) =
    s.dev.posAt (s.dev.pos.coastT + 1000000 * s.dev.num .POS_COAST_MS 0) := rfl
  rw [hp] at hdev
  generalize s.dev.posAt (s.dev.pos.coastT + 1000000 * s.dev.num .POS_COAST_MS 0) = p at *
  refine ⟨t, hgo, ?_⟩
  rw [hdev, Device.num_pulse _ _ (by decide), Device.num_pulse _ _ (by decide), Device.pos_pulse, Device.num_modPos, Device.num_modPos, Device.num_setQuality,
    Device.num_setQuality_ne _ (by decide), Device.num_set_same]
  have hset := (Device.ChangesOnly.refl (regs := fabricRegs) (keys := [(.POS_QUALITY, 0), (.POS_POSITION, 0), (.POS_TIME, 0)]) s.dev.begin).setAt .POS_POSITION 0 (by simp) p
  exact ⟨rfl, rfl, rfl, keepsBeside_of_changesOnly (((hset.setQuality (by simp) 4 _).modPos _).pulse 0x005)⟩

theorem speedStop_coasting {s : State} (hq : s.dev.num .POS_QUALITY 0 = 3) : exec .speedStop s = .next { s with dev := s.dev.begin } := by
  have hexec := exec_run (c := .speedStop) (s := s) (show execSpeedStop s = _ from rfl) rfl
  have hc : (s.dev.begin.on .POS_STOPPED 0 || decide (s.dev.begin.num .POS_QUALITY 0 = 3)) = true := by
    rw [show s.dev.begin.num .POS_QUALITY 0 = 3 from hq]
    simp
  rwa [if_pos hc] at hexec

theorem speedStop_spec {s : State} (hst : s.dev.num .POS_STOPPED 0 = 0) (hq : s.dev.num .POS_QUALITY 0 ≠ 3) :
    ∃ t, exec .speedStop s = .next t ∧ t.dev.num .POS_STOPPED 0 = 1 ∧ t.dev.pos.vNum = 0 ∧ s.dev.keepsBeside t.dev [(.POS_STOPPED, 0)] := by
  have hexec := exec_run (c := .speedStop) (s := s) (show execSpeedStop s = _ from rfl) rfl
  have hc : ¬ (s.dev.begin.on .POS_STOPPED 0 || decide (s.dev.begin.num .POS_QUALITY 0 = 3)) = true := by
    have hst' : s.dev.begin.num .POS_STOPPED 0 = 0 := hst
    have hq' : s.dev.begin.num .POS_QUALITY 0 ≠ 3 := hq
    simp [Device.on, hst', hq']
  rw [if_neg hc] at hexec
  obtain ⟨t, hgo, hdev⟩ := exec_device hexec
  have hch := ((Device.ChangesOnly.refl (regs := fabricRegs) (keys := [(.POS_STOPPED, 0)]) s.dev.begin).modPos (fun x => { x with vNum := 0, vDen := 0 })).put
    (.num (b2n true % 2 ^ 1)) (r := .POS_STOPPED) (i := 0) (.inr (by simp))
  refine ⟨t, hgo, ?_⟩
  rw [hdev, Device.num_settle _ (by decide), Device.num_pulse _ _ (by decide), Device.pos_settle, Device.pos_pulse, Device.num_setOn_same]
  exact ⟨rfl, rfl, keepsBeside_of_changesOnly (hch.pulse 0x007).settle⟩

/-! ## The index pulse (R139) -/

theorem indexPulse_spec {s : State} {src t0 : Nat} (hw : WF.indexPulse src t0 = true) (hm : s.dev.num .POS_ENC_Z_MODE src = 1) :
    ∃ t, exec (.indexPulse src t0) s = .next t ∧ t.dev.num .POS_Z_POS src = s.dev.posAt t0 % 2 ^ 64 ∧ t.dev.num .POS_Z_TIME src = t0 ∧
      t.dev.num .POS_Z_COUNT src = (s.dev.num .POS_Z_COUNT src + 1) % 2 ^ 32 ∧ s.dev.keepsBeside t.dev [(.POS_Z_POS, src), (.POS_Z_TIME, src), (.POS_Z_COUNT, src)] := by
  have ht0 : t0 < 2 ^ 64 := by
    simp only [WF.indexPulse, WF.bits, Bool.and_eq_true, decide_eq_true_eq] at hw
    exact hw.2
  have hm' : s.dev.begin.num .POS_ENC_Z_MODE src = 1 := hm
  have hexec := exec_run (c := .indexPulse src t0) (show execIndexPulse src t0 s = _ from rfl) hw
  dsimp only at hexec
  rw [hm', if_neg (by decide)] at hexec
  simp only [show decide (1 = 2) = false from rfl, Bool.false_and] at hexec
  rw [if_neg (by decide)] at hexec
  obtain ⟨t, hgo, hdev⟩ := exec_device hexec
  refine ⟨t, hgo, ?_⟩
  have hp : s.dev.begin.posAt t0 = s.dev.posAt t0 := rfl
  have hcnt : s.dev.begin.num .POS_Z_COUNT src = s.dev.num .POS_Z_COUNT src := rfl
  have hch := (((Device.ChangesOnly.refl (regs := fabricRegs) (keys := [(.POS_Z_POS, src), (.POS_Z_TIME, src), (.POS_Z_COUNT, src)]) s.dev.begin).setAt .POS_Z_POS src
    (by simp) (s.dev.begin.posAt t0)).setAt .POS_Z_TIME src (by simp) t0).bumpAt .POS_Z_COUNT src (by simp)
  rw [hdev]
  refine ⟨?_, ?_, ?_, keepsBeside_of_changesOnly ((hch.modSource src _).pulse (0x008 + src))⟩
  · rw [Device.num_pulse _ _ (by decide), Device.num_modSource, Device.num_bump_reg_ne _ _ _ (by decide), Device.num_set_reg_ne _ _ _ _ (by decide), Device.num_set_same, hp]
    rfl
  · rw [Device.num_pulse _ _ (by decide), Device.num_modSource, Device.num_bump_reg_ne _ _ _ (by decide), Device.num_set_same]
    exact Nat.mod_eq_of_lt ht0
  · rw [Device.num_pulse _ _ (by decide), Device.num_modSource, Device.num_bump_same, Device.num_set_reg_ne _ _ _ _ (by decide), Device.num_set_reg_ne _ _ _ _ (by decide), hcnt]
    rfl

/-- Settles O27: each command by the lemma about it. -/
theorem positionSourcesFail : Obligations.PositionSourcesFail := by
  unfold Obligations.PositionSourcesFail
  intro s
  refine ⟨?_, ?_, coastEnd_spec, speedStop_coasting, speedStop_spec, ?_⟩
  · exact fun src b hsrc hb3 hne hq hok ha hb hbok => encFailsafeDetect_backup hsrc hb3 hne hq hok ha hb hbok
  · exact fun session src hn hsrc hr hh hst => posRearm_failed hn hsrc hr hh hst
  · exact fun src t0 hw hm => indexPulse_spec hw hm

end Sys2Proof.Machine
end

section
/-!
PROOF. What a message over the fold leaves alone as it is sent (R411, R414, R416): every object but the count of lost messages, and everything outside the links, the
lanes and the fold's own numbers.
-/
namespace Sys2Proof.Machine

/-- A device without what a message over the fold works on: the live objects, the links and lanes it leaves on, the fold's numbers and what is sent. -/
def Device.offFold (d : Device) : Device := { d with live := [], links := [], lanes := [], fold := {}, outs := [] }

/-- From `d` to `e` only messages have been sent over the fold: at most FLD_LOST counts. -/
structure Device.SendsFold (d e : Device) : Prop where
  changes : d.ChangesOnly [.FLD_LOST] [] e
  rest : e.offFold = d.offFold

namespace Device

theorem offFold_stamped (d : Device) (k : Nat) (p : TxPacket) : (d.stamped k p).offFold = d.offFold := by
  unfold stamped
  split <;> rfl

theorem offFold_transmit (d : Device) (k vc : Nat) (p : TxPacket) : (d.transmit k vc p).offFold = d.offFold := by
  cases hl : d.txLane k with
  | none => simp [transmit, hl]
  | some l =>
    rw [transmit_eq hl, ← d.offFold_stamped k p]
    rfl

theorem offFold_pumpVc (d : Device) (k vc n : Nat) : (pumpVc k vc n d).offFold = d.offFold := by
  induction n generalizing d with
  | zero => rfl
  | succ n ih =>
    unfold pumpVc
    split
    · rfl
    · exact (ih _).trans (d.offFold_transmit k vc _)

theorem offFold_pump (d : Device) (k : Nat) : (d.pump k).offFold = d.offFold := by
  unfold pump
  generalize List.range 4 = vcs
  induction vcs generalizing d with
  | nil => rfl
  | cons vc vcs ih => exact (ih _).trans (d.offFold_pumpVc k vc _)

theorem offFold_sendPacket (d : Device) (k vc : Nat) (p : TxPacket) (urgent : Bool) : (d.sendPacket k vc p urgent).offFold = d.offFold := by
  unfold sendPacket
  split
  · rfl
  · exact offFold_pump _ k

namespace SendsFold

variable {d e : Device}

theorem refl (d : Device) : d.SendsFold d := ⟨.refl d, rfl⟩

theorem sendPacket (h : d.SendsFold e) (k vc : Nat) (p : TxPacket) (urgent : Bool) : d.SendsFold (e.sendPacket k vc p urgent) :=
  ⟨h.changes.transmits ((Transmits.refl e).sendPacket k vc p urgent), (e.offFold_sendPacket k vc p urgent).trans h.rest⟩

theorem lost (h : d.SendsFold e) : d.SendsFold (e.bump .FLD_LOST 0) := ⟨h.changes.bump .FLD_LOST (by decide) 0, h.rest⟩

theorem nextMseq (h : d.SendsFold e) (vc : Nat) : d.SendsFold (e.nextMseq vc).2 := ⟨h.changes.beside rfl, h.rest⟩

theorem foldSendAs (h : d.SendsFold e) (dst dt vc mseq : Nat) (body : Octets) : d.SendsFold (e.foldSendAs dst dt vc mseq body) := by
  have hway (k : Nat) (p : TxPacket) {f : Device} (h : d.SendsFold f) : d.SendsFold (if f.foldUp k then f.sendPacket k vc p else f.bump .FLD_LOST 0) := by
    split
    · exact h.sendPacket k vc p _
    · exact h.lost
  unfold Device.foldSendAs
  dsimp only
  split
  · exact hway westLink _ (hway eastLink _ h)
  · split
    · exact hway _ _ h
    · exact h.lost

theorem foldSend3 (h : d.SendsFold e) (dst dt vc : Nat) (body : Octets) : d.SendsFold (e.foldSend3 dst dt vc body) :=
  (((h.nextMseq vc).foldSendAs dst dt vc _ body).foldSendAs dst dt vc _ body).foldSendAs dst dt vc _ body

theorem gridSend (h : d.SendsFold e) (g : Nat) : d.SendsFold (e.gridSend g) := by
  unfold Device.gridSend
  split
  · exact h.foldSend3 0xFF 0x46 1 _
  · exact h

theorem gridPend (h : d.SendsFold e) : e.gridPend = d.gridPend := (congrArg Device.gridPend h.rest :)

end SendsFold

/-- A device without a fold sends no origin. -/
theorem gridSend_alone {d : Device} (h : d.inFold = false) (g : Nat) : d.gridSend g = d := by simp [gridSend, h]

end Device

end Sys2Proof.Machine
end

section
/-!
PROOF. What a new origin does to the device (R168, R169): pending on the channels that are enabled, in force at once with every channel disabled.
-/
namespace Sys2Proof.Machine

theorem ofSigned_toSigned {w n : Nat} (h : n < 2 ^ w) : ofSigned w (toSigned w n) = n := by
  have hmod : ((n : Int) % (2 ^ w : Int)).toNat = n := ofSigned_nat h
  unfold ofSigned toSigned
  rw [Nat.mod_eq_of_lt h]
  dsimp only
  split
  · rwa [Int.sub_emod_right]
  · exact hmod

theorem Store.mem_put {st : Store} {k : Key} {v dflt : Val} {e : Key × Val} (h : e ∈ st.put k v dflt) : e = (k, v) ∨ e ∈ st := by
  unfold Store.put at h
  split at h
  · exact .inr (List.mem_filter.mp h).1
  · exact Store.mem_ins h

namespace Device

/-! ## Lines without a source -/

/-- A pulse source drives nothing while no line has a source. -/
theorem pulse_unwired {d : Device} (h : d.wiredLines = []) (code : Nat) : d.pulse code = d := by simp [pulse, h]

/-- No line has a source exactly when each EVT_LINE_SRC of the live copy is one of a line of the fold. -/
theorem wiredLines_eq_nil {d : Device} : d.wiredLines = [] ↔ ∀ e ∈ d.live, e.1.reg = .EVT_LINE_SRC → d.num .EVT_LINE_OWNER e.1.inst = 1 := by
  simp [wiredLines, List.filterMap_eq_nil_iff]

theorem wiredLines_put {d : Device} {r : Reg} (hsrc : r ≠ .EVT_LINE_SRC) (hown : r ≠ .EVT_LINE_OWNER) (i : Nat) (v : Val) (h : d.wiredLines = []) :
    (d.put r i v).wiredLines = [] := by
  rw [wiredLines_eq_nil] at h ⊢
  intro e he hreg
  have howner : (d.put r i v).num .EVT_LINE_OWNER e.1.inst = d.num .EVT_LINE_OWNER e.1.inst := congrArg Val.toNat (val_put_ne d (fun hh => hown hh.1) v)
  rcases Store.mem_put he with rfl | hm
  · exact absurd hreg hsrc
  · rw [howner]
    exact h e hm hreg

/-! ## The channels and a new origin (R168, R169) -/

theorem rsOf_modRs_same (d : Device) {n : Nat} (hn : n < 16) (f : Resampler → Resampler) : (d.modRs n f).rsOf n = f (d.rsOf n) :=
  getD_modTab_same 16 ({} : Resampler) d.rs n f hn

theorem rsOf_modRs_ne (d : Device) {n m : Nat} (h : m ≠ n) (f : Resampler → Resampler) : (d.modRs n f).rsOf m = d.rsOf m :=
  getD_modTab_ne 16 ({} : Resampler) d.rs f h

/-- The device with a pending origin and its channels' resamplers. -/
def withOrigin (d : Device) (pend : Option Int) (rs : List Resampler) : Device := { d with gridPend := pend, rs := rs }

/-- The origin in force until now joins those before it. -/
def withPast (d : Device) : Device := { d with gridPast := toSigned 64 (d.num .POS_GRID_ORIGIN 0) :: d.gridPast }

theorem ChangesOnly.withOrigin {regs : List Reg} {keys : List (Reg × Nat)} {d e : Device} (h : d.ChangesOnly regs keys e) (pend : Option Int) (rs : List Resampler) :
    d.ChangesOnly regs keys (e.withOrigin pend rs) := h.beside rfl

theorem ChangesOnly.withPast {regs : List Reg} {keys : List (Reg × Nat)} {d e : Device} (h : d.ChangesOnly regs keys e) : d.ChangesOnly regs keys e.withPast := h.beside rfl

/-- An enabled channel still waits for the pending origin. -/
def waits (d : Device) (rs : List Resampler) : Bool := (List.range 16).any (fun m => d.on .CH_ENABLE m && (rs.getD m {}).pending.isSome)

theorem gridSettle_waits {d : Device} {g : Int} {rs : List Resampler} (h : d.waits rs = true) : (d.withOrigin (some g) rs).gridSettle = d.withOrigin (some g) rs :=
  if_pos h

theorem gridSettle_switched {d : Device} {g : Int} {rs : List Resampler} (h : d.waits rs = false) :
    (d.withOrigin (some g) rs).gridSettle = (d.withOrigin none rs).withPast.set .POS_GRID_ORIGIN 0 (ofSigned 64 g) :=
  if_neg (Bool.eq_false_iff.mp h)

/-- A channel meets a new origin: pending while it is enabled, its own at once while it is not. -/
def offerOrigin (g : Int) (d : Device) (n : Nat) : Device :=
  if d.on .CH_ENABLE n then d.modRs n (fun x => { x with pending := some g }) else d.modRs n (fun x => { x with origin := g, pending := none })

theorem setGrid_eq (d : Device) (g : Int) : d.setGrid g = ((List.range 16).foldl (offerOrigin g) (d.withOrigin (some g) d.rs)).gridSettle := rfl

/-- A channel that meets an origin changes the resamplers alone. -/
theorem offerOrigin_eq (g : Int) (d : Device) (n : Nat) : ∃ rs, offerOrigin g d n = d.withOrigin d.gridPend rs := by
  unfold offerOrigin
  split <;> exact ⟨_, rfl⟩

/-- An enabled channel that has met the origin, now or before, has it pending. -/
theorem pending_offerOrigin {g : Int} {d : Device} {m n : Nat} (hm : m < 16) (hon : d.on .CH_ENABLE m = true) (h : m = n ∨ (d.rsOf m).pending = some g) :
    ((offerOrigin g d n).rsOf m).pending = some g := by
  unfold offerOrigin
  by_cases hmn : m = n
  · subst hmn
    rw [if_pos hon, rsOf_modRs_same d hm]
  · have hp := h.resolve_left hmn
    split <;> rwa [rsOf_modRs_ne d hmn]

/-- Every channel of a list meets the origin. -/
theorem foldl_offerOrigin (g : Int) (ns : List Nat) (d : Device) :
    ∃ rs, ns.foldl (offerOrigin g) d = d.withOrigin d.gridPend rs ∧
      ∀ m < 16, d.on .CH_ENABLE m = true → m ∈ ns ∨ (d.rsOf m).pending = some g → (rs.getD m {}).pending = some g := by
  induction ns generalizing d with
  | nil => exact ⟨d.rs, rfl, fun m _ _ h => h.resolve_left List.not_mem_nil⟩
  | cons n ns ih =>
    have hmeets (m : Nat) (hm : m < 16) (hon : d.on .CH_ENABLE m = true) (h : m ∈ n :: ns ∨ (d.rsOf m).pending = some g) :
        m ∈ ns ∨ ((offerOrigin g d n).rsOf m).pending = some g := by
      rcases h with hmem | hp
      · exact (List.mem_cons.mp hmem).symm.imp_right (fun hmn => pending_offerOrigin hm hon (.inl hmn))
      · exact .inr (pending_offerOrigin hm hon (.inr hp))
    obtain ⟨rs, hrs, hpend⟩ := ih (offerOrigin g d n)
    obtain ⟨r, hr⟩ := offerOrigin_eq g d n
    rw [hr] at hrs hpend hmeets
    refine ⟨rs, ?_, fun m hm hon h => hpend m hm hon (hmeets m hm hon h)⟩
    rw [List.foldl_cons, hr, hrs]
    rfl

/-- With an enabled channel the origin stays pending, on that channel and for the device. -/
theorem setGrid_enabled {d : Device} {n : Nat} (hn : n < 16) (hon : d.on .CH_ENABLE n = true) (g : Int) :
    ∃ rs, d.setGrid g = d.withOrigin (some g) rs ∧ (rs.getD n {}).pending = some g := by
  obtain ⟨rs, hrs, hpend⟩ := foldl_offerOrigin g (List.range 16) (d.withOrigin (some g) d.rs)
  have hp : (rs.getD n {}).pending = some g := hpend n hn hon (.inl (List.mem_range.mpr hn))
  have hwaits : d.waits rs = true := List.any_eq_true.mpr ⟨n, List.mem_range.mpr hn, by rw [hon, hp]; rfl⟩
  refine ⟨rs, ?_, hp⟩
  rw [setGrid_eq, hrs]
  exact gridSettle_waits hwaits

/-- With every channel disabled the origin is in force at once. -/
theorem setGrid_disabled {d : Device} (hoff : ∀ n, n < 16 → d.on .CH_ENABLE n = false) (g : Int) :
    ∃ rs, d.setGrid g = (d.withOrigin none rs).withPast.set .POS_GRID_ORIGIN 0 (ofSigned 64 g) := by
  obtain ⟨rs, hrs, -⟩ := foldl_offerOrigin g (List.range 16) (d.withOrigin (some g) d.rs)
  have hnone : d.waits rs = false := List.any_eq_false.mpr fun m hm => by simp [hoff m (List.mem_range.mp hm)]
  refine ⟨rs, ?_⟩
  rw [setGrid_eq, hrs]
  exact gridSettle_switched hnone

/-! ## A position captured (R168) -/

/-- The position captured and the origin. -/
def originKeys : List (Reg × Nat) := [(.POS_GRID_ORIGIN, 0), (.POS_DECSYNC_POS, 0)]

/-- The position `g` has been captured and is the origin in force. -/
structure HoldsOrigin (d : Device) (g : Nat) : Prop where
  origin : d.num .POS_GRID_ORIGIN 0 = g
  captured : d.num .POS_DECSYNC_POS 0 = g
  settled : d.gridPend = none

theorem newOrigin_eq (d : Device) (g : Nat) : d.newOrigin g = ((d.set .POS_DECSYNC_POS 0 g).setGrid (toSigned 64 g)).gridSend g := rfl

theorem on_set_capture (d : Device) (g n : Nat) : (d.set .POS_DECSYNC_POS 0 g).on .CH_ENABLE n = d.on .CH_ENABLE n := by simp [on]

theorem captured_set {d : Device} {g : Nat} (hg : g < 2 ^ 64) : (d.set .POS_DECSYNC_POS 0 g).num .POS_DECSYNC_POS 0 = g :=
  (num_set_same d .POS_DECSYNC_POS 0 g).trans (Nat.mod_eq_of_lt hg)

/-- The device with every channel disabled, before GRID_SEND. -/
theorem setGrid_holds {d : Device} {g : Nat} (hg : g < 2 ^ 64) (hoff : ∀ n, n < 16 → d.on .CH_ENABLE n = false) :
    let e := (d.set .POS_DECSYNC_POS 0 g).setGrid (toSigned 64 g)
    e.HoldsOrigin g ∧ d.ChangesOnly [] originKeys e ∧ e.outs = d.outs ∧ e.jrn = d.jrn := by
  obtain ⟨rs, heq⟩ := setGrid_disabled (d := d.set .POS_DECSYNC_POS 0 g) (fun n hn => (d.on_set_capture g n).trans (hoff n hn)) (toSigned 64 g)
  rw [heq, ofSigned_toSigned hg]
  have hset : d.ChangesOnly [] originKeys (d.set .POS_DECSYNC_POS 0 g) := (ChangesOnly.refl d).setAt .POS_DECSYNC_POS 0 (by decide) g
  refine ⟨⟨?_, ?_, rfl⟩, (hset.withOrigin none rs).withPast.setAt .POS_GRID_ORIGIN 0 (by decide) g, rfl, rfl⟩
  · exact (num_set_same _ .POS_GRID_ORIGIN 0 g).trans (Nat.mod_eq_of_lt hg)
  · exact (num_set_reg_ne _ 0 0 g (by decide)).trans (captured_set hg)

theorem inFold_of_changesOnly {d e : Device} {regs : List Reg} {keys : List (Reg × Nat)} (h : d.ChangesOnly regs keys e) (hr : Reg.FLD_STATE ∉ regs)
    (hk : (Reg.FLD_STATE, 0) ∉ keys) : e.inFold = d.inFold := by
  unfold inFold
  rw [h.num .FLD_STATE 0 hr hk]

/-- With every channel disabled a captured position is the origin at once, in a fold or without one. -/
theorem newOrigin_holds {d : Device} {g : Nat} (hg : g < 2 ^ 64) (hoff : ∀ n, n < 16 → d.on .CH_ENABLE n = false) :
    (d.newOrigin g).HoldsOrigin g ∧ d.ChangesOnly [.FLD_LOST] originKeys (d.newOrigin g) := by
  obtain ⟨⟨horigin, hcaptured, hsettled⟩, hch, -, -⟩ := setGrid_holds hg hoff
  have hsend := (SendsFold.refl ((d.set .POS_DECSYNC_POS 0 g).setGrid (toSigned 64 g))).gridSend g
  refine ⟨⟨?_, ?_, ?_⟩, (hch.moreRegs (List.nil_subset _)).trans (hsend.changes.mono (List.nil_subset _))⟩
  · exact (hsend.changes.num .POS_GRID_ORIGIN 0 (by decide) (by decide)).trans horigin
  · exact (hsend.changes.num .POS_DECSYNC_POS 0 (by decide) (by decide)).trans hcaptured
  · exact hsend.gridPend.trans hsettled

/-- Without a fold nothing beside changes, and nothing is sent. -/
theorem newOrigin_alone {d : Device} {g : Nat} (hg : g < 2 ^ 64) (hf : d.inFold = false) (hoff : ∀ n, n < 16 → d.on .CH_ENABLE n = false) :
    (d.newOrigin g).HoldsOrigin g ∧ d.ChangesOnly [] originKeys (d.newOrigin g) ∧ (d.newOrigin g).outs = d.outs ∧ (d.newOrigin g).jrn = d.jrn := by
  obtain ⟨hholds, hch, houts, hjrn⟩ := setGrid_holds hg hoff
  have hfold := (inFold_of_changesOnly hch (by decide) (by decide)).trans hf
  rw [newOrigin_eq, gridSend_alone hfold]
  exact ⟨hholds, hch, houts, hjrn⟩

/-- With an enabled channel a captured position stays pending on it. -/
theorem newOrigin_pends {d : Device} {n : Nat} (hn : n < 16) (hon : d.on .CH_ENABLE n = true) (hf : d.inFold = false) (g : Nat) :
    (d.newOrigin g).gridPend = some (toSigned 64 g) ∧ ((d.newOrigin g).rsOf n).pending = some (toSigned 64 g) ∧
      d.ChangesOnly [] [(.POS_DECSYNC_POS, 0)] (d.newOrigin g) := by
  obtain ⟨rs, heq, hp⟩ := setGrid_enabled (d := d.set .POS_DECSYNC_POS 0 g) hn ((d.on_set_capture g n).trans hon) (toSigned 64 g)
  have hch : d.ChangesOnly [] [(.POS_DECSYNC_POS, 0)] ((d.set .POS_DECSYNC_POS 0 g).setGrid (toSigned 64 g)) := by
    rw [heq]
    exact ((ChangesOnly.refl d).setAt .POS_DECSYNC_POS 0 (by decide) g).withOrigin _ rs
  have hfold := (inFold_of_changesOnly hch (by decide) (by decide)).trans hf
  rw [newOrigin_eq, gridSend_alone hfold]
  refine ⟨?_, ?_, hch⟩
  · rw [heq]
    rfl
  · rw [heq]
    exact hp

/-- A write of POS_GRID_SET with every channel disabled, whatever the event fabric does with its event. -/
theorem gridSetWrite_holds {d : Device} {g : Nat} (hg : g < 2 ^ 64) (hoff : ∀ n, n < 16 → d.on .CH_ENABLE n = false) :
    (d.gridSetWrite g).HoldsOrigin g ∧ (d.gridSetWrite g).resetDue = d.resetDue := by
  have hpulse := (ChangesOnly.refl d (regs := fabricRegs) (keys := [])).pulse 0x012
  have hoff' (n : Nat) (hn : n < 16) : (d.pulse 0x012).on .CH_ENABLE n = false := by
    rw [on, hpulse.num .CH_ENABLE n (by decide) List.not_mem_nil]
    exact hoff n hn
  obtain ⟨hholds, hch⟩ := newOrigin_holds hg hoff'
  exact ⟨hholds, hch.resetDue.trans hpulse.resetDue⟩

theorem gridSetWrite_unwired {d : Device} (h : d.wiredLines = []) (g : Nat) : d.gridSetWrite g = d.newOrigin g := by rw [gridSetWrite, pulse_unwired h]

/-! ## An edge of DEC_SYNC (R168, R170) -/

theorem reading_lt (d : Device) (t : Nat) : d.reading t < 2 ^ 64 := Nat.mod_lt _ (by decide)

theorem reading_counted (d : Device) (t : Nat) : (d.bump .POS_DECSYNC_COUNT 0).reading t = d.reading t := by
  simp [reading, offsetNow, posAt, coastAt, along, stepNow]

theorem decSync_member {d : Device} (h : d.bellwether = false) (t : Nat) : d.decSync t = d := by simp [decSync, h]

/-- The device after an accepted edge: it counts, and the position at the edge is captured. -/
def edgeTaken (d : Device) (t : Nat) : Device := (d.bump .POS_DECSYNC_COUNT 0).newOrigin (d.reading t)

/-- An edge that marks no repeat is taken with POS_DECSYNC_EN. -/
theorem decSync_captures {d : Device} (hb : d.bellwether = true) (hen : d.num .POS_DECSYNC_EN 0 = 1) (hm : d.num .STI_MARK_SRC 0 ≠ 9) (hw : d.wiredLines = [])
    (t : Nat) : d.decSync t = d.edgeTaken t := by
  have hpulse : (d.bump .POS_DECSYNC_COUNT 0).pulse 0x012 = d.bump .POS_DECSYNC_COUNT 0 := pulse_unwired (wiredLines_put (by decide) (by decide) 0 _ hw) _
  simp [decSync, hb, hpulse, hm, on, hen, reading_counted, edgeTaken]

section
variable {d : Device} (hoff : ∀ n, n < 16 → d.on .CH_ENABLE n = false)
include hoff

theorem disabled_counted : ∀ n, n < 16 → (d.bump .POS_DECSYNC_COUNT 0).on .CH_ENABLE n = false := by
  intro n hn
  rw [on, num_bump_reg_ne _ _ _ (by decide)]
  exact hoff n hn

/-- With every channel disabled the position at the edge is the origin at once. -/
theorem edgeTaken_holds (t : Nat) :
    (d.edgeTaken t).num .POS_DECSYNC_COUNT 0 = (d.num .POS_DECSYNC_COUNT 0 + 1) % 2 ^ 32 ∧ (d.edgeTaken t).HoldsOrigin (d.reading t) := by
  obtain ⟨hholds, hch⟩ := newOrigin_holds (d.reading_lt t) (disabled_counted hoff)
  have hcount := (hch.num .POS_DECSYNC_COUNT 0 (by decide) (by decide)).trans (num_bump_same d .POS_DECSYNC_COUNT 0)
  exact ⟨hcount, hholds⟩

/-- Without a fold no other object changes. -/
theorem edgeTaken_alone (hf : d.inFold = false) (t : Nat) :
    d.ChangesOnly [] [(.POS_DECSYNC_COUNT, 0), (.POS_DECSYNC_POS, 0), (.POS_GRID_ORIGIN, 0)] (d.edgeTaken t) := by
  have hcount : d.ChangesOnly [] [(.POS_DECSYNC_COUNT, 0), (.POS_DECSYNC_POS, 0), (.POS_GRID_ORIGIN, 0)] (d.bump .POS_DECSYNC_COUNT 0) :=
    (ChangesOnly.refl d).bumpAt .POS_DECSYNC_COUNT 0 (by decide)
  have hfold := (inFold_of_changesOnly hcount (by decide) (by decide)).trans hf
  obtain ⟨-, hch, -⟩ := newOrigin_alone (d.reading_lt t) hfold (disabled_counted hoff)
  exact hcount.trans (hch.mono (by decide))

end

end Device

end Sys2Proof.Machine
end

section
/-!
PROOF. POS_GRID_SET and the position interface's edge of DEC_SYNC as commands (R27, R43, R44, R168, R170).
-/
namespace Sys2Proof.Machine

namespace Device

/-- The device with another journal. -/
def withJournal (d : Device) (j : Journal) : Device := { d with jrn := j }

theorem ChangesOnly.withJournal {regs : List Reg} {keys : List (Reg × Nat)} {d e : Device} (h : d.ChangesOnly regs keys e) (j : Journal) :
    d.ChangesOnly regs keys (e.withJournal j) := h.beside rfl

/-! ## Writes through the BAR0 window (R43, R44) -/

theorem finish_bar0 (d : Device) : d.finish 0 = (d.emit (.result 0)).commandReset := rfl

/-- A write of a slot where the window can be reached, outside DEEP_SLEEP: applied, or refused and recorded; then the result, and a reset that is due. -/
theorem bar0Write_open {d e : Device} {c : Nat} {staged : Bool} {index sub : Nat} {b : Octets} (hup : d.bar0Up = true) (hp : d.num .PWR_STATE 0 ≠ 2)
    (hw : d.slotWrite index sub b = (c, e)) :
    d.bar0Write staged index sub b = ((if c = 0 then e else e.writeRefused c index sub staged).emit (.result c)).commandReset := by
  simp [bar0Write, hup, deepWake_awake hp, hw]

/-- The objects that record a refused access (R43). -/
theorem ChangesOnly.bar0Abort {regs : List Reg} {keys : List (Reg × Nat)} {d e : Device} (h : d.ChangesOnly regs keys e) (hc : (.COM_BAR0_ABORT, 0) ∈ keys)
    (ha : (.COM_BAR0_ABORT_AT, 0) ∈ keys) (code at_ : Nat) (staged : Bool) : d.ChangesOnly regs keys (e.bar0Abort code at_ staged) :=
  (h.setAt .COM_BAR0_ABORT 0 hc code).setAt .COM_BAR0_ABORT_AT 0 ha _

theorem num_bar0Abort (d : Device) {code : Nat} (hc : code < 2 ^ 8) (at_ : Nat) (staged : Bool) : (d.bar0Abort code at_ staged).num .COM_BAR0_ABORT 0 = code := by
  rw [bar0Abort, num_set_reg_ne _ _ _ _ (by decide), num_set_same]
  exact Nat.mod_eq_of_lt hc

/-- What the object table says of COM_BAR0_HI: a number of four bytes, held in the live copy alone (R44). -/
theorem bar0Hi_row : plain .COM_BAR0_HI 0 = true ∧ (Reg.row .COM_BAR0_HI).ty.size = some 4 ∧ Key.scope ⟨.COM_BAR0_HI, 0⟩ = .device ∧
    (Reg.row .COM_BAR0_HI).acc.unwritable = false ∧ (Reg.row .COM_BAR0_HI).acc ≠ .rws ∧ (Reg.row .COM_BAR0_HI).pers = false ∧ (Reg.row .COM_BAR0_HI).ty = .u32 ∧
    Key.index ⟨.COM_BAR0_HI, 0⟩ = 0x1108 ∧ Key.sub ⟨.COM_BAR0_HI, 0⟩ = 0x01 := by decide +kernel

/-- The device with the upper half of a 64-bit value in the latch, the journal `j`, and the result of that write. -/
def latched (d : Device) (x : Nat) (j : Journal) (sess : List Session) : Device :=
  { d.put .COM_BAR0_HI 0 (.num x) with jrn := j, sess := sess, outs := d.outs ++ [.result 0] }

theorem applyWrite_bar0Hi (d : Device) (x n : Nat) : d.applyWrite ⟨.COM_BAR0_HI, 0⟩ (.num x) n = (0, d.put .COM_BAR0_HI 0 (.num x)) := by
  obtain ⟨-, -, -, -, hacc, hpers, -⟩ := bar0Hi_row
  simp [applyWrite, hacc, store, hpers]

/-- The upper half of a 64-bit value goes into the latch, with an entry in the journal (R44, R374). -/
theorem bar0Write_hi {d : Device} {x : Nat} (hr : d.Reaches 0) (hh : d.heldNow = false) (hx : x < 2 ^ 32) (hdue : d.resetDue = false) :
    ∃ j sess, d.bar0Write false 0x1108 0x01 (le 4 x) = d.latched x j sess ∧ j.buf.length = d.jrn.buf.length + 1 ∧ j.budget = d.jrn.budget - 1 := by
  obtain ⟨hplain, hsize, hscope, hclass, -, -, hty, hindex, hsub⟩ := bar0Hi_row
  obtain ⟨j, hj, -, -, hlen, hbudget⟩ := d.journalWriteOf_eq 0 ⟨.COM_BAR0_HI, 0⟩ (le 4 x)
  have hcommand := command_plain (d := d) (n := 0) (x := x) hplain hsize (by simp [Identity.present, hscope]) hr hh (by simp [classRefused, hclass]) hx rfl
    (by rw [applyWrite_bar0Hi]) (by rw [applyWrite_bar0Hi])
  obtain ⟨sess, hfinish⟩ := finish_eq (d := ({ d with jrn := j } : Device).put .COM_BAR0_HI 0 (.num x)) 0 hdue
  refine ⟨j, sess, ?_, hlen, hbudget⟩
  have hsame : d.command 0 .COM_BAR0_HI 0 x = d.bar0Write false 0x1108 0x01 (le 4 x) := by simp [command, hty, hindex, hsub]
  rw [← hsame, hcommand, applyWrite_bar0Hi, hj, hfinish]
  rfl

@[simp] theorem gridPend_latched (d : Device) (x : Nat) (j : Journal) (sess : List Session) : (d.latched x j sess).gridPend = d.gridPend := rfl

@[simp] theorem rs_latched (d : Device) (x : Nat) (j : Journal) (sess : List Session) : (d.latched x j sess).rs = d.rs := rfl

theorem withJournal_latched (d : Device) (x : Nat) (j j' : Journal) (sess : List Session) : (d.latched x j sess).withJournal j' = d.latched x j' sess := rfl

theorem changesOnly_latched (d : Device) (x : Nat) (j : Journal) (sess : List Session) : d.ChangesOnly [] [(.COM_BAR0_HI, 0)] (d.latched x j sess) :=
  ((ChangesOnly.refl d).put (r := .COM_BAR0_HI) (i := 0) (.num x) (.inr (by decide))).beside rfl

theorem num_latched (d : Device) (x : Nat) (j : Journal) (sess : List Session) {r : Reg} (hr : r ≠ .COM_BAR0_HI) (i : Nat) :
    (d.latched x j sess).num r i = d.num r i := (d.changesOnly_latched x j sess).num r i List.not_mem_nil (by simp [hr])

theorem num_latched_hi (d : Device) (x : Nat) (j : Journal) (sess : List Session) : (d.latched x j sess).num .COM_BAR0_HI 0 = x :=
  congrArg Val.toNat (val_put_same d .COM_BAR0_HI 0 (.num x))

theorem bar0Up_latched (d : Device) (x : Nat) (j : Journal) (sess : List Session) : (d.latched x j sess).bar0Up = d.bar0Up := by
  unfold bar0Up
  rw [num_latched _ _ _ _ (by decide)]
  rfl

theorem heldNow_latched (d : Device) (x : Nat) (j : Journal) (sess : List Session) : (d.latched x j sess).heldNow = d.heldNow := by
  unfold heldNow
  rw [num_latched _ _ _ _ (by decide)]

/-! ## POS_GRID_SET (R168, R170) -/

/-- What the object table says of POS_GRID_SET: a command of the device of eight bytes, which takes every value. -/
theorem posGridSet_row : locate 0x220C 0x06 = some ⟨.POS_GRID_SET, 0⟩ ∧ Key.index ⟨.POS_GRID_SET, 0⟩ = 0x220C ∧ Key.sub ⟨.POS_GRID_SET, 0⟩ = 0x06 ∧
    (Reg.row .POS_GRID_SET).ty = .u64 ∧ (Reg.row .POS_GRID_SET).acc = .cmd ∧ Key.scope ⟨.POS_GRID_SET, 0⟩ = .device := by decide +kernel

theorem findObj_posGridSet (d : Device) : d.findObj 0x220C 0x06 = some ⟨.POS_GRID_SET, 0⟩ := by
  obtain ⟨hloc, hindex, -, -, -, hscope⟩ := posGridSet_row
  simp [findObj, hloc, hindex, Identity.present, hscope]

/-- On a member the class of POS_GRID_SET refuses every write, and on the bellwether none. -/
theorem classRefused_posGridSet (d : Device) : d.classRefused ⟨.POS_GRID_SET, 0⟩ = !d.bellwether := by
  obtain ⟨-, -, -, -, hacc, -⟩ := posGridSet_row
  simp [classRefused, hacc, Access.unwritable]

theorem applyWrite_posGridSet (d : Device) (v : Val) (n : Nat) : d.applyWrite ⟨.POS_GRID_SET, 0⟩ v n = (0, d.gridSetWrite v.toNat) := rfl

theorem decode_posGridSet {g : Nat} (hg : g < 2 ^ 64) : decodeVal (Reg.row .POS_GRID_SET).ty (le 8 g) = .num g := by
  obtain ⟨-, -, -, hty, -⟩ := posGridSet_row
  simp only [decodeVal, hty, ObjType.size, ofLE_le]
  rw [Nat.mod_eq_of_lt hg]

theorem formRefused_posGridSet {d : Device} {g : Nat} (hb : d.bellwether = true) (hg : g < 2 ^ 64) : d.formRefused ⟨.POS_GRID_SET, 0⟩ (le 8 g) = 0 := by
  obtain ⟨-, -, -, hty, -⟩ := posGridSet_row
  have hlen : lengthOk .POS_GRID_SET 8 = true := by
    unfold lengthOk
    rw [hty]
    rfl
  have hrange : numInRange ⟨.POS_GRID_SET, 0⟩ g = true := by simp [numInRange, hty]
  simp [formRefused, classRefused_posGridSet, hb, hlen, decode_posGridSet hg, inRange, hrange, pastTable, hallFixed]

/-- On the bellwether, with no hold in force and room in the journal: the entry, then the origin. -/
theorem writeObj_posGridSet {d : Device} {n g : Nat} (hb : d.bellwether = true) (hh : d.heldNow = false) (hroom : d.externalRoom = true) (hg : g < 2 ^ 64) :
    ∃ j : Journal, d.writeObj n ⟨.POS_GRID_SET, 0⟩ (le 8 g) = (0, (d.withJournal j).gridSetWrite g) ∧ j.head = (d.jrn.head + 1) % 2 ^ 32 := by
  obtain ⟨-, -, -, -, hacc, -⟩ := posGridSet_row
  obtain ⟨j, hj, hhead, -⟩ := d.journalWriteOf_eq n ⟨.POS_GRID_SET, 0⟩ (le 8 g)
  refine ⟨j, ?_, hhead⟩
  rw [writeObj_applied (by decide) (by decide) (formRefused_posGridSet hb hg) (by simp [underHold, hh]) (by simp [formingRefused, hacc])
    (by rw [applyWrite_posGridSet]) hroom, decode_posGridSet hg, applyWrite_posGridSet, hj]
  rfl

/-- A member refuses the write by its class (R170). -/
theorem writeObj_posGridSet_member {d : Device} (hb : d.bellwether = false) (n : Nat) (b : Octets) : d.writeObj n ⟨.POS_GRID_SET, 0⟩ b = (0x02, d) := by
  simp [writeObj, formRefused, classRefused_posGridSet, hb]

/-! ## POS_GRID_SET by a DAP session (R27) -/

theorem command_posGridSet_session {d : Device} {n g : Nat} (hn : n ≠ 0) :
    d.command n .POS_GRID_SET 0 g = d.itemWrite n (Key.index ⟨.POS_GRID_SET, 0⟩) (Key.sub ⟨.POS_GRID_SET, 0⟩) (le 8 g) := by
  obtain ⟨-, -, -, hty, -⟩ := posGridSet_row
  simp [command, hn, hty, encodeVal, ObjType.size]

theorem externalRoom_of_reaches {d : Device} {n : Nat} (hr : d.Reaches n) : d.externalRoom = true := by
  obtain ⟨-, -, -, hlen, hbudget, -⟩ := hr
  simp only [externalRoom, Bool.and_eq_true, decide_eq_true_eq]
  omega

theorem command_posGridSet {d : Device} {n g : Nat} (hn : n ≠ 0) (hr : d.Reaches n) (hh : d.heldNow = false) (hb : d.bellwether = true) (hg : g < 2 ^ 64) :
    ∃ j : Journal, d.command n .POS_GRID_SET 0 g = ((d.withJournal j).gridSetWrite g).finish n ∧ j.head = (d.jrn.head + 1) % 2 ^ 32 := by
  obtain ⟨-, hindex, hsub, -⟩ := posGridSet_row
  obtain ⟨j, hw, hhead⟩ := writeObj_posGridSet (n := n) hb hh (externalRoom_of_reaches hr) hg
  refine ⟨j, ?_, hhead⟩
  rw [command_posGridSet_session hn]
  exact itemWrite_applied hr hn (by rw [hindex, hsub, findObj_posGridSet]) (by decide) hw

/-- A member answers 0x02 and nothing changes. -/
theorem command_posGridSet_member {d : Device} {n : Nat} (hn : n ≠ 0) (hr : d.Reaches n) (hb : d.bellwether = false) (hclosing : d.closing = false)
    (hdue : d.resetDue = false) (g : Nat) : d.command n .POS_GRID_SET 0 g = d.emit (.result 0x02) := by
  obtain ⟨-, hindex, hsub, -⟩ := posGridSet_row
  obtain ⟨-, hup, hawake, -, -, hopen⟩ := hr
  have hsome : (d.session n).isNone = false := by simpa [hn, Option.isNone_iff_eq_none, Option.isSome_iff_ne_none] using hopen
  have hdue' : (d.emit (.result 0x02)).resetDue = false := hdue
  rw [command_posGridSet_session hn, hindex, hsub]
  simp [itemWrite, hup, hsome, deepWake_awake hawake, write, findObj_posGridSet, writeObj_posGridSet_member hb, closeOwn, hclosing, commandReset_none hdue']

/-! ## POS_GRID_SET through BAR0 (R43, R44) -/

/-- Session 0 writes the latch, and then the slot with the lower half. -/
theorem command_posGridSet_bar0 (d : Device) (g : Nat) :
    d.command 0 .POS_GRID_SET 0 g = (d.bar0Write false 0x1108 0x01 (le 4 (g / 2 ^ 32))).bar0Write false 0x220C 0x06 (le 4 g) := by
  obtain ⟨-, hindex, hsub, hty, -⟩ := posGridSet_row
  simp [command, hty, hindex, hsub]

/-- The lower half in the slot and the upper half in the latch are the position. -/
theorem slotWrite_posGridSet {d : Device} {g : Nat} (hb : d.bellwether = true) (hhi : d.num .COM_BAR0_HI 0 = g / 2 ^ 32) :
    d.slotWrite 0x220C 0x06 (le 4 g) = d.writeObj 0 ⟨.POS_GRID_SET, 0⟩ (le 8 g) := by
  obtain ⟨-, -, -, hty, -⟩ := posGridSet_row
  have hval : slotBytes .u64 (g / 2 ^ 32) (ofLE (le 4 g)) = some (le 8 g) := by
    rw [ofLE_le]
    exact congrArg (fun x => some (le 8 x)) (Nat.mod_add_div g (2 ^ 32))
  simp only [slotWrite, findObj_posGridSet, classRefused_posGridSet, hb, hty, hhi, hval, write]
  simp [ObjType.size]

theorem slotWrite_posGridSet_member {d : Device} (hb : d.bellwether = false) (b : Octets) : d.slotWrite 0x220C 0x06 b = (0x02, d) := by
  simp [slotWrite, findObj_posGridSet, classRefused_posGridSet, hb]

/-- On the bellwether the latch is written and then the origin, each with its entry in the journal. -/
theorem command_posGridSet_latched {d : Device} {g : Nat} (hr : d.Reaches 0) (hh : d.heldNow = false) (hb : d.bellwether = true) (hg : g < 2 ^ 64)
    (hdue : d.resetDue = false) :
    ∃ j sess, d.command 0 .POS_GRID_SET 0 g = ((d.latched (g / 2 ^ 32) j sess).gridSetWrite g).finish 0 := by
  obtain ⟨j, sess, hlatch, hlen, hbudget⟩ := bar0Write_hi (x := g / 2 ^ 32) hr hh (by omega) hdue
  obtain ⟨-, -, hawake, hroom, hleft, hup⟩ := hr
  have hexternal : (d.latched (g / 2 ^ 32) j sess).externalRoom = true := by
    have hbuf : (d.latched (g / 2 ^ 32) j sess).jrn = j := rfl
    simp only [externalRoom, hbuf, Bool.and_eq_true, decide_eq_true_eq]
    omega
  obtain ⟨j', hw, -⟩ := writeObj_posGridSet (n := 0) (d := d.latched (g / 2 ^ 32) j sess) hb ((d.heldNow_latched _ j sess).trans hh) hexternal hg
  rw [← slotWrite_posGridSet (d := d.latched (g / 2 ^ 32) j sess) hb (d.num_latched_hi _ j sess)] at hw
  refine ⟨j', sess, ?_⟩
  rw [command_posGridSet_bar0, hlatch, bar0Write_open ((d.bar0Up_latched _ j sess).trans hup) (by rwa [num_latched _ _ _ _ (by decide)]) hw, if_pos rfl,
    withJournal_latched, finish_bar0]

/-- On a member the latch is written, and the refusal recorded (R43). -/
theorem command_posGridSet_bar0_member {d : Device} (hr : d.Reaches 0) (hh : d.heldNow = false) (hb : d.bellwether = false) (hdue : d.resetDue = false) {g : Nat}
    (hg : g < 2 ^ 64) :
    ∃ j sess, d.command 0 .POS_GRID_SET 0 g = ((d.latched (g / 2 ^ 32) j sess).bar0Abort 0x02 0x220C06 false).emit (.result 0x02) := by
  obtain ⟨j, sess, hlatch, -⟩ := bar0Write_hi (x := g / 2 ^ 32) hr hh (by omega) hdue
  obtain ⟨-, -, hawake, -, -, hup⟩ := hr
  obtain ⟨hloc, -⟩ := posGridSet_row
  have hw := slotWrite_posGridSet_member (d := d.latched (g / 2 ^ 32) j sess) hb (le 4 g)
  have hdue' : (((d.latched (g / 2 ^ 32) j sess).bar0Abort 0x02 0x220C06 false).emit (.result 0x02)).resetDue = false := hdue
  refine ⟨j, sess, ?_⟩
  rw [command_posGridSet_bar0, hlatch, bar0Write_open ((d.bar0Up_latched _ j sess).trans hup) (by rwa [num_latched _ _ _ _ (by decide)]) hw]
  rw [if_neg (by decide), writeRefused, hloc, if_neg (by decide), commandReset_none hdue']

/-- By any session that can write, with every channel disabled: the position written is the origin. -/
theorem command_posGridSet_holds {d : Device} {n g : Nat} (hr : d.Reaches n) (hh : d.heldNow = false) (hb : d.bellwether = true) (hg : g < 2 ^ 64)
    (hdue : d.resetDue = false) (hoff : ∀ k, k < 16 → d.on .CH_ENABLE k = false) : (d.command n .POS_GRID_SET 0 g).HoldsOrigin g := by
  have hfinish {e : Device} (hdue : e.resetDue = false) (hoff : ∀ k, k < 16 → e.on .CH_ENABLE k = false) : ((e.gridSetWrite g).finish n).HoldsOrigin g := by
    obtain ⟨⟨horigin, hcaptured, hsettled⟩, hdue'⟩ := gridSetWrite_holds hg hoff
    obtain ⟨sess, heq⟩ := finish_eq n (hdue'.trans hdue)
    rw [heq]
    generalize e.gridSetWrite g = f at *
    exact ⟨horigin, hcaptured, hsettled⟩
  by_cases hn : n = 0
  · subst hn
    obtain ⟨j, sess, hcommand⟩ := command_posGridSet_latched hr hh hb hg hdue
    rw [hcommand]
    refine hfinish hdue fun k hk => ?_
    rw [on, num_latched _ _ _ _ (by decide)]
    exact hoff k hk
  · obtain ⟨j, hcommand, -⟩ := command_posGridSet hn hr hh hb hg
    rw [hcommand]
    exact hfinish hdue hoff

end Device

/-! ## The commands -/

/-- A session that reaches the device finds it in its place among the accesses of the tick. -/
theorem reaches_asked {d : Device} {n : Nat} (h : d.Reaches n) : (d.asked n).Reaches n := ⟨Nat.le_refl n, h.2⟩

theorem changesOnly_asked {regs : List Reg} {keys : List (Reg × Nat)} (d : Device) (n : Nat) : d.begin.ChangesOnly regs keys (d.asked n) :=
  (Device.ChangesOnly.refl _).beside rfl

theorem exec_posGridSet {s : State} {n g : Nat} (hn : n < 1024) (hg : g < 2 ^ 64) (hr : s.dev.Reaches n) :
    exec (.posGridSet n g) s = .next { s with dev := (s.dev.asked n).command n .POS_GRID_SET 0 g } :=
  exec_runAs (c := .posGridSet n g) hn hr (show execPosGridSet n g s = _ from rfl) (Bool.and_eq_true_iff.mpr ⟨decide_eq_true hn, decide_eq_true hg⟩)

theorem exec_decSyncEdge (s : State) (rising : Bool) {t0 : Nat} (ht : t0 < 2 ^ 64) :
    exec (.decSyncEdge rising t0) s =
      .next { s with dev := if rising == (s.dev.num .POS_DECSYNC_EDGE 0 == 0) then s.dev.begin.decSync t0 else s.dev.begin } :=
  exec_run (show execDecSyncEdge rising t0 s = _ from rfl) (decide_eq_true ht)

/-- The edge that POS_DECSYNC_EDGE does not select leaves everything. -/
theorem decSyncEdge_other {s : State} {t0 : Nat} (ht : t0 < 2 ^ 64) (he : s.dev.num .POS_DECSYNC_EDGE 0 = 0) :
    exec (.decSyncEdge false t0) s = .next { s with dev := s.dev.begin } := by
  rw [exec_decSyncEdge s false ht, he]
  rfl

/-- A member ignores the pin (R170). -/
theorem decSyncEdge_member {s : State} {t0 : Nat} (rising : Bool) (ht : t0 < 2 ^ 64) (hb : s.dev.bellwether = false) :
    exec (.decSyncEdge rising t0) s = .next { s with dev := s.dev.begin } := by
  rw [exec_decSyncEdge s rising ht, Device.decSync_member (d := s.dev.begin) hb, ite_self]

section
variable {s : State} {t0 : Nat} (ht : t0 < 2 ^ 64) (hb : s.dev.bellwether = true) (he : s.dev.num .POS_DECSYNC_EDGE 0 = 0)
  (hen : s.dev.num .POS_DECSYNC_EN 0 = 1) (hm : s.dev.num .STI_MARK_SRC 0 ≠ 9) (hw : s.dev.wiredLines = [])
include ht hb he hen hm hw

/-- An edge that POS_DECSYNC_EDGE selects is taken on the bellwether. -/
theorem decSyncEdge_accepted : exec (.decSyncEdge true t0) s = .next { s with dev := s.dev.begin.edgeTaken t0 } := by
  rw [exec_decSyncEdge s true ht, he]
  exact congrArg (fun d => Host.Outcome.next { s with dev := d }) (Device.decSync_captures (d := s.dev.begin) hb hen hm hw t0)

/-- It counts, and with every channel disabled the position at the edge is the origin at once; without a fold no other object changes. -/
theorem decSyncEdge_holds (hoff : ∀ n, n < 16 → s.dev.on .CH_ENABLE n = false) :
    ∃ t, exec (.decSyncEdge true t0) s = .next t ∧ t.dev.num .POS_DECSYNC_COUNT 0 = (s.dev.num .POS_DECSYNC_COUNT 0 + 1) % 2 ^ 32 ∧
      t.dev.num .POS_DECSYNC_POS 0 = s.dev.reading t0 ∧ t.dev.num .POS_GRID_ORIGIN 0 = s.dev.reading t0 ∧
      (s.dev.inFold = false → s.dev.keeps t.dev [(.POS_DECSYNC_COUNT, 0), (.POS_DECSYNC_POS, 0), (.POS_GRID_ORIGIN, 0)]) := by
  obtain ⟨t, hgo, hdev⟩ := exec_device (decSyncEdge_accepted ht hb he hen hm hw)
  obtain ⟨hcount, horigin, hcaptured, -⟩ := Device.edgeTaken_holds (d := s.dev.begin) hoff t0
  have hcounted : s.dev.begin.num .POS_DECSYNC_COUNT 0 = s.dev.num .POS_DECSYNC_COUNT 0 := rfl
  rw [hcounted] at hcount
  refine ⟨t, hgo, ?_⟩
  rw [hdev]
  exact ⟨hcount, hcaptured, horigin, fun hf => keeps_of_changesOnly (Device.edgeTaken_alone (d := s.dev.begin) hoff hf t0)⟩

end

/-! ## POS_GRID_SET by a session of DAP without a fold (R168) -/

section
variable {s : State} {session g : Nat} (hn : session < 1024) (h0 : session ≠ 0) (hg : g < 2 ^ 64) (hr : s.dev.Reaches session) (hh : s.dev.heldNow = false)
  (hb : s.dev.bellwether = true) (hf : s.dev.inFold = false) (hw : s.dev.wiredLines = [])
include hn h0 hg hr hh hb hw

/-- The journal's entry and the position captured, nothing else, where no line has a source. -/
theorem posGridSet_captures :
    ∃ j : Journal, exec (.posGridSet session g) s = .next { s with dev := (((s.dev.asked session).withJournal j).newOrigin g).finish session } ∧
      j.head = (s.dev.jrn.head + 1) % 2 ^ 32 := by
  obtain ⟨j, hcommand, hhead⟩ := Device.command_posGridSet (d := s.dev.asked session) h0 (reaches_asked hr) hh hb hg
  refine ⟨j, ?_, hhead⟩
  rw [exec_posGridSet hn hg hr, hcommand, Device.gridSetWrite_unwired (d := (s.dev.asked session).withJournal j) hw]

include hf

/-- With every channel disabled the position is the origin at once. -/
theorem posGridSet_alone (hoff : ∀ n, n < 16 → s.dev.on .CH_ENABLE n = false) :
    ∃ t, exec (.posGridSet session g) s = .next t ∧ t.dev.num .POS_GRID_ORIGIN 0 = g ∧ t.dev.gridPend = none ∧ t.dev.num .POS_DECSYNC_POS 0 = g ∧
      s.dev.keeps t.dev [(.POS_GRID_ORIGIN, 0), (.POS_DECSYNC_POS, 0)] ∧ t.dev.outs = [.result 0] ∧ t.dev.jrn.head = (s.dev.jrn.head + 1) % 2 ^ 32 := by
  obtain ⟨j, hexec, hhead⟩ := posGridSet_captures hn h0 hg hr hh hb hw
  obtain ⟨⟨horigin, hcaptured, hsettled⟩, hch, houts, hjrn⟩ := Device.newOrigin_alone (d := (s.dev.asked session).withJournal j) hg hf hoff
  obtain ⟨sess, hfinish⟩ := Device.finish_eq session hch.resetDue
  have hall := ((changesOnly_asked s.dev session).withJournal j).trans hch
  obtain ⟨t, hgo, hdev⟩ := exec_device hexec
  refine ⟨t, hgo, ?_⟩
  rw [hdev, hfinish]
  generalize ((s.dev.asked session).withJournal j).newOrigin g = e at *
  exact ⟨horigin, hsettled, hcaptured, keeps_of_changesOnly (hall.beside rfl), congrArg (fun os => os ++ [Out.result 0]) houts,
    (congrArg Journal.head hjrn).trans hhead⟩

/-- With an enabled channel the position stays pending on it. -/
theorem posGridSet_pends {n : Nat} (hlt : n < 16) (hon : s.dev.on .CH_ENABLE n = true) :
    ∃ t, exec (.posGridSet session g) s = .next t ∧ t.dev.gridPend = some (toSigned 64 g) ∧ (t.dev.rsOf n).pending = some (toSigned 64 g) ∧
      s.dev.keeps t.dev [(.POS_DECSYNC_POS, 0)] := by
  obtain ⟨j, hexec, -⟩ := posGridSet_captures hn h0 hg hr hh hb hw
  obtain ⟨hpend, hchannel, hch⟩ := Device.newOrigin_pends (d := (s.dev.asked session).withJournal j) hlt hon hf g
  obtain ⟨sess, hfinish⟩ := Device.finish_eq session hch.resetDue
  have hall := ((changesOnly_asked s.dev session).withJournal j).trans hch
  obtain ⟨t, hgo, hdev⟩ := exec_device hexec
  refine ⟨t, hgo, ?_⟩
  rw [hdev, hfinish]
  generalize ((s.dev.asked session).withJournal j).newOrigin g = e at *
  exact ⟨hpend, hchannel, keeps_of_changesOnly (hall.beside rfl)⟩

end

/-- Settles O25: an accepted edge, the two edges that leave everything, and POS_GRID_SET with every channel disabled and with one enabled; that it captures the
position without counting an edge is the model's choice (log entry 51). -/
theorem gridOrigin : Obligations.GridOrigin := by
  unfold Obligations.GridOrigin
  refine ⟨?_, fun s t0 ht he => decSyncEdge_other ht he, fun s t0 ht hb => decSyncEdge_member true ht hb, ?_⟩
  · intro s t0 ht hb hf he hm hw hen hoff
    obtain ⟨t, hgo, hcount, hcaptured, horigin, hkeeps⟩ := decSyncEdge_holds ht hb he hen hm hw hoff
    exact ⟨t, hgo, hcount, hcaptured, horigin, hkeeps hf⟩
  · intro s session g hn h0 hg hr hh hb hf hw
    exact ⟨posGridSet_alone hn h0 hg hr hh hb hf hw, fun n hlt hon => posGridSet_pends hn h0 hg hr hh hb hf hw hlt hon⟩

/-! ## A member and the bellwether of a fold (R170) -/

/-- A write by a session of DAP on a member answers 0x02. -/
theorem posGridSet_member {s : State} {session g : Nat} (hn : session < 1024) (h0 : session ≠ 0) (hg : g < 2 ^ 64) (hr : s.dev.Reaches session)
    (hb : s.dev.bellwether = false) : exec (.posGridSet session g) s = .next { s with dev := { s.dev.asked session with outs := [.result 0x02] } } := by
  rw [exec_posGridSet hn hg hr, Device.command_posGridSet_member (d := s.dev.asked session) h0 (reaches_asked hr) hb rfl rfl]
  rfl

/-- A write through BAR0 on a member leaves the origin; the refusal stands in COM_BAR0_ABORT. -/
theorem posGridSet_bar0_member {s : State} {g : Nat} (hg : g < 2 ^ 64) (hr : s.dev.Reaches 0) (hh : s.dev.heldNow = false) (hb : s.dev.bellwether = false) :
    ∃ t, exec (.posGridSet 0 g) s = .next t ∧ t.dev.num .COM_BAR0_ABORT 0 = 2 ∧ t.dev.gridPend = s.dev.gridPend ∧ t.dev.rs = s.dev.rs ∧ t.dev.staged = s.dev.staged ∧
      s.dev.keeps t.dev [(.COM_BAR0_HI, 0), (.COM_BAR0_ABORT, 0), (.COM_BAR0_ABORT_AT, 0)] := by
  obtain ⟨j, sess, hcommand⟩ := Device.command_posGridSet_bar0_member (d := s.dev.asked 0) (reaches_asked hr) hh hb rfl hg
  obtain ⟨t, hgo, hdev⟩ := exec_device (exec_posGridSet (by decide) hg hr)
  have hlatched := ((changesOnly_asked s.dev 0).trans ((s.dev.asked 0).changesOnly_latched (g / 2 ^ 32) j sess)).mono
    (keys' := [(.COM_BAR0_HI, 0), (.COM_BAR0_ABORT, 0), (.COM_BAR0_ABORT_AT, 0)]) (by simp)
  refine ⟨t, hgo, ?_⟩
  rw [hdev, hcommand]
  have hch := (hlatched.bar0Abort (by simp) (by simp) 0x02 0x220C06 false).emit (.result 0x02)
  refine ⟨?_, ?_, ?_, hch.staged, keeps_of_changesOnly hch⟩
  · rw [Device.num_emit, Device.num_bar0Abort _ (by decide)]
  · simp [Device.bar0Abort, Device.asked, Device.begin]
  · simp [Device.bar0Abort, Device.asked, Device.begin]

/-- Settles O59: a member refuses the write and ignores the pin; on the bellwether an edge and the write take the origin, in its fold as without one. -/
theorem membersLeaveTheGridToTheBellwether : Obligations.MembersLeaveTheGridToTheBellwether := by
  unfold Obligations.MembersLeaveTheGridToTheBellwether
  refine ⟨fun s hb => ⟨fun rising t0 ht => decSyncEdge_member rising ht hb, fun session g hn hg hr => ⟨fun h0 => posGridSet_member hn h0 hg hr hb, ?_⟩⟩,
    fun s _ hb hoff => ⟨?_, ?_⟩⟩
  · rintro rfl hh
    exact posGridSet_bar0_member hg hr hh hb
  · intro t0 ht he hen hm hw
    obtain ⟨t, hgo, hcount, hcaptured, horigin, -⟩ := decSyncEdge_holds ht hb he hen hm hw hoff
    exact ⟨t, hgo, hcount, hcaptured, horigin⟩
  · intro session g hn hg hr hh
    obtain ⟨horigin, -, hsettled⟩ := Device.command_posGridSet_holds (d := s.dev.asked session) (reaches_asked hr) hh hb hg rfl hoff
    exact ⟨_, exec_posGridSet hn hg hr, horigin, hsettled⟩

end Sys2Proof.Machine
end

section
/-!
PROOF. The stitched line as STITCH_LINE makes it (R178, R179): the sets' state after a change, overlap agreement and the flags of late lines, and the command.
-/
namespace Sys2Proof.Machine

namespace Device

/-! ## A set after a change -/

theorem st_modSt (d : Device) {s : Nat} (hs : s < 8) (f : Stitch → Stitch) : (d.modSt s f).st s = f (d.st s) :=
  getD_modTab_same 8 ({} : Stitch) d.stitch s f hs

theorem ChangesOnly.modSt {regs : List Reg} {keys : List (Reg × Nat)} {d e : Device} (h : d.ChangesOnly regs keys e) (s : Nat) (f : Stitch → Stitch) :
    d.ChangesOnly regs keys (e.modSt s f) := h.beside rfl

/-! ## Overlap agreement of a stitched line (R182) -/

/-- From `d` to `e` nothing changes but what the sets hold, and of set `s` only its overlaps. -/
structure MeasuresOverlaps (s : Nat) (d e : Device) : Prop where
  beside : e = { d with stitch := e.stitch }
  set : e.st s = { d.st s with overlaps := (e.st s).overlaps }

namespace MeasuresOverlaps

variable {s : Nat} {d e f : Device}

theorem refl (d : Device) : d.MeasuresOverlaps s d := ⟨rfl, rfl⟩

theorem trans (h : d.MeasuresOverlaps s e) (h' : e.MeasuresOverlaps s f) : d.MeasuresOverlaps s f := by
  refine ⟨?_, ?_⟩
  · rw [h'.beside, h.beside]
  · rw [h'.set, h.set]

theorem modSt (hs : s < 8) (d : Device) {g : Stitch → Stitch} (hg : ∀ x, g x = { x with overlaps := (g x).overlaps }) : d.MeasuresOverlaps s (d.modSt s g) := by
  refine ⟨rfl, ?_⟩
  rw [st_modSt d hs, hg]

theorem foldl {α : Type} {g : Device → α → Device} (hg : ∀ (e : Device) (x : α), e.MeasuresOverlaps s (g e x)) (xs : List α) (d : Device) :
    d.MeasuresOverlaps s (xs.foldl g d) := List.foldlRecOn xs _ (refl d) fun e h x _ => h.trans (hg e x)

theorem overlapLine (hs : s < 8) (d : Device) (q : Nat) (ps : List Piece) : d.MeasuresOverlaps s (d.overlapLine s q ps) := by
  unfold Device.overlapLine
  split
  · exact refl d
  · refine foldl (fun e x => ?_) _ d
    obtain ⟨l, r, a, n⟩ := x
    dsimp only
    split
    · exact refl e
    · split
      · exact refl e
      · exact modSt hs e fun _ => rfl

theorem changesOnly {regs : List Reg} {keys : List (Reg × Nat)} (h : d.MeasuresOverlaps s e) : d.ChangesOnly regs keys e := by
  rw [h.beside]
  exact (ChangesOnly.refl d).beside rfl

end MeasuresOverlaps

/-! ## The line made (R178, R179) -/

/-- A member is flagged and counted for a line that was late (R178). -/
def flagMember (late : List Nat) (d : Device) (n : Nat) : Device :=
  (d.bumpIf (late.contains n) .CH_STI_LATE n).set .CH_STI_FLAGS n (putBit (d.num .CH_STI_FLAGS n) 1 (late.contains n))

/-- Every member of a set is flagged and counted for the lines that were late (R178). -/
def flagLate (d : Device) (s : Nat) (late : List Nat) : Device := (d.members s).foldl (flagMember late) d

/-- The live objects that hold the flags of the channels' lines. -/
def flagKeys : List (Reg × Nat) := (List.range 16).map (fun n => (.CH_STI_FLAGS, n))

theorem mem_flagKeys {n : Nat} (h : n < 16) : (Reg.CH_STI_FLAGS, n) ∈ flagKeys := List.mem_map.mpr ⟨n, List.mem_range.mpr h, rfl⟩

theorem lt_of_mem_members {d : Device} {s n : Nat} (h : n ∈ d.members s) : n < 16 := List.mem_range.mp (List.mem_filter.mp h).1

/-- The line made is the set's next (R178, R179): with the flags and the overlaps' sums of the line, the set takes it and goes on. -/
theorem makeStitched_eq (d : Device) (s j : Nat) (got : List (Nat × OutLine)) (late : List Nat) :
    ∃ (q : Nat) (ps : List Piece) (e : Device) (t : Nat) (line : StLine), e = (d.flagLate s late).overlapLine s q ps ∧ line.j = j ∧
      line.planes.length = d.setPlanes s ∧
      d.makeStitched s j got late = e.modSt s (fun x => { x with
        next := some ((j + 1) % 2 ^ 32), made := (t :: x.made).take 2, buf := x.buf ++ [line]
        waiting := x.waiting.filter (fun o => !e.onGrid s o.2 || decide (0 < serialDiff 32 o.2.j j)) }) := by
  refine ⟨_, _, _, _, _, rfl, ?_, ?_, rfl⟩
  · rfl
  · simp

/-- With no line late the flags are all that changes. -/
theorem flagLate_none (d : Device) (s : Nat) : d.ChangesOnly [] flagKeys (d.flagLate s []) ∧ (d.flagLate s []).stitch = d.stitch ∧ (d.flagLate s []).dram = d.dram := by
  refine List.foldlRecOn (motive := fun e : Device => d.ChangesOnly [] flagKeys e ∧ e.stitch = d.stitch ∧ e.dram = d.dram) (d.members s) _ ⟨.refl d, rfl, rfl⟩ ?_
  rintro e ⟨hch, hst, hdram⟩ n hn
  exact ⟨hch.setAt .CH_STI_FLAGS n (mem_flagKeys (lt_of_mem_members hn)) _, hst, hdram⟩

/-- Whether a set takes up another grid does not rest on what a command begins with. -/
theorem takeGrid_begin (d : Device) (s : Nat) : d.begin.takeGrid s = (d.takeGrid s).begin := by
  have hst : d.begin.st s = d.st s := rfl
  unfold takeGrid
  simp only [hst]
  cases (d.st s).waiting with
  | nil => rfl
  | cons e rest =>
    rw [apply_ite begin]
    rfl

end Device

/-! ## The command -/

variable {s : State} {set j : Nat}

/-- The set stays as it is while a line is missing that none judges late (R178). -/
theorem stitchLine_waits (hs : set < 8) (hgrid : s.dev.takeGrid set = s.dev) (hj : s.dev.currentJ set = some j) (h : (s.dev.lineReady set j).2.2 = false) :
    exec (.stitchLine set) s = .next { s with dev := s.dev.begin } := by
  have hj' : s.dev.begin.currentJ set = some j := hj
  have h' : (s.dev.begin.lineReady set j).2.2 = false := h
  show execStitchLine set s = _
  simp [execStitchLine, WF.stitchLine, WF.set, hs, run, Device.takeGrid_begin, hgrid, hj', h']

theorem exec_stitchLine_ready {got : List (Nat × OutLine)} {late : List Nat} (hs : set < 8) (hgrid : s.dev.takeGrid set = s.dev) (hj : s.dev.currentJ set = some j)
    (hdue : Device.rowDue j (s.dev.st set).buf.getLast? = false) (h : s.dev.lineReady set j = (got, late, true)) :
    exec (.stitchLine set) s = .next { s with dev := s.dev.begin.makeStitched set j got late } := by
  have hj' : s.dev.begin.currentJ set = some j := hj
  have h' : s.dev.begin.lineReady set j = (got, late, true) := h
  have hdue' : Device.rowDue j (s.dev.begin.st set).buf.getLast? = false := hdue
  show execStitchLine set s = _
  simp [execStitchLine, WF.stitchLine, WF.set, hs, run, Device.takeGrid_begin, hgrid, hj', h', hdue']

/-- With every awaited member's line there the stitched line is made and the set goes on to the next (R178, R179). -/
theorem stitchLine_makes {got : List (Nat × OutLine)} (hs : set < 8) (hgrid : s.dev.takeGrid set = s.dev) (hj : s.dev.currentJ set = some j)
    (hdue : Device.rowDue j (s.dev.st set).buf.getLast? = false) (h : s.dev.lineReady set j = (got, [], true)) :
    ∃ t line, exec (.stitchLine set) s = .next t ∧ (t.dev.st set).buf = (s.dev.st set).buf ++ [line] ∧ line.j = j ∧ line.planes.length = s.dev.setPlanes set ∧
      (t.dev.st set).next = some ((j + 1) % 2 ^ 32) ∧
      (t.dev.st set).waiting = (s.dev.st set).waiting.filter (fun e => !s.dev.onGrid set e.2 || decide (0 < serialDiff 32 e.2.j j)) ∧
      s.dev.keeps t.dev Device.flagKeys ∧ t.dev.dram = s.dev.dram ∧ t.dev.staged = s.dev.staged := by
  obtain ⟨hflags, hst, hdram⟩ := Device.flagLate_none s.dev.begin set
  obtain ⟨q, ps, e, t, line, he, hlj, hplanes, hmade⟩ := s.dev.begin.makeStitched_eq set j got []
  have hlap : (s.dev.begin.flagLate set []).MeasuresOverlaps set e := he ▸ .overlapLine hs _ q ps
  have hset : e.st set = { s.dev.st set with overlaps := (e.st set).overlaps } := by
    rw [hlap.set, Device.st, Device.st, hst]
    rfl
  have hon : e.onGrid set = s.dev.onGrid set := by
    funext o
    unfold Device.onGrid
    rw [hset]
  have hch : s.dev.begin.ChangesOnly [] Device.flagKeys e := hflags.trans hlap.changesOnly
  obtain ⟨t, hgo, hdev⟩ := exec_device (exec_stitchLine_ready hs hgrid hj hdue h)
  refine ⟨t, line, hgo, ?_⟩
  rw [hdev, hmade, Device.st_modSt _ hs, hset, hon]
  exact ⟨rfl, hlj, hplanes, rfl, rfl, keeps_of_changesOnly (hch.modSt set _), (congrArg Device.dram hlap.beside).trans hdram, hch.staged⟩

end Sys2Proof.Machine
end

section
/-!
PROOF. The measure of overlaps and what an update of the trims can change (R182, R183).
-/
namespace Sys2Proof.Machine

/-! ## The channels of an overlap -/

/-- An insertion adds nothing but the element inserted. -/
theorem mem_insertBy {α : Type} {key : α → Nat} {x y : α} {l : List α} (h : y ∈ insertBy key x l) : y = x ∨ y ∈ l := by
  induction l with
  | nil => simpa [insertBy] using h
  | cons z l ih =>
    unfold insertBy at h
    split at h
    · simpa using h
    · rcases List.mem_cons.mp h with rfl | h
      · exact .inr List.mem_cons_self
      · exact (ih h).imp_right (List.mem_cons_of_mem z)

theorem mem_of_mem_sortBy {α : Type} {key : α → Nat} {y : α} {l : List α} (h : y ∈ sortBy key l) : y ∈ l := by
  refine List.foldlRecOn (motive := fun acc => y ∈ acc → y ∈ l) l _ (fun h => absurd h List.not_mem_nil) ?_ h
  intro acc hacc x hx hy
  rcases mem_insertBy hy with rfl | hy
  · exact hx
  · exact hacc hy

theorem mem_of_mem_orderParts {x : Piece} {ps : List Piece} (h : x ∈ orderParts ps) : x ∈ ps := (List.mem_filter.mp (mem_of_mem_sortBy h)).1

namespace Device

/-- The two parts of an overlap are among the parts. -/
theorem mem_of_mem_overlapsOf {ps : List Piece} {l r : Piece} {o : Nat × Nat} (h : (l, r, o) ∈ overlapsOf ps) : l ∈ ps ∧ r ∈ ps := by
  induction ps with
  | nil => cases h
  | cons p ps ih =>
    rcases List.mem_append.mp h with h | h
    · obtain ⟨q, hq, hlap⟩ := List.mem_filterMap.mp h
      obtain ⟨z, -, hz⟩ := Option.map_eq_some_iff.mp hlap
      obtain ⟨rfl, rfl, rfl⟩ := hz
      exact ⟨List.mem_cons_self, List.mem_cons_of_mem _ hq⟩
    · exact (ih h).imp (List.mem_cons_of_mem p) (List.mem_cons_of_mem p)

theorem ch_lt_of_mem_orderParts {d : Device} {s : Nat} {part : Nat → Piece} (hpart : ∀ n, (part n).ch = n) {x : Piece}
    (h : x ∈ orderParts ((d.onMembers s).map part)) : x.ch < 16 := by
  obtain ⟨n, hn, rfl⟩ := List.mem_map.mp (mem_of_mem_orderParts h)
  rw [hpart]
  exact lt_of_mem_members (List.mem_filter.mp hn).1

/-- The overlaps of a set are overlaps of camera channels. -/
theorem lt_of_mem_liveOverlaps {d : Device} {s a b : Nat} (h : (a, b) ∈ d.liveOverlaps s) : a < 16 ∧ b < 16 := by
  obtain ⟨⟨l, r, o⟩, hmem, heq⟩ := List.mem_map.mp h
  obtain ⟨rfl, rfl⟩ := heq
  exact (mem_of_mem_overlapsOf hmem).imp (ch_lt_of_mem_orderParts fun _ => rfl) (ch_lt_of_mem_orderParts fun _ => rfl)

/-- The channels that drift are those known at first and those that overlaps join to them (R183). -/
theorem mem_driftFrom {ovs : List Overlap} {n : Nat} {known : List (Nat × Int)} {e : Nat × Int} (h : e ∈ driftFrom ovs n known) :
    e ∈ known ∨ ∃ o ∈ ovs, e.1 = o.left ∨ e.1 = o.right := by
  induction n generalizing known with
  | zero => exact .inl h
  | succ n ih =>
    rcases ih h with h | h
    · refine (List.mem_append.mp h).imp_right fun hmore => ?_
      obtain ⟨o, ho, hjoin⟩ := List.mem_filterMap.mp hmore
      refine ⟨o, ho, ?_⟩
      dsimp only at hjoin
      split at hjoin
      · cases hjoin; exact .inr rfl
      · cases hjoin; exact .inl rfl
      · cases hjoin
    · exact .inr h

/-! ## An update of the trims (R183) -/

/-- TRIM_LIMIT is set for each channel whose trim would go too far (R183). -/
def flagTrims (d : Device) (past : List (Nat × Int)) : Device :=
  past.foldl (fun d e => d.set .CH_STI_FLAGS e.1 (setBit (d.num .CH_STI_FLAGS e.1) 0)) d

/-- An update of the trims (R183) leaves the device, or flags camera channels, adds trims that wait, and takes the δ of every overlap. -/
theorem trimUpdate_cases (d : Device) (s : Nat) :
    d.trimUpdate s = d ∨ ∃ (past ok : List (Nat × Int)), (∀ e ∈ past, e.1 < 16) ∧
      d.trimUpdate s = (d.flagTrims past).modSt s (fun x => { x with trims := x.trims ++ ok, overlaps := x.overlaps.map (fun o => { o with delta := none }) }) := by
  unfold trimUpdate
  dsimp only
  split
  · exact .inl rfl
  · split
    · exact .inl rfl
    · refine .inr ⟨_, _, fun e he => ?_, rfl⟩
      obtain ⟨e0, he0, rfl⟩ := List.mem_map.mp (List.mem_filter.mp he).1
      obtain ⟨hdrift, hne⟩ := List.mem_filter.mp he0
      rcases mem_driftFrom hdrift with href | ⟨o, ho, hside⟩
      · obtain rfl := List.mem_singleton.mp href
        simp at hne
      · have hlap : (o.left, o.right) ∈ d.liveOverlaps s := by simpa using (List.mem_filter.mp ho).2
        obtain ⟨hl, hr⟩ := lt_of_mem_liveOverlaps hlap
        rcases hside with h | h
        · exact h ▸ hl
        · exact h ▸ hr

/-- The trims do not change while no overlap of the set has given a δ (R183). -/
theorem trimUpdate_waits {d : Device} {s : Nat} (h : ∀ o ∈ (d.st s).overlaps, o.delta = none) : d.trimUpdate s = d := by
  have hgiven : ∀ p : Nat × Nat, (d.st s).overlaps.any (fun o => o.left = p.1 && o.right = p.2 && o.delta.isSome) = false := fun p =>
    List.any_eq_false.mpr fun o ho => by simp [h o ho]
  unfold trimUpdate
  dsimp only
  split
  · rfl
  · refine if_pos ?_
    cases d.liveOverlaps s with
    | nil => rfl
    | cons p ps => simp [hgiven p]

theorem flagTrims_spec (d : Device) {past : List (Nat × Int)} (h : ∀ e ∈ past, e.1 < 16) :
    d.ChangesOnly [] flagKeys (d.flagTrims past) ∧ (d.flagTrims past).stitch = d.stitch := by
  refine List.foldlRecOn (motive := fun e : Device => d.ChangesOnly [] flagKeys e ∧ e.stitch = d.stitch) past _ ⟨.refl d, rfl⟩ ?_
  rintro e ⟨hch, hst⟩ x hx
  exact ⟨hch.setAt .CH_STI_FLAGS x.1 (mem_flagKeys (h x hx)) _, hst⟩

theorem changesOnly_trimUpdate (d : Device) (s : Nat) : d.ChangesOnly [] flagKeys (d.trimUpdate s) := by
  rcases d.trimUpdate_cases s with h | ⟨past, ok, hlt, h⟩
  · rw [h]; exact .refl d
  · rw [h]; exact (d.flagTrims_spec hlt).1.modSt s _

/-- An update of the trims takes nothing but the δ of an overlap. -/
theorem mem_overlaps_trimUpdate {d : Device} {s : Nat} (hs : s < 8) {o : Overlap} (h : o ∈ (d.st s).overlaps) :
    ∃ δ, { o with delta := δ } ∈ ((d.trimUpdate s).st s).overlaps := by
  rcases d.trimUpdate_cases s with heq | ⟨past, ok, hlt, heq⟩
  · exact ⟨o.delta, by rwa [heq]⟩
  · refine ⟨none, ?_⟩
    rw [heq, st_modSt _ hs]
    refine List.mem_map.mpr ⟨o, ?_, rfl⟩
    rw [st, (d.flagTrims_spec hlt).2]
    exact h

/-! ## The measure of an overlap (R182) -/

/-- An overlap measured (R182): its δ, and its sums cleared. -/
def measured (x : Stitch) (o : Overlap) (δ : Option Int) : Stitch :=
  { x with overlaps := x.overlaps.map (fun p => if p.left = o.left ∧ p.right = o.right then { p with sums := List.replicate 17 0, lines := 0, delta := δ } else p) }

/-- The measure of the one overlap of a left member that has gathered its lines (R182). -/
theorem overlapMeasure_one {d : Device} {n : Nat} {o : Overlap} {δ : Int}
    (hdue : (d.st (d.num .CH_STI_SET n)).overlaps.filter (fun p => p.left = n && d.num .STI_REFINE_LINES 0 ≤ p.lines) = [o]) (hpeak : overlapPeak o.sums = some δ) :
    d.overlapMeasure n = (d.modSt (d.num .CH_STI_SET n) (fun x => measured x o (some δ))).setI .CH_STI_OVL_OFFSET n δ := by
  unfold overlapMeasure
  dsimp only
  rw [hdue, List.foldl_cons, hpeak]
  rfl

theorem overlapMeasure_none {d : Device} {n : Nat} (h : ∀ p ∈ (d.st (d.num .CH_STI_SET n)).overlaps, p.left = n → p.lines < d.num .STI_REFINE_LINES 0) :
    d.overlapMeasure n = d := by
  have hdue : (d.st (d.num .CH_STI_SET n)).overlaps.filter (fun p => p.left = n && d.num .STI_REFINE_LINES 0 ≤ p.lines) = [] :=
    List.filter_eq_nil_iff.mpr fun p hp => by simpa using h p hp
  unfold overlapMeasure
  dsimp only
  rw [hdue]
  rfl

end Device

theorem exec_overlapMeasure (s : State) {n : Nat} (hn : n < 16) :
    exec (.overlapMeasure n) s = .next { s with dev := (s.dev.begin.overlapMeasure n).trimUpdate (s.dev.num .CH_STI_SET n) } := by
  show execOverlapMeasure n s = _
  simp only [execOverlapMeasure, WF.overlapMeasure, WF.chan, hn, decide_true, run]
  rfl

/-- With no δ given and too few lines in each overlap of the left member nothing changes (R182, R183). -/
theorem overlapMeasure_waits {s : State} {n : Nat} (hn : n < 16)
    (h : ∀ p ∈ (s.dev.st (s.dev.num .CH_STI_SET n)).overlaps, p.delta = none ∧ (p.left = n → p.lines < s.dev.num .STI_REFINE_LINES 0)) :
    exec (.overlapMeasure n) s = .next { s with dev := s.dev.begin } := by
  rw [exec_overlapMeasure s hn, Device.overlapMeasure_none (d := s.dev.begin) fun p hp => (h p hp).2, Device.trimUpdate_waits (d := s.dev.begin) fun p hp => (h p hp).1]

/-- A signed number that 32 bits hold is read back as it was written. -/
theorem toSigned_ofSigned {i : Int} (h : i.natAbs < 2 ^ 31) : toSigned 32 (ofSigned 32 i) = i := by
  unfold toSigned ofSigned
  dsimp only
  split <;> omega

/-- An overlap of a left member that has gathered its lines gives its offset (R182). -/
theorem overlapMeasure_measures {s : State} {n : Nat} {o : Overlap} {δ : Int} (hn : n < 16) (hs : s.dev.num .CH_STI_SET n < 8)
    (hdue : (s.dev.st (s.dev.num .CH_STI_SET n)).overlaps.filter (fun p => p.left = n && s.dev.num .STI_REFINE_LINES 0 ≤ p.lines) = [o])
    (hpeak : overlapPeak o.sums = some δ) (hδ : δ.natAbs < 2 ^ 15) :
    ∃ t, exec (.overlapMeasure n) s = .next t ∧ t.dev.int .CH_STI_OVL_OFFSET n = δ ∧ s.dev.keeps t.dev ((.CH_STI_OVL_OFFSET, n) :: Device.flagKeys) ∧
      ∃ p ∈ (t.dev.st (s.dev.num .CH_STI_SET n)).overlaps, p.left = n ∧ p.right = o.right ∧ p.lines = 0 ∧ p.sums = List.replicate 17 0 := by
  obtain ⟨hmem, hleft⟩ : o ∈ (s.dev.st (s.dev.num .CH_STI_SET n)).overlaps ∧ o.left = n := by
    have h := List.mem_filter.mp (hdue ▸ List.mem_singleton_self o)
    exact ⟨h.1, by simpa using (Bool.and_eq_true_iff.mp h.2).1⟩
  obtain ⟨t, hgo, hdev⟩ := exec_device (exec_overlapMeasure s hn)
  rw [Device.overlapMeasure_one (d := s.dev.begin) hdue hpeak] at hdev
  let e := (s.dev.begin.modSt (s.dev.num .CH_STI_SET n) (fun x => Device.measured x o (some δ))).setI .CH_STI_OVL_OFFSET n δ
  have hdev : t.dev = e.trimUpdate (s.dev.num .CH_STI_SET n) := hdev
  have hcleared : { o with sums := List.replicate 17 0, lines := 0, delta := some δ } ∈ (e.st (s.dev.num .CH_STI_SET n)).overlaps := by
    show _ ∈ ((s.dev.begin.modSt _ _).st _).overlaps
    rw [Device.st_modSt _ hs]
    exact List.mem_map.mpr ⟨o, hmem, if_pos ⟨rfl, rfl⟩⟩
  obtain ⟨δ', hp⟩ := Device.mem_overlaps_trimUpdate hs hcleared
  have htrim := e.changesOnly_trimUpdate (s.dev.num .CH_STI_SET n)
  have hoffset : e.int .CH_STI_OVL_OFFSET n = δ := by
    rw [Device.int, Device.num_setI_same]
    exact toSigned_ofSigned (hδ.trans (by decide))
  have hch : s.dev.begin.ChangesOnly [] ((.CH_STI_OVL_OFFSET, n) :: Device.flagKeys) e :=
    ((Device.ChangesOnly.refl _).modSt _ _).setIAt .CH_STI_OVL_OFFSET n List.mem_cons_self δ
  rw [← hdev] at hp htrim
  refine ⟨t, hgo, ?_, keeps_of_changesOnly (hch.trans (htrim.mono (List.subset_cons_self _ _))), _, hp, hleft, rfl, rfl, rfl⟩
  rw [Device.int, htrim.num .CH_STI_OVL_OFFSET n List.not_mem_nil (by simp [Device.flagKeys])]
  exact hoffset

end Sys2Proof.Machine
end

section
/-!
PROOF. A mark that does not come (R186), and O28.
-/
namespace Sys2Proof.Machine

theorem exec_markMissed (s : State) : exec .markMissed s = .next
    { s with dev := if s.dev.num .STI_MARK_SRC 0 ≠ 0 && !s.dev.followsRepeats && s.dev.rep.opened then s.dev.begin.missMark else s.dev.begin } := rfl

/-- A device whose repeats take no marks misses none. -/
theorem markMissed_unmarked {s : State} (h : s.dev.num .STI_MARK_SRC 0 = 0) : exec .markMissed s = .next { s with dev := s.dev.begin } := by
  rw [exec_markMissed, h]
  rfl

namespace Device

theorem ChangesOnly.modRep {regs : List Reg} {keys : List (Reg × Nat)} {d e : Device} (h : d.ChangesOnly regs keys e) (f : Repeats → Repeats) :
    d.ChangesOnly regs keys (e.modRep f) := h.beside rfl

/-- Outside a fold no start is told to one (R415). -/
theorem repeatSend_alone {d : Device} (h : d.inFold = false) (k y : Nat) (e : Int) : d.repeatSend k y e = d := by
  simp [repeatSend, h]

/-- The start that follows the last one where no mark has come (R186). -/
theorem missMark_alone {d : Device} {r : RepeatStart} {rest : List RepeatStart} (hf : d.inFold = false) (hr : d.rep.starts = r :: rest) (hlen : rest.length < 1000) :
    d.missMark = (d.modRep (fun x => { x with
      starts := { k := (r.k + 1) % 2 ^ 32, y := r.y + stretched d.lRep r.e, e := r.e } :: r :: rest })).bump .STI_MARKS_MISSED 0 := by
  have hfull : ∀ x : RepeatStart, (x :: d.rep.starts).take 1024 = x :: r :: rest := fun x => by
    rw [hr, List.take_of_length_le (by simp; omega)]
  have halone : ∀ (f : Repeats → Repeats) (k y : Nat) (e : Int), (d.modRep f).repeatSend k y e = d.modRep f := fun _ => repeatSend_alone hf
  simp only [missMark, hr, startRepeat, nextK, halone]
  simp only [modRep, hfull]

end Device

/-- Without a mark the next repeat starts where the last one predicts it (R186). -/
theorem markMissed_predicts {s : State} {r : RepeatStart} {rest : List RepeatStart} (hsrc : s.dev.num .STI_MARK_SRC 0 ≠ 0) (hfollows : s.dev.followsRepeats = false)
    (hf : s.dev.inFold = false) (ho : s.dev.rep.opened = true) (hr : s.dev.rep.starts = r :: rest) (hlen : rest.length < 1000) :
    ∃ t, exec .markMissed s = .next t ∧ t.dev.rep.starts = { k := (r.k + 1) % 2 ^ 32, y := r.y + stretched s.dev.lRep r.e, e := r.e } :: r :: rest ∧
      t.dev.num .STI_MARKS_MISSED 0 = (s.dev.num .STI_MARKS_MISSED 0 + 1) % 2 ^ 32 ∧ s.dev.keeps t.dev [(.STI_MARKS_MISSED, 0)] := by
  obtain ⟨t, hgo, hdev⟩ := exec_device (exec_markMissed s)
  refine ⟨t, hgo, ?_⟩
  rw [hdev, if_pos (by simp [hsrc, hfollows, ho]), Device.missMark_alone (d := s.dev.begin) hf hr hlen]
  exact ⟨rfl, Device.num_bump_same _ .STI_MARKS_MISSED 0, keeps_of_changesOnly (((Device.ChangesOnly.refl _).modRep _).bumpAt .STI_MARKS_MISSED 0 List.mem_cons_self)⟩

/-- Settles O28: the line that is made and the one that waits, the overlap that is measured and the one that is not, the mark missed and none to miss, each by the lemma
about its command. -/
theorem stitchingAndItsMarks : Obligations.StitchingAndItsMarks := by
  unfold Obligations.StitchingAndItsMarks
  refine ⟨?_, ?_, ?_⟩
  · intro s set j got hs hgrid hj hdue
    exact ⟨stitchLine_makes hs hgrid hj hdue, stitchLine_waits hs hgrid hj⟩
  · rintro s n set o hn rfl hs
    exact ⟨fun δ hdue hpeak hδ => overlapMeasure_measures hn hs hdue hpeak hδ, overlapMeasure_waits hn⟩
  · intro s
    exact ⟨fun r rest hsrc hfollows hf ho hr hlen => markMissed_predicts hsrc hfollows hf ho hr hlen, markMissed_unmarked⟩

end Sys2Proof.Machine
end

section
/-!
PROOF. What reading a heft, learning and calibration leave alone as a line is compared (R21, R212, R213, R285 to R287): the sets and what waits for segmentation.
-/
namespace Sys2Proof.Machine

namespace Device

/-- From `d` to `e` neither the sets nor what segmentation holds change. -/
structure KeepsLines (d e : Device) : Prop where
  stitch : e.stitch = d.stitch
  seg : e.seg = d.seg

namespace KeepsLines

variable {d e f : Device}

theorem refl (d : Device) : d.KeepsLines d := ⟨rfl, rfl⟩

theorem trans (h : d.KeepsLines e) (h' : e.KeepsLines f) : d.KeepsLines f := ⟨h'.stitch.trans h.stitch, h'.seg.trans h.seg⟩

theorem add (h : d.KeepsLines e) (r : Reg) (i k : Nat) : d.KeepsLines (e.add r i k) := ⟨h.stitch, h.seg⟩

theorem modHeft (h : d.KeepsLines e) (g : Heft → Heft) : d.KeepsLines (e.modHeft g) := ⟨h.stitch, h.seg⟩

theorem ite {c : Prop} [Decidable c] {a b : Device} (ha : d.KeepsLines a) (hb : d.KeepsLines b) : d.KeepsLines (if c then a else b) := by
  split
  · exact ha
  · exact hb

theorem bumpIf (h : d.KeepsLines e) (c : Bool) (r : Reg) (i : Nat) : d.KeepsLines (e.bumpIf c r i) := ite (h.add r i 1) h

theorem foldl {α : Type} {g : Device → α → Device} (hg : ∀ (e : Device) (x : α), e.KeepsLines (g e x)) (xs : List α) (d : Device) : d.KeepsLines (xs.foldl g d) :=
  List.foldlRecOn xs _ (refl d) fun e h x _ => h.trans (hg e x)

theorem countRead (h : d.KeepsLines e) (a n : Nat) : d.KeepsLines (e.countRead a n) := by
  unfold Device.countRead
  dsimp only
  split
  · exact (h.add _ _ _).add _ _ _
  · exact h.add _ _ _

theorem readBlock (d : Device) (pad : Nat) (b : BlockAt) : d.KeepsLines (d.readBlock pad b) := by
  unfold Device.readBlock
  dsimp only
  split
  · exact refl d
  · refine modHeft (ite ?_ ?_) _
    · exact (((refl d).countRead _ _).bumpIf _ _ _).add _ _ _
    · exact (((refl d).countRead _ _).bumpIf _ _ _).add _ _ _

theorem readFor (d : Device) (pad : Nat) (l : Layer) (v : Int) (last : Option Int) : d.KeepsLines (d.readFor pad l v last) :=
  foldl (fun e _ => ite (refl e) (foldl (fun e _ => foldl (fun e _ => readBlock e _ _) _ e) _ e)) _ d

theorem learnOne (rep pad set : Nat) (seed : Bool) (d : Device) (x : LearnSample) : d.KeepsLines (learnOne rep pad set seed d x) := by
  unfold Device.learnOne
  split
  · exact refl d
  · exact ite (refl d) (ite (refl d) ((refl d).modHeft _))

theorem learnLine (d : Device) (s : Nat) (f : InForce) (l : StLine) (next prev : Option StLine) (disp : Array (Int × Int × Nat)) (v16 : Int) :
    d.KeepsLines (d.learnLine s f l next prev disp v16) := by
  unfold Device.learnLine
  split
  · exact refl d
  · refine ite (refl d) ?_
    split
    · exact ite (refl d) (foldl (fun e x => learnOne _ _ _ _ e x) _ d)
    · exact ite (foldl (fun e x => learnOne _ _ _ _ e x) _ d) (refl d)

theorem calLine (d : Device) (l : StLine) (js : Array Judged) : d.KeepsLines (d.calLine l js) := by
  unfold Device.calLine
  refine ite (refl d) (foldl (fun e c => ?_) _ d)
  dsimp only
  refine ite (refl e) (ite (refl e) (foldl (fun e q => ?_) _ e))
  split
  · exact ite ⟨rfl, rfl⟩ (refl e)
  · exact refl e

end KeepsLines

end Device

end Sys2Proof.Machine
end

section
/-!
PROOF. A line compared (R233 to R236): what it leaves of the sets and of segmentation, and what it counts where no heft is in force.
-/
namespace Sys2Proof.Machine

/-- A sample that is not compared (R233). -/
def maskedSample (b : Bool) : Judged := { px := if b then .blind else .clear }

/-- A mark of the compare is a flag (R235). -/
def isFlag : Px → Bool
  | .flag .. => true
  | _ => false

/-- A line is compared at full resolution (R234). -/
def CompareAs.isFull : CompareAs → Bool
  | .full _ => true
  | _ => false

namespace Device

/-! ## The counters of the compare (R233) -/

theorem val_add_same (d : Device) (r : Reg) (i k : Nat) : (d.add r i k).val r i = .num ((d.num r i + k) % 2 ^ r.bits) := val_put_same d r i _

theorem val_add_reg_ne (d : Device) {r r' : Reg} (i i' k : Nat) (h : r' ≠ r) : (d.add r' i' k).val r i = d.val r i := val_put_ne d (fun hh => h hh.1) _

/-- The counters of the compare that a line without a heft adds nothing to. -/
def idleCounters : List Reg := [.CMP_COMPARED, .CMP_FLAGGED, .CMP_SAT]

/-- The live objects that a line without a heft writes. -/
def maskKeys : List (Reg × Nat) := [(.CMP_MASKED, 0), (.CMP_RESOLUTION, 0), (.CMP_COMPARED, 0), (.CMP_FLAGGED, 0), (.CMP_SAT, 0)]

/-- From `d` to `e` the compare has counted `n` masked samples and none compared (R233): each counter that it adds 0 to is left with what its width holds. -/
structure CountsMasked (d e : Device) (n : Nat) : Prop where
  changes : d.ChangesOnly [] maskKeys e
  dram : e.dram = d.dram
  masked : e.num .CMP_MASKED 0 = (d.num .CMP_MASKED 0 + n) % 2 ^ 64
  idle : ∀ r ∈ idleCounters, e.val r 0 = .num (d.num r 0 % 2 ^ 64)

namespace CountsMasked

variable {d e f : Device} {n : Nat}

theorem counts (d : Device) (n : Nat) :
    d.CountsMasked ((((d.add .CMP_COMPARED 0 0).add .CMP_FLAGGED 0 0).add .CMP_MASKED 0 n).add .CMP_SAT 0 0) n where
  changes := ((((ChangesOnly.refl d).setAt .CMP_COMPARED 0 (by decide) _).setAt .CMP_FLAGGED 0 (by decide) _).setAt .CMP_MASKED 0 (by decide) _).setAt .CMP_SAT 0 (by decide) _
  dram := rfl
  masked := by
    rw [num_add_reg_ne _ 0 0 0 (by decide)]
    refine (num_add_same _ .CMP_MASKED 0 n).trans ?_
    rw [num_add_reg_ne _ 0 0 0 (by decide), num_add_reg_ne _ 0 0 0 (by decide)]
    rfl
  idle := by
    simp only [idleCounters, List.mem_cons, List.not_mem_nil, or_false]
    rintro r (rfl | rfl | rfl)
    · rw [val_add_reg_ne _ 0 0 0 (by decide), val_add_reg_ne _ 0 0 n (by decide), val_add_reg_ne _ 0 0 0 (by decide)]
      exact val_add_same d .CMP_COMPARED 0 0
    · rw [val_add_reg_ne _ 0 0 0 (by decide), val_add_reg_ne _ 0 0 n (by decide)]
      refine (val_add_same _ .CMP_FLAGGED 0 0).trans ?_
      rw [num_add_reg_ne _ 0 0 0 (by decide)]
      rfl
    · refine (val_add_same _ .CMP_SAT 0 0).trans ?_
      rw [num_add_reg_ne _ 0 0 n (by decide), num_add_reg_ne _ 0 0 0 (by decide), num_add_reg_ne _ 0 0 0 (by decide)]
      rfl

theorem val_of_held {e f : Device} (held : f.held = e.held) (r : Reg) (i : Nat) : f.val r i = e.val r i :=
  ((ChangesOnly.refl (regs := []) (keys := []) e).beside held).val r i List.not_mem_nil List.not_mem_nil

/-- An update that leaves the live objects and the stack. -/
theorem beside (h : d.CountsMasked e n) (held : f.held = e.held) (hdram : f.dram = e.dram) : d.CountsMasked f n where
  changes := h.changes.beside held
  dram := hdram.trans h.dram
  masked := (congrArg Val.toNat (val_of_held held _ _)).trans h.masked
  idle r hr := (val_of_held held r 0).trans (h.idle r hr)

/-- The same after an update that leaves the live objects and the stack. -/
theorem after (h : d.CountsMasked e n) (held : d.held = f.held) (hdram : d.dram = f.dram) : f.CountsMasked e n where
  changes := ((ChangesOnly.refl f).beside held).trans h.changes
  dram := h.dram.trans hdram
  masked := by rw [h.masked, num, num, val_of_held held]
  idle r hr := by rw [h.idle r hr, num, num, val_of_held held]

theorem resolution (h : d.CountsMasked e n) (x : Nat) : d.CountsMasked (e.set .CMP_RESOLUTION 0 x) n where
  changes := h.changes.setAt .CMP_RESOLUTION 0 (by decide) x
  dram := h.dram
  masked := (num_set_reg_ne e 0 0 x (by decide)).trans h.masked
  idle r hr := (val_set_ne e (fun hh => by rw [← hh.1] at hr; exact absurd hr (by decide)) x).trans (h.idle r hr)

end CountsMasked

/-! ## A line compared -/

theorem segOf_modSeg (d : Device) {s : Nat} (hs : s < 8) (f : Segment → Segment) : (d.modSeg s f).segOf s = f (d.segOf s) :=
  getD_modTab_same 8 ({} : Segment) d.seg.sets s f hs

/-- What nothing is in force for is neither learned from nor seeds a heft (R212, R219). -/
theorem learnLine_idle (d : Device) (s : Nat) {f : InForce} (hl : f.learning = none) (hs : f.seeding = false) (l : StLine) (next prev : Option StLine)
    (disp : Array (Int × Int × Nat)) (v16 : Int) : d.learnLine s f l next prev disp v16 = d := by
  unfold learnLine
  split
  · rfl
  · simp [hl, hs]

/-- A view with nothing in force: the line is masked. -/
structure LineView.Masks (v : LineView) : Prop where
  ref : v.ref = none
  how : v.how = .masked
  learning : v.force.learning = none
  seeding : v.force.seeding = false

/-- The counters of the compare follow what it made of a line's samples (R233 to R236). -/
def countJudged (d : Device) (s : Nat) (v : LineView) (js : List Judged) : Device :=
  let count (p : Judged → Bool) : Nat := (js.filter p).length
  let d := (d.add .CMP_COMPARED 0 (count Judged.compared)).add .CMP_FLAGGED 0 (count (fun j => isFlag j.px))
  let d := (d.add .CMP_MASKED 0 (count (fun j => !j.compared))).add .CMP_SAT 0 (count (fun j => j.compared && j.sat))
  let d := d.bumpIf (js.any Judged.outside) .STI_OUTSIDE s
  d.bumpIf (v.ref.isSome && v.disp.any (fun e => e.2.2 = 2)) .STI_UNREG_LINES s

/-- Calibration and learning take what a line gives them (R212, R285). -/
def lineGives (d : Device) (s : Nat) (l : StLine) (next prev : Option StLine) (v : LineView) (js : List Judged) : Device :=
  (if v.how.isFull then d.calLine l js.toArray else d).learnLine s v.force l next prev v.disp v.v16

/-- The set, DEV_REDUCED and CMP_RESOLUTION show how a line was compared (R15, R234, R283). -/
def lineShown (d : Device) (s : Nat) (l : StLine) (v : LineView) (res : Nat) : Device :=
  let d := if v.how.isFull then d else d.modSt s (fun y => { y with full := false })
  let d := if l.blind.any id then { d.reduced 3 true with flow := { d.flow with blindNow := true } } else d
  if s = d.num .STI_REPEAT_SET 0 then d.set .CMP_RESOLUTION 0 (if v.how = .masked then 0xFF else res) else d

/-- A line compared, step by step: the heft is read and the samples judged, then what follows from them; last, they join what waits for segmentation. -/
theorem compareLine_eq (d : Device) (s : Nat) (l : StLine) (next prev : Option StLine) (r : Option RepeatStart) (first : Bool) (v : LineView) :
    ∃ (d1 : Device) (js : List Judged) (res : Nat) (x : CmpLine), d.KeepsLines d1 ∧ (v.ref = none → d1 = d ∧ js = l.blind.map maskedSample) ∧
      (x.j = l.j ∧ x.y = l.y ∧ x.k = (r.map RepeatStart.k).getD 0 ∧ x.first = first ∧ x.px = js.map Judged.px) ∧
      d.compareLine s l next prev r first v =
        (((d1.countJudged s v js).lineGives s l next prev v js).lineShown s l v res).modSeg s (fun y => { y with queue := y.queue ++ [x] }) := by
  unfold compareLine
  extract_lets w rows blind m res lastV d1 js
  refine ⟨d1, js, res, _, ?_, fun href => ⟨?_, ?_⟩, ⟨rfl, rfl, rfl, rfl, rfl⟩, rfl⟩
  · unfold d1
    split
    · exact .readFor d _ _ _ _
    · exact .refl d
  · simp only [d1, href]
  · simp only [js, href]
    rfl

theorem KeepsLines.countJudged (d : Device) (s : Nat) (v : LineView) (js : List Judged) : d.KeepsLines (d.countJudged s v js) :=
  ((((((refl d).add _ _ _).add _ _ _).add _ _ _).add _ _ _).bumpIf _ _ _).bumpIf _ _ _

theorem KeepsLines.lineGives (d : Device) (s : Nat) (l : StLine) (next prev : Option StLine) (v : LineView) (js : List Judged) :
    d.KeepsLines (d.lineGives s l next prev v js) := by
  have hcal : d.KeepsLines (if v.how.isFull then d.calLine l js.toArray else d) := .ite (.calLine d l js.toArray) (.refl d)
  exact hcal.trans (.learnLine _ s v.force l next prev v.disp v.v16)

/-- What a line shows changes of its set only whether the repeat has been all compared at full resolution. -/
theorem lineShown_set (d : Device) {s : Nat} (hs : s < 8) (l : StLine) (v : LineView) (res : Nat) :
    (d.lineShown s l v res).seg = d.seg ∧ ∃ full, (d.lineShown s l v res).st s = { d.st s with full := full } := by
  unfold lineShown
  extract_lets d1 d2 flow d3
  have h1 : d1.seg = d.seg ∧ ∃ full, d1.st s = { d.st s with full := full } := by
    unfold d1
    split
    · exact ⟨rfl, _, rfl⟩
    · exact ⟨rfl, _, st_modSt d hs _⟩
  have h3 : d3.seg = d1.seg ∧ d3.st s = d1.st s := by
    unfold d3
    split
    · exact ⟨rfl, rfl⟩
    · exact ⟨rfl, rfl⟩
  have h4 : ∀ x, (d3.set .CMP_RESOLUTION 0 x).seg = d1.seg ∧ (d3.set .CMP_RESOLUTION 0 x).st s = d1.st s := fun _ => h3
  split
  · rwa [(h4 _).1, (h4 _).2]
  · rwa [h3.1, h3.2]

/-! ## A line with nothing in force (R226, R233) -/

theorem length_filter_maskedSample {p : Judged → Bool} {c : Bool} (h : ∀ b, p (maskedSample b) = c) (bs : List Bool) :
    ((bs.map maskedSample).filter p).length = if c then bs.length else 0 := by
  cases c with
  | false => simp [List.filter_map, Function.comp_def, h]
  | true => simp [List.filter_map, Function.comp_def, h]

theorem countJudged_masked (d : Device) (s : Nat) {v : LineView} (hv : v.Masks) (bs : List Bool) :
    d.countJudged s v (bs.map maskedSample) = (((d.add .CMP_COMPARED 0 0).add .CMP_FLAGGED 0 0).add .CMP_MASKED 0 bs.length).add .CMP_SAT 0 0 := by
  have hpx : ∀ b, isFlag (maskedSample b).px = false := fun b => by cases b <;> rfl
  have hcompared : ((bs.map maskedSample).filter Judged.compared).length = 0 := length_filter_maskedSample (c := false) (fun _ => rfl) bs
  have hflag : ((bs.map maskedSample).filter (fun j => isFlag j.px)).length = 0 := length_filter_maskedSample (c := false) hpx bs
  have hmasked : ((bs.map maskedSample).filter (fun j => !j.compared)).length = bs.length := length_filter_maskedSample (c := true) (fun _ => rfl) bs
  have hsat : ((bs.map maskedSample).filter (fun j => j.compared && j.sat)).length = 0 := length_filter_maskedSample (c := false) (fun _ => rfl) bs
  have houtside : (bs.map maskedSample).any Judged.outside = false := List.any_eq_false.mpr fun j hj => by
    obtain ⟨b, -, rfl⟩ := List.mem_map.mp hj
    exact Bool.false_ne_true
  simp only [countJudged, hcompared, hflag, hmasked, hsat, houtside, hv.ref]
  rfl

theorem lineGives_masked (d : Device) (s : Nat) {v : LineView} (hv : v.Masks) (l : StLine) (next prev : Option StLine) (js : List Judged) :
    d.lineGives s l next prev v js = d := by
  unfold lineGives
  rw [hv.how, learnLine_idle _ s hv.learning hv.seeding]
  rfl

theorem CountsMasked.lineShown {d e : Device} {n : Nat} (h : d.CountsMasked e n) (s : Nat) {l : StLine} (hb : l.blind.any id = false) {v : LineView} (hv : v.Masks) (res : Nat) :
    d.CountsMasked (e.lineShown s l v res) n := by
  have hset : ∀ f, d.CountsMasked (e.modSt s f) n := fun _ => h.beside rfl rfl
  unfold Device.lineShown
  simp only [hv.how, hb, CompareAs.isFull, Bool.false_eq_true, if_false]
  split
  · exact (hset _).resolution _
  · exact hset _

/-- The compare of a line changes no delay buffer, and what it finds joins what waits for segmentation (R233); with nothing in force it counts every sample as
masked. -/
theorem compareLine_queues (d : Device) {s : Nat} (hs : s < 8) (l : StLine) (next prev : Option StLine) (r : Option RepeatStart) (first : Bool) (v : LineView) :
    ∃ (e : Device) (x : CmpLine), d.compareLine s l next prev r first v = e.modSeg s (fun y => { y with queue := y.queue ++ [x] }) ∧
      e.segOf s = d.segOf s ∧ (e.st s).buf = (d.st s).buf ∧ x.j = l.j ∧ x.y = l.y ∧ x.k = (r.map RepeatStart.k).getD 0 ∧ x.first = first ∧
      (v.Masks → l.blind.any id = false → x.px.length = l.blind.length ∧ d.CountsMasked e l.blind.length) := by
  obtain ⟨d1, js, res, x, hread, hjs, ⟨hj, hy, hk, hf, hpx⟩, heq⟩ := d.compareLine_eq s l next prev r first v
  have hkeeps := (hread.trans (.countJudged d1 s v js)).trans (.lineGives _ s l next prev v js)
  obtain ⟨hseg, full, hst⟩ := lineShown_set ((d1.countJudged s v js).lineGives s l next prev v js) hs l v res
  refine ⟨_, x, heq, ?_, ?_, hj, hy, hk, hf, fun hv hb => ?_⟩
  · rw [segOf, hseg, hkeeps.seg]
    rfl
  · rw [hst, st, hkeeps.stitch]
    rfl
  · obtain ⟨rfl, rfl⟩ := hjs hv.ref
    refine ⟨by simp [hpx], ?_⟩
    rw [countJudged_masked d1 s hv, lineGives_masked _ s hv]
    exact (CountsMasked.counts d1 l.blind.length).lineShown s hb hv res

end Device

end Sys2Proof.Machine
end

section
/-!
PROOF. The oldest line of a set as it leaves the delay buffer in a repeat that has begun (R185, R189, R196), COMPARE_LINE, and O29: why the statement fails, and what holds
where the counters are within their width.
-/
namespace Sys2Proof.Machine

namespace Device

/-! ## The oldest line of a set (R185, R188, R189) -/

/-- The view of a line in a repeat with nothing in force (R226, R234). -/
theorem lineView_masks {d : Device} {r : RepeatStart} (h : d.forceAt r.k = none) (s : Nat) (l : StLine) : (d.lineView s l (some r)).Masks := by
  have hforce : (Option.bind (some r) fun x => d.forceAt x.k).getD { k := 0, mode := .idle } = { k := 0, mode := .idle } := by rw [Option.bind_some, h]; rfl
  constructor <;> simp only [lineView, hforce] <;> rfl

theorem startsFor_marked {d : Device} (hsrc : d.num .STI_MARK_SRC 0 ≠ 0) (hf : d.followsRepeats = false) (y : Int) : d.startsFor y = d := by
  simp [startsFor, hsrc, hf]

/-- What a line that leaves the buffer within a repeat that has begun finds (R185, R189, R217): 128 lines have followed it, no start is to be predicted, and it waits for no
block. -/
structure LeavesWithin (d : Device) (s : Nat) (l : StLine) (rest : List StLine) (r : RepeatStart) : Prop where
  flushing : (d.st s).flushing = false
  buf : (d.st s).buf = l :: rest
  followed : 128 ≤ rest.length
  marked : d.num .STI_MARK_SRC 0 ≠ 0
  leads : d.followsRepeats = false
  start : d.startOf l.y = some r
  begun : (d.st s).k = some r.k
  before : (d.st s).prev.bind (fun p => d.startOf p.y) = some r
  sealed : d.awaitsSeal s (d.lineView s l (some r)) = false

/-- What the stack delivers poisoned (R318) is no part of it. -/
theorem LeavesWithin.stackRead {d : Device} {s : Nat} {l : StLine} {rest : List StLine} {r : RepeatStart} (h : d.LeavesWithin s l rest r) (bad : List BlockAt) :
    (d.begin.modHeft (fun h => { h with bad := bad })).LeavesWithin s l rest r :=
  ⟨h.flushing, h.buf, h.followed, h.marked, h.leads, h.start, h.begun, h.before, h.sealed⟩

/-- A line that leaves the buffer is compared in its repeat, and is the set's line before the next (R185, R189). -/
theorem takeLine_within {d : Device} {s : Nat} {l : StLine} {rest : List StLine} {r : RepeatStart} (h : d.LeavesWithin s l rest r) :
    d.takeLine s = ((d.modSt s (fun x => { x with buf := rest })).compareLine s l rest.head? (d.st s).prev (some r) false (d.lineView s l (some r))).modSt s
      (fun x => { x with prev := some l, next := if x.flushing && rest.isEmpty then none else x.next }) := by
  unfold takeLine
  simp [h.buf, h.flushing, startsFor_marked h.marked h.leads, h.start, h.begun, h.before, h.sealed]

/-- A line leaves the buffer and joins what waits for segmentation (R189, R196); with nothing in force all of it is masked (R233). -/
theorem takeLine_leaves {d : Device} {s : Nat} (hs : s < 8) {l : StLine} {rest : List StLine} {r : RepeatStart} (h : d.LeavesWithin s l rest r) :
    ∃ x : CmpLine, ((d.takeLine s).st s).buf = rest ∧ ((d.takeLine s).st s).prev = some l ∧ ((d.takeLine s).segOf s).queue = (d.segOf s).queue ++ [x] ∧
      x.j = l.j ∧ x.y = l.y ∧ x.k = r.k ∧ x.first = false ∧
      (d.forceAt r.k = none → l.blind.any id = false → x.px.length = l.blind.length ∧ d.CountsMasked (d.takeLine s) l.blind.length) := by
  obtain ⟨e, x, heq, hseg, hbuf, hj, hy, hk, hf, hmask⟩ := (d.modSt s (fun x => { x with buf := rest })).compareLine_queues hs l rest.head? (d.st s).prev (some r) false
    (d.lineView s l (some r))
  rw [st_modSt d hs] at hbuf
  rw [takeLine_within h, heq]
  refine ⟨x, ?_, ?_, ?_, hj, hy, hk, hf, fun hforce hblind => ?_⟩
  · rw [st_modSt _ hs]
    exact hbuf
  · rw [st_modSt _ hs]
  · show ((e.modSeg s _).segOf s).queue = _
    rw [segOf_modSeg e hs, hseg]
    rfl
  · obtain ⟨hpx, hcounts⟩ := hmask (lineView_masks hforce s l) hblind
    have hbegun : d.CountsMasked e l.blind.length := hcounts.after rfl rfl
    exact ⟨hpx, hbegun.beside rfl rfl⟩

end Device

/-! ## The command -/

variable {s : State} {set : Nat} {bad : List (Nat × Nat × Nat)} {l : StLine} {rest : List StLine} {r : RepeatStart}

/-- A line stays in the delay buffer until 128 lines have entered after it (R189). -/
theorem compareLine_waits (hs : set < 8) (hflush : (s.dev.st set).flushing = false) (hlen : (s.dev.st set).buf.length < 129) :
    exec (.compareLine ⟨set, bad⟩) s = .next { s with dev := s.dev.begin } := by
  have hflush' : (s.dev.begin.st set).flushing = false := hflush
  have hlen' : ¬ 129 ≤ (s.dev.begin.st set).buf.length := Nat.not_le.mpr hlen
  show execCompareLine ⟨set, bad⟩ s = _
  simp [execCompareLine, WF.compareLine, WF.set, hs, run, hflush', hlen']

/-- A line that 128 lines have followed is taken (R189), with what the stack delivers poisoned (R318). -/
theorem exec_compareLine (hs : set < 8) (hlen : 129 ≤ (s.dev.st set).buf.length) :
    ∃ blocks, exec (.compareLine ⟨set, bad⟩) s = .next
      { s with dev := ((s.dev.begin.modHeft (fun h => { h with bad := blocks })).takeLine set).modHeft (fun h => { h with bad := [] }) } := by
  have hlen' : 129 ≤ (s.dev.begin.st set).buf.length := hlen
  refine ⟨bad.map (fun b => { set := set, plane := b.1, br := b.2.1, bc := b.2.2 }), ?_⟩
  show execCompareLine ⟨set, bad⟩ s = _
  simp only [execCompareLine, WF.compareLine, WF.set, hs, decide_true, run, hlen', Bool.or_true, if_true]

/-- The same of the command: what it does beside is not seen in the sets, in segmentation and in the counters. -/
theorem compareLine_leaves (hs : set < 8) (h : s.dev.LeavesWithin set l rest r) :
    ∃ t x, exec (.compareLine ⟨set, bad⟩) s = .next t ∧ (t.dev.st set).buf = rest ∧ (t.dev.st set).prev = some l ∧
      (t.dev.segOf set).queue = (s.dev.segOf set).queue ++ [x] ∧ x.j = l.j ∧ x.y = l.y ∧ x.k = r.k ∧ x.first = false ∧
      (s.dev.forceAt r.k = none → l.blind.any id = false → x.px.length = l.blind.length ∧ s.dev.begin.CountsMasked t.dev l.blind.length) := by
  obtain ⟨blocks, hexec⟩ := exec_compareLine (s := s) (bad := bad) hs (by rw [h.buf]; simpa using h.followed)
  obtain ⟨t, hgo, hdev⟩ := exec_device hexec
  obtain ⟨x, hbuf, hprev, hqueue, hj, hy, hk, hf, hmask⟩ := Device.takeLine_leaves hs (h.stackRead blocks)
  refine ⟨t, x, hgo, ?_⟩
  rw [hdev]
  refine ⟨hbuf, hprev, hqueue, hj, hy, hk, hf, fun hforce hblind => ?_⟩
  obtain ⟨hpx, hcounts⟩ := hmask hforce hblind
  have hbegun : s.dev.begin.CountsMasked _ l.blind.length := hcounts.after rfl rfl
  exact ⟨hpx, hbegun.beside rfl rfl⟩

/-! ## Counters within their width -/

/-- The counters of the compare that a line without a heft adds nothing to are within their width. -/
def Device.CountersFit (d : Device) : Prop := ∀ r ∈ Device.idleCounters, ∃ n < 2 ^ 64, d.val r 0 = .num n

/-- They are after reset. -/
theorem countersFit_reset : State.reset.dev.CountersFit := by
  simp only [Device.CountersFit, Device.idleCounters, List.mem_cons, List.not_mem_nil, or_false]
  rintro r (rfl | rfl | rfl) <;> exact ⟨0, by decide, rfl⟩

/-- A counter within its width is left as it was by adding 0. -/
theorem keeps_of_countsMasked {d e : Device} {n : Nat} (hfit : d.CountersFit) (h : d.begin.CountsMasked e n) : d.keeps e [(.CMP_MASKED, 0), (.CMP_RESOLUTION, 0)] := by
  intro r i hk
  by_cases hidle : r ∈ Device.idleCounters ∧ i = 0
  · obtain ⟨hr, rfl⟩ := hidle
    obtain ⟨n, hn, hval⟩ := hfit r hr
    have hnum : d.begin.num r 0 = n := congrArg Val.toNat hval
    rw [h.idle r hr, hval, hnum, Nat.mod_eq_of_lt hn]
  · refine h.changes.val r i List.not_mem_nil ?_
    simp only [Device.maskKeys, Device.idleCounters, List.mem_cons, List.not_mem_nil, or_false, Prod.mk.injEq] at hk hidle ⊢
    tauto

/-- What O29 claims of a line that leaves the buffer, where those counters are within their width. -/
theorem compareLine_within_width (hs : set < 8) (h : s.dev.LeavesWithin set l rest r) (hfit : s.dev.CountersFit) :
    ∃ t x, exec (.compareLine ⟨set, bad⟩) s = .next t ∧ (t.dev.st set).buf = rest ∧ (t.dev.st set).prev = some l ∧
      (t.dev.segOf set).queue = (s.dev.segOf set).queue ++ [x] ∧ x.j = l.j ∧ x.y = l.y ∧ x.k = r.k ∧ x.first = false ∧
      (s.dev.forceAt r.k = none → l.blind.any id = false →
        x.px.length = l.blind.length ∧ t.dev.num .CMP_MASKED 0 = (s.dev.num .CMP_MASKED 0 + l.blind.length) % 2 ^ 64 ∧ t.dev.dram = s.dev.dram ∧
          s.dev.keeps t.dev [(.CMP_MASKED, 0), (.CMP_RESOLUTION, 0)]) := by
  obtain ⟨t, x, hgo, hbuf, hprev, hqueue, hj, hy, hk, hf, hmask⟩ := compareLine_leaves (bad := bad) hs h
  refine ⟨t, x, hgo, hbuf, hprev, hqueue, hj, hy, hk, hf, fun hforce hblind => ?_⟩
  obtain ⟨hpx, hcounts⟩ := hmask hforce hblind
  exact ⟨hpx, hcounts.masked, hcounts.dram, keeps_of_countsMasked hfit hcounts⟩

/-! ## A counter beyond its width -/

/-- A line of one sample. -/
def lineOfOne : StLine := { j := 0, y := 0, t := 0, q := 0, bin := false, planes := [[0]], blind := [false] }

/-- A device in whose repeat 0 a set holds 129 lines, with no heft in force, and whose CMP_COMPARED is listed with a value that its 64 bits cannot hold. -/
def beyondWidth : Device :=
  (({ stitch := [{ buf := List.replicate 129 lineOfOne, k := some 0, prev := some lineOfOne }], rep := { starts := [{ k := 0, y := 0, e := 0 }] } } : Device).set
    .STI_MARK_SRC 0 1).put .CMP_COMPARED 0 (.num (2 ^ 64))

theorem beyondWidth_leaves : beyondWidth.LeavesWithin 0 lineOfOne (List.replicate 128 lineOfOne) { k := 0, y := 0, e := 0 } where
  flushing := rfl
  buf := rfl
  followed := by simp
  marked := by
    rw [beyondWidth, Device.num, Device.val_put_ne _ (by decide)]
    exact Nat.one_ne_zero
  leads := rfl
  start := rfl
  begun := rfl
  before := rfl
  sealed := by
    have hview := Device.lineView_masks (d := beyondWidth) (r := { k := 0, y := 0, e := 0 }) rfl 0 lineOfOne
    rw [Device.awaitsSeal, hview.ref]

/-- Refutes O29: COMPARE_LINE adds 0 to CMP_COMPARED where a line is masked and stores the sum in 64 bits, which changes the counter of a state that lists 2^64 for it.
Where the counters are within their width both claims of the statement hold: `compareLine_waits` and `compareLine_within_width`. -/
theorem not_linesAreCompared : ¬ Obligations.LinesAreCompared := by
  unfold Obligations.LinesAreCompared
  intro h
  obtain ⟨-, hcompared⟩ := h { State.reset with dev := beyondWidth } 0 (by decide) rfl
  have hleaves := beyondWidth_leaves
  obtain ⟨t, x, hgo, -, -, -, -, -, -, -, hmask⟩ := hcompared lineOfOne _ _ [] (by decide) hleaves.buf hleaves.followed hleaves.marked hleaves.leads hleaves.start hleaves.begun
    hleaves.before hleaves.sealed
  obtain ⟨-, -, -, hkeeps⟩ := hmask rfl rfl
  obtain ⟨t', x', hgo', -, -, -, -, -, -, -, hcounts⟩ := compareLine_leaves (s := { State.reset with dev := beyondWidth }) (bad := []) (by decide) hleaves
  obtain rfl : t = t' := Host.Outcome.next.inj (hgo.symm.trans hgo')
  have hsame := hkeeps .CMP_COMPARED 0 (by decide)
  have hcut := (hcounts rfl rfl).2.idle .CMP_COMPARED (by decide)
  have hlisted : beyondWidth.val .CMP_COMPARED 0 = .num (2 ^ 64) := Device.val_put_same _ .CMP_COMPARED 0 _
  have hnum : beyondWidth.begin.num .CMP_COMPARED 0 = 2 ^ 64 := congrArg Val.toNat hlisted
  rw [hsame, hlisted, hnum, Nat.mod_self] at hcut
  exact absurd hcut (by decide)

end Sys2Proof.Machine
end

section
/-!
PROOF. The paddocks (R208 to R210, R220, R226): what clearing one, giving it layers and declaring its state change, and the part of the stack outside it.
-/
namespace Sys2Proof.Machine

namespace Device

/-! ## A device beside its live objects -/

/-- A device without its live objects. -/
def bare (d : Device) : Device := { d with live := [] }

@[simp] theorem bare_set (d : Device) (r : Reg) (i n : Nat) : (d.set r i n).bare = d.bare := rfl

@[simp] theorem bare_setOct (d : Device) (r : Reg) (i : Nat) (b : Octets) : (d.setOct r i b).bare = d.bare := rfl

@[simp] theorem bare_add (d : Device) (r : Reg) (i k : Nat) : (d.add r i k).bare = d.bare := rfl

@[simp] theorem bare_bumpIf (d : Device) (c : Bool) (r : Reg) (i : Nat) : (d.bumpIf c r i).bare = d.bare := by cases c <;> rfl

theorem bare_foldl {α : Type} {f : Device → α → Device} (hf : ∀ e x, (f e x).bare = e.bare) (xs : List α) (d : Device) : (xs.foldl f d).bare = d.bare := by
  induction xs generalizing d with
  | nil => rfl
  | cons x xs ih => exact (ih _).trans (hf d x)

@[simp] theorem bare_refreshBytes (d : Device) (k : Nat) : (d.refreshBytes k).bare = d.bare := by
  unfold refreshBytes
  dsimp only
  split <;> rfl

@[simp] theorem bare_refreshCols (d : Device) : d.refreshCols.bare = d.bare := by
  unfold refreshCols
  exact bare_foldl (fun e _ => by simp only [bare_set]) _ d

/-- The device with other bytes in the stack. -/
def withDram (d : Device) (m : List Host.Cell) : Device := { d with dram := m }

@[simp] theorem dram_dramWrite (d : Device) (a : Nat) (bs : Octets) : (d.dramWrite a bs).dram = Memory.writes d.dram a bs := by
  unfold dramWrite
  dsimp only
  split <;> rfl

/-- What a write to the stack leaves: the device without its live objects and the stack. -/
theorem bare_dramWrite (d : Device) (a : Nat) (bs : Octets) : (d.dramWrite a bs).bare = (d.bare).withDram (d.dramWrite a bs).dram := by
  unfold dramWrite
  dsimp only
  split <;> rfl

@[simp] theorem heft_dramWrite (d : Device) (a : Nat) (bs : Octets) : (d.dramWrite a bs).heft = d.heft := by
  show (d.dramWrite a bs).bare.heft = _
  rw [bare_dramWrite]
  rfl

@[simp] theorem jrn_dramWrite (d : Device) (a : Nat) (bs : Octets) : (d.dramWrite a bs).jrn = d.jrn := by
  show (d.dramWrite a bs).bare.jrn = _
  rw [bare_dramWrite]
  rfl

@[simp] theorem outs_dramWrite (d : Device) (a : Nat) (bs : Octets) : (d.dramWrite a bs).outs = d.outs := by
  show (d.dramWrite a bs).bare.outs = _
  rw [bare_dramWrite]
  rfl

@[simp] theorem staged_dramWrite (d : Device) (a : Nat) (bs : Octets) : (d.dramWrite a bs).staged = d.staged := by
  show (d.dramWrite a bs).bare.staged = _
  rw [bare_dramWrite]
  rfl

theorem layersOf_of_heft {d e : Device} (h : e.heft = d.heft) (k : Nat) : e.layersOf k = d.layersOf k := by simp only [layersOf, oldHeft, h]

theorem heft_of_bare {d e : Device} (h : e.bare = d.bare) : e.heft = d.heft := by
  show e.bare.heft = d.bare.heft
  rw [h]

/-- Paddocks A and B are no old hefts. -/
theorem layersOf_paddock (d : Device) {k : Nat} (hk : k < 2) : d.layersOf k = d.heft.layers.getD k [] := by
  simp [layersOf, oldHeft, Nat.not_le.mpr hk]

theorem standby_lt (d : Device) : d.standby < 2 := by
  unfold standby
  omega

/-! ## Places in the stack (R307) -/

theorem paddockOf_lt {id : Identity} {a k : Nat} (h : id.paddockOf a = some k) : k < 5 := List.mem_range.mp (List.mem_of_find?_eq_some h)

/-- The first byte of paddock A or B lies in it. -/
theorem paddockOf_paddockBase (id : Identity) {k : Nat} (hk : k < 2) : id.paddockOf (id.paddockBase k) = some k := by
  have hpart : id.part = .vlx1208c ∨ id.part ≠ .vlx1208c := Classical.em _
  obtain rfl | rfl : k = 0 ∨ k = 1 := by omega
  all_goals rcases hpart with h | h <;> simp [Identity.paddockOf, Identity.paddockBase, Identity.paddockSize, h, List.range, List.range.loop]

/-- An address outside a paddock. -/
def OutsidePad (id : Identity) (k a : Nat) : Prop := a < id.paddockBase k ∨ id.paddockBase k + id.paddockSize k ≤ a

/-- A paddock holds its descriptor. -/
theorem descriptor_fits (id : Identity) {k : Nat} (hk : k < 2) : 123 ≤ id.paddockSize k := by
  obtain rfl | rfl : k = 0 ∨ k = 1 := by omega
  all_goals simp only [Identity.paddockSize]; split <;> decide


/-! ## What the operations on a paddock change -/

/-- The objects that follow the columns and lines of the paddocks (R232). -/
def colKeys : List (Reg × Nat) := (List.range 8).flatMap (fun x => [(.HFT_RUN_COLS, x), (.HFT_RUN_LINES, x), (.HFT_SB_COLS, x)])

/-- The objects that change as a paddock takes a state for a job (R208 to R210). -/
def declareKeys (k : Nat) : List (Reg × Nat) := [(.HFT_PD_STATE, k), (.HFT_PD_JOB, k), (.MEM_WR_BYTES, 0), (.MEM_PD_WR, k)]

/-- The objects that change as a paddock is cleared (R208). -/
def clearKeys (k : Nat) : List (Reg × Nat) :=
  [(.HFT_PD_GEN, k), (.HFT_PD_ORIGIN, k), (.HFT_PD_DIGEST, k), (.HFT_PD_SAMPLES, k), (.HFT_PD_CONF_PPM, k), (.HFT_PD_BYTES, k)] ++ colKeys

/-- A paddock takes its state and job, the descriptor follows, and the journal alone changes with the HEFT entry (R208, R374). -/
theorem setPad_eq (d : Device) (k st job : Nat) :
    ∃ j, d.setPad k st job = (((d.set .HFT_PD_STATE k st).set .HFT_PD_JOB k job).refreshDescriptor k).withJournal j ∧ j.head = (d.jrn.head + 1) % 2 ^ 32 := by
  have hjrn : (((d.set .HFT_PD_STATE k st).set .HFT_PD_JOB k job).refreshDescriptor k).jrn = d.jrn := jrn_dramWrite _ _ _
  refine ⟨_, rfl, ?_⟩
  rw [← hjrn]

namespace ChangesOnly

variable {regs : List Reg} {keys : List (Reg × Nat)} {d e : Device}

theorem addAt (h : d.ChangesOnly regs keys e) (r : Reg) (i : Nat) (hk : (r, i) ∈ keys) (n : Nat) : d.ChangesOnly regs keys (e.add r i n) := h.put _ (.inr hk)

theorem setOctAt (h : d.ChangesOnly regs keys e) (r : Reg) (i : Nat) (hk : (r, i) ∈ keys) (b : Octets) : d.ChangesOnly regs keys (e.setOct r i b) :=
  h.put _ (.inr hk)

theorem bumpIfAt (h : d.ChangesOnly regs keys e) (c : Bool) (r : Reg) (i : Nat) (hk : (r, i) ∈ keys) : d.ChangesOnly regs keys (e.bumpIf c r i) :=
  ite (h.bumpAt r i hk) h

theorem modHeft (h : d.ChangesOnly regs keys e) (f : Heft → Heft) : d.ChangesOnly regs keys (e.modHeft f) := h.beside rfl

theorem dramClear (h : d.ChangesOnly regs keys e) (a n : Nat) : d.ChangesOnly regs keys (e.dramClear a n) := h.beside rfl

theorem withDram (h : d.ChangesOnly regs keys e) (m : List Host.Cell) : d.ChangesOnly regs keys (e.withDram m) := h.beside rfl

theorem dramWrite (h : d.ChangesOnly regs keys e) {a : Nat} (bs : Octets) (hw : (.MEM_WR_BYTES, 0) ∈ keys)
    (hp : ∀ k, e.ident.paddockOf a = some k → (.MEM_PD_WR, k) ∈ keys) : d.ChangesOnly regs keys (e.dramWrite a bs) := by
  have hwritten := (h.withDram (Memory.writes e.dram a bs)).addAt .MEM_WR_BYTES 0 hw bs.length
  unfold Device.dramWrite
  dsimp only
  split
  · exact hwritten.addAt .MEM_PD_WR _ (hp _ ‹_›) _
  · exact hwritten

theorem refreshBytes (h : d.ChangesOnly regs keys e) {k : Nat} (hk : (.HFT_PD_BYTES, k) ∈ keys) : d.ChangesOnly regs keys (e.refreshBytes k) :=
  ite (h.setAt .HFT_PD_BYTES k hk _) (h.setAt .HFT_PD_BYTES k hk _)

theorem refreshCols (h : d.ChangesOnly regs keys e) (hk : colKeys ⊆ keys) : d.ChangesOnly regs keys e.refreshCols := by
  have hset {f : Device} (x : {x // x ∈ List.range 8}) (hf : d.ChangesOnly regs keys f) (a b c : Nat) :
      d.ChangesOnly regs keys (((f.set .HFT_RUN_COLS x a).set .HFT_RUN_LINES x b).set .HFT_SB_COLS x c) := by
    have hmem (r : Reg) (hr : r ∈ [Reg.HFT_RUN_COLS, .HFT_RUN_LINES, .HFT_SB_COLS]) : (r, x.val) ∈ keys := hk (List.mem_flatMap.mpr ⟨x, x.2, by simpa using hr⟩)
    exact ((hf.setAt _ _ (hmem _ (by simp)) _).setAt _ _ (hmem _ (by simp)) _).setAt _ _ (hmem _ (by simp)) _
  unfold Device.refreshCols
  rw [← List.attach_map_subtype_val (List.range 8), List.foldl_map]
  exact foldl (fun x hf => hset x hf _ _ _) _ h

theorem keepOld (h : d.ChangesOnly regs keys e) (k : Nat) : d.ChangesOnly regs keys (e.keepOld k) := ite (h.modHeft _) h

theorem clearPad (h : d.ChangesOnly regs keys e) {k : Nat} (hk : clearKeys k ⊆ keys) : d.ChangesOnly regs keys (e.clearPad k) := by
  have hmem (r : Reg) (hr : r ∈ [Reg.HFT_PD_GEN, .HFT_PD_ORIGIN, .HFT_PD_DIGEST, .HFT_PD_SAMPLES, .HFT_PD_CONF_PPM, .HFT_PD_BYTES]) : (r, k) ∈ keys :=
    hk (List.mem_append_left _ (by simpa using hr))
  unfold Device.clearPad
  extract_lets e1 e2 e3 e4
  have h1 : d.ChangesOnly regs keys e1 := (h.keepOld k).dramClear _ _
  have h2 : d.ChangesOnly regs keys e2 := (((h1.setAt .HFT_PD_GEN k (hmem _ (by simp)) _).setAt .HFT_PD_ORIGIN k (hmem _ (by simp)) _).setOctAt .HFT_PD_DIGEST k
    (hmem _ (by simp)) _).setAt .HFT_PD_SAMPLES k (hmem _ (by simp)) _
  have h4 : d.ChangesOnly regs keys e4 := (h2.setAt .HFT_PD_CONF_PPM k (hmem _ (by simp)) _).modHeft _
  exact (h4.refreshBytes (hmem _ (by simp))).refreshCols fun x hx => hk (List.mem_append_right _ hx)

theorem setLayers (h : d.ChangesOnly regs keys e) (k : Nat) (ls : List Layer) : d.ChangesOnly regs keys (e.setLayers k ls) := (h.modHeft _).dramClear _ _

theorem setPad (h : d.ChangesOnly regs keys e) {k : Nat} (hlt : k < 2) (hk : declareKeys k ⊆ keys) (st job : Nat) : d.ChangesOnly regs keys (e.setPad k st job) := by
  have hwritten := ((h.setAt .HFT_PD_STATE k (hk (by simp [declareKeys])) st).setAt .HFT_PD_JOB k (hk (by simp [declareKeys])) job)
  obtain ⟨j, hj, -⟩ := e.setPad_eq k st job
  rw [hj]
  refine (hwritten.dramWrite _ (hk (by simp [declareKeys])) fun p hp => ?_).withJournal j
  obtain rfl : k = p := Option.some.inj ((paddockOf_paddockBase _ hlt).symm.trans hp)
  exact hk (by simp [declareKeys])

end ChangesOnly

/-! ## A paddock declared (R208 to R210) -/

/-- What the descriptor of a paddock says are five of its objects and its layers. -/
theorem descriptor_congr {d e : Device} {k : Nat}
    (hv : ∀ r ∈ [Reg.HFT_PD_STATE, .HFT_PD_JOB, .HFT_PD_GEN, .HFT_PD_ORIGIN, .HFT_PD_DIGEST], e.val r k = d.val r k) (hl : e.layersOf k = d.layersOf k) :
    e.descriptor k = d.descriptor k := by
  simp only [List.mem_cons, List.not_mem_nil, or_false, forall_eq_or_imp, forall_eq] at hv
  obtain ⟨hstate, hjob, hgen, horigin, hdigest⟩ := hv
  simp only [descriptor, padState, num, oct, hstate, hjob, hgen, horigin, hdigest, hl]

/-- The descriptor of a heft of at most eight layers is 123 octets long. -/
theorem length_descriptor {d : Device} {k : Nat} (hl : (d.layersOf k).length ≤ 8) : (d.descriptor k).length = 123 := by
  have hrow : ((d.layersOf k).flatMap (fun l => [l.set] ++ le 4 l.cols ++ le 4 l.lines ++ [l.planes])).length = 10 * (d.layersOf k).length := by
    simp [List.length_flatMap, Nat.mul_comm]
  simp only [descriptor, List.length_append, List.length_replicate, hrow, length_slice, length_le, List.length_cons, List.length_nil]
  omega


/-- What declaring paddock `k` in state `st` for a job makes of `d`: its objects, its descriptor, the journal's entry. -/
structure Declares (d e : Device) (k st job : Nat) : Prop where
  state : e.num .HFT_PD_STATE k = st
  job : e.val .HFT_PD_JOB k = .num job
  dram : e.dram = Memory.writes d.dram (d.ident.paddockBase k) (e.descriptor k)
  head : e.jrn.head = (d.jrn.head + 1) % 2 ^ 32
  heft : e.heft = d.heft
  outs : e.outs = d.outs

/-- What follows without touching the paddock's declaration leaves it standing. -/
theorem Declares.after {d e f : Device} {k st job : Nat} (h : d.Declares e k st job) (hb : f.bare = e.bare)
    (hv : ∀ r ∈ [Reg.HFT_PD_STATE, .HFT_PD_JOB, .HFT_PD_GEN, .HFT_PD_ORIGIN, .HFT_PD_DIGEST], f.val r k = e.val r k) : d.Declares f k st job := by
  have hdram : f.bare.dram = e.bare.dram := by rw [hb]
  have hjrn : f.bare.jrn = e.bare.jrn := by rw [hb]
  have hheft : f.bare.heft = e.bare.heft := by rw [hb]
  have houts : f.bare.outs = e.bare.outs := by rw [hb]
  refine ⟨?_, ?_, ?_, (congrArg Journal.head hjrn).trans h.head, hheft.trans h.heft, houts.trans h.outs⟩
  · rw [← h.state, num, num, hv _ (by simp)]
  · rw [hv _ (by simp), h.job]
  · rw [descriptor_congr hv (layersOf_of_heft (heft_of_bare hb) k)]
    exact hdram.trans h.dram

theorem descriptor_withJournal (d : Device) (j : Journal) (k : Nat) : (d.withJournal j).descriptor k = d.descriptor k := rfl

/-- A paddock that takes a state for a job is declared in it. -/
theorem setPad_declares (d : Device) {k st job : Nat} (hk : k < 2) (hst : st < 2 ^ 8) (hjob : job < 2 ^ 32) : d.Declares (d.setPad k st job) k st job := by
  let e := (d.set .HFT_PD_STATE k st).set .HFT_PD_JOB k job
  have hstate : e.num .HFT_PD_STATE k = st := by
    rw [num_set_reg_ne _ _ _ _ (by decide), num_set_same]
    exact Nat.mod_eq_of_lt hst
  have hval : e.val .HFT_PD_JOB k = .num job := (val_put_same _ _ _ _).trans (congrArg Val.num (Nat.mod_eq_of_lt hjob))
  have hwrite : e.ChangesOnly [] [(.MEM_WR_BYTES, 0), (.MEM_PD_WR, k)] (e.refreshDescriptor k) :=
    (ChangesOnly.refl e).dramWrite _ (by simp) fun p hp => by simp [Option.some.inj (hp.symm.trans (paddockOf_paddockBase _ hk))]
  have hsame : (e.refreshDescriptor k).descriptor k = e.descriptor k := by
    refine descriptor_congr (fun r hr => hwrite.val r k List.not_mem_nil fun hm => ?_) (layersOf_of_heft (heft_dramWrite _ _ _) k)
    simp only [List.mem_cons, List.not_mem_nil, or_false] at hr
    rcases hr with rfl | rfl | rfl | rfl | rfl <;> simp at hm
  obtain ⟨j, hj, hhead⟩ := d.setPad_eq k st job
  rw [hj]
  refine ⟨?_, ?_, ?_, hhead, heft_dramWrite e _ _, outs_dramWrite e _ _⟩
  · exact (hwrite.num .HFT_PD_STATE k List.not_mem_nil (by simp)).trans hstate
  · exact (hwrite.val .HFT_PD_JOB k List.not_mem_nil (by simp)).trans hval
  · rw [descriptor_withJournal, hsame]
    exact dram_dramWrite e _ _

/-! ## A paddock cleared, and given layers (R208, R220) -/

theorem dram_of_bare {d e : Device} (h : e.bare = d.bare) : e.dram = d.dram := by
  show e.bare.dram = d.bare.dram
  rw [h]

/-- The device without its live objects, the hefts and the stack. -/
def aside (d : Device) : Device := { d.bare with heft := {}, dram := [] }

theorem aside_of_bare {d e : Device} (h : e.bare = d.bare) : e.aside = d.aside := by rw [aside, aside, h]

theorem ident_of_aside {d e : Device} (h : e.aside = d.aside) : e.ident = d.ident := by
  show e.aside.ident = d.aside.ident
  rw [h]

@[simp] theorem aside_keepOld (d : Device) (k : Nat) : (d.keepOld k).aside = d.aside := by
  unfold keepOld
  dsimp only
  split <;> rfl

theorem dram_keepOld (d : Device) (k : Nat) : (d.keepOld k).dram = d.dram := by
  unfold keepOld
  dsimp only
  split <;> rfl

theorem dram_modHeft (d : Device) (f : Heft → Heft) : (d.modHeft f).dram = d.dram := rfl

theorem aside_modHeft (d : Device) (f : Heft → Heft) : (d.modHeft f).aside = d.aside := rfl

theorem aside_clearDir (d : Device) (k : Nat) : (d.clearDir k).aside = d.aside := rfl

theorem aside_setLayers (d : Device) (k : Nat) (ls : List Layer) : (d.setLayers k ls).aside = d.aside := rfl

theorem layersOf_setLayers (d : Device) {k : Nat} (hk : k < 2) (ls : List Layer) : (d.setLayers k ls).layersOf k = ls := by
  rw [layersOf_paddock _ hk]
  exact getD_modTab_same 2 [] d.heft.layers k _ hk

/-- The directory lies in its paddock: what is outside stays as its entries are cleared. -/
theorem read_clearDir (d : Device) {k a : Nat} (ha : OutsidePad d.ident k a) : Memory.read (d.clearDir k).dram a = Memory.read d.dram a := by
  have hin (n : Nat) (hn : n ≤ d.ident.paddockSize k - 4096) :
      (decide (a < d.ident.paddockBase k + 4096) || decide (d.ident.paddockBase k + 4096 + n ≤ a)) = true := by
    unfold OutsidePad at ha
    simp only [Bool.or_eq_true, decide_eq_true_eq]
    omega
  unfold clearDir dramClear
  dsimp only
  rw [Memory.read_filter (fun x => decide (x < d.ident.paddockBase k + 4096) || decide (_ ≤ x)), if_pos (hin _ (Nat.min_le_right _ _))]

theorem read_setLayers (d : Device) {k a : Nat} (ha : OutsidePad d.ident k a) (ls : List Layer) : Memory.read (d.setLayers k ls).dram a = Memory.read d.dram a :=
  read_clearDir (d.modHeft _) ha

/-- What clearing paddock `k` makes of `d`: no layers, no generation, and the rest of the stack as it was. -/
structure Clears (d e : Device) (k : Nat) : Prop where
  layers : e.layersOf k = []
  gen : e.num .HFT_PD_GEN k = 0
  aside : e.aside = d.aside
  outside : ∀ a, OutsidePad d.ident k a → Memory.read e.dram a = Memory.read d.dram a

theorem clearPad_clears (d : Device) {k : Nat} (hk : k < 2) : d.Clears (d.clearPad k) k := by
  unfold Device.clearPad
  extract_lets e1 e2 e3 e4
  have hbare : ((e4.refreshBytes k).refreshCols).bare = e4.bare := (bare_refreshCols _).trans (bare_refreshBytes _ k)
  have h1 : e1.aside = d.aside := (aside_clearDir _ k).trans (aside_keepOld d k)
  have h3 : e3.bare = e1.bare := by simp only [e3, e2, bare_set, bare_setOct]
  have h4 : e4.aside = e3.aside := aside_modHeft e3 _
  refine ⟨?_, ?_, (aside_of_bare hbare).trans (h4.trans ((aside_of_bare h3).trans h1)), fun a ha => ?_⟩
  · rw [layersOf_of_heft (heft_of_bare hbare), layersOf_paddock _ hk]
    exact getD_modTab_same 2 [] _ k _ hk
  · have hafter : e2.ChangesOnly [] ([(.HFT_PD_CONF_PPM, k), (.HFT_PD_BYTES, k)] ++ colKeys) ((e4.refreshBytes k).refreshCols) :=
      ((((ChangesOnly.refl e2).setAt .HFT_PD_CONF_PPM k (by simp) _).modHeft _).refreshBytes (by simp)).refreshCols (by simp)
    rw [hafter.num .HFT_PD_GEN k List.not_mem_nil (by simp [colKeys]), num_set_reg_ne _ _ _ _ (by decide), num_setOct_reg_ne _ _ _ _ (by decide),
      num_set_reg_ne _ _ _ _ (by decide), num_set_same]
    exact Nat.zero_mod _
  · have hdram : ((e4.refreshBytes k).refreshCols).dram = e1.dram := (dram_of_bare hbare).trans ((dram_modHeft e3 _).trans (dram_of_bare h3))
    have hident : (d.keepOld k).ident = d.ident := ident_of_aside (aside_keepOld d k)
    rw [hdram, read_clearDir _ (hident.symm ▸ ha), dram_keepOld]

end Device
end Sys2Proof.Machine
end

section
/-!
PROOF. Artwork loads (R220, R223): HFT_LOAD_BEGIN, HFT_LOAD_END and HFT_LOAD_ABORT, and what each makes of the standby.
-/
namespace Sys2Proof.Machine

namespace Device

/-! ## A paddock EMPTY again (R209, R220) -/

/-- The objects that change as a paddock becomes EMPTY. -/
def emptyKeys (k : Nat) : List (Reg × Nat) :=
  [(.HFT_PD_STATE, k), (.HFT_PD_JOB, k), (.HFT_PD_GEN, k), (.HFT_PD_ORIGIN, k), (.HFT_PD_DIGEST, k), (.HFT_PD_SAMPLES, k), (.HFT_PD_CONF_PPM, k), (.HFT_PD_BYTES, k),
    (.MEM_WR_BYTES, 0), (.MEM_PD_WR, k)] ++ colKeys

/-- The objects that change as a load opens in a paddock. -/
def openKeys (k : Nat) : List (Reg × Nat) :=
  [(.HFT_PD_STATE, k), (.HFT_PD_JOB, k), (.HFT_PD_GEN, k), (.HFT_PD_ORIGIN, k), (.HFT_PD_DIGEST, k), (.HFT_PD_SAMPLES, k), (.HFT_PD_CONF_PPM, k), (.HFT_PD_BYTES, k),
    (.HFT_LOAD_BLOCKS, 0), (.MEM_WR_BYTES, 0), (.MEM_PD_WR, k)] ++ colKeys

theorem clearKeys_subset_emptyKeys (k : Nat) : clearKeys k ⊆ emptyKeys k := List.append_subset.mpr ⟨by simp [emptyKeys], List.subset_append_right _ _⟩

theorem clearKeys_subset_openKeys (k : Nat) : clearKeys k ⊆ openKeys k := List.append_subset.mpr ⟨by simp [openKeys], List.subset_append_right _ _⟩

/-- A paddock of at most eight layers is declared within it: what is outside stays as it was. -/
theorem Declares.outside {d e : Device} {k st job : Nat} (h : d.Declares e k st job) (hk : k < 2) (hl : (e.layersOf k).length ≤ 8) {a : Nat}
    (ha : OutsidePad d.ident k a) : Memory.read e.dram a = Memory.read d.dram a := by
  have hlen := length_descriptor hl
  have hfits := descriptor_fits d.ident hk
  rw [h.dram]
  refine Memory.read_writes_ne _ _ _ _ ?_
  rw [hlen]
  exact ha.imp_right (by omega)

theorem jrn_of_aside {d e : Device} (h : e.aside = d.aside) : e.jrn = d.jrn := by
  show e.aside.jrn = d.aside.jrn
  rw [h]

theorem outs_of_aside {d e : Device} (h : e.aside = d.aside) : e.outs = d.outs := by
  show e.aside.outs = d.aside.outs
  rw [h]

theorem Clears.ident {d e : Device} {k : Nat} (h : d.Clears e k) : e.ident = d.ident := ident_of_aside h.aside

/-- An aborted load leaves the paddock EMPTY, and the stack outside it as it was (R220). -/
theorem emptyPad_spec (d : Device) {k : Nat} (hk : k < 2) :
    (d.emptyPad k).num .HFT_PD_STATE k = 0 ∧ (d.emptyPad k).num .HFT_PD_JOB k = 0 ∧ (d.emptyPad k).layersOf k = [] ∧
      d.ChangesOnly [] (emptyKeys k) (d.emptyPad k) ∧ ∀ a, OutsidePad d.ident k a → Memory.read (d.emptyPad k).dram a = Memory.read d.dram a := by
  have hclear := d.clearPad_clears hk
  have hdecl : (d.clearPad k).Declares (d.emptyPad k) k 0 0 := setPad_declares _ hk (by decide) (by decide)
  have hlayers : (d.emptyPad k).layersOf k = [] := (layersOf_of_heft hdecl.heft k).trans hclear.layers
  refine ⟨hdecl.state, congrArg Val.toNat hdecl.job, hlayers, ?_, fun a ha => ?_⟩
  · exact ((ChangesOnly.refl d).clearPad (clearKeys_subset_emptyKeys k)).setPad hk (by simp [declareKeys, emptyKeys]) 0 0
  · rw [hdecl.outside hk (by simp [hlayers]) (hclear.ident.symm ▸ ha), hclear.outside a ha]

/-! ## A load opened (R220) -/

/-- A paddock that takes the layers of a load, with no block stored. -/
def giveLayers (d : Device) (k : Nat) (ls : List Layer) : Device :=
  (((d.setLayers k ls).modHeft (fun h => { h with loadMask := none, loadFull := false })).set .HFT_LOAD_BLOCKS 0 0).set .HFT_PD_SAMPLES k (heftWords ls)

/-- The standby as HFT_LOAD_BEGIN prepares it: cleared, with the layers of the load. -/
def preparePad (d : Device) (k : Nat) (ls : List Layer) : Device := (d.clearPad k).giveLayers k ls

/-- A paddock as HFT_LOAD_BEGIN leaves it: prepared, and LOADING for the job. -/
def openPad (d : Device) (k : Nat) (ls : List Layer) (job : Nat) : Device := (((d.preparePad k ls).setPad k 1 job).refreshBytes k).refreshCols

theorem loadBegin_opens {d : Device} {ls : List Layer} (job : Nat) (h1 : d.padState d.standby ≠ 1) (h2 : d.padState d.standby ≠ 2) (hp : d.jobPending = false)
    (hl : d.loadLayers = some ls) (hf : d.ident.heftFits ls = true) : d.loadBegin job = (0, d.openPad d.standby ls job) := by
  simp [loadBegin, h1, h2, hp, hl, hf, openPad, preparePad, giveLayers]

theorem loadBegin_busy {d : Device} (job : Nat) (h : d.padState d.standby = 1 ∨ d.padState d.standby = 2) : d.loadBegin job = (6, d) := by
  rcases h with h | h <;> simp [loadBegin, h]

theorem length_loadLayers {d : Device} {ls : List Layer} (h : d.loadLayers = some ls) : ls.length ≤ 8 := by
  unfold loadLayers at h
  extract_lets of_ all full none_ at h
  split at h
  · rw [← Option.some.inj h]
    exact List.length_filter_le _ _
  · cases h

/-- What preparing a paddock for a load makes of `d`. -/
structure Prepares (d e : Device) (k : Nat) (ls : List Layer) : Prop where
  layers : e.layersOf k = ls
  gen : e.num .HFT_PD_GEN k = 0
  blocks : e.num .HFT_LOAD_BLOCKS 0 = 0
  aside : e.aside = d.aside
  outside : ∀ a, OutsidePad d.ident k a → Memory.read e.dram a = Memory.read d.dram a
  changes : d.ChangesOnly [] (openKeys k) e

theorem layersOf_giveLayers (d : Device) {k : Nat} (hk : k < 2) (ls : List Layer) : (d.giveLayers k ls).layersOf k = ls := layersOf_setLayers d hk ls

theorem aside_giveLayers (d : Device) (k : Nat) (ls : List Layer) : (d.giveLayers k ls).aside = d.aside := by
  rw [giveLayers, aside_of_bare ((bare_set _ _ _ _).trans (bare_set _ _ _ _)), aside_modHeft, aside_setLayers]

theorem read_giveLayers (d : Device) {k a : Nat} (ha : OutsidePad d.ident k a) (ls : List Layer) : Memory.read (d.giveLayers k ls).dram a = Memory.read d.dram a :=
  read_setLayers d ha ls

theorem num_giveLayers_blocks (d : Device) (k : Nat) (ls : List Layer) : (d.giveLayers k ls).num .HFT_LOAD_BLOCKS 0 = 0 := by
  rw [giveLayers, num_set_reg_ne _ _ _ _ (by decide), num_set_same, Nat.zero_mod]

theorem ChangesOnly.giveLayers {regs : List Reg} {keys : List (Reg × Nat)} {d e : Device} (h : d.ChangesOnly regs keys e) {k : Nat} (hb : (.HFT_LOAD_BLOCKS, 0) ∈ keys)
    (hs : (.HFT_PD_SAMPLES, k) ∈ keys) (ls : List Layer) : d.ChangesOnly regs keys (e.giveLayers k ls) :=
  (((h.setLayers k ls).modHeft _).setAt .HFT_LOAD_BLOCKS 0 hb 0).setAt .HFT_PD_SAMPLES k hs _

theorem preparePad_prepares (d : Device) {k : Nat} (hk : k < 2) (ls : List Layer) : d.Prepares (d.preparePad k ls) k ls := by
  have hclear := d.clearPad_clears hk
  have hch : (d.clearPad k).ChangesOnly [] [(.HFT_LOAD_BLOCKS, 0), (.HFT_PD_SAMPLES, k)] ((d.clearPad k).giveLayers k ls) :=
    (ChangesOnly.refl _).giveLayers (by simp) (by simp) ls
  have hkeys : d.ChangesOnly [] (openKeys k) (d.clearPad k) := (ChangesOnly.refl d).clearPad (clearKeys_subset_openKeys k)
  unfold preparePad
  generalize d.clearPad k = e at *
  refine ⟨e.layersOf_giveLayers hk ls, ?_, e.num_giveLayers_blocks k ls, (e.aside_giveLayers k ls).trans hclear.aside, fun a ha => ?_,
    hkeys.trans (hch.mono (by simp [openKeys]))⟩
  · rw [hch.num .HFT_PD_GEN k List.not_mem_nil (by simp), hclear.gen]
  · rw [e.read_giveLayers (hclear.ident.symm ▸ ha), hclear.outside a ha]

/-- What opening a load makes of `d` (R220). -/
structure Opens (d e : Device) (k : Nat) (ls : List Layer) (job : Nat) : Prop where
  state : e.num .HFT_PD_STATE k = 1
  job : e.num .HFT_PD_JOB k = job
  blocks : e.num .HFT_LOAD_BLOCKS 0 = 0
  gen : e.num .HFT_PD_GEN k = 0
  layers : e.layersOf k = ls
  dram : ∃ m, e.dram = Memory.writes m (d.ident.paddockBase k) (e.descriptor k)
  head : e.jrn.head = (d.jrn.head + 1) % 2 ^ 32
  outs : e.outs = d.outs
  outside : ∀ a, OutsidePad d.ident k a → Memory.read e.dram a = Memory.read d.dram a
  changes : d.ChangesOnly [] (openKeys k) e

theorem openPad_opens (d : Device) {k job : Nat} {ls : List Layer} (hk : k < 2) (hjob : job < 2 ^ 32) (hls : ls.length ≤ 8) : d.Opens (d.openPad k ls job) k ls job := by
  have hprep := d.preparePad_prepares hk ls
  have hset : (d.preparePad k ls).Declares ((d.preparePad k ls).setPad k 1 job) k 1 job := setPad_declares _ hk (by decide) hjob
  have hkept : (d.preparePad k ls).ChangesOnly [] (declareKeys k) ((d.preparePad k ls).setPad k 1 job) := (ChangesOnly.refl _).setPad hk (List.Subset.refl _) 1 job
  have hafter : ((d.preparePad k ls).setPad k 1 job).ChangesOnly [] ([(.HFT_PD_BYTES, k)] ++ colKeys) (d.openPad k ls job) :=
    ((ChangesOnly.refl _).refreshBytes (by simp)).refreshCols (by simp)
  have hbare : (d.openPad k ls job).bare = ((d.preparePad k ls).setPad k 1 job).bare := (bare_refreshCols _).trans (bare_refreshBytes _ k)
  have hident : (d.preparePad k ls).ident = d.ident := ident_of_aside hprep.aside
  have hdecl : (d.preparePad k ls).Declares (d.openPad k ls job) k 1 job := by
    refine hset.after hbare fun r hr => hafter.val r k List.not_mem_nil fun hm => ?_
    simp only [List.mem_cons, List.not_mem_nil, or_false] at hr
    rcases hr with rfl | rfl | rfl | rfl | rfl <;> simp [colKeys] at hm
  have hlayers : (d.openPad k ls job).layersOf k = ls := (layersOf_of_heft hdecl.heft k).trans hprep.layers
  refine ⟨hdecl.state, congrArg Val.toNat hdecl.job, ?_, ?_, hlayers, ⟨_, hident ▸ hdecl.dram⟩, ?_, ?_, fun a ha => ?_, ?_⟩
  · rw [hafter.num .HFT_LOAD_BLOCKS 0 List.not_mem_nil (by simp [colKeys]), hkept.num .HFT_LOAD_BLOCKS 0 List.not_mem_nil (by simp [declareKeys]), hprep.blocks]
  · rw [hafter.num .HFT_PD_GEN k List.not_mem_nil (by simp [colKeys]), hkept.num .HFT_PD_GEN k List.not_mem_nil (by simp [declareKeys]), hprep.gen]
  · rw [hdecl.head, jrn_of_aside hprep.aside]
  · rw [hdecl.outs, outs_of_aside hprep.aside]
  · rw [hdecl.outside hk (hlayers.symm ▸ hls) (hident.symm ▸ ha), hprep.outside a ha]
  · exact (hprep.changes.trans (hkept.mono (by simp [declareKeys, openKeys]))).trans (hafter.mono (List.append_subset.mpr ⟨by simp [openKeys], List.subset_append_right _ _⟩))

/-! ## A load closed (R223) -/

theorem loadEnd_masks {d : Device} {job : Nat} (hst : d.padState d.standby = 1) (hjob : d.num .HFT_PD_JOB d.standby = job) (hm : d.heft.loadMask = some true) :
    d.loadEnd job = (0, d.setPad d.standby 4 job) := by
  simp [loadEnd, hst, hjob, hm]

/-- The blocks that a heft load still wants. -/
def missingBlocks (d : Device) (k : Nat) : Nat := ((allBlocks (d.layersOf k)).filter (fun b => (d.dirEntry k b).isNone)).length

theorem loadEnd_missing {d : Device} {job : Nat} (hst : d.padState d.standby = 1) (hjob : d.num .HFT_PD_JOB d.standby = job) (hm : d.heft.loadMask ≠ some true)
    (hmiss : d.missingBlocks d.standby ≠ 0) : d.loadEnd job = (5, d.set .HFT_LOAD_MISSING 0 (d.missingBlocks d.standby)) := by
  unfold missingBlocks at hmiss ⊢
  simp only [loadEnd]
  rw [if_neg (by simp [hst]), if_neg (by simp [hjob]), if_neg hm, if_neg hmiss]

theorem loadAbort_empties {d : Device} (hst : d.padState d.standby = 1) : d.loadAbort = d.emptyPad d.standby := if_pos hst

/-! ## The commands' objects (R27) -/

/-- The objects that a session writes for an artwork load. -/
def loadRegs : List Reg := [.HFT_LOAD_BEGIN, .HFT_LOAD_END, .HFT_LOAD_ABORT]

/-- What the object table says of them: commands of the device, the job a number of four bytes, the abort one of one byte. -/
theorem loadRegs_row : (∀ r ∈ loadRegs, plain r 0 = true ∧ Key.scope ⟨r, 0⟩ = .device ∧ (Reg.row r).acc.unwritable = false) ∧
    (Reg.row .HFT_LOAD_BEGIN).ty = .u32 ∧ (Reg.row .HFT_LOAD_END).ty = .u32 ∧ (Reg.row .HFT_LOAD_ABORT).ty = .u8 := by decide +kernel

theorem classRefused_loadRegs {r : Reg} (hr : r ∈ loadRegs) (d : Device) : d.classRefused ⟨r, 0⟩ = false := by
  obtain ⟨-, -, hclass⟩ := loadRegs_row.1 r hr
  simp only [loadRegs, List.mem_cons, List.not_mem_nil, or_false] at hr
  rcases hr with rfl | rfl | rfl <;> simp [classRefused, hclass]

theorem present_loadRegs {r : Reg} (hr : r ∈ loadRegs) (id : Identity) : id.present ⟨r, 0⟩ = true := by
  obtain ⟨-, hscope, -⟩ := loadRegs_row.1 r hr
  simp [Identity.present, hscope]

/-- Every job number is in range. -/
theorem numInRange_load (job : Nat) : numInRange ⟨.HFT_LOAD_BEGIN, 0⟩ job = true ∧ numInRange ⟨.HFT_LOAD_END, 0⟩ job = true := by
  obtain ⟨-, hbegin, hend, -⟩ := loadRegs_row
  simp [numInRange, hbegin, hend]

section
variable {d : Device} {n : Nat} {r : Reg} {x sz : Nat} (hrow : r ∈ loadRegs) (hs : r.row.ty.size = some sz) (hr : d.Reaches n) (hh : d.heldNow = false)
  (hx : x < 2 ^ (8 * sz)) (hrange : numInRange ⟨r, 0⟩ x = true)
include hrow hs hr hh hx hrange

/-- A write that nothing refuses: the journal's entry, the effect, the result. -/
theorem command_load {f : Device → Device} (happ : ∀ j, (d.withJournal j).applyWrite ⟨r, 0⟩ (.num x) n = (0, f (d.withJournal j)))
    (hdue : ∀ j, (f (d.withJournal j)).resetDue = false) :
    ∃ j y, d.command n r 0 x = { f (d.withJournal j) with sess := y, outs := (f (d.withJournal j)).outs ++ [.result 0] } ∧ j.head = (d.jrn.head + 1) % 2 ^ 32 := by
  obtain ⟨j, hj, hhead, -⟩ := d.journalWriteOf_eq n ⟨r, 0⟩ (le sz x)
  have hfirst : d.applyWrite ⟨r, 0⟩ (.num x) n = (0, f d) := happ d.jrn
  have hthen : (d.journalWriteOf n ⟨r, 0⟩ (le sz x)).applyWrite ⟨r, 0⟩ (.num x) n = (0, f (d.withJournal j)) := by
    rw [hj]
    exact happ j
  obtain ⟨y, hy⟩ := finish_eq n (hdue j)
  refine ⟨j, y, ?_, hhead⟩
  rw [command_plain (loadRegs_row.1 r hrow).1 hs (present_loadRegs hrow _) hr hh (classRefused_loadRegs hrow d) hx hrange (by rw [hfirst]) (by rw [hthen]), hthen]
  exact hy

/-- A write by a DAP session that the object's own rule refuses answers with the rule's code; what the rule leaves stays. -/
theorem command_load_refused (hn : n ≠ 0) {e : Device} {c : Nat} (happ : d.applyWrite ⟨r, 0⟩ (.num x) n = (c, e)) (hc : c ≠ 0) (hclosing : e.closing = false)
    (hdue : e.resetDue = false) : d.command n r 0 x = e.emit (.result c) := by
  obtain ⟨hplain, -, -⟩ := loadRegs_row.1 r hrow
  have hform := formRefused_plain hplain hs (classRefused_loadRegs hrow d) hx hrange
  have hdec : decodeVal r.row.ty (le sz x) = .num x := by simp [decodeVal, hs, ofLE_le, Nat.mod_eq_of_lt hx]
  simp only [plain, Bool.and_eq_true, decide_eq_true_eq, Bool.not_eq_true', List.contains_cons, Bool.or_eq_false_iff, beq_eq_false_iff_ne] at hplain
  obtain ⟨⟨⟨⟨⟨hloc, hidx⟩, -⟩, hrws⟩, -⟩, hdev, hch, hbulk, -⟩ := hplain
  have hfind : d.findObj (Key.index ⟨r, 0⟩) (Key.sub ⟨r, 0⟩) = some ⟨r, 0⟩ := by simp [findObj, hloc, present_loadRegs hrow, hidx]
  have hwrite : d.writeObj n ⟨r, 0⟩ (le sz x) = (c, e) := by
    simp [writeObj, hform, furtherWrite, underHold, hh, formingRefused, hrws, hdec, happ, hc]
  obtain ⟨-, hup, hawake, -, -, hopen⟩ := hr
  have hsome : (d.session n).isNone = false := by simpa [hn, Option.isNone_iff_eq_none, Option.isSome_iff_ne_none] using hopen
  have hdue' : (e.emit (.result c)).resetDue = false := hdue
  simp [command, hn, encodeVal, hs, itemWrite, hup, hsome, deepWake_awake hawake, write, hfind, hbulk, hwrite, closeOwn, hclosing, commandReset_none hdue']

end

end Device
end Sys2Proof.Machine
end

section
/-!
PROOF. HFT_LOAD_BEGIN, HFT_LOAD_END and HFT_LOAD_ABORT as commands (R220, R223): opened, closed as MASK, refused, aborted.
-/
namespace Sys2Proof.Machine

namespace Device

theorem applyWrite_hftLoadBegin (d : Device) (job n : Nat) : d.applyWrite ⟨.HFT_LOAD_BEGIN, 0⟩ (.num job) n = d.loadBegin job := rfl

theorem applyWrite_hftLoadEnd (d : Device) (job n : Nat) : d.applyWrite ⟨.HFT_LOAD_END, 0⟩ (.num job) n = d.loadEnd job := rfl

theorem applyWrite_hftLoadAbort (d : Device) (x n : Nat) : d.applyWrite ⟨.HFT_LOAD_ABORT, 0⟩ (.num x) n = (0, d.loadAbort) := rfl

theorem mem_loadRegs : Reg.HFT_LOAD_BEGIN ∈ loadRegs ∧ Reg.HFT_LOAD_END ∈ loadRegs ∧ Reg.HFT_LOAD_ABORT ∈ loadRegs := by decide

theorem size_loadRegs : (Reg.row .HFT_LOAD_BEGIN).ty.size = some 4 ∧ (Reg.row .HFT_LOAD_END).ty.size = some 4 ∧ (Reg.row .HFT_LOAD_ABORT).ty.size = some 1 := by
  obtain ⟨-, hbegin, hend, habort⟩ := loadRegs_row
  simp [hbegin, hend, habort, ObjType.size]

end Device

section
variable {s : State} {n job : Nat} (hn : n < 1024) (hjob : job < 2 ^ 32) (hr : s.dev.Reaches n)
include hn hr

theorem exec_hftLoadAbort : exec (.hftLoadAbort n 1) s = .next { s with dev := (s.dev.asked n).command n .HFT_LOAD_ABORT 0 1 } :=
  exec_runAs (c := .hftLoadAbort n 1) hn hr (show execHftLoadAbort n 1 s = _ from rfl) (by simp [WF.hftLoadAbort, WF.session, WF.bits, hn])

include hjob

theorem exec_hftLoadBegin : exec (.hftLoadBegin n job) s = .next { s with dev := (s.dev.asked n).command n .HFT_LOAD_BEGIN 0 job } :=
  exec_runAs (c := .hftLoadBegin n job) hn hr (show execHftLoadBegin n job s = _ from rfl) (Bool.and_eq_true_iff.mpr ⟨decide_eq_true hn, decide_eq_true hjob⟩)

theorem exec_hftLoadEnd : exec (.hftLoadEnd n job) s = .next { s with dev := (s.dev.asked n).command n .HFT_LOAD_END 0 job } :=
  exec_runAs (c := .hftLoadEnd n job) hn hr (show execHftLoadEnd n job s = _ from rfl) (Bool.and_eq_true_iff.mpr ⟨decide_eq_true hn, decide_eq_true hjob⟩)

end

section
variable {s : State} {n job : Nat} (hn : n < 1024) (h0 : n ≠ 0) (hjob : job < 2 ^ 32) (hr : s.dev.Reaches n) (hh : s.dev.heldNow = false)
include hn hr hh

/-- An abort empties the standby of an open load (R220). -/
theorem hftLoadAbort_empties (hst : s.dev.padState s.dev.standby = 1) :
    ∃ t, exec (.hftLoadAbort n 1) s = .next t ∧ t.dev.num .HFT_PD_STATE s.dev.standby = 0 ∧ t.dev.num .HFT_PD_JOB s.dev.standby = 0 ∧
      t.dev.layersOf s.dev.standby = [] ∧ t.dev.staged = s.dev.staged ∧
      (∀ a, Device.OutsidePad s.dev.ident s.dev.standby a → Memory.read t.dev.dram a = Memory.read s.dev.dram a) ∧
      s.dev.keeps t.dev (Device.emptyKeys s.dev.standby) := by
  obtain ⟨j, y, hcommand, -⟩ := Device.command_load (d := s.dev.asked n) (n := n) (x := 1) Device.mem_loadRegs.2.2 Device.size_loadRegs.2.2 (reaches_asked hr) hh (by decide)
    rfl (f := fun e => e.emptyPad s.dev.standby)
    (fun j => by rw [Device.applyWrite_hftLoadAbort, Device.loadAbort_empties (d := (s.dev.asked n).withJournal j) hst]; rfl)
    (fun j => (((s.dev.asked n).withJournal j).emptyPad_spec s.dev.standby_lt).2.2.2.1.resetDue)
  obtain ⟨hstate, hpadJob, hlayers, hch, hout⟩ := ((s.dev.asked n).withJournal j).emptyPad_spec s.dev.standby_lt
  have hall := ((changesOnly_asked s.dev n).withJournal j).trans hch
  obtain ⟨t, hgo, hdev⟩ := exec_device (exec_hftLoadAbort hn hr)
  refine ⟨t, hgo, ?_⟩
  rw [hdev, hcommand]
  dsimp only
  generalize ((s.dev.asked n).withJournal j).emptyPad s.dev.standby = e at *
  exact ⟨hstate, hpadJob, hlayers, hall.staged, hout, keeps_of_changesOnly (hall.beside rfl)⟩

include hjob

/-- HFT_LOAD_BEGIN opens a load in a standby that is not loading or learning (R220). -/
theorem hftLoadBegin_opens {ls : List Layer} (h1 : s.dev.padState s.dev.standby ≠ 1) (h2 : s.dev.padState s.dev.standby ≠ 2) (hp : s.dev.jobPending = false)
    (hl : s.dev.loadLayers = some ls) (hf : s.dev.ident.heftFits ls = true) :
    ∃ t, exec (.hftLoadBegin n job) s = .next t ∧ t.dev.num .HFT_PD_STATE s.dev.standby = 1 ∧ t.dev.num .HFT_PD_JOB s.dev.standby = job ∧
      t.dev.num .HFT_LOAD_BLOCKS 0 = 0 ∧ t.dev.num .HFT_PD_GEN s.dev.standby = 0 ∧ t.dev.layersOf s.dev.standby = ls ∧
      (∃ m, t.dev.dram = Memory.writes m (s.dev.ident.paddockBase s.dev.standby) (t.dev.descriptor s.dev.standby)) ∧ t.dev.staged = s.dev.staged ∧
      t.dev.jrn.head = ((s.dev.jrn.head + 1) % 2 ^ 32 + 1) % 2 ^ 32 ∧ t.dev.outs = [.result 0] ∧
      (∀ a, Device.OutsidePad s.dev.ident s.dev.standby a → Memory.read t.dev.dram a = Memory.read s.dev.dram a) ∧
      s.dev.keeps t.dev (Device.openKeys s.dev.standby) := by
  have hspec (j : Journal) := ((s.dev.asked n).withJournal j).openPad_opens s.dev.standby_lt hjob (Device.length_loadLayers hl)
  obtain ⟨j, y, hcommand, hhead⟩ := Device.command_load (d := s.dev.asked n) (n := n) (x := job) Device.mem_loadRegs.1 Device.size_loadRegs.1 (reaches_asked hr) hh hjob
    (Device.numInRange_load job).1 (f := fun e => e.openPad s.dev.standby ls job)
    (fun j => (Device.applyWrite_hftLoadBegin _ job n).trans (Device.loadBegin_opens (d := (s.dev.asked n).withJournal j) job h1 h2 hp hl hf))
    (fun j => (hspec j).changes.resetDue)
  have hopen := hspec j
  have hall := ((changesOnly_asked s.dev n).withJournal j).trans hopen.changes
  obtain ⟨t, hgo, hdev⟩ := exec_device (exec_hftLoadBegin hn hjob hr)
  refine ⟨t, hgo, ?_⟩
  rw [hdev, hcommand]
  dsimp only
  generalize ((s.dev.asked n).withJournal j).openPad s.dev.standby ls job = e at *
  exact ⟨hopen.state, hopen.job, hopen.blocks, hopen.gen, hopen.layers, hopen.dram, hall.staged, hopen.head.trans (congrArg (fun h => (h + 1) % 2 ^ 32) hhead),
    congrArg (fun os => os ++ [Out.result 0]) hopen.outs, hopen.outside, keeps_of_changesOnly (hall.beside rfl)⟩

/-- What HFT_LOAD_END makes of a load of masks (R223): the standby MASK, its descriptor and two entries of the journal. HFT_PD_JOB holds the number of the job, whatever
it listed. -/
theorem hftLoadEnd_masks (hst : s.dev.padState s.dev.standby = 1) (hpad : s.dev.num .HFT_PD_JOB s.dev.standby = job) (hm : s.dev.heft.loadMask = some true) :
    ∃ t, exec (.hftLoadEnd n job) s = .next t ∧ t.dev.num .HFT_PD_STATE s.dev.standby = 4 ∧ t.dev.val .HFT_PD_JOB s.dev.standby = .num job ∧
      s.dev.keeps t.dev (Device.declareKeys s.dev.standby) ∧
      t.dev.dram = Memory.writes s.dev.dram (s.dev.ident.paddockBase s.dev.standby) (t.dev.descriptor s.dev.standby) ∧
      t.dev.jrn.head = ((s.dev.jrn.head + 1) % 2 ^ 32 + 1) % 2 ^ 32 := by
  have hdecl (j : Journal) : ((s.dev.asked n).withJournal j).Declares _ s.dev.standby 4 job := Device.setPad_declares _ s.dev.standby_lt (by decide) hjob
  have hch (j : Journal) : ((s.dev.asked n).withJournal j).ChangesOnly [] (Device.declareKeys s.dev.standby) _ :=
    (Device.ChangesOnly.refl _).setPad s.dev.standby_lt (List.Subset.refl _) 4 job
  obtain ⟨j, y, hcommand, hhead⟩ := Device.command_load (d := s.dev.asked n) (n := n) (x := job) Device.mem_loadRegs.2.1 Device.size_loadRegs.2.1 (reaches_asked hr) hh
    hjob (Device.numInRange_load job).2 (f := fun e => e.setPad s.dev.standby 4 job)
    (fun j => (Device.applyWrite_hftLoadEnd _ job n).trans (Device.loadEnd_masks (d := (s.dev.asked n).withJournal j) hst hpad hm)) (fun j => (hch j).resetDue)
  have hmasked := hdecl j
  have hall := ((changesOnly_asked s.dev n).withJournal j).trans (hch j)
  obtain ⟨t, hgo, hdev⟩ := exec_device (exec_hftLoadEnd hn hjob hr)
  refine ⟨t, hgo, ?_⟩
  rw [hdev, hcommand]
  dsimp only
  generalize ((s.dev.asked n).withJournal j).setPad s.dev.standby 4 job = e at *
  exact ⟨hmasked.state, hmasked.job, keeps_of_changesOnly (hall.beside rfl), hmasked.dram, hmasked.head.trans (congrArg (fun h => (h + 1) % 2 ^ 32) hhead)⟩

/-- Where HFT_PD_JOB of the standby lists a number, the load of masks leaves it as it was (R223). -/
theorem hftLoadEnd_masks_of_number (hst : s.dev.padState s.dev.standby = 1) (hval : s.dev.val .HFT_PD_JOB s.dev.standby = .num job)
    (hm : s.dev.heft.loadMask = some true) :
    ∃ t, exec (.hftLoadEnd n job) s = .next t ∧ t.dev.num .HFT_PD_STATE s.dev.standby = 4 ∧ t.dev.num .HFT_PD_JOB s.dev.standby = job ∧
      s.dev.keeps t.dev [(.HFT_PD_STATE, s.dev.standby), (.MEM_WR_BYTES, 0), (.MEM_PD_WR, s.dev.standby)] ∧
      t.dev.dram = Memory.writes s.dev.dram (s.dev.ident.paddockBase s.dev.standby) (t.dev.descriptor s.dev.standby) ∧
      t.dev.jrn.head = ((s.dev.jrn.head + 1) % 2 ^ 32 + 1) % 2 ^ 32 := by
  obtain ⟨t, hgo, hstate, hlisted, hkeeps, hdram, hhead⟩ := hftLoadEnd_masks hn hjob hr hh hst (congrArg Val.toNat hval) hm
  refine ⟨t, hgo, hstate, congrArg Val.toNat hlisted, fun r i hk => ?_, hdram, hhead⟩
  by_cases hpad : (r, i) = (.HFT_PD_JOB, s.dev.standby)
  · obtain ⟨rfl, rfl⟩ := Prod.mk.inj hpad
    exact hlisted.trans hval.symm
  · exact hkeeps r i (by simpa [Device.declareKeys, not_or, hpad] using hk)

include h0

/-- HFT_LOAD_BEGIN in a standby that is loading or learning is refused (R220). -/
theorem hftLoadBegin_busy (hst : s.dev.padState s.dev.standby = 1 ∨ s.dev.padState s.dev.standby = 2) :
    exec (.hftLoadBegin n job) s = .next { s with dev := { s.dev.asked n with outs := [.result 0x06] } } := by
  have happ : (s.dev.asked n).applyWrite ⟨.HFT_LOAD_BEGIN, 0⟩ (.num job) n = (6, s.dev.asked n) := Device.loadBegin_busy (d := s.dev.asked n) job hst
  rw [exec_hftLoadBegin hn hjob hr, Device.command_load_refused Device.mem_loadRegs.1 Device.size_loadRegs.1 (reaches_asked hr) hh hjob (Device.numInRange_load job).1 h0
    happ (by decide) rfl rfl]
  rfl

/-- A heft load of which blocks are missing is refused, with their number (R223). -/
theorem hftLoadEnd_missing (hst : s.dev.padState s.dev.standby = 1) (hpad : s.dev.num .HFT_PD_JOB s.dev.standby = job) (hm : s.dev.heft.loadMask ≠ some true)
    (hmiss : s.dev.missingBlocks s.dev.standby ≠ 0) :
    exec (.hftLoadEnd n job) s =
      .next { s with dev := { (s.dev.asked n).set .HFT_LOAD_MISSING 0 (s.dev.missingBlocks s.dev.standby) with outs := [.result 0x05] } } := by
  have happ : (s.dev.asked n).applyWrite ⟨.HFT_LOAD_END, 0⟩ (.num job) n = (5, (s.dev.asked n).set .HFT_LOAD_MISSING 0 (s.dev.missingBlocks s.dev.standby)) :=
    Device.loadEnd_missing (d := s.dev.asked n) hst hpad hm hmiss
  rw [exec_hftLoadEnd hn hjob hr, Device.command_load_refused Device.mem_loadRegs.2.1 Device.size_loadRegs.2.1 (reaches_asked hr) hh hjob (Device.numInRange_load job).2
    h0 happ (by decide) rfl rfl]
  rfl

end

end Sys2Proof.Machine
end

section
/-!
PROOF. Load items (R221, R222): the item that leaves its queue (R343), the header that refuses it, and HEFT_LOAD_ITEM.
-/
namespace Sys2Proof.Machine

/-! ## Entries of a keyed list -/

theorem getKeyed_putKeyed_same {α : Type} (key : α → Nat) (x : α) (l : List α) : getKeyed key (key x) (putKeyed key x l) = some x := by
  induction l with
  | nil => simp [getKeyed, putKeyed]
  | cons y ys ih =>
    unfold putKeyed
    split_ifs with heq hlt
    · simp [getKeyed]
    · simp [getKeyed]
    · simpa [getKeyed, heq] using ih

namespace Device

theorem q_ring (d : Device) (q : Nat) : (d.ring q).q = q := by
  unfold ring
  cases h : getKeyed Ring.q q d.rings with
  | none => rfl
  | some r => simpa using List.find?_some h

theorem ring_setRing (d : Device) {q : Nat} {r : Ring} (h : r.q = q) : (d.setRing r).ring q = r := by
  subst h
  unfold ring setRing
  rw [getKeyed_putKeyed_same]
  rfl

theorem ring_of_rings {d e : Device} (h : e.rings = d.rings) (q : Nat) : e.ring q = d.ring q := by rw [ring, ring, h]

/-! ## Pulses and interrupts of a queue (R343, R361) -/

/-- From `d` to `e` lines have pulsed and interrupts were sent: the queues, the hefts and the stack are as they were. -/
structure Signals (d e : Device) : Prop where
  changes : d.ChangesOnly fabricRegs [] e
  rings : e.rings = d.rings
  heft : e.heft = d.heft
  dram : e.dram = d.dram

namespace Signals

variable {d e : Device}

theorem refl (d : Device) : d.Signals d := ⟨.refl d, rfl, rfl, rfl⟩

theorem pulse (h : d.Signals e) (c : Nat) : d.Signals (e.pulse c) := by
  have hrings : (e.pulse c).offFabric.rings = e.rings := by rw [rest_pulse]; rfl
  have hheft : (e.pulse c).offFabric.heft = e.heft := by rw [rest_pulse]; rfl
  exact ⟨h.changes.pulse c, hrings.trans h.rings, hheft.trans h.heft, (dram_pulse e c).trans h.dram⟩

theorem ite {c : Prop} [Decidable c] {a b : Device} (ha : d.Signals a) (hb : d.Signals b) : d.Signals (if c then a else b) := by
  split
  · exact ha
  · exact hb

theorem foldl {α : Type} {f : Device → α → Device} (hf : ∀ {e : Device} (x : α), d.Signals e → d.Signals (f e x)) (xs : List α) (h : d.Signals e) :
    d.Signals (xs.foldl f e) := by
  induction xs generalizing e with
  | nil => exact h
  | cons x xs ih => exact ih (hf x h)

theorem pulseQueue (h : d.Signals e) (q : Nat) (low : Bool) : d.Signals (e.pulseQueue q low) := foldl (fun _ h => ite (h.pulse _) h) _ h

theorem msix (h : d.Signals e) (v : Nat) : d.Signals (e.msix v) :=
  ite h (ite ⟨h.changes.emit _, h.rings, h.heft, h.dram⟩ (ite h ⟨h.changes.beside rfl, h.rings, h.heft, h.dram⟩))

end Signals

/-! ## The oldest item of a queue is taken (R343) -/

theorem ChangesOnly.setRing {regs : List Reg} {keys : List (Reg × Nat)} {d e : Device} (h : d.ChangesOnly regs keys e) (r : Ring) : d.ChangesOnly regs keys (e.setRing r) :=
  h.beside rfl

theorem ChangesOnly.poolRead {regs : List Reg} {keys : List (Reg × Nat)} {d e : Device} (h : d.ChangesOnly regs keys e) (hb : (.MEM_RD_BYTES, 0) ∈ keys)
    (hp : (.MEM_PD_RD, 4) ∈ keys) (n : Nat) : d.ChangesOnly regs keys (e.poolRead n) := (h.addAt .MEM_RD_BYTES 0 hb n).addAt .MEM_PD_RD 4 hp n

/-- From `d` to `e` the `n` oldest items have left queue `q`; beside what counts them only signals were sent. -/
structure Removes (d e : Device) (q n : Nat) : Prop where
  items : (e.ring q).items = (d.ring q).items.drop n
  changes : d.ChangesOnly fabricRegs [(.MEM_RD_BYTES, 0), (.MEM_PD_RD, 4)] e
  heft : e.heft = d.heft
  dram : e.dram = d.dram

theorem Removes.trans {d e f : Device} {q n : Nat} (h : d.Removes e q n) (h' : e.Removes f q 0) : d.Removes f q n :=
  ⟨h'.items.trans h.items, h.changes.trans h'.changes, h'.heft.trans h.heft, h'.dram.trans h.dram⟩

/-- A queue that falls below its low threshold keeps its items (R343). -/
theorem lowThreshold_removes (d : Device) (q : Nat) : d.Removes (d.lowThreshold q) q 0 := by
  have hsignals : (d.setRing { d.ring q with hi := false }).Signals (((d.setRing { d.ring q with hi := false }).pulseQueue q true).msix (d.num .QUE_MSIX q)) :=
    ((Signals.refl _).pulseQueue q true).msix _
  unfold lowThreshold
  dsimp only
  split
  · refine ⟨?_, ((ChangesOnly.refl d).setRing _).trans (hsignals.changes.mono (List.nil_subset _)), hsignals.heft, hsignals.dram⟩
    rw [ring_of_rings hsignals.rings, d.ring_setRing (r := { d.ring q with hi := false }) (d.q_ring q)]
    rfl
  · exact ⟨rfl, .refl d, rfl, rfl⟩

/-- The oldest item leaves its queue (R343). -/
theorem takeItem_removes (d : Device) (q : Nat) : d.Removes (d.takeItem q) q 1 := by
  have hread (n : Nat) : d.Removes ((d.setRing { d.ring q with items := (d.ring q).items.drop 1 }).poolRead n) q 1 := by
    refine ⟨?_, ((ChangesOnly.refl d).setRing _).poolRead (by simp) (by simp) n, rfl, rfl⟩
    exact congrArg Ring.items (d.ring_setRing (r := { d.ring q with items := (d.ring q).items.drop 1 }) (d.q_ring q))
  exact (hread _).trans (lowThreshold_removes _ q)

theorem Removes.num {d e : Device} {q n : Nat} (h : d.Removes e q n) (r : Reg) (i : Nat) (hr : r ∉ .MEM_RD_BYTES :: .MEM_PD_RD :: fabricRegs) : e.num r i = d.num r i := by
  simp only [List.mem_cons, not_or] at hr
  exact h.changes.num r i hr.2.2 (by simp [hr.1, hr.2.1])

/-! ## Headers (R221, R222) -/

/-- An item whose first octet is not 1 is refused. -/
theorem loadItem_badHeader (d : Device) {it : Octets} (h : octet it 0 ≠ 1) : d.loadItem it = d.refuseItem := by
  unfold loadItem
  dsimp only
  split
  · exact if_neg (by simp [h])
  · rfl

/-- An item of the load in the standby, whose header and place are right. -/
structure LoadHeader (d : Device) (it : Octets) (l : Layer) (b : BlockAt) : Prop where
  place : b = { set := octet it 2, plane := octet it 3, br := leAt it 12 4, bc := leAt it 8 4 }
  layer : layerIn (d.layersOf d.standby) b.set = some l
  inside : blockIn (d.layersOf d.standby) b = true
  long : 32 ≤ it.length
  version : octet it 0 = 1
  form : octet it 1 ≤ 2
  job : leAt it 4 4 = d.num .HFT_PD_JOB d.standby
  reserved : leAt it 24 8 = 0
  length : leAt it 16 4 = (it.drop 32).length
  crc : crc32c (it.drop 32) = leAt it 20 4

/-- The first such item is stored in an open load. -/
theorem loadItem_stores {d : Device} {it : Octets} {l : Layer} {b : BlockAt} (h : d.LoadHeader it l b) (hst : d.padState d.standby = 1) (hm : d.heft.loadMask = none) :
    d.loadItem it = d.storeItem d.standby l b (octet it 1) (it.drop 32) := by
  obtain ⟨rfl, hlayer, hin, hlong, hversion, hform, hjob, hreserved, hlength, hcrc⟩ := h
  simp [loadItem, hlayer, hst, hm, hin, hlong, hversion, hform, hjob, hreserved, hlength, hcrc]

theorem Removes.standby {d e : Device} {q n : Nat} (h : d.Removes e q n) : e.standby = d.standby := by
  unfold Device.standby runPad
  rw [h.num .HFT_PD_ROLE 0 (by decide)]

/-- Taking an item from a queue leaves the load as it was. -/
theorem LoadHeader.removes {d e : Device} {it : Octets} {l : Layer} {b : BlockAt} {q n : Nat} (h : d.LoadHeader it l b) (hr : d.Removes e q n) :
    e.LoadHeader it l b := by
  have hlayers : e.layersOf e.standby = d.layersOf d.standby := by rw [layersOf_of_heft hr.heft, hr.standby]
  have hjob : e.num .HFT_PD_JOB e.standby = d.num .HFT_PD_JOB d.standby := by rw [hr.standby, hr.num .HFT_PD_JOB _ (by decide)]
  exact { h with layer := hlayers ▸ h.layer, inside := hlayers ▸ h.inside, job := h.job.trans hjob.symm }

end Device

/-! ## HEFT_LOAD_ITEM -/

section
variable {s : State} {q : Nat} {it : Item} {rest : List Item} (hqueue : s.dev.num .HFT_LOAD_QUEUE 0 = q) (hq : q < 4096) (hdir : (s.dev.ring q).dir = 1)
  (hitems : (s.dev.ring q).items = it :: rest)
include hqueue hq hdir hitems

theorem exec_heftLoadItem : exec .heftLoadItem s = .next { s with dev := (s.dev.begin.takeItem q).loadItem it.payload } := by
  have hitems' : (s.dev.begin.ring (s.dev.begin.num .HFT_LOAD_QUEUE 0)).items = it :: rest := by
    show (s.dev.ring (s.dev.num .HFT_LOAD_QUEUE 0)).items = _
    rw [hqueue, hitems]
  have hopen : (s.dev.begin.num .HFT_LOAD_QUEUE 0 < 4096 && (s.dev.begin.ring (s.dev.begin.num .HFT_LOAD_QUEUE 0)).dir = 1) = true := by
    show (decide (s.dev.num .HFT_LOAD_QUEUE 0 < 4096) && decide ((s.dev.ring (s.dev.num .HFT_LOAD_QUEUE 0)).dir = 1)) = true
    simp [hqueue, hq, hdir]
  have hgo := exec_run (c := .heftLoadItem) (s := s) (show execHeftLoadItem s = _ from rfl) rfl
  rw [hgo]
  dsimp only
  rw [hitems']
  dsimp only
  rw [if_pos hopen]
  exact congrArg (fun n => Host.Outcome.next { s with dev := (s.dev.begin.takeItem n).loadItem it.payload }) hqueue

/-- An item whose header is wrong is taken and counts as refused (R222). -/
theorem heftLoadItem_refuses (hbad : octet it.payload 0 ≠ 1) :
    ∃ t, exec .heftLoadItem s = .next t ∧ (t.dev.ring q).items = rest ∧ t.dev.num .HFT_LOAD_REFUSED 0 = (s.dev.num .HFT_LOAD_REFUSED 0 + 1) % 2 ^ 32 ∧
      s.dev.keepsBeside t.dev [(.HFT_LOAD_REFUSED, 0), (.MEM_RD_BYTES, 0), (.MEM_PD_RD, 4)] ∧ t.dev.dram = s.dev.dram := by
  have htaken := s.dev.begin.takeItem_removes q
  obtain ⟨t, hgo, hdev⟩ := exec_device (exec_heftLoadItem hqueue hq hdir hitems)
  refine ⟨t, hgo, ?_⟩
  rw [hdev, Device.loadItem_badHeader _ hbad]
  have hlast : ((s.dev.begin.takeItem q).ring q).items = rest := htaken.items.trans (congrArg (List.drop 1) hitems)
  refine ⟨hlast, ?_, keepsBeside_of_changesOnly ((htaken.changes.mono (by simp)).bumpAt .HFT_LOAD_REFUSED 0 (by simp)), htaken.dram⟩
  rw [Device.refuseItem, Device.num_bump_same, htaken.num .HFT_LOAD_REFUSED 0 (by decide)]
  rfl

/-- A good item of an open load is stored (R222). -/
theorem heftLoadItem_stores {l : Layer} {b : BlockAt} (hst : s.dev.padState s.dev.standby = 1) (hm : s.dev.heft.loadMask = none) (hgood : s.dev.LoadHeader it.payload l b) :
    exec .heftLoadItem s = .next { s with dev := (s.dev.begin.takeItem q).storeItem s.dev.standby l b (octet it.payload 1) (it.payload.drop 32) } := by
  have htaken := s.dev.begin.takeItem_removes q
  have hgood' : s.dev.begin.LoadHeader it.payload l b := { hgood with }
  have hstandby : (s.dev.begin.takeItem q).standby = s.dev.standby := htaken.standby
  have hstate : (s.dev.begin.takeItem q).padState (s.dev.begin.takeItem q).standby = 1 := by
    rw [hstandby, Device.padState, htaken.num .HFT_PD_STATE _ (by decide)]
    exact hst
  rw [exec_heftLoadItem hqueue hq hdir hitems, Device.loadItem_stores (hgood'.removes htaken) hstate (htaken.heft ▸ hm), hstandby]

end

end Sys2Proof.Machine
end

section
/-!
PROOF. Blocks of the seed (R215, R219): HEFT_BLOCK_WRITE, HEFT_BLOCK_VERIFIED.
-/
namespace Sys2Proof.Machine

namespace Device

/-! ## A block written (R215, R216) -/

theorem bare_encode (d : Device) (effort kind : Nat) (xs : List Nat) : (d.encode effort kind xs).2.bare = d.bare := by
  simp only [encode, bare_bumpIf, bare_add]

theorem staged_of_bare {d e : Device} (h : e.bare = d.bare) : e.staged = d.staged := by
  show e.bare.staged = d.bare.staged
  rw [h]

/-- A block for which there was room waits for its check; the staging copy and the blocks being learned are as they were. -/
theorem writeBlock_room {d e : Device} {w : BlockWrite} {effort : Nat} (h : d.writeBlock w effort = (e, true)) :
    ∃ off bytes, e.heft = { d.heft with writes := d.heft.writes ++ [{ w with off := off, bytes := bytes }] } ∧ e.staged = d.staged := by
  have hbare := d.bare_encode effort 0 w.words
  unfold writeBlock at h
  dsimp only at h
  generalize (d.encode effort 0 w.words).2 = f at h hbare
  generalize (d.encode effort 0 w.words).1 = bytes at h
  split at h
  · cases h
  · rename_i off hoff
    obtain ⟨rfl, -⟩ := Prod.mk.inj h
    refine ⟨off, bytes, ?_, ?_⟩
    · rw [heft_of_bare (bare_refreshBytes _ _), ← heft_of_bare hbare]
      exact congrArg (fun h : Heft => { h with writes := h.writes ++ [{ w with off := off, bytes := bytes }] }) (heft_dramWrite f _ bytes)
    · rw [staged_of_bare (bare_refreshBytes _ _), ← staged_of_bare hbare]
      exact f.staged_dramWrite _ bytes

/-- A block of the seed that the repeat it belongs to has left behind is written, and is no longer learned (R219). -/
theorem blockWrite_seed {d e : Device} {b : BlockAt} {r : Rebuild} (hruns : d.heft.runs.find? (fun x => unwritten x b && d.tilePassed x) = none)
    (hseed : d.heft.rebuilds.find? (fun r => r.seed && r.block == b) = some r) (hrep : r.rep ≠ d.heft.seedRep)
    (hroom : d.writeBlock { rep := r.rep, block := b, pad := r.pad, off := 0, bytes := [], words := r.words, seals := false, seed := true }
      (d.num .HFT_LEARN_EFFORT 0) = (e, true)) :
    d.blockWrite b = e.modHeft (fun h => { h with rebuilds := h.rebuilds.filter (fun x => !(x.seed == true && x.rep == r.rep && x.pad == r.pad && x.block == b)) }) := by
  unfold blockWrite
  simp only [hruns, hseed, beq_eq_false_iff_ne.mpr hrep, Bool.false_and, Bool.false_eq_true, if_false, hroom]
  rfl

theorem blockWrite_idle {d : Device} (hruns : d.heft.runs = []) (hrebuilds : d.heft.rebuilds = []) (b : BlockAt) : d.blockWrite b = d := by
  simp [blockWrite, hruns, hrebuilds]

/-! ## A block checked (R215, R325) -/

theorem verify_same {d : Device} {b : Octets} {kind : Nat} {xs : List Nat} (h : decodeBlock b = .ok kind xs) :
    d.verify b kind xs = (true, d.add .FLC_DEC_SAMPLES 0 blockSamples) := if_pos h

/-- The directory's entry of a block that is as it was written (R208, R215). -/
def entered (d : Device) (w : BlockWrite) (b : BlockAt) : Device :=
  (((((d.add .FLC_DEC_SAMPLES 0 blockSamples).bumpIf (w.load && ((d.add .FLC_DEC_SAMPLES 0 blockSamples).dirEntry w.pad b).isNone) .HFT_LOAD_BLOCKS 0).modHeft
    (fun h => { h with writes := h.writes.filter (fun x => x ≠ w) })).setDir w.pad b w.off w.bytes.length).refreshBytes w.pad)

theorem blockVerified_enters {d : Device} {b : BlockAt} {w : BlockWrite} (hw : d.heft.writes.find? (fun x => x.block == b) = some w) (hkind : w.load = true ∨ w.seed = true)
    (hread : decodeBlock (d.dramPeek (d.ident.paddockBase w.pad + w.off) w.bytes.length) = .ok 0 w.words) : d.blockVerified b true = d.entered w b := by
  have hkind' : (w.load || w.seed) = true := by simpa using hkind
  unfold blockVerified
  simp only [hw, verify_same hread, Bool.and_true, if_true, hkind']
  rfl

/-- Bytes written to the stack in each of its paddocks (R334). -/
def stackKeys : List (Reg × Nat) := (List.range 5).map (fun k => (.MEM_PD_WR, k))

/-- The objects that change as a checked block enters the directory. -/
def enterKeys (k : Nat) : List (Reg × Nat) := [(.HFT_PD_BYTES, k), (.HFT_LOAD_BLOCKS, 0), (.FLC_DEC_SAMPLES, 0), (.MEM_WR_BYTES, 0)] ++ stackKeys

/-- The objects that change as a block is written once more. -/
def rewriteKeys : List (Reg × Nat) := [(.FLC_VERIFY_FAILS, 0), (.FLC_DEC_SAMPLES, 0), (.MEM_WR_BYTES, 0)] ++ stackKeys

/-- A write anywhere in the stack counts in the paddock it falls in. -/
theorem ChangesOnly.stackWrite {keys : List (Reg × Nat)} {d e : Device} (h : d.ChangesOnly [] keys e) (hw : (.MEM_WR_BYTES, 0) ∈ keys) (hk : stackKeys ⊆ keys) (a : Nat)
    (bs : Octets) : d.ChangesOnly [] keys (e.dramWrite a bs) :=
  h.dramWrite bs hw fun _ hp => hk (List.mem_map.mpr ⟨_, List.mem_range.mpr (paddockOf_lt hp), rfl⟩)

/-- The entry goes into the directory, and the block waits no more. -/
theorem entered_spec (d : Device) (w : BlockWrite) (b : BlockAt) :
    (d.entered w b).heft.writes = d.heft.writes.filter (fun x => x ≠ w) ∧ (d.entered w b).dram = (d.setDir w.pad b w.off w.bytes.length).dram ∧
      d.ChangesOnly [] (enterKeys w.pad) (d.entered w b) := by
  have hcount : d.ChangesOnly [] (enterKeys w.pad)
      (((d.add .FLC_DEC_SAMPLES 0 blockSamples).bumpIf (w.load && ((d.add .FLC_DEC_SAMPLES 0 blockSamples).dirEntry w.pad b).isNone) .HFT_LOAD_BLOCKS 0)) :=
    ((ChangesOnly.refl d).addAt .FLC_DEC_SAMPLES 0 (by simp [enterKeys]) _).bumpIfAt _ .HFT_LOAD_BLOCKS 0 (by simp [enterKeys])
  have hbare : (((d.add .FLC_DEC_SAMPLES 0 blockSamples).bumpIf (w.load && ((d.add .FLC_DEC_SAMPLES 0 blockSamples).dirEntry w.pad b).isNone) .HFT_LOAD_BLOCKS 0)).bare =
      d.bare := (bare_bumpIf _ _ _ _).trans (bare_add _ _ _ _)
  unfold entered
  generalize ((d.add .FLC_DEC_SAMPLES 0 blockSamples).bumpIf _ .HFT_LOAD_BLOCKS 0) = e at *
  have hident : e.ident = d.ident := ident_of_aside (aside_of_bare hbare)
  have hlayers : (e.modHeft (fun h => { h with writes := h.writes.filter (fun x => x ≠ w) })).layersOf w.pad = d.layersOf w.pad := layersOf_of_heft (heft_of_bare hbare) w.pad
  refine ⟨?_, ?_, ((hcount.modHeft _).stackWrite (by simp [enterKeys]) (List.subset_append_right _ _) _ _).refreshBytes (by simp [enterKeys])⟩
  · rw [heft_of_bare (bare_refreshBytes _ _), setDir, heft_dramWrite, ← heft_of_bare hbare]
    rfl
  · rw [dram_of_bare (bare_refreshBytes _ _), setDir, setDir, dram_dramWrite, dram_dramWrite, dirAddr, dirAddr, hlayers, dram_modHeft, dram_of_bare hbare]
    exact congrArg (fun id : Identity => Memory.writes d.dram (id.paddockBase w.pad + 4096 + 8 * dirIndex (d.layersOf w.pad) b) _) hident

/-- A check that fails counts once, whoever finds the fault (R325). -/
theorem verify_fails (d : Device) (b : Octets) (kind : Nat) (xs : List Nat) :
    let e := (d.verify b kind xs).2.bumpIf (d.verify b kind xs).1 .FLC_VERIFY_FAILS 0
    e.num .FLC_VERIFY_FAILS 0 = (d.num .FLC_VERIFY_FAILS 0 + 1) % 2 ^ 32 ∧ d.ChangesOnly [] rewriteKeys e ∧ e.bare = d.bare := by
  unfold verify
  split
  · refine ⟨?_, ((ChangesOnly.refl d).addAt .FLC_DEC_SAMPLES 0 (by simp [rewriteKeys]) _).bumpAt .FLC_VERIFY_FAILS 0 (by simp [rewriteKeys]),
      (bare_bumpIf _ _ _ _).trans (bare_add _ _ _ _)⟩
    exact (num_bump_same _ _ _).trans (by rw [num_add_reg_ne _ _ _ _ (by decide)]; rfl)
  · exact ⟨num_bump_same d .FLC_VERIFY_FAILS 0, (ChangesOnly.refl d).bumpAt .FLC_VERIFY_FAILS 0 (by simp [rewriteKeys]), rfl⟩

theorem blockVerified_rewrites {d : Device} {b : BlockAt} {w : BlockWrite} (hw : d.heft.writes.find? (fun x => x.block == b) = some w) (hfirst : w.retried = false) :
    ∃ e : Device, e.num .FLC_VERIFY_FAILS 0 = (d.num .FLC_VERIFY_FAILS 0 + 1) % 2 ^ 32 ∧ d.ChangesOnly [] rewriteKeys e ∧ e.bare = d.bare ∧
      d.blockVerified b false = (e.dramWrite (e.ident.paddockBase w.pad + w.off) w.bytes).modHeft
        (fun h => { h with writes := h.writes.map (fun x => if x = w then { x with retried := true } else x) }) := by
  obtain ⟨hnum, hch, hbare⟩ := d.verify_fails (d.dramPeek (d.ident.paddockBase w.pad + w.off) w.bytes.length) 0 w.words
  refine ⟨_, hnum, hch, hbare, ?_⟩
  unfold blockVerified
  simp only [hw, Bool.false_and, Bool.false_eq_true, if_false, hfirst, Bool.not_false, if_true]

end Device

/-! ## The commands -/

section
variable {s : State} {set plane br bc : Nat} {b : BlockAt} (hwf : WF.heftBlockWrite set plane br bc = true) (hb : b = { set := set, plane := plane, br := br, bc := bc })
include hwf hb

theorem exec_heftBlockWrite : exec (.heftBlockWrite set plane br bc) s = .next { s with dev := s.dev.begin.blockWrite b } := by
  rw [hb]
  exact exec_run (c := .heftBlockWrite set plane br bc) (show execHeftBlockWrite set plane br bc s = _ from rfl) hwf

theorem exec_heftBlockVerified (ok : Bool) : exec (.heftBlockVerified set plane br bc ok) s = .next { s with dev := s.dev.begin.blockVerified b ok } := by
  rw [hb]
  exact exec_run (c := .heftBlockVerified set plane br bc ok) (show execHeftBlockVerified set plane br bc ok s = _ from rfl) hwf

/-- A block of the seed that its repeat has left behind is written and waits for its check (R219). -/
theorem heftBlockWrite_seed {r : Rebuild} {e : Device} (hruns : s.dev.heft.runs.find? (fun x => Device.unwritten x b && s.dev.tilePassed x) = none)
    (hseed : s.dev.heft.rebuilds.find? (fun r => r.seed && r.block == b) = some r) (hrep : r.rep ≠ s.dev.heft.seedRep)
    (hroom : s.dev.begin.writeBlock { rep := r.rep, block := b, pad := r.pad, off := 0, bytes := [], words := r.words, seals := false, seed := true }
      (s.dev.num .HFT_LEARN_EFFORT 0) = (e, true)) :
    ∃ t w, exec (.heftBlockWrite set plane br bc) s = .next t ∧ t.dev.heft.writes = s.dev.heft.writes ++ [w] ∧ w.block = b ∧ w.words = r.words ∧ w.pad = r.pad ∧
      t.dev.dram = e.dram ∧ t.dev.heft.rebuilds.find? (fun r => r.seed && r.block == b && decide (r.rep ≠ s.dev.heft.seedRep)) ≠ some r ∧
      t.dev.staged = s.dev.staged := by
  obtain ⟨off, bytes, hheft, hstaged⟩ := Device.writeBlock_room hroom
  obtain ⟨t, hgo, hdev⟩ := exec_device (exec_heftBlockWrite (s := s) hwf hb)
  rw [Device.blockWrite_seed (d := s.dev.begin) hruns hseed hrep hroom] at hdev
  refine ⟨t, { rep := r.rep, block := b, pad := r.pad, off := off, bytes := bytes, words := r.words, seals := false, seed := true }, hgo, ?_⟩
  rw [hdev]
  refine ⟨congrArg Heft.writes hheft, rfl, rfl, rfl, rfl, fun hfound => ?_, hstaged⟩
  have hkept := (List.mem_filter.mp (List.mem_of_find?_eq_some hfound)).2
  have hmine := List.find?_some hseed
  simp only [Bool.and_eq_true, beq_iff_eq] at hmine
  simp [hmine.1, hmine.2] at hkept

/-- With nothing learned no block is written (R215). -/
theorem heftBlockWrite_idle (hruns : s.dev.heft.runs = []) (hrebuilds : s.dev.heft.rebuilds = []) :
    exec (.heftBlockWrite set plane br bc) s = .next { s with dev := s.dev.begin } := by
  rw [exec_heftBlockWrite (s := s) hwf hb, Device.blockWrite_idle (d := s.dev.begin) hruns hrebuilds]

/-- A block that reads back as it was written enters the directory (R215). -/
theorem heftBlockVerified_enters {w : BlockWrite} (hw : s.dev.heft.writes.find? (fun x => x.block == b) = some w) (hkind : w.load = true ∨ w.seed = true)
    (hread : decodeBlock (s.dev.dramPeek (s.dev.ident.paddockBase w.pad + w.off) w.bytes.length) = .ok 0 w.words) :
    ∃ t, exec (.heftBlockVerified set plane br bc true) s = .next t ∧ t.dev.heft.writes = s.dev.heft.writes.filter (fun x => x ≠ w) ∧
      t.dev.dram = (s.dev.setDir w.pad b w.off w.bytes.length).dram ∧ s.dev.keeps t.dev (Device.enterKeys w.pad) := by
  obtain ⟨hwrites, hdram, hch⟩ := s.dev.begin.entered_spec w b
  obtain ⟨t, hgo, hdev⟩ := exec_device (exec_heftBlockVerified (s := s) hwf hb true)
  rw [Device.blockVerified_enters (d := s.dev.begin) hw hkind hread] at hdev
  refine ⟨t, hgo, ?_⟩
  rw [hdev]
  refine ⟨hwrites, hdram.trans ?_, keeps_of_changesOnly hch⟩
  rw [Device.setDir, Device.setDir, Device.dram_dramWrite, Device.dram_dramWrite]
  rfl

/-- A block that does not is written once more (R215). -/
theorem heftBlockVerified_rewrites {w : BlockWrite} (hw : s.dev.heft.writes.find? (fun x => x.block == b) = some w) (hfirst : w.retried = false) :
    ∃ t, exec (.heftBlockVerified set plane br bc false) s = .next t ∧ t.dev.num .FLC_VERIFY_FAILS 0 = (s.dev.num .FLC_VERIFY_FAILS 0 + 1) % 2 ^ 32 ∧
      t.dev.dram = (s.dev.dramWrite (s.dev.ident.paddockBase w.pad + w.off) w.bytes).dram ∧ { w with retried := true } ∈ t.dev.heft.writes ∧
      s.dev.keeps t.dev Device.rewriteKeys := by
  obtain ⟨e, hnum, hch, hbare, heq⟩ := Device.blockVerified_rewrites (d := s.dev.begin) hw hfirst
  obtain ⟨t, hgo, hdev⟩ := exec_device (exec_heftBlockVerified (s := s) hwf hb false)
  have hident : e.ident = s.dev.begin.ident := Device.ident_of_aside (Device.aside_of_bare hbare)
  have hwrites : e.heft.writes = s.dev.begin.heft.writes := congrArg Heft.writes (Device.heft_of_bare hbare)
  have hwrite : e.ChangesOnly [] ([(.MEM_WR_BYTES, 0)] ++ Device.stackKeys) (e.dramWrite (e.ident.paddockBase w.pad + w.off) w.bytes) :=
    (Device.ChangesOnly.refl e).stackWrite (by simp) (by simp) _ _
  refine ⟨t, hgo, ?_⟩
  rw [hdev, heq]
  refine ⟨?_, ?_, ?_, keeps_of_changesOnly ((hch.trans (hwrite.mono (by simp [Device.rewriteKeys]))).modHeft _)⟩
  · exact (hwrite.num .FLC_VERIFY_FAILS 0 List.not_mem_nil (by simp [Device.stackKeys])).trans hnum
  · rw [Device.dram_modHeft, Device.dram_dramWrite, Device.dram_dramWrite, hident, Device.dram_of_bare hbare]
    rfl
  · refine List.mem_map.mpr ⟨w, ?_, if_pos rfl⟩
    rw [Device.heft_dramWrite, hwrites]
    exact List.mem_of_find?_eq_some hw

end

end Sys2Proof.Machine
end

section
/-!
PROOF. Why O30 fails: a standby whose HFT_PD_JOB lists octets in place of a number.
-/
namespace Sys2Proof.Machine

/-- A device whose standby is LOADING a load of masks and lists one octet, and no number, for HFT_PD_JOB. -/
def octetJob : Device :=
  (({ bring := .up, sess := [{ n := 1, peer := [], port := 0, lastRx := 0 }], heft := { loadMask := some true } } : Device).set .HFT_PD_STATE 1 1).put .HFT_PD_JOB 1
    (.bytes [0])

/-- Session 1 can write to it, its standby is LOADING, and HFT_PD_JOB counts one octet. -/
theorem octetJob_loads : octetJob.Reaches 1 ∧ octetJob.heldNow = false ∧ octetJob.standby = 1 ∧ octetJob.padState 1 = 1 ∧ octetJob.num .HFT_PD_JOB 1 = 1 ∧
    octetJob.heft.loadMask = some true := by decide +kernel

/-- The state is in its canonical form. -/
theorem octetJob_canonical : State.Canonical { State.reset with dev := octetJob } := by
  refine ⟨?_, ?_, ?_, ?_⟩ <;> decide +kernel

/-- Refutes O30: HFT_LOAD_END of a load of masks writes the job's number to HFT_PD_JOB, which the statement's frame does not list; in a state that lists octets for that
object, as many as the number says, its value changes. Where the object lists a number the claim holds (`hftLoadEnd_masks_of_number`). The other claims hold as they stand:
`hftLoadBegin_opens`, `hftLoadBegin_busy`, `hftLoadEnd_missing`, `hftLoadAbort_empties`, `heftLoadItem_refuses`, `heftLoadItem_stores`, `heftBlockWrite_seed`,
`heftBlockWrite_idle`, `heftBlockVerified_enters` and `heftBlockVerified_rewrites`. -/
theorem not_artworkAndHefts : ¬ Obligations.ArtworkAndHefts := by
  unfold Obligations.ArtworkAndHefts
  rintro ⟨hloads, -⟩
  obtain ⟨hreach, hheld, hstandby, hstate, hjob, hmask⟩ := octetJob_loads
  obtain ⟨-, -, hend, -⟩ := hloads { State.reset with dev := octetJob } 1 1 (by decide) (by decide) (by decide) hreach hheld
  rw [hstandby] at hend
  obtain ⟨t, hgo, -, -, hkeeps, -⟩ := hend hstate hjob hmask
  obtain ⟨t', hgo', -, hlisted, -⟩ := hftLoadEnd_masks (s := { State.reset with dev := octetJob }) (n := 1) (job := 1) (by decide) (by decide) hreach hheld
    (hstandby.symm ▸ hstate) (hstandby.symm ▸ hjob) hmask
  obtain rfl : t = t' := Host.Outcome.next.inj (hgo.symm.trans hgo')
  have hsame : t.dev.val .HFT_PD_JOB 1 = octetJob.val .HFT_PD_JOB 1 := hkeeps .HFT_PD_JOB 1 (by decide)
  have hoctets : octetJob.val .HFT_PD_JOB 1 = .bytes [0] := Device.val_put_same _ _ _ _
  rw [hstandby, hsame, hoctets] at hlisted
  cases hlisted

end Sys2Proof.Machine
end
